-- ==== Sys2Proof/Word.lean ====
section
/-! DEFINITION. Bytes, words and the one sparse-table type of the model: a list of (key, value) pairs in
canonical form (keys strictly rising, no entry equal to what an unlisted key reads as). -/

namespace Sys2Proof

/-- One byte. -/
abbrev Byte := BitVec 8

/-- One 32-bit word (counts, tags and abort codes). -/
abbrev W32 := BitVec 32

/-- A sparse table keyed by natural numbers. Memory, the object dictionary's stored values and every array of
units (engines, queues, slices, channels) have this one form. -/
abbrev NMap (α : Type) := List (Nat × α)

namespace NMap

variable {α : Type}

/-- What the table holds at `k`; `d` is what an unlisted key reads as. -/
def get (d : α) : NMap α → Nat → α
  | [], _ => d
  | (j, v) :: m, k => if j = k then v else get d m k

/-- Removes the entry at `k`. -/
def erase (m : NMap α) (k : Nat) : NMap α := m.filter fun e => decide (e.1 ≠ k)

/-- Lists `v` at `k` in key order. -/
def insert : NMap α → Nat → α → NMap α
  | [], k, v => [(k, v)]
  | (j, w) :: m, k, v =>
    if j = k then (k, v) :: m else if k < j then (k, v) :: (j, w) :: m else (j, w) :: insert m k v

/-- Writes `v` at `k`; writing what an unlisted key reads as removes the entry. -/
def set [DecidableEq α] (d : α) (m : NMap α) (k : Nat) (v : α) : NMap α :=
  if v = d then erase m k else insert m k v

/-- Keys strictly rise from above `lo`, and no entry is the unlisted value. -/
def wfFrom [DecidableEq α] (d : α) : Nat → NMap α → Bool
  | _, [] => true
  | lo, (j, v) :: m => decide (lo ≤ j) && decide (v ≠ d) && wfFrom d (j + 1) m

/-- The canonical form. -/
def wf [DecidableEq α] (d : α) (m : NMap α) : Bool := wfFrom d 0 m

end NMap

end Sys2Proof
end

