-- ==== Sys2Proof/Syntax.lean ====
section
/-! DEFINITION. The commands of the FV-960 module: the operand types that requesters, buses and sensors bring, and
one constructor per row of the table of operations and events. -/

namespace Sys2Proof

/-- The five requester domains (R22, R23); a slice access carries the PASID its path supplies. -/
inductive Dom where
  | secure
  | hypervisor
  | slice (pasid : Nat)
  | network
  | debug
deriving DecidableEq, Repr

/-- The spaces that hold a dictionary window (R31). -/
inductive Space where
  | hyp
  | sec
  | slice (pasid : Nat)
  | bar0
deriving DecidableEq, Repr

/-- The access paths of Table DIC-2. -/
inductive Path where
  | usdo
  | fmp
  | window (w : Space)
  | link
  | jtag
deriving DecidableEq, Repr

/-- A USDO service request as the server sees it (R26). -/
inductive UsdoReq where
  /-- A whole (expedited, or completed segmented) download of `data`. -/
  | download (idx sub : Nat) (data : List Byte)
  /-- Opens a segmented download that announces `size` bytes. -/
  | downloadInit (idx sub size : Nat)
  /-- One segment of the open download. -/
  | downloadSegment (data : List Byte)
  /-- An expedited upload, or the opening of a segmented one. -/
  | upload (idx sub : Nat)
  /-- The next segment of the open upload. -/
  | uploadSegment
  /-- Broadcast, routed or client service, which the module does not support. -/
  | unsupported
deriving DecidableEq, Repr

/-- A UDP datagram that reaches port 46120: gateway port number, source address and port, payload (R27). -/
structure Datagram where
  port : Nat
  src : Nat
  srcPort : Nat
  bytes : List Byte
deriving DecidableEq, Repr

/-- What a REGISTER_WRITE writes: a dictionary entry that has no row of its own, a field of a hardware register
(R19), or the host's mapping of an address range of a PASID (R196). -/
inductive RegTarget where
  | entry (d : Dom) (idx sub off : Nat) (data : List Byte)
  | dwOffset (w : Space) (v : W32)
  | dwStatus (w : Space) (v : BitVec 64)
  | dwBuffer (w : Space) (off : Nat) (data : List Byte)
  | csr (hart csr : Nat) (v : BitVec 64)
  | mapPage (pasid va bytes pa : Nat)
  | unmapPage (pasid va : Nat)
deriving DecidableEq, Repr

/-- What a draining tile reports of its engine (R85, R108). -/
inductive DrainResult where
  | clean
  /-- A parity failure in a read-only copy, which is fetched again; DETAIL as below, memory 3 for a Serai copy. -/
  | parityClean (detail : Nat)
  /-- A parity failure in data that exists nowhere else; DETAIL: memory in [31:24], byte offset in [22:0]. -/
  | parityDirty (detail : Nat)
deriving DecidableEq, Repr

/-- The kind of a parity failure found while saving (R108). -/
inductive Parity where
  | clean (detail : Nat)
  | dirty (detail : Nat)
deriving DecidableEq, Repr

/-- Whose interrupt hold-off ends (R220, R221). -/
inductive HoldoffOwner where
  | queue (q : Nat)
  | slice (s : Nat)
deriving DecidableEq, Repr

/-- A Plomor frame: the header fields of Table MMS-5, with FRAME_CRC as received, and the payload (LENGTH is its
length, but in a READ the bytes asked for, `len`). -/
structure Frame where
  dst : Nat
  src : Nat
  kind : Nat
  cls : Nat := 0
  tag : Nat := 0
  addr : Nat := 0
  status : Nat := 0
  hops : Nat := 0
  seq : Nat := 0
  crc : Nat := 0
  len : Nat := 0
  payload : List Byte := []
deriving DecidableEq, Repr

/-- Who makes a read across links (R239). -/
inductive Reader where
  | hart (n : Nat)
  | slice (pasid : Nat)
  | engine (n : Nat)
  | firmware
deriving DecidableEq, Repr

/-- The source of a request to the physical map: it decides world, enclave tag, bandwidth class and master port
(R257, R388, Table MEM-3). Sources that work for a slice name it. -/
inductive Requester where
  | hart (n : Nat)
  | firmware
  | secProc
  | scrubber
  | engine (n s : Nat)
  | placement (s : Nat)
  | frontEnd (s : Nat)
  | raster (s : Nat)
  | planner (s : Nat)
  | acoustic (s : Nat)
  | bridge (s : Nat)
  | display
  | camera
  | tdm
  | gateway
  | extPcie
  /-- An inbound Plomor frame of the given frame class. -/
  | inbound (cls : Nat)
  | debug
deriving DecidableEq, Repr

/-- What the ECC of the stack reports for a read (R255). -/
inductive HbmReport where
  | ok
  | corrected
  | uncorrectable
deriving DecidableEq, Repr

/-- A frame on a CAN or LIN channel (R335); in a remote frame the length of `data` is its DLC, and on a LIN channel
`rtr` marks a header without a response. A CAN XL frame also carries its SDU type, virtual network and acceptance field
(Table GTW-2). -/
structure BusFrame where
  ide : Bool
  fd : Bool
  brs : Bool
  xl : Bool
  rtr : Bool
  id : Nat
  data : List Byte
  sdt : Nat := 0
  vcid : Nat := 0
  af : Nat := 0
deriving DecidableEq, Repr

/-- An Ethernet frame as the switch sees it (R332). -/
structure EthFrame where
  dstMac : Nat
  srcMac : Nat
  vlan : Option Nat
  pcp : Nat
  etherType : Nat
  len : Nat
  payload : List Byte
deriving DecidableEq, Repr

/-- One ACF message of an AVTPDU (R336, R338). -/
structure AcfMsg where
  acfType : Nat
  bus : Nat
  frame : BusFrame
  mtv : Bool
  timestamp : Nat
deriving DecidableEq, Repr

/-- The signatures of one run of a pair: accumulator and output CRC (R364). -/
structure Signature where
  acc : BitVec 64
  out : BitVec 64
deriving DecidableEq, Repr

/-- Run B's drain: its signature, and a parity failure that it met (R109, R365). -/
structure RunB where
  sig : Signature
  parity : Option Parity
deriving DecidableEq, Repr

/-- The save of an engine that is being disabled: the bytes of live state, and a parity failure that it met (R112, R186). -/
structure DisableSave where
  engine : Nat
  live : Nat
  parity : Option Parity
deriving DecidableEq, Repr

/-- A unit that the rotating self-tests cover (R373). -/
inductive TestUnit where
  | engine (n : Nat)
  | serai
  | shader (n : Nat)
  | pipe (n : Nat)
  | lane (n : Nat)
deriving DecidableEq, Repr

/-- A privilege mode of a hart; an application hart is in the secure world while in M (R388, R398). -/
inductive HartMode where
  | m
  | hs
  | vs
  | u
  | vu
deriving DecidableEq, Repr

/-- What the one instruction of a single step did, as the debug module can see it afterwards (R439). -/
structure StepEffect where
  nextPc : BitVec 64
  writesX : List (Nat × BitVec 64)
deriving DecidableEq, Repr

/-- What a main-side start finds: copies A and B of the images of kinds 1, 2 and 5 in UFS, and the level of the COMPAT
pin (R38, R406, R428). -/
structure BootImages where
  kind1 : List (List Byte)
  kind2 : List (List Byte)
  kind5 : List (List Byte)
  compatPin : Nat
deriving DecidableEq, Repr

/-- What an engine's issue stage did in a tick of the count reference (R443): steps issued (at most two), or held by
the pace ceiling. -/
structure EngineTick where
  engine : Nat
  steps : Nat
  ceiling : Bool
deriving DecidableEq, Repr

/-- The commands of the block: one constructor per row of the table of operations and events. -/
inductive Instr where
  /-- USDO_REQUEST: A USDO expedited or segmented download or upload request arrives on the management CAN channel and is served or aborted (R26). -/
  | usdoRequest (r : UsdoReq)
  /-- USDO_ABORT: A USDO abort request from the client ends the session in progress (R26). -/
  | usdoAbort
  /-- USDO_SESSION_TIMEOUT: A USDO session gets no segment for 1 s and is aborted with 0x0504_0000 (R26). -/
  | usdoSessionTimeout
  /-- FMP_READ: An FMP datagram of TYPE READ is received and its records are executed one by one and answered (R29). -/
  | fmpRead (d : Datagram)
  /-- FMP_WRITE: An FMP datagram of TYPE WRITE is received and its records are applied one by one and answered (R29). -/
  | fmpWrite (d : Datagram)
  /-- FMP_WRITE_SET: An FMP datagram of TYPE WRITE_SET is checked whole and applied all or none in one step of the serial order (R29). -/
  | fmpWriteSet (d : Datagram)
  /-- DW_READ: A write of DW_REQ with OP 0x1 queues a dictionary read whose data is placed in the window buffer and BUSY cleared (R31). -/
  | dwRead (w : Space) (req : BitVec 64)
  /-- DW_WRITE: A write of DW_REQ with OP 0x2 queues a dictionary write that reads the window buffer when firmware performs it (R31). -/
  | dwWrite (w : Space) (req : BitVec 64)
  /-- REGISTER_WRITE: A write to a register or rw dictionary entry with no row of its own sets the field under its access code and domain checks (R9). -/
  | registerWrite (t : RegTarget)
  /-- DICT_HELD_ACCESS_SERVE: Once firmware runs again, a held dictionary access is performed in path order and answered (R35). -/
  | dictHeldAccessServe (p : Path)
  /-- PIECED_TRANSFER_TIMEOUT: A pieced DOMAIN transfer receives no piece for 1 s, is abandoned and the entry keeps its old value (R30). -/
  | piecedTransferTimeout (idx sub inst : Nat)
  /-- STORE_COMM: A write of 0x6576_6173 to STORE_COMM stores the communication entries 0x1000-0x1FFF to UFS (R25). -/
  | storeComm (d : Dom) (v : Nat)
  /-- RESTORE_COMM: A write of 0x6461_6F6C to RESTORE_COMM restores the communication defaults at the next reset (R25). -/
  | restoreComm (d : Dom) (v : Nat)
  /-- COMM_ENTRY_WRITE: A write to 0x1E00 or 0x1E10 takes effect after the reply has been sent on the old setting (R25). -/
  | commEntryWrite (d : Dom) (idx sub : Nat) (data : List Byte)
  /-- ACK: A write of a record index to 0x3000:03 acknowledges that record and all older ones and may clear ERROR_REGISTER bit 0 (R37). -/
  | ack (d : Dom) (v : Nat)
  /-- COMPAT_MODE_WRITE: A write of COMPAT_MODE selects FV-720 behaviours, refused while any engine is enabled, and clears every performance counter (R38). -/
  | compatModeWrite (d : Dom) (v : Nat)
  /-- PACE_WINDOW_BOUNDARY: At each 1 us pace window boundary the step allowance of each engine is reset and a pending ceiling change takes effect (R44). -/
  | paceWindowBoundary
  /-- POWER_LOOP_SAMPLE: Every 10 us the power loop samples input power and lowers or restores the pace ceiling against the effective limit (R47). -/
  | powerLoopSample (deciWatt : Nat)
  /-- POWER_LIMIT_UNMET: Power stays above the effective limit with the ceiling at 800 steps/us for 1 ms and the error record is added (R47). -/
  | powerLimitUnmet
  /-- THERMAL_LOOP_SAMPLE: Every 20 us the thermal loop samples the 32 junction sensors and lowers or restores the ceiling (R48). -/
  | thermalLoopSample (sensors : List Int)
  /-- SUBFLOOR_DOUBT: Sub-floor pacing lasts longer than 1 ms and is signalled as a doubt event (R50). -/
  | subfloorDoubt
  /-- GOVERNOR_SETTING_WRITE: A write of a governor entry is range-checked and changes the governor's mode, limits or fixed targets (R45). -/
  | governorSettingWrite (d : Dom) (idx sub v : Nat)
  /-- REGULATOR_SETTLED: The core regulator output stays within 5 mV of target for 2 us and a pending ceiling raise or island clock release proceeds (R54). -/
  | regulatorSettled
  /-- RAIL_MIN_CLEAR: Writing 1 to RAIL_MIN_CLEAR resets RAIL_MIN_MV to 0xFFFF and re-enables the RAIL_SAG record (R58). -/
  | railMinClear (d : Dom) (v : Nat)
  /-- SUPPLY_INPUT_CHANGE: An input voltage moves, the rails hold or droop by physics, and no detector acts (R57). -/
  | supplyInputChange (in48 in12 rail : Nat)
  /-- CORE_RAIL_POWER_ON_RESET: The core rail falls below 0.40 V, the main side is held in reset, and on recovery starts as from power-on (R60). -/
  | coreRailPowerOnReset (rail : Nat)
  /-- DOORBELL_WRITE: A doorbell write sets P and/or C of a queue if the bounds hold, loading or latching the queue context (R200). -/
  | doorbellWrite (off : Nat) (wide : Bool) (v : BitVec 64)
  /-- CONTEXT_SPILL_LOAD: A spill of an on-chip context and load of a pending queue context completes when a context ceases to have work in flight (R209). -/
  | contextSpillLoad (q : Nat)
  /-- DESCRIPTOR_FETCH: The front end fetches a descriptor once its fetch conditions hold, runs the acceptance checks and accepts or rejects it (R198). -/
  | descriptorFetch (q : Nat)
  /-- TILE_DEAL: An accepted descriptor permitted by the share rules is cut into tiles and dealt in contiguous runs to enabled engines (R178). -/
  | tileDeal (q n : Nat)
  /-- TILE_DRAIN: A tile finishes draining its accumulator, its outputs go to their destination and the engine takes its next work (R85). -/
  | tileDrain (e : Nat) (r : DrainResult)
  /-- PREEMPTION_POINT_SAVE: An engine asked to stop reaches a pre-emption point and writes its live state to a save slot (R186). -/
  | preemptionPointSave (e live : Nat) (parity : Option Parity)
  /-- TILE_RESTORE: A saved tile is read back, re-staged and resumes at the pass after its pre-emption point, freeing the slot (R188). -/
  | tileRestore (e slot : Nat)
  /-- COMPLETION_RECORD_WRITE: A completed descriptor's record is written in ring order once every earlier descriptor of the queue has completed (R104). -/
  | completionRecordWrite (q : Nat)
  /-- IRQ_HOLDOFF_END: A queue or event interrupt holdoff ends and the merged interrupt is sent (R220). -/
  | irqHoldoffEnd (t : HoldoffOwner)
  /-- GEMM: A GEMM descriptor computes C = f(A x B) through accumulation, bias, scale, epilogue and conversion (R92). -/
  | gemm (q n : Nat)
  /-- GEMM_BATCHED: A GEMM_BATCHED descriptor runs BATCH independent GEMMs on consecutive matrices (R90). -/
  | gemmBatched (q n : Nat)
  /-- GEMM_ACC: A GEMM_ACC descriptor adds the existing C before the epilogue (R92). -/
  | gemmAcc (q n : Nat)
  /-- ELEMENTWISE: An ELEMENTWISE descriptor applies its OP to X, or X and Y, row by row (R96). -/
  | elementwise (q n : Nat)
  /-- REDUCE: A REDUCE descriptor produces one result per row by tree reduction or argmax (R96). -/
  | reduce (q n : Nat)
  /-- NORM: A NORM descriptor applies layer or RMS normalisation per row in fixed FP32 order (R96). -/
  | normalise (q n : Nat)
  /-- CONVERT: A CONVERT descriptor converts X to Z_FMT under CVT, including block-scaled output (R75). -/
  | convert (q n : Nat)
  /-- SOFTMAX: A SOFTMAX descriptor computes softmax of IMM times X along each row (R96). -/
  | softmax (q n : Nat)
  /-- TOPK: A TOPK descriptor writes the k largest values and indices of each row (R95). -/
  | topk (q n : Nat)
  /-- GATHER: A GATHER descriptor copies indexed rows of X, writing zeros for bad indices (R97). -/
  | gather (q n : Nat)
  /-- COPY: A COPY descriptor moves ROWS rows of ROW_BYTES from SRC to DST with strides (R98). -/
  | copy (q n : Nat)
  /-- FILL: A FILL descriptor sets rows of DST to the repeated 32-bit pattern (R98). -/
  | fill (q n : Nat)
  /-- TRANSPOSE: A TRANSPOSE descriptor writes SRC transposed into DST by element size (R98). -/
  | transpose (q n : Nat)
  /-- PREFETCH: A PREFETCH descriptor asks the placement unit to bring a tensor to a tier and completes OK whether honoured or declined (R98). -/
  | prefetchTensor (q n : Nat)
  /-- EXPORT: An EXPORT descriptor writes dirty on-chip copies back to local HBM and with DROP discards them (R98). -/
  | exportTensor (q n : Nat)
  /-- NOP: A NOP descriptor completes at once in the queue front end (R99). -/
  | nop (q n : Nat)
  /-- SIGNAL: A SIGNAL descriptor sets or adds to a sync counter of its slice, releasing WAITs it satisfies (R99). -/
  | signal (q n : Nat)
  /-- WAIT: A WAIT descriptor holds its queue until a sync counter meets VALUE (R99). -/
  | wait (q n : Nat)
  /-- WAIT_TIMEOUT: A WAIT's TB1 time limit passes and it completes with WAIT_TIMEOUT (R99). -/
  | waitTimeout (q n : Nat)
  /-- TIMESTAMP: A TIMESTAMP descriptor writes the 112-bit time of a time base to its destination (R99). -/
  | timestamp (q n : Nat)
  /-- TENSOR_CREATE: A TENSOR_CREATE descriptor allocates and zeroes a home or binds HOST_VA and returns the new handle (R171). -/
  | tensorCreate (q n : Nat)
  /-- TENSOR_RELEASE: A TENSOR_RELEASE descriptor invalidates a handle and frees storage when the last reference goes (R172). -/
  | tensorRelease (q n : Nat)
  /-- TENSOR_VIEW: A TENSOR_VIEW descriptor creates a view handle on a byte range of a tensor (R172). -/
  | tensorView (q n : Nat)
  /-- DISPATCH: A DISPATCH descriptor runs the workgroups of a loaded SPIR-V kernel on engine vector units (R101). -/
  | dispatch (q n : Nat)
  /-- KERNEL_LOAD: A KERNEL_LOAD descriptor translates a SPIR-V module and returns its KERNEL_ID or rejects it (R100). -/
  | kernelLoad (q n : Nat)
  /-- KERNEL_FREE: A KERNEL_FREE descriptor releases a kernel ID once earlier dispatches of it complete (R100). -/
  | kernelFree (q n : Nat)
  /-- CONV: A CONV descriptor computes a convolution on the array in the mapping mode chosen from the descriptor (R114). -/
  | conv (q n : Nat)
  /-- POOL: A POOL descriptor computes max, average or global pooling on the vector unit (R128). -/
  | pool (q n : Nat)
  /-- RESIZE: A RESIZE descriptor resamples NHWC images by nearest or bilinear reads (R129). -/
  | resize (q n : Nat)
  /-- CROP: A CROP descriptor samples region records bilinearly into [ROIS][OUT_H][OUT_W][C] (R130). -/
  | crop (q n : Nat)
  /-- REGROUP: A REGROUP descriptor moves bytes space-to-channels or channels-to-space on the DMA engine (R131). -/
  | regroup (q n : Nat)
  /-- ATTENTION: An ATTENTION descriptor computes online-softmax attention over a sequence list or a KV block (R156). -/
  | attention (q n : Nat)
  /-- KV_APPEND: A KV_APPEND descriptor quantises keys and values and writes them into its listed sequences (R146). -/
  | kvAppend (q n : Nat)
  /-- KV_SEQ_OPEN: A KV_SEQ_OPEN descriptor creates a sequence region, walking the leading tree, and returns its handle (R139). -/
  | kvSeqOpen (q n : Nat)
  /-- KV_SEQ_CLOSE: A KV_SEQ_CLOSE descriptor drops leading references and returns the region's pages or reservation (R144). -/
  | kvSeqClose (q n : Nat)
  /-- KV_RESUME: A KV_RESUME descriptor backs a frozen sequence's chunk, writes its pending slot and makes it active (R152). -/
  | kvResume (q n : Nat)
  /-- KV_PREFIX_PUBLISH: A KV_PREFIX_PUBLISH descriptor enters a sequence's leading full chunks into the leading tree (R142). -/
  | kvPrefixPublish (q n : Nat)
  /-- KV_BLOCK_EXPORT: A KV_BLOCK_EXPORT descriptor copies one layer of a position range into a KV block tensor (R161). -/
  | kvBlockExport (q n : Nat)
  /-- ATTN_COMBINE: An ATTN_COMBINE descriptor merges two attention partials by their (m, l) pairs and optionally normalises (R159). -/
  | attnCombine (q n : Nat)
  /-- KV_POOL_CREATE: KV_POOL_CMD 1 creates an absent pool, computing its chunk size and reserving committed bytes (R134). -/
  | kvPoolCreate (d : Dom) (p : Nat)
  /-- KV_POOL_DESTROY: KV_POOL_CMD 2 deletes the pool's leading nodes and returns its pages when no sequence is open (R134). -/
  | kvPoolDestroy (d : Dom) (p : Nat)
  /-- KV_POOL_TRIM: KV_POOL_CMD 3 returns an elastic pool's free-list pages to the module (R134). -/
  | kvPoolTrim (d : Dom) (p : Nat)
  /-- KV_POOL_ENTRY_WRITE: A write of a pool layout entry is checked and refused with KV_POOL_BUSY while the pool is active (R133). -/
  | kvPoolEntryWrite (d : Dom) (p sub v : Nat)
  /-- PREFIX_NODE_LIMIT_WRITE: A write of PREFIX_NODE_LIMIT sets the slice's node limit, blocking publishing while above it (R143). -/
  | prefixNodeLimitWrite (d : Dom) (s v : Nat)
  /-- SERAI_SHARE_WRITE: A write of SERAI_SHARE sets a slice's Serai share, refused with SERAI_OVERCOMMIT above 256 units (R176). -/
  | seraiShareWrite (d : Dom) (s v : Nat)
  /-- PLACEMENT_POLICY_WRITE: A write of a placement policy entry applies to descriptors accepted after it (R177). -/
  | placementPolicyWrite (d : Dom) (idx sub v : Nat)
  /-- QUARANTINE_RETEST: A write of QUARANTINE_RETEST runs the enable sequence on quarantined engines of cause 1 or 3 (R194). -/
  | quarantineRetest (d : Dom) (v : Nat)
  /-- COUNTERS_CLEAR: Writing 1 to COUNTERS_CLEAR zeroes every placement counter at one place in the serial order (R195). -/
  | countersClear (d : Dom) (v : Nat)
  /-- ENGINE_ENABLE_WRITE: A write of ENGINE_ENABLE moves each engine toward its requested state, starting enable or disable sequences (R110). -/
  | engineEnableWrite (d : Dom) (v : Nat)
  /-- ENGINE_ENABLE_DONE: An engine's power-up, zeroing and array self-test complete and it reads on, or it is quarantined (R111). -/
  | engineEnableDone (e : Nat) (pass : Bool)
  /-- ENGINE_DISABLE_SAVE_DONE: A disabling engine's running tile reaches its pass boundary and its save completes at abort point A2 (R112). -/
  | engineDisableSaveDone (e : DisableSave)
  /-- ENGINE_DISABLE_DONE: A disabling engine's tiles are handed back, memories zeroed, rail switched off and it reads off (R112). -/
  | engineDisableDone (e : Nat)
  /-- QUEUE_CONFIG: A whole 48-byte write of QUEUE_CONFIG configures a queue not enabled, halted or disabling (R202). -/
  | queueConfig (d : Dom) (data : List Byte)
  /-- QUEUE_ENABLE: QUEUE_CMD 1 moves a disabled queue to enabled and fetching starts from the present counts (R203). -/
  | queueEnable (d : Dom) (q : Nat)
  /-- QUEUE_DISABLE: QUEUE_CMD 2 moves an enabled or halted queue to disabling (R206). -/
  | queueDisable (d : Dom) (q : Nat)
  /-- QUEUE_RESTART: QUEUE_CMD 3 resumes a halted queue at descriptor F (R205). -/
  | queueRestart (d : Dom) (q : Nat)
  /-- QUEUE_RESET_COUNTS: QUEUE_CMD 4 sets P, F, W and C of a disabled queue to 0 (R203). -/
  | queueResetCounts (d : Dom) (q : Nat)
  /-- SLICE_CREATE: SLICE_CMD 1 checks PASID and blocks and makes the slice active with its instances and sync counters (R212). -/
  | sliceCreate (d : Dom) (s : Nat)
  /-- SLICE_DESTROY: SLICE_CMD 2 sets the slice destroying and starts its run-down (R215). -/
  | sliceDestroy (d : Dom) (s : Nat)
  /-- SLICE_RUNDOWN_DONE: A destroying slice's descriptors have completed, its objects are released, its entries reset and it becomes absent (R215). -/
  | sliceRundownDone (s : Nat)
  /-- QUEUE_BLOCKS_WRITE: A write of QUEUE_BLOCKS adds or removes queue blocks of a slice, unconfiguring removed queues (R213). -/
  | queueBlocksWrite (d : Dom) (s : Nat) (data : List Byte)
  /-- MEM_QUOTA_WRITE: A write of MEM_QUOTA always succeeds and below MEM_USED posts QUOTA_OVER and starts the grace timer (R216). -/
  | memQuotaWrite (d : Dom) (s v : Nat)
  /-- GRACE_MS_WRITE: A write of GRACE_MS changes or cancels the expiry of a running grace timer (R216). -/
  | graceMsWrite (d : Dom) (s v : Nat)
  /-- GRACE_EXPIRY: The grace period expires with MEM_USED above quota and the slice becomes suspended (R217). -/
  | graceExpiry (s : Nat)
  /-- ENGINE_SHARE_WRITE: A write of ENGINE_SHARE sets a slice's engine share from the next window, refused above 256 in sum (R218). -/
  | engineShareWrite (d : Dom) (s v : Nat)
  /-- ENGINE_WINDOW_BOUNDARY: An engine accounting window ends and every slice returns within its share (R218). -/
  | engineWindowBoundary
  /-- PORT_A_ROLE_WRITE: A write of PORT_A_ROLE makes port A a root port or endpoint and retrains it (R222). -/
  | portARoleWrite (d : Dom) (v : Nat)
  /-- TOPOLOGY_CMD: A write of 1 to TOPOLOGY_CMD makes the module node 0 and enumerates the tree breadth-first (R225). -/
  | topologyCmd (d : Dom) (v : Nat) (tree : List (Nat × Nat))
  /-- LINK_TRAINED: A PCIe link trains, HELLO succeeds and traffic is carried on it again (R250). -/
  | linkTrained (port width gen : Nat) (hello : Bool)
  /-- LINK_DOWN: A port's link goes down, frames for it are discarded, requests fail and nodes are cleared from NODES_PRESENT (R249). -/
  | linkDown (port : Nat)
  /-- WRITE_P: A posted write frame is received, checked, and forwarded or applied if accepted (R237). -/
  | writeP (port : Nat) (f : Frame)
  /-- WRITE_C: A confirmed write frame is received, applied if accepted, and answered by ACK (R238). -/
  | writeC (port : Nat) (f : Frame)
  /-- READ: A READ frame is received and answered by a COMPLETION with data or status (R239). -/
  | readFrame (port : Nat) (f : Frame)
  /-- COMPLETION: A COMPLETION frame arrives for an issued tag and delivers its data, or is discarded for a freed tag (R239). -/
  | completionFrame (port : Nat) (f : Frame)
  /-- PLOMOR_ACK: An ACK frame arrives and retires a confirmed store or completes a CARAVAN_SEND (R238). -/
  | plomorAck (port : Nat) (f : Frame)
  /-- CARAVAN: A CARAVAN frame lands in a lane slot, and the last one makes the batch visible, increments the counter and sends ACK (R247). -/
  | caravan (port : Nat) (f : Frame)
  /-- CREDIT: A CREDIT frame returns lane slots to the sending bridge, releasing a waiting send (R246). -/
  | credit (port : Nat) (f : Frame)
  /-- SIGNAL_RC: A SIGNAL_RC frame reads and clears signal words or a pending bitmap after earlier posted frames have left (R242). -/
  | signalRc (port : Nat) (f : Frame)
  /-- MESSAGE: A MESSAGE frame carries forwarded FMP or firmware image data between firmware or security processors (R232). -/
  | messageFrame (port : Nat) (f : Frame)
  /-- HELLO: A HELLO frame arrives at a port during enumeration and the child answers through its endpoint (R225). -/
  | hello (port : Nat) (f : Frame)
  /-- ASSIGN: An ASSIGN frame gives a node its ID and ROUTE_TABLE and has it send HELLO on its ports (R227). -/
  | assign (port : Nat) (f : Frame)
  /-- OUTBOUND_WINDOW_WRITE: A write of an OUTBOUND_WINDOW record configures an outbound window after address checks (R236). -/
  | outboundWindowWrite (d : Dom) (w : Nat) (data : List Byte)
  /-- POSTED_WINDOW_STORE: A store to a posted window retires once the local bridge holds it and travels as WRITE_P (R237). -/
  | postedWindowStore (addr : Nat) (data : List Byte)
  /-- CONFIRMED_WINDOW_STORE: A store to a confirmed window travels as WRITE_C and waits for its ACK (R238). -/
  | confirmedWindowStore (hart addr : Nat) (data : List Byte)
  /-- CONFIRMED_WRITE_TIMEOUT: No ACK or a non-OK ACK ends a confirmed store with an access fault and REMOTE_WRITE_FAILED (R238). -/
  | confirmedWriteTimeout (tag : Nat)
  /-- SMALL_READ: A load through an outbound window or a dictionary access across links issues a small READ and starts its timer (R239). -/
  | smallRead (by_ : Reader) (addr len : Nat)
  /-- READ_DISCARD_TIMEOUT: A small read's completion does not arrive within READ_DISCARD_US, the tag is freed and READ_DISCARDED counted (R239). -/
  | readDiscardTimeout (tag : Nat)
  /-- BUFFERED_COMPLETION_DISCARD: A small-read completion blocked in a bridge buffer for READ_DISCARD_US is discarded there (R240). -/
  | bufferedCompletionDiscard (port : Nat) (f : Frame)
  /-- BULK_READ_TIMEOUT: A bulk read without completion after LINK_TIMEOUT_US ends its descriptor with NODE_UNREACHABLE (R241). -/
  | bulkReadTimeout (tag : Nat)
  /-- SIGNAL_PAGE_WRITE: A write of data b to a signal page word sets that bit and the module's pending bit (R242). -/
  | signalPageWrite (off data : Nat)
  /-- SIGNAL_POLL: Every SIGNAL_POLL_US a bridge reads its children's pending bitmaps, and the manager delivers set bits as MSIs (R243). -/
  | signalPoll
  /-- LANE_OPEN: LANE_CMD 1 opens a lane, checking staging capacity, and issues its handle (R244). -/
  | laneOpen (d : Dom) (l : Nat)
  /-- LANE_CLOSE: LANE_CMD 2 closes a lane so later batches are refused with LANE_INVALID (R244). -/
  | laneClose (d : Dom) (l : Nat)
  /-- CARAVAN_SEND: A CARAVAN_SEND descriptor gathers rows into a batch and sends it to a lane slot of another node (R245). -/
  | caravanSend (q n : Nat)
  /-- CARAVAN_WAIT_TIMEOUT: A send waiting for a free slot exceeds CARAVAN_WAIT_US and completes with WAYSTATION_FULL (R246). -/
  | caravanWaitTimeout (q n : Nat)
  /-- CARAVAN_RELEASE: A CARAVAN_RELEASE descriptor frees the oldest slots of a lane and sends one CREDIT (R248). -/
  | caravanRelease (q n : Nat)
  /-- HBM_READ: An HBM read is delivered, corrected and counted, or delivered poisoned with HBM_UNCORRECTABLE (R255). -/
  | hbmRead (m : Requester) (addr len queued : Nat) (report : HbmReport)
  /-- PARTIAL_GRANULE_WRITE: A partial-granule write is performed as read, merge and write, dropped if the granule is poisoned (R252). -/
  | partialGranuleWrite (m : Requester) (addr : Nat) (data : List Byte)
  /-- BW_WINDOW_BOUNDARY: At each bandwidth window boundary budgets reset, effective guarantees are recomputed and missed guarantees raised (R265). -/
  | bwWindowBoundary (starved : List (Nat × Nat))
  /-- HBM_TEMP_SAMPLE: Every 100 us the stack temperature sets the run-time deliverable level with hysteresis (R265). -/
  | hbmTempSample (celsius : Int)
  /-- BW_GUARANTEE_WRITE: A write of BW_GUARANTEE is admitted against BW_DELIVERABLE or refused with BW_OVERCOMMIT (R264). -/
  | bwGuaranteeWrite (d : Dom) (c sub v : Nat)
  /-- BW_COUNTERS_CLEAR: Writing 1 to BW_COUNTERS_CLEAR clears class counters and master charges at one place in the serial order (R263). -/
  | bwCountersClear (d : Dom) (v : Nat)
  /-- GFX_PASS: A GFX_PASS descriptor validates its command list, bins in bands and draws, resolves and stores tiles (R279). -/
  | gfxPass (q n : Nat)
  /-- GFX_SHADER_LOAD: A GFX_SHADER_LOAD descriptor translates a vertex or fragment shader and returns its ID (R272). -/
  | gfxShaderLoad (q n : Nat)
  /-- GFX_SHADER_FREE: A GFX_SHADER_FREE descriptor releases a shader ID once passes using it complete (R272). -/
  | gfxShaderFree (q n : Nat)
  /-- GFX_PRESENT: A GFX_PRESENT descriptor hands an image to a display layer and completes when shown or superseded (R289). -/
  | gfxPresent (q n : Nat)
  /-- TILE_TIMEOUT: A graphics tile drawing for TILE_TIMEOUT_US is abandoned and its pass completes with SHADER_TIMEOUT (R285). -/
  | tileTimeout (pipe : Nat)
  /-- GFX_TILE_DONE: A raster pipe stores a tile and takes its next tile, stealing if it has none (R282). -/
  | gfxTileDone (pipe : Nat)
  /-- PARAM_BUFFER_WRITE: A write of PARAM_BUFFER_BYTES causes reallocation of the parameter buffer after earlier passes complete (R278). -/
  | paramBufferWrite (d : Dom) (v : Nat)
  /-- OUTPUT_ENABLE_WRITE: A write of OUT_ENABLE or an output timing entry starts or stops a display timing generator (R286). -/
  | outputEnableWrite (d : Dom) (out sub v : Nat)
  /-- LAYER_WRITE: A write of a layer entry takes effect at the next latch point (R287). -/
  | layerWrite (d : Dom) (out k sub v : Nat)
  /-- LATCH_POINT: At each latch point each layer takes its newest ready present, or repeats, re-projects or blanks (R290). -/
  | latchPoint (out : Nat)
  /-- SCAN_OUT_START: A frame's first active line is scanned out, completing its presents and releasing replaced images (R289). -/
  | scanOutStart (out : Nat) (late : List (Nat × Nat))
  /-- DISPLAY_LINK_DOWN: An A-PHY link is lost, LINK_STATE reads 0 and the record is added while timing continues (R292). -/
  | displayLinkDown (out : Nat)
  /-- POSE_HANDLE_WRITE: A write of POSE_HANDLE from POSE_SLICE names the pose ring read at each latch (R293). -/
  | poseHandleWrite (d : Dom) (v : Nat)
  /-- PLN_PLAN: A PLN_PLAN descriptor reads its request at acceptance and waits for a lane grant (R299). -/
  | plnPlan (q n : Nat)
  /-- PLAN_GRANT: A waiting plan is granted its lanes, starts, and computes and checks the stop primitive (R300). -/
  | planGrant
  /-- SEARCH_ROUND: Each lane of a plan expands one open state and the successors are merged in fixed order (R303). -/
  | searchRound (q n : Nat)
  /-- SEARCH_WINDOW_EXPIRED: START + BUDGET_US - FINAL_US is reached, the search ends with TIME_LIMITED and the final phase begins (R305). -/
  | searchWindowExpired (q n : Nat)
  /-- FINAL_PHASE: After search ends the world is held, candidates are smoothed and checked and the response is written (R306). -/
  | finalPhase (q n : Nat)
  /-- PLN_LATTICE_LOAD: A PLN_LATTICE_LOAD descriptor reads primitive records into planner SRAM and returns a lattice ID (R298). -/
  | plnLatticeLoad (q n : Nat)
  /-- PLN_LATTICE_FREE: A PLN_LATTICE_FREE descriptor releases a lattice once its plans complete (R298). -/
  | plnLatticeFree (q n : Nat)
  /-- PLN_OCC_UPDATE: A PLN_OCC_UPDATE descriptor writes world layers whole, waiting for any hold, and increments GEN per layer (R297). -/
  | plnOccUpdate (q n : Nat)
  /-- PLN_LANES_RESERVED_WRITE: A write of PLN_LANES_RESERVED reserves planner lanes for a slice, refused above 16 in sum (R300). -/
  | plnLanesReservedWrite (d : Dom) (s v : Nat)
  /-- TDM_FRAME: At each 48 kHz frame sync the TDM lanes exchange one sample per slot (R310). -/
  | tdmFrame (samples : List (Nat × Nat × Int))
  /-- AAF_SAMPLE_ARRIVAL: An AAF stream sample arrives and enters its channel at its presentation time, or as zero if late (R311). -/
  | aafSampleArrival (stream ch : Nat) (sample : W32) (late : Bool)
  /-- AAF_RATE_FAULT: An AAF stream at another rate or outside +-500 ppm for 100 ms is ignored with ACU_STREAM_RATE (R311). -/
  | aafRateFault (stream : Nat)
  /-- ANC_BLOCK: At each cancellation block boundary the controller filters, adapts, checks divergence and outputs anti-noise (R316). -/
  | ancBlock
  /-- ANC_START: ANC_CMD 1 checks maps, coefficients and load and starts adaptation from the kind-1 set (R315). -/
  | ancStart (d : Dom)
  /-- ANC_STOP: ANC_CMD 2 fades anti-noise to zero over 480 samples and stops the controller (R318). -/
  | ancStop (d : Dom)
  /-- ANC_FREEZE: ANC_CMD 3 keeps filtering with the present taps without adapting (R318). -/
  | ancFreeze (d : Dom)
  /-- ANC_RESUME: ANC_CMD 4 resumes adaptation from the present taps (R318). -/
  | ancResume (d : Dom)
  /-- VOICE_START: VOICE_CMD 1 checks lanes and weights and starts voice separation (R321). -/
  | voiceStart (d : Dom)
  /-- VOICE_STOP: VOICE_CMD 2 stops voice separation (R321). -/
  | voiceStop (d : Dom)
  /-- VOICE_FRAME: Every 480 samples a voice frame is written to the ring, made visible and the sync counter incremented (R321). -/
  | voiceFrame
  /-- PLAY_FRAME: At each 480-sample boundary the playback slot is read and played, or silence is played and counted (R322). -/
  | playFrame
  /-- INPUT_STUCK: An input channel unchanged for 4,800 samples is stuck, with ACU_INPUT_FAULT and a fade or zero replacement (R319). -/
  | inputStuck (ch : Nat)
  /-- INPUT_RECOVERED: A stuck channel changes for 480 samples and recovers (R319). -/
  | inputRecovered (ch : Nat)
  /-- OUTPUT_READBACK_FAULT: A TDM output readback mismatches for 48 bit periods and the lane stops with ACU_OUTPUT_FAULT (R320). -/
  | outputReadbackFault (lane : Nat)
  /-- TDM_DIR_WRITE: A write of TDM_DIR starts, stops or restarts a TDM lane (R312). -/
  | tdmDirWrite (d : Dom) (lane v : Nat)
  /-- ACU_ENTRY_WRITE: A write of an acoustic entry is checked against ownership and running functions and applied (R314). -/
  | acuEntryWrite (d : Dom) (idx sub v : Nat)
  /-- ACU_COEF_LOAD: An ACU_COEF_LOAD descriptor writes a coefficient set to a shadow copy swapped in at the next boundary (R324). -/
  | acuCoefLoad (q n : Nat)
  /-- CAN_FRAME_RX: A frame received on a CAN or LIN channel is matched against the active routing table and delivered (R335). -/
  | canFrameRx (port : Nat) (f : BusFrame) (reversed : Bool)
  /-- CAN_BUS_OFF: A channel enters bus-off, discards its buffer, drops routed frames and records CAN_BUS_OFF (R328). -/
  | canBusOff (ch : Nat)
  /-- BUSOFF_RECOVERY_DONE: A bus-off channel sees 128 occurrences of 11 recessive bits and returns to error active (R328). -/
  | busoffRecoveryDone (ch : Nat)
  /-- CAN_RECOVER: CAN_CMD 1 begins bus-off recovery (R328). -/
  | canRecover (d : Dom) (ch : Nat)
  /-- CAN_FLUSH: CAN_CMD 2 flushes the channel's transmit buffer (R327). -/
  | canFlush (d : Dom) (ch : Nat)
  /-- CAN_DOMINANT_TIMEOUT: A transmitter drives dominant for 2 ms, is released and the channel reads fault (R329). -/
  | canDominantTimeout (ch : Nat)
  /-- CAN_BUS_FAULT: A bus held dominant by others for 10 ms or a wiring fault adds CAN_BUS_FAULT (R329). -/
  | canBusFault (ch cause : Nat)
  /-- CAN_FAULT_RETRY: Every 100 ms a faulted channel tries again and returns to error active on 11 recessive bits (R329). -/
  | canFaultRetry (ch : Nat) (recessive : Bool)
  /-- CAN_MODE_WRITE: A write of CAN_MODE or a channel timing entry starts, stops or reconfigures a CAN channel (R326). -/
  | canModeWrite (d : Dom) (ch sub v : Nat)
  /-- LIN_SCHEDULE_SLOT: A LIN commander's schedule slot falls due and it sends the header for its PID (R330). -/
  | linScheduleSlot (ch : Nat)
  /-- LIN_BUS_FAULT: A LIN bus dominant for 100 ms adds LIN_BUS_FAULT and sets LIN_STATE 3 (R330). -/
  | linBusFault (ch : Nat)
  /-- LIN_GO_TO_SLEEP: LIN_CMD 1 sends a go-to-sleep command (R330). -/
  | linGoToSleep (d : Dom) (ch : Nat)
  /-- LIN_WAKE_PULSE: LIN_CMD 2 sends a wake-up pulse (R330). -/
  | linWakePulse (d : Dom) (ch : Nat)
  /-- ETH_LINK_DOWN: An enabled port's link goes down, cable diagnostics run, ETH_LINK_DOWN is recorded and the PHY retrains (R331). -/
  | ethLinkDown (port result : Nat)
  /-- ETH_LINK_UP: An Ethernet link comes up, correcting pair polarity if swapped (R331). -/
  | ethLinkUp (port sqi : Nat) (swapped : Bool)
  /-- CABLE_DIAG: A write of 1 to CABLE_DIAG takes the link down, runs the cable test and retrains (R331). -/
  | cableDiag (d : Dom) (port v result : Nat)
  /-- ETH_ENABLE_WRITE: A write of ETH_ENABLE or a port setting turns a PHY on or off (R331). -/
  | ethEnableWrite (d : Dom) (port sub v : Nat)
  /-- SWITCH_FRAME_INGRESS: A frame enters the switch and is buffered and forwarded or dropped for a full egress queue (R333). -/
  | switchFrameIngress (port : Nat) (f : EthFrame)
  /-- SWITCH_TABLE_WRITE: A write of a switch table is validated and adopted, or aborted with TSN_CONFIG_INVALID (R332). -/
  | switchTableWrite (d : Dom) (sub : Nat) (data : List Byte)
  /-- GCL_COMMIT: A write of GCL_COMMIT adopts the admin gate list at the first cycle start at or after its base time (R332). -/
  | gclCommit (d : Dom) (port v : Nat)
  /-- GCL_CYCLE_START: A gate control cycle begins on TB0 and a pending list becomes operating (R332). -/
  | gclCycleStart (port : Nat)
  /-- AVTPDU_SEND: An open AVTPDU reaches MAX_MSGS or MAX_WAIT_US and is sent through P21 (R337). -/
  | avtpduSend (stream : Nat)
  /-- AVTPDU_RECEIVE: An NTSCF AVTPDU for ENGINE_MAC arrives at P21 and its ACF messages are decapsulated and routed (R338). -/
  | avtpduReceive (mac : Nat) (sid seq : Nat) (msgs : List AcfMsg)
  /-- ROUTE_COMMIT: Writing 1 to ROUTE_COMMIT validates the shadow bank and swaps the banks between two frames (R339). -/
  | routeCommit (d : Dom) (v : Nat)
  /-- ROUTE_FENCE: On the Rearguard's take-over signal the fence holds on CAN0 and CAN1 within 2 us (R340). -/
  | routeFence
  /-- INPUT_FILTER_SETTLE: A discrete input's raw level holds for FILTER_US and the filtered level changes (R343). -/
  | inputFilterSettle (line : Nat) (level : Bool)
  /-- FILTER_US_WRITE: A write of FILTER_US applies at once and restarts the filter (R343). -/
  | filterUsWrite (d : Dom) (line v : Nat)
  /-- GO_STATE_WRITE: A write of GO_STATE switches GO0-GO3, clearing overload faults on an off-then-on write (R455). -/
  | goStateWrite (d : Dom) (v : Nat)
  /-- GO_OVERLOAD: An output above 0.75 A for 1 ms is switched off and GO_OVERLOAD added (R455). -/
  | goOverload (out : Nat)
  /-- GO_OPEN_LOAD: An output on below 5 mA for 100 ms adds GO_OPEN_LOAD (R455). -/
  | goOpenLoad (out : Nat)
  /-- CAM_POWER_ENABLE_WRITE: A write of CAM_POWER_ENABLE switches camera power per camera (R454). -/
  | camPowerEnableWrite (d : Dom) (v : Nat)
  /-- CAMERA_OVERCURRENT: A camera at the current limit for 10 ms is switched off with CAMERA_POWER_FAULT cause 2 (R454). -/
  | cameraOvercurrent (cam : Nat)
  /-- CAMERA_POWER_RETRY: Every 1 s power is tried again on a camera switched off for overcurrent (R454). -/
  | cameraPowerRetry (cam : Nat)
  /-- CAMERA_OPEN_LOAD: A camera below 10 mA for 1 s adds CAMERA_POWER_FAULT cause 1 (R454). -/
  | cameraOpenLoad (cam : Nat)
  /-- COOLANT_SAMPLE: Every 100 ms TA and TB are sampled, flow direction and estimate updated and the coolant limit recomputed (R459). -/
  | coolantSample (ta tb : Int)
  /-- SNAP_SEC: A read of SNAP_SEC returns seconds and latches the sub-second part of the same tick for the requester (R348). -/
  | snapSec (r base : Nat)
  /-- JOINT_SNAPSHOT: A read of page 8 offset 0 latches NOW_NS of all eight bases at one tick for the requester (R349). -/
  | jointSnapshot (r : Nat)
  /-- TB_SET: A write of TB_SET in mode 2 steps the base at the next tick and disarms the step (R351). -/
  | tbSet (d : Dom) (n : Nat) (data : List Byte)
  /-- TB_CMD: Writing 1 to TB_CMD re-arms a base's step (R351). -/
  | tbCmd (d : Dom) (n v : Nat)
  /-- TB_INCREMENT_WRITE: A write of TB_INCREMENT in mode 2 sets the base's increment from the next tick (R350). -/
  | tbIncrementWrite (d : Dom) (n v : Nat)
  /-- TB_MODE_WRITE: A write of TB_MODE selects nominal, servo or software increment for a base (R350). -/
  | tbModeWrite (d : Dom) (n v : Nat)
  /-- SERVO_MEASUREMENT: At each Sync or every 1 ms the servo measures the offset and steps once or slews the increment (R352). -/
  | servoMeasurement (n : Nat) (offsetNs : Int) (refRate : Nat)
  /-- TB0_SYNC_LOST: No sync arrives for three sync intervals and TB0 enters holdover with TB0_SYNC_LOST (R354). -/
  | tb0SyncLost
  /-- PART_ACTIVATE: PART_CMD 1 runs the activation checks and activates the partition or refuses with PARTITION_INVALID (R356). -/
  | partActivate (d : Dom) (k : Nat)
  /-- PART_DEACTIVATE: PART_CMD 2 deactivates the partition at the next major-frame boundary (R358). -/
  | partDeactivate (d : Dom) (k : Nat)
  /-- MAJOR_FRAME_BOUNDARY: A major-frame boundary falls, FRAME_COUNT advances and pending deactivations take effect (R359). -/
  | majorFrameBoundary
  /-- WINDOW_LEAD_START: A window's lead begins, reserved engines stop taking other work and save foreign tiles to window slots (R189). -/
  | windowLeadStart (w : Nat)
  /-- WINDOW_START: A safety window starts and its reserved engines issue only partition work, late engines recorded (R359). -/
  | windowStart (w : Nat)
  /-- WINDOW_END: A safety window ends and engines restore tiles held in their window slots first (R190). -/
  | windowEnd (w : Nat)
  /-- PAIR_COMPARE: At run B's drain a redundant pair compares signatures and writes run A's outputs or mismatches (R365). -/
  | pairCompare (e : Nat) (a : Signature) (b : RunB)
  /-- MISMATCH_SELFTEST_DONE: The self-test after a mismatch ends, quarantining the engine or retrying the pair (R366). -/
  | mismatchSelftestDone (e : Nat) (pass : Bool)
  /-- TUNING_FRAME_START: At window start plus TF_OFFSET_US the window's engines take tuning-frame tiles as running tiles end (R370). -/
  | tuningFrameStart (k : Nat)
  /-- TUNING_FRAME_LATEST: At window start plus TF_LATEST_US engines not begun drop their tuning tiles and the frame is unverified (R371). -/
  | tuningFrameLatest (k : Nat)
  /-- TUNING_FRAME_DONE: A tuning frame's last tile completes and its CRC verifies it or is a wrong answer (R371). -/
  | tuningFrameDone (k : Nat)
  /-- TF_CMD: TF_CMD 1 calibrates by running the tuning frame once outside windows and writing TF_LAST_CRC (R372). -/
  | tfCmd (d : Dom) (k v : Nat)
  /-- DRONE_SLICE_START: A self-test slice starts on an idle unit that fits before the next lead (R373). -/
  | droneSliceStart (u : TestUnit)
  /-- DRONE_CHECKPOINT: A self-test slice at a checkpoint is abandoned for waiting partition work or a lead (R374). -/
  | droneCheckpoint (u : TestUnit)
  /-- DRONE_SLICE_DONE: A self-test slice completes, advancing the pass or adding SELFTEST_FAILED and a doubt event (R376). -/
  | droneSliceDone (u : TestUnit) (pass : Bool)
  /-- DRONE_INTERVAL_EXCEEDED: A unit's pass interval exceeds DRONE_INTERVAL_MS or twice it and the record or doubt event follows (R375). -/
  | droneIntervalExceeded (u : TestUnit)
  /-- DRONE_CLAIM: A unit whose pass has lasted half the interval is claimed and takes no new work until its slices run (R373). -/
  | droneClaim (u : TestUnit)
  /-- DRONE_ENABLE_WRITE: A write of DRONE_ENABLE starts or stops self-tests, refused while an ASIL B or higher partition is active (R373). -/
  | droneEnableWrite (d : Dom) (v : Nat)
  /-- HEARTBEAT: Firmware writes a heartbeat to the safety monitor (R378). -/
  | heartbeat
  /-- HEARTBEAT_LOST: No heartbeat arrives within HEARTBEAT_MS and a doubt event is raised (R378). -/
  | heartbeatLost
  /-- REARGUARD_TAKEOVER: The Rearguard receives a doubt signal in state 0, engages, fences CAN0/CAN1 and begins the manoeuvre (R380). -/
  | rearguardTakeover (cause : Nat)
  /-- MAIN_RESET: The main side enters reset other than by controlled power-down and the Rearguard raises MAIN_RESET (R378). -/
  | mainReset (cause : Nat)
  /-- FORCE_TAKEOVER: A write of 0x5447 to FORCE_TAKEOVER raises TAKEOVER_FORCED (R377). -/
  | forceTakeover (d : Dom) (v : Nat)
  /-- REARGUARD_POWER_UP: The Rearguard powers up, loads and verifies its image and reaches state 0, acting on a latched doubt (R379). -/
  | rearguardPowerUp (copyA copyB : List Byte)
  /-- MANOEUVRE_COMPLETE: The vehicle is held at standstill and the Rearguard moves to state 2 (R381). -/
  | manoeuvreComplete
  /-- REARGUARD_STATUS_FRAME: Every 100 ms from engagement the Rearguard sends its status frame on CAN0 and CAN1 (R381). -/
  | rearguardStatusFrame
  /-- LOCKSTEP_MISMATCH: A Rearguard lock-step mismatch resets it alone, reloading its image and adding RG_RESTARTED (R382). -/
  | lockstepMismatch
  /-- HANDBACK_CMD: A write of 0x484B to HANDBACK_CMD in state 3 hands back the vehicle, releasing fence, overlay and cameras (R384). -/
  | handbackCmd (d : Dom) (v : Nat)
  /-- SECURE_WATERMARK_RAISE: A write of SECURE_WATERMARK at or above the watermark raises it, or cancels a running lower (R391). -/
  | secureWatermarkRaise (d : Dom) (v : Nat)
  /-- SECURE_WATERMARK_LOWER: A write below the watermark closes the released range and starts the scrubber (R392). -/
  | secureWatermarkLower (d : Dom) (v : Nat)
  /-- SCRUB_COMPLETE: The scrubber zeroes the last byte and the lowered watermark takes effect (R392). -/
  | scrubComplete
  /-- SEC_RESERVE_TOP_WRITE: A write of SEC_RESERVE_TOP lowers or raises the secure reserve under its checks (R394). -/
  | secReserveTopWrite (d : Dom) (v : Nat)
  /-- ENCLAVE_ASSIGN: An ENCLAVE_CMD assign zeroes granules and gives them to an enclave (R395). -/
  | enclaveAssign (d : Dom) (id first count : Nat)
  /-- ENCLAVE_RELEASE: An ENCLAVE_CMD release zeroes granules of an enclave and returns them to general HBM (R395). -/
  | enclaveRelease (d : Dom) (id first count : Nat)
  /-- ENCLAVE_DESTROY: An ENCLAVE_CMD destroy zeroes every granule of an enclave and returns them (R395). -/
  | enclaveDestroy (d : Dom) (id : Nat)
  /-- SLICE_ENCLAVE_WRITE: A write of SLICE_ENCLAVE binds a slice's allocations to an enclave (R396). -/
  | sliceEnclaveWrite (d : Dom) (s v : Nat)
  /-- MENCLAVE_WRITE: An M-mode write of MENCLAVE sets the enclave tag of a hart's lower-mode accesses (R397). -/
  | menclaveWrite (hart : Nat) (v : BitVec 64)
  /-- M_MODE_TRAP: A trap into M-mode moves a hart into the secure world (R398). -/
  | mModeTrap (hart : Nat)
  /-- MRET: An mret to a lower mode zeroes registers except a0-a3 before the first instruction (R398). -/
  | mret (hart : Nat) (into : HartMode)
  /-- SECURE_HOLD_MASK_WRITE: A write of SECURE_HOLD_MASK sets which blocks the normal world may not stop (R399). -/
  | secureHoldMaskWrite (d : Dom) (data : List Byte)
  /-- NOTICE_ACK: A write of 1 to NOTICE_ACK ends the secure notice window early (R402). -/
  | noticeAck (d : Dom) (v : Nat)
  /-- NOTICE_TIMEOUT: NOTICE_MS elapses and the transition to OFF or DEEP SLEEP proceeds (R402). -/
  | noticeTimeout
  /-- SWD_KICK: A write of 0x4B43 to SWD_KICK restarts the secure watchdog timer (R403). -/
  | swdKick (d : Dom) (v : Nat)
  /-- SECURE_WATCHDOG: The secure watchdog expires and resets the whole chip but the Rearguard domain (R403). -/
  | secureWatchdog
  /-- KEY_PROGRAM: A write of KEY_PROGRAM blows a key hash into an unprogrammed owner slot (R405). -/
  | keyProgram (d : Dom) (data : List Byte)
  /-- KEY_REVOKE: A write of KEY_REVOKE revokes a key slot unless it is the last one (R405). -/
  | keyRevoke (d : Dom) (v : Nat)
  /-- ROLLBACK_ADVANCE: A write of ROLLBACK_ADVANCE raises the rollback floor of an image kind (R405). -/
  | rollbackAdvance (d : Dom) (data : List Byte)
  /-- DEBUG_FUSE: A write of 0x4446 to DEBUG_FUSE permanently blows the debug fuse (R407). -/
  | debugFuse (d : Dom) (v : Nat)
  /-- DEBUG_POLICY_WRITE: A write of DEBUG_POLICY sets grantable scopes and withdraws removed granted scopes at once (R408). -/
  | debugPolicyWrite (d : Dom) (v : Nat)
  /-- FMP_KEY_WRITE: A write of FMP_KEY sets the AES-128 key used for FMP tags (R28). -/
  | fmpKeyWrite (d : Dom) (data : List Byte)
  /-- DBG_CERT: A write of DBG_CERT supplies the debug certificate for the next response (R407). -/
  | dbgCert (d : Dom) (data : List Byte)
  /-- DBG_RESPONSE: A write of DBG_RESPONSE verifies the certificate and challenge and grants scopes or refuses (R407). -/
  | dbgResponse (d : Dom) (data : List Byte)
  /-- DEBUG_LOCKOUT_END: The 10 s refusal period after three failed responses ends (R407). -/
  | debugLockoutEnd
  /-- DBG_CMD: Writing 1 to DBG_CMD ends the debug session (R408). -/
  | dbgCmd (d : Dom) (v : Nat)
  /-- JTAG_TRST: A JTAG TRST ends any debug session and resets the TAP (R408). -/
  | jtagTrst
  /-- IDCODE: The IDCODE instruction selects the 32-bit identification register (R437). -/
  | idcode
  /-- DTMCS: The DTMCS instruction selects the debug transport control and status register (R437). -/
  | dtmcs
  /-- DMI: A DMI access reads or writes a debug module register within the granted scopes (R438). -/
  | dmi (write : Bool) (addr : Nat) (v : W32)
  /-- BYPASS: The BYPASS instruction, or any unsupported code, selects the 1-bit bypass register (R437). -/
  | bypass (code : Nat)
  /-- DM_HALT: A halt request halts a hart within scope, held for M-mode harts without SECURE (R439). -/
  | dmHalt (hart : Nat)
  /-- DM_RESUME: A resume request resumes a halted hart (R439). -/
  | dmResume (hart : Nat)
  /-- DM_SINGLE_STEP: A step with dcsr.step executes one instruction and halts, running M-mode handlers through (R439). -/
  | dmSingleStep (hart : Nat) (e : StepEffect)
  /-- ACCESS_REGISTER: An abstract Access Register command reads or writes a GPR, FPR or CSR within scope (R439). -/
  | accessRegister (hart : Nat) (write : Bool) (regno : Nat) (v : BitVec 64)
  /-- SYSTEM_BUS_ACCESS: A debug system bus access reads or writes memory with the tag of DBG_SBA_TAG (R440). -/
  | systemBusAccess (write : Bool) (size addr : Nat) (v : BitVec 64)
  /-- LATENCY_TOL_WRITE: A write of LATENCY_TOL_US or DWELL_US re-evaluates the deepest power state (R410). -/
  | latencyTolWrite (d : Dom) (sub v : Nat)
  /-- DWELL_EXPIRY: The fabric has been quiescent for DWELL_US and a deeper state may be entered (R409). -/
  | dwellExpiry
  /-- IDLE_ENTRY: The quiescent module gates island clocks and puts HBM in power-down (R409). -/
  | idleEntry
  /-- SLEEP_ENTRY: The module records stuck sources, stops firmware, parks PHYs and lowers the rail to retention (R411). -/
  | sleepEntry
  /-- DEEP_SLEEP_ENTRY: After notice the module saves firmware to UFS, signals the Rearguard and turns the rails off (R411). -/
  | deepSleepEntry
  /-- OFF_ENTRY: After notice the module puts the Rearguard in standby and turns off all but the keep-alive domain (R411). -/
  | offEntry
  /-- WAKE_SOURCE_EDGE: An enabled wake source edge or CAN/LIN wake pattern is accepted as a wake or held back (R421). -/
  | wakeSourceEdge (src edgeNs : Nat)
  /-- WAKE_TIMER: TB1 reaches WAKE_AT_NS in SLEEP or DEEP SLEEP and wakes the module (R420). -/
  | wakeTimer
  /-- WAKE_SUPPRESSION_END: A source's 100 ms suppression ends and a held-back wake is delivered if still active below RUN (R425). -/
  | wakeSuppressionEnd (src : Nat)
  /-- IDLE_EXIT: A doorbell, interrupt, inbound request or access ungates the islands and returns to RUN within 2 us (R418). -/
  | idleExit
  /-- SLEEP_EXIT: A wake raises the rail, releases islands, exits self-refresh and returns to RUN within 150 us (R412). -/
  | sleepExit
  /-- DEEP_SLEEP_EXIT: A wake raises the rails, retrains HBM, restores firmware from UFS and starts monitor and hypervisor (R413). -/
  | deepSleepExit (intact : Bool)
  /-- OFF_EXIT: A WAKE pin edge in OFF begins a power-on start (R415). -/
  | offExit
  /-- FUNCTION_ENABLE_WRITE: A write of CLUSTER_ENABLE, PCIE_ENABLE or UFS_ENABLE starts a shut-down or power-up of a function (R426). -/
  | functionEnableWrite (d : Dom) (sub v stopped : Nat)
  /-- FUNCTION_SHUTDOWN_DONE: A function's shut-down sequence reaches its end and the function is off, with a pending re-enable following (R426). -/
  | functionShutdownDone (f : Nat)
  /-- MAIN_SIDE_START: Main reset is released and the module verifies and starts its images up to the hypervisor (R428). -/
  | mainSideStart (k : BootImages)
  /-- SKEOT_LOAD: SBI SKEOT_LOAD copies and verifies a firmware image and starts the firmware cores (R431). -/
  | skeotLoad (mode : HartMode) (addr len node : Nat)
  /-- SKEOT_UPDATE: SBI SKEOT_UPDATE copies and verifies a new image while the running firmware serves (R435). -/
  | skeotUpdate (mode : HartMode) (addr len node : Nat)
  /-- SKEOT_STATUS: SBI SKEOT_STATUS returns a node's firmware STATE and ABORT (R430). -/
  | skeotStatus (mode : HartMode) (node : Nat)
  /-- MODULE_RESET: SBI MODULE_RESET resets and restarts the main side of a node (R434). -/
  | moduleReset (mode : HartMode) (node : Nat)
  /-- FIRMWARE_START: Verified firmware starts, builds or checks its tables, reaches STATE 2 and enters queued records (R431). -/
  | firmwareStart (tablesOk : Bool)
  /-- UPDATE_PAUSE_BEGIN: With the update verified and no access in progress, the old firmware writes its hand-off and restarts from the new slot (R435). -/
  | updatePauseBegin
  /-- HANDOFF_CHECK: The new firmware checks the hand-off and resumes serving, or rejects it and the old firmware restarts (R436). -/
  | handoffCheck (accepts : Bool) (pauseUs : Nat)
  /-- FW_FAULT: A firmware-core trap, parity failure or 5 ms lock-up holds the cores in reset with STATE 4 and FW_FAULT (R433). -/
  | fwFault (committed : Bool)
  /-- PMU_SNAPSHOT: A read of the counter page offset 0 latches all counters at one tick and returns the TB1 time (R442). -/
  | pmuSnapshot (r : Nat)
  /-- PMU_CLEAR: Writing 1 to PMU_CLEAR clears every counter at one tick (R441). -/
  | pmuClear (d : Dom) (v : Nat)
  /-- COUNTER_DUMP: Every DUMP_PERIOD_US all counters are latched and a dump record written, or dropped when full (R445). -/
  | counterDump
  /-- DUMP_RING_WRITE: A write of DUMP_BASE, DUMP_SLOTS_LOG2 or TAG_RING_BASE resets that ring's written and consumed counts (R445). -/
  | dumpRingWrite (d : Dom) (idx sub v : Nat)
  /-- COUNT_REFERENCE_TICK: At each tick of the 1 GHz count reference every time base adds its increment and each enabled engine adds 1 to one slot counter (R345). -/
  | countReferenceTick (issue : List EngineTick)
  /-- CAN_FRAME_TX: A queued frame wins arbitration and its transmission on a CAN channel ends, successfully or with an error that updates the error counters (R327). -/
  | canFrameTx (ch : Nat) (ok : Bool)
  /-- LIN_BUS_RECESSIVE: A LIN bus in fault becomes recessive again and LIN_STATE leaves 3 (R330). -/
  | linBusRecessive (ch : Nat)
  /-- DISPLAY_LINK_UP: A display output's A-PHY link comes up and LINK_STATE reads 1 (R292). -/
  | displayLinkUp (out : Nat)
  /-- CAMERA_FRAME_START: A CSI-2 frame start packet arrives on a camera input, is time-stamped on TB0 and, for CAM0 and CAM1 after take-over, also feeds the Rearguard (R379). -/
  | cameraFrameStart (cam : Nat)
deriving DecidableEq, Repr

end Sys2Proof
end

