-- ==== Sys2Proof/Machine/Codes.lean ====
section
/-! DEFINITION. The abort codes of Table DIC-8 and the 16-bit status values of the chapters' status tables. -/

namespace Sys2Proof.Machine

/-! ## Abort codes (R36, Table DIC-8) -/
namespace Ab

/-- time-out of a segmented, pieced or link transfer -/
abbrev timeout : Nat := 0x05040000
/-- unknown or unsupported command, TYPE or OP -/
abbrev unsupported : Nat := 0x05040001
/-- firmware has no buffer -/
abbrev noBuffer : Nat := 0x05040005
/-- the requester is not in the mask -/
abbrev domain : Nat := 0x06010000
/-- read of a wo entry -/
abbrev readWo : Nat := 0x06010001
/-- write of a const or ro entry -/
abbrev writeRo : Nat := 0x06010002
/-- index does not exist -/
abbrev noIndex : Nat := 0x06020000
/-- length does not match the type, or pieces out of order -/
abbrev length : Nat := 0x06070010
/-- subindex does not exist -/
abbrev noSub : Nat := 0x06090011
/-- value outside the permitted set -/
abbrev value : Nat := 0x06090030
/-- value too high -/
abbrev high : Nat := 0x06090031
/-- value too low -/
abbrev low : Nat := 0x06090032
/-- locked, or not applied as part of a failed WRITE_SET -/
abbrev locked : Nat := 0x08000020
/-- A device refusal: 0x0800_0000 with the status. -/
def refusal (status : Nat) : Nat := 0x08000000 + status

end Ab

/-! ## Status values, each under the name its chapter gives it -/
namespace St

abbrev ok : Nat := 0x0000
abbrev descOpcodeUnknown : Nat := 0x0101
abbrev descVersion : Nat := 0x0102
abbrev descReserved : Nat := 0x0103
abbrev descFieldRange : Nat := 0x0104
abbrev descAlias : Nat := 0x0105
abbrev descRedundantDenied : Nat := 0x0106
abbrev indexOutOfRange : Nat := 0x0107
abbrev formatUnsupported : Nat := 0x0120
abbrev formatPairInvalid : Nat := 0x0121
abbrev waitTimeout : Nat := 0x0140
abbrev kernelRejected : Nat := 0x0150
abbrev kernelBounds : Nat := 0x0151
abbrev kernelUnknown : Nat := 0x0152
abbrev handleUnknown : Nat := 0x0201
abbrev handleBounds : Nat := 0x0202
abbrev ringFault : Nat := 0x0203
abbrev bwOvercommit : Nat := 0x0210
abbrev guaranteeMissed : Nat := 0x0211
abbrev engineParity : Nat := 0x0220
abbrev hbmUncorrectable : Nat := 0x0221
abbrev quotaExceeded : Nat := 0x0301
abbrev sliceSuspended : Nat := 0x0302
abbrev queueBlockBusy : Nat := 0x0303
abbrev shareOvercommit : Nat := 0x0304
abbrev queueState : Nat := 0x0305
abbrev kvNoSpace : Nat := 0x0401
abbrev kvGrowDenied : Nat := 0x0402
abbrev kvFrozen : Nat := 0x0403
abbrev kvLengthExceeded : Nat := 0x0404
abbrev kvPositionInvalid : Nat := 0x0405
abbrev kvPoolBusy : Nat := 0x0406
abbrev kvListInvalid : Nat := 0x0407
abbrev tensorNoSpace : Nat := 0x0501
abbrev engineQuarantined : Nat := 0x0502
abbrev handleTableFull : Nat := 0x0503
abbrev noEngine : Nat := 0x0505
abbrev enginesActive : Nat := 0x0510
abbrev seraiOvercommit : Nat := 0x0511
abbrev linkDown : Nat := 0x0601
abbrev readDiscarded : Nat := 0x0602
abbrev nodeUnreachable : Nat := 0x0603
abbrev waystationFull : Nat := 0x0604
abbrev remoteWriteFailed : Nat := 0x0605
abbrev laneInvalid : Nat := 0x0606
abbrev topologyLimit : Nat := 0x0607
abbrev waystationOvercommit : Nat := 0x0608
abbrev roleConflict : Nat := 0x0609
abbrev inboundRefused : Nat := 0x060B
abbrev geometryOverflow : Nat := 0x0701
abbrev shaderRejected : Nat := 0x0702
abbrev shaderTimeout : Nat := 0x0703
abbrev passInvalid : Nat := 0x0704
abbrev shaderUnknown : Nat := 0x0705
abbrev gfxBounds : Nat := 0x0706
abbrev paramNoSpace : Nat := 0x0707
abbrev displayUnderflow : Nat := 0x0720
abbrev displayLinkDown : Nat := 0x0721
abbrev layerInvalid : Nat := 0x0722
abbrev outputBusy : Nat := 0x0723
abbrev noFreePath : Nat := 0x0801
abbrev collisionUnavoidable : Nat := 0x0802
abbrev timeLimited : Nat := 0x0803
abbrev invalidated : Nat := 0x0804
abbrev plnWorldInvalid : Nat := 0x0805
abbrev plnLatticeFull : Nat := 0x0806
abbrev plnLatticeInvalid : Nat := 0x0807
abbrev plnLatticeUnknown : Nat := 0x0808
abbrev plnRequestInvalid : Nat := 0x0809
abbrev plnLanesOvercommit : Nat := 0x080A
abbrev redundancyMismatch : Nat := 0x0901
abbrev frameUnverified : Nat := 0x0902
abbrev latentWindowExceeded : Nat := 0x0903
abbrev tfWrongAnswer : Nat := 0x0904
abbrev partitionDegraded : Nat := 0x0905
abbrev windowLate : Nat := 0x0906
abbrev selftestFailed : Nat := 0x0907
abbrev doubtEvent : Nat := 0x0908
abbrev handbackRefused : Nat := 0x0909
abbrev handbackDone : Nat := 0x090A
abbrev heartbeatLost : Nat := 0x090B
abbrev mainReset : Nat := 0x090C
abbrev takeoverForced : Nat := 0x090D
abbrev rgRestarted : Nat := 0x090E
abbrev partitionInvalid : Nat := 0x0910
abbrev partitionBusy : Nat := 0x0911
abbrev secureHold : Nat := 0x0A01
abbrev watermarkInvalid : Nat := 0x0A02
abbrev scrubBusy : Nat := 0x0A03
abbrev enclaveInvalid : Nat := 0x0A04
abbrev bootVerifyFailed : Nat := 0x0A06
abbrev debugDenied : Nat := 0x0A07
abbrev secureWatchdog : Nat := 0x0A08
abbrev secureAccess : Nat := 0x0A09
abbrev wakeStuck : Nat := 0x0B01
abbrev deepRestoreFailed : Nat := 0x0B02
abbrev pwrBusy : Nat := 0x0B03
abbrev powerLimitUnmet : Nat := 0x0B10
abbrev thermalSubfloor : Nat := 0x0B11
abbrev thermalHalt : Nat := 0x0B12
abbrev railSag : Nat := 0x0B13
abbrev tbStepSpent : Nat := 0x0B20
abbrev tbStepped : Nat := 0x0B21
abbrev tbOffsetLarge : Nat := 0x0B22
abbrev tb0SyncLost : Nat := 0x0B23
abbrev tbModeConflict : Nat := 0x0B24
abbrev fwFault : Nat := 0x0B30
abbrev fwTablesLost : Nat := 0x0B31
abbrev fwHandoffRejected : Nat := 0x0B32
abbrev pmuRingFault : Nat := 0x0B33
abbrev coolantReversed : Nat := 0x0B40
abbrev coolantFlowLow : Nat := 0x0B41
abbrev coolantSensorFault : Nat := 0x0B42
abbrev cameraPowerFault : Nat := 0x0B43
abbrev goOverload : Nat := 0x0B44
abbrev goOpenLoad : Nat := 0x0B45
abbrev harnessReversed : Nat := 0x0B46
abbrev gtwRouteInvalid : Nat := 0x0C01
abbrev gtwFenced : Nat := 0x0C02
abbrev canBusOff : Nat := 0x0C03
abbrev canDominantTimeout : Nat := 0x0C04
abbrev canBusFault : Nat := 0x0C05
abbrev linBusFault : Nat := 0x0C06
abbrev ethLinkDown : Nat := 0x0C07
abbrev ethCableFault : Nat := 0x0C08
abbrev gtwPortBusy : Nat := 0x0C09
abbrev tsnConfigInvalid : Nat := 0x0C0A
abbrev acuNotOwner : Nat := 0x0D01
abbrev acuLoadExceeded : Nat := 0x0D02
abbrev acuDiverged : Nat := 0x0D03
abbrev acuInputFault : Nat := 0x0D04
abbrev acuOutputFault : Nat := 0x0D05
abbrev acuStreamRate : Nat := 0x0D06
abbrev acuCoefInvalid : Nat := 0x0D07
abbrev acuBusy : Nat := 0x0D08

end St

end Sys2Proof.Machine
end

