-- ==== Sys2Proof/Machine/Crypto.lean ====
section
/-! DEFINITION. The published algorithms that the spec names: AES-128-CMAC (R28), SHA-384 and ECDSA P-384 (R405,
R407), CRC-32C and CRC-64/WE (R230, R365). -/

namespace Sys2Proof.Crypto

open Sys2Proof

/-! ## CRCs -/

/-- One bit of a CRC computed from the top bit down. -/
def crcStep (width poly crc : Nat) : Nat :=
  if crc.testBit (width - 1) then ((crc <<< 1) ^^^ poly) % 2 ^ width else (crc <<< 1) % 2 ^ width

def crcByte (width poly crc : Nat) (b : Byte) : Nat :=
  (List.range 8).foldl (fun c _ => crcStep width poly c) (crc ^^^ (b.toNat <<< (width - 8)))

/-- CRC-64/WE (R365). -/
def crc64 (bs : List Byte) : Nat :=
  bs.foldl (crcByte 64 0x42F0E1EBA9EA3693) 0xFFFFFFFFFFFFFFFF ^^^ 0xFFFFFFFFFFFFFFFF

/-- One bit of a reflected CRC. -/
def crcStepR (poly crc : Nat) : Nat := if crc % 2 = 1 then (crc >>> 1) ^^^ poly else crc >>> 1

/-- CRC-32C (Castagnoli), reflected. -/
def crc32c (bs : List Byte) : Nat :=
  bs.foldl (fun c b => (List.range 8).foldl (fun c _ => crcStepR 0x82F63B78 c) (c ^^^ b.toNat)) 0xFFFFFFFF ^^^ 0xFFFFFFFF

/-! ## AES-128 and CMAC -/

/-- Multiplication by x in the field of AES. -/
def xtime (a : Nat) : Nat := if a < 128 then 2 * a else (2 * a) ^^^ 0x11B

/-- Multiplication in the field of AES. -/
def gmul (a b : Nat) : Nat :=
  ((List.range 8).foldl (fun (p : Nat × Nat) i => (if b.testBit i then p.1 ^^^ p.2 else p.1, xtime p.2)) (0, a)).1

/-- The 254th power: the field's inverse, 0 for 0. -/
def ginv (a : Nat) : Nat :=
  let a2 := gmul a a
  let a4 := gmul a2 a2
  let a8 := gmul a4 a4
  let a16 := gmul a8 a8
  let a32 := gmul a16 a16
  let a64 := gmul a32 a32
  let a128 := gmul a64 a64
  gmul a128 (gmul a64 (gmul a32 (gmul a16 (gmul a8 (gmul a4 a2)))))

/-- The S-box of FIPS 197. -/
def sbox (a : Nat) : Nat :=
  let i := ginv a
  let rot := fun n : Nat => ((i <<< n) ||| (i >>> (8 - n))) % 256
  i ^^^ rot 1 ^^^ rot 2 ^^^ rot 3 ^^^ rot 4 ^^^ 0x63

def sboxTable : Array Nat := ((List.range 256).map sbox).toArray

def sub (a : Nat) : Nat := sboxTable.getD a 0

/-- The next round key from the present one. -/
def nextKey (k : List Nat) (rc : Nat) : List Nat :=
  let g := fun i : Nat => k.getD i 0
  let t := [sub (g 13) ^^^ rc, sub (g 14), sub (g 15), sub (g 12)]
  let w0 := (List.range 4).map fun i => g i ^^^ t.getD i 0
  let w1 := (List.range 4).map fun i => g (4 + i) ^^^ w0.getD i 0
  let w2 := (List.range 4).map fun i => g (8 + i) ^^^ w1.getD i 0
  let w3 := (List.range 4).map fun i => g (12 + i) ^^^ w2.getD i 0
  w0 ++ w1 ++ w2 ++ w3

def addKey (a k : List Nat) : List Nat := (a.zip k).map fun p => p.1 ^^^ p.2

def shiftRows (a : List Nat) : List Nat :=
  (List.range 16).map fun i => a.getD ((i + 4 * (i % 4)) % 16) 0

def mixColumns (a : List Nat) : List Nat :=
  (List.range 16).map fun i =>
    let c := i / 4 * 4
    let g := fun j : Nat => a.getD (c + (i + j) % 4) 0
    gmul (g 0) 2 ^^^ gmul (g 1) 3 ^^^ g 2 ^^^ g 3

/-- AES-128 of one block, as lists of byte values. -/
def aesBlock (key block : List Nat) : List Nat :=
  let r := (List.range 9).foldl (fun (p : List Nat × List Nat × Nat) _ =>
    let k := nextKey p.2.1 p.2.2
    (addKey (mixColumns (shiftRows (p.1.map sub))) k, k, xtime p.2.2)) (addKey block key, key, 1)
  addKey (shiftRows (r.1.map sub)) (nextKey r.2.1 r.2.2)

/-- A block as a number, most significant byte first, and back. -/
def beNat (bs : List Nat) : Nat := bs.foldl (fun a b => 256 * a + b) 0

def beBytes : Nat → Nat → List Nat
  | 0, _ => []
  | n + 1, v => v / 256 ^ n % 256 :: beBytes n v

/-- Doubling in the field of CMAC. -/
def cmacDouble (v : Nat) : Nat :=
  if v.testBit 127 then ((v <<< 1) % 2 ^ 128) ^^^ 0x87 else (v <<< 1) % 2 ^ 128

/-- AES-128-CMAC: the 16-byte tag of a message. -/
def cmac (key : List Byte) (msg : List Byte) : List Byte :=
  let k := key.map BitVec.toNat
  let m := msg.map BitVec.toNat
  let l := beNat (aesBlock k (List.replicate 16 0))
  let k1 := cmacDouble l
  let n := if m = [] then 1 else (m.length + 15) / 16
  let last := m.drop (16 * (n - 1))
  let lastBlock := if last.length = 16 then beNat last ^^^ k1
    else beNat (last ++ 0x80 :: List.replicate (15 - last.length) 0) ^^^ cmacDouble k1
  let x := (List.range (n - 1)).foldl (fun x i =>
    beNat (aesBlock k (beBytes 16 (x ^^^ beNat ((m.drop (16 * i)).take 16))))) 0
  (aesBlock k (beBytes 16 (x ^^^ lastBlock))).map (BitVec.ofNat 8)

/-! ## SHA-384 -/

/-- Integer root: the largest `r` below 2^n with `r ^ k ≤ v`, bit by bit. -/
def iroot (k v : Nat) : Nat → Nat → Nat
  | 0, r => r
  | n + 1, r => let t := r + 2 ^ n; if t ^ k ≤ v then iroot k v n t else iroot k v n r

def isPrime (n : Nat) : Bool := decide (2 ≤ n) && (List.range n).all fun d => decide (d < 2 ∨ n % d ≠ 0)

/-- The first 80 primes. -/
def primes80 : List Nat := (List.range 410).filter isPrime

/-- Round constants: fractional parts of cube roots. -/
def shaK : List Nat := primes80.map fun p => iroot 3 (p * 2 ^ 192) 68 0 % 2 ^ 64

/-- Initial values: fractional parts of the square roots of the ninth to sixteenth primes. -/
def shaInit : List Nat := ((primes80.drop 8).take 8).map fun p => iroot 2 (p * 2 ^ 128) 70 0 % 2 ^ 64

def m64 (v : Nat) : Nat := v % 18446744073709551616

def rotr (v n : Nat) : Nat := m64 ((v >>> n) ||| (v <<< (64 - n)))

/-- The message schedule, newest word first. -/
def schedule : Nat → List Nat → List Nat
  | 0, w => w
  | n + 1, w =>
    let g := fun i : Nat => w.getD i 0
    let s0 := rotr (g 14) 1 ^^^ rotr (g 14) 8 ^^^ (g 14 >>> 7)
    let s1 := rotr (g 1) 19 ^^^ rotr (g 1) 61 ^^^ (g 1 >>> 6)
    schedule n (m64 (g 15 + s0 + g 6 + s1) :: w)

/-- One compression of SHA-512. -/
def compress (h : List Nat) (block : List Nat) : List Nat :=
  let w0 := (List.range 16).map fun i => beNat ((block.drop (8 * i)).take 8)
  let w := (schedule 64 w0.reverse).reverse
  let r := (w.zip shaK).foldl (fun (v : List Nat) p =>
    let g := fun i : Nat => v.getD i 0
    let s1 := rotr (g 4) 14 ^^^ rotr (g 4) 18 ^^^ rotr (g 4) 41
    let ch := (g 4 &&& g 5) ^^^ ((18446744073709551615 - g 4) &&& g 6)
    let t1 := g 7 + s1 + ch + p.2 + p.1
    let s0 := rotr (g 0) 28 ^^^ rotr (g 0) 34 ^^^ rotr (g 0) 39
    let maj := (g 0 &&& g 1) ^^^ (g 0 &&& g 2) ^^^ (g 1 &&& g 2)
    [m64 (t1 + s0 + maj), g 0, g 1, g 2, m64 (g 3 + t1), g 4, g 5, g 6]) h
  (h.zip r).map fun p => m64 (p.1 + p.2)

/-- SHA-384 of a message: 48 bytes. -/
def sha384 (msg : List Byte) : List Byte :=
  let m := msg.map BitVec.toNat
  let pad := (239 - m.length % 128) % 128
  let full := m ++ 0x80 :: List.replicate pad 0 ++ beBytes 16 (8 * m.length)
  let h := (List.range (full.length / 128)).foldl (fun h i => compress h ((full.drop (128 * i)).take 128)) shaInit
  ((h.take 6).flatMap (beBytes 8)).map (BitVec.ofNat 8)

/-! ## ECDSA P-384 -/

def p384 : Nat := 2 ^ 384 - 2 ^ 128 - 2 ^ 96 + 2 ^ 32 - 1

def n384 : Nat :=
  0xFFFFFFFFFFFFFFFFFFFFFFFFFFFFFFFFFFFFFFFFFFFFFFFFC7634D81F4372DDF581A0DB248B0A77AECEC196ACCC52973

def b384 : Nat :=
  0xB3312FA7E23EE7E4988E056BE3F82D19181D9C6EFE8141120314088F5013875AC656398D8A2ED19D2A85C8EDD3EC2AEF

def g384 : Nat × Nat :=
  (0xAA87CA22BE8B05378EB1C71EF320AD746E1D3B628BA79B9859F741E082542A385502F25DBF55296C3A545E3872760AB7,
   0x3617DE4A96262C6F5D9E98BF9292DC29F8F41DBD289A147CE9DA3113B5F0B8C00A60B1CE1D7E819D7A431D7C90EA0E5F)

/-- Modular power by `n` bits of the exponent, from the lowest up. -/
def modPow (m : Nat) : Nat → Nat → Nat → Nat → Nat
  | 0, _, _, acc => acc
  | n + 1, b, e, acc => modPow m n (b * b % m) (e / 2) (if e % 2 = 1 then acc * b % m else acc)

/-- Inverse modulo a prime. -/
def modInv (m a : Nat) : Nat := modPow m 384 a (m - 2) 1

/-- A point of the curve in Jacobian coordinates: x = X / Z², y = Y / Z³, Z = 0 at infinity. -/
structure Point where
  x : Nat
  y : Nat
  z : Nat

/-- The difference modulo the prime, of a number below it or a product of two of them from the left. -/
def subMod (a b : Nat) : Nat := (a + (p384 - b % p384)) % p384

/-- Twice a point of y² = x³ − 3x + b. -/
def ecDouble (a : Point) : Point :=
  let delta := a.z * a.z % p384
  let gamma := a.y * a.y % p384
  let beta := a.x * gamma % p384
  let alpha := 3 * subMod a.x delta * (a.x + delta) % p384
  let x := subMod (alpha * alpha) (8 * beta)
  { x := x, y := subMod (alpha * subMod (4 * beta) x) (8 * gamma * gamma), z := 2 * a.y * a.z % p384 }

/-- Sum of two points. -/
def ecAdd (a b : Point) : Point :=
  if a.z = 0 then b
  else if b.z = 0 then a
  else
    let aa := a.z * a.z % p384
    let bb := b.z * b.z % p384
    let u := a.x * bb % p384
    let s := a.y * b.z * bb % p384
    let h := subMod (b.x * aa) u
    let r := subMod (b.y * a.z * aa) s
    if h = 0 then (if r = 0 then ecDouble a else { x := 1, y := 1, z := 0 })
    else
      let hh := h * h % p384
      let hhh := h * hh % p384
      let v := u * hh % p384
      let x := subMod (r * r) (hhh + 2 * v)
      { x := x, y := subMod (r * subMod v x) (s * hhh), z := a.z * b.z * h % p384 }

/-- A multiple of a point, by `n` bits of the factor from the highest down. -/
def ecMul : Nat → Nat → Point → Point
  | 0, _, _ => { x := 1, y := 1, z := 0 }
  | n + 1, k, p =>
    let r := ecDouble (ecMul n (k / 2) p)
    if k % 2 = 1 then ecAdd r p else r

/-- Signature `r ‖ s` over a message under a key `x ‖ y`, all big-endian (FIPS 186-5, with SHA-384). -/
def ecdsaVerify (key sig msg : List Byte) : Bool :=
  let num := fun bs : List Byte => beNat (bs.map BitVec.toNat)
  let x := num (key.take 48)
  let y := num (key.drop 48)
  let r := num (sig.take 48)
  let s := num (sig.drop 48)
  if x ≥ p384 ∨ y ≥ p384 ∨ (y * y) % p384 ≠ (x * x * x + (p384 - 3) * x + b384) % p384 ∨ r = 0 ∨ r ≥ n384 ∨ s = 0
    ∨ s ≥ n384 then false
  else
    let z := num (sha384 msg)
    let w := modInv n384 s
    let q := ecAdd (ecMul 384 (z * w % n384) { x := g384.1, y := g384.2, z := 1 })
      (ecMul 384 (r * w % n384) { x := x, y := y, z := 1 })
    if q.z = 0 then false
    else
      let i := modInv p384 q.z
      decide (q.x * i % p384 * i % p384 % n384 = r)

end Sys2Proof.Crypto
end

