-- ==== Sys2Proof/Config.lean ====
section
/-! DEFINITION. What an implementation fixes and what the spec leaves open: constants without a body. Nothing in
Lean can evaluate them, so a statement about them holds for every value. -/

namespace Sys2Proof.Config

/-- The uses to which a free value is put; each names a log entry. -/
inductive Use where
  /-- TYPE_CODE of a reply about an entry that does not exist. -/
  | typeCode
  /-- An identifier or a handle the module chooses. -/
  | handle
  /-- An address the module chooses for an allocation. -/
  | address
  /-- A choice among engines, units, tiles or order where the spec gives no rule. -/
  | choice
  /-- A challenge or another unpredictable number. -/
  | random
  /-- A byte or a value of data the spec calls undefined or does not state. -/
  | data
  /-- A result of a function known only within a bound. -/
  | result
  /-- Contents of a record or a message of which the spec gives only part. -/
  | detail
  /-- What a buffer at the next hop has passed on since it was last seen (R231). -/
  | credit
deriving DecidableEq, Repr

/-- The free value number `n` of a use: unconstrained. -/
opaque free : Use → Nat → Nat

/-- A function of operands whose value the spec does not state: unconstrained. The first argument names the
function, the list its operands. -/
opaque fn : Nat → List Nat → Nat

/-- An access of a workgroup to a binding: a read of bytes at an offset, or a write (R101). -/
inductive Access where
  | read (binding offset bytes : Nat)
  | write (binding offset : Nat) (data : List Byte)
deriving DecidableEq, Repr, Inhabited

/-- What a shader accesses next: a function of the modules' code and the operands of the dispatch or draw, and of the values it
has read, latest first. The spec does not state what SPIR-V means. -/
opaque access (key seen : List Nat) : Access

/-- What a fragment shader computes for a fragment: kill, FragDepth, and four colour outputs of four components, FP32 codes. -/
structure Fragment where
  kill : Bool
  depth : Nat
  colours : List Nat
deriving DecidableEq, Repr, Inhabited

/-- Whether a primitive covers a sample, and its depth there as an FP32 code: the spec fixes no rasterisation rule, and
positions are a vertex shader's result. -/
opaque covers (key seen : List Nat) : Option Nat
opaque shades (key seen : List Nat) : Fragment

/-- The modules cabled below this one, where a requester that is no operand of the command finds them: entry i is module
i + 1, with the module it hangs on and that module's port (R225). -/
opaque cabling : List (Nat × Nat)

/-- Factory constants of the one module at hand (R10, R338, R405). -/
opaque serial : Nat
opaque engineMac : Nat
opaque mfgKeyHash : List Byte

end Sys2Proof.Config
end

