-- ==== Sys2Proof/Machine/State.lean ====
section
/-! DEFINITION. The state of the module: plain data. A dictionary entry (every setting and every readable register of
the chapters' entry tables) has one home, the table `dict`, whose unlisted entries stand at the default of the
entry list in Machine/Entries.lean; everything else the spec gives the machine is a field of one of the records
below. Every field has its value at module reset as its default value. -/

namespace Sys2Proof.Machine

open Sys2Proof

/-- A stored dictionary value: a number (two's complement for the INTEGER types, the bit pattern for REAL) or a
string of bytes. -/
inductive DVal where
  | num (n : Nat)
  | oct (b : List Byte)
deriving DecidableEq, Repr

/-- What the block sends: the output log keeps it, newest first. -/
inductive Output where
  /-- A dictionary access answered on a path: abort code (0 on success) and the data of a read. -/
  | answer (p : Path) (abort : Nat) (data : List Byte)
  /-- An FMP datagram sent from port 46120. -/
  | udp (dst dstPort : Nat) (payload : List Byte)
  /-- A NOTIFY frame for the error record in the named ring slot, to an address and port: the datagram, its tag included. -/
  | notify (dest : List Byte) (slot : Nat) (frame : List Byte)
  /-- A message-signalled interrupt: PASID (0 for the hypervisor), address, data. -/
  | msi (pasid addr data : Nat)
  /-- A value a register read or a load returns to its requester; `none` is a fault or an abort of the access. -/
  | readData (v : Option Nat)
  /-- Bytes a load returns; `none` is an access fault. -/
  | loadData (v : Option (List Byte))
  /-- A Plomor frame on a PCIe port. -/
  | plomor (port : Nat) (f : Frame)
  /-- A frame on a CAN (0-15) or LIN (0x20 + n) channel. -/
  | bus (ch : Nat) (f : BusFrame)
  /-- A LIN header with its identifier. -/
  | linHeader (ch id : Nat)
  /-- A wake-up pulse on a LIN channel. -/
  | linWake (ch : Nat)
  /-- An Ethernet frame at an egress port. -/
  | eth (port : Nat) (f : EthFrame)
  /-- An AVTPDU of the frame engine: stream, sequence number, sequence flag, messages. -/
  | avtpdu (stream seq : Nat) (msgs : List AcfMsg)
  /-- Audio output samples of a TDM frame: output channel and sample. -/
  | audio (samples : List (Nat × Nat))
  /-- A frame scanned out of a display output: its number, and its pixels row by row as R + 256 G + 65536 B. -/
  | scan (out frame : Nat) (pixels : List Nat)
  /-- A Rearguard frame on CAN0 and CAN1. -/
  | rearguard (ch id : Nat) (data : List Byte)
  /-- An SBI call's return: error code and value. -/
  | sbi (error : Int) (value : Nat)
  /-- The notice interrupt on the security processor (R402). -/
  | secInterrupt
  /-- A step of the power sequence, as the harness can see it. -/
  | power (what : Nat)
deriving DecidableEq, Repr

/-! ## The object dictionary (02_object_dictionary.md) -/

/-- One dictionary access as a path brings it. `src` tells sources of one path apart (the FMP source address). -/
structure Access where
  path : Path
  dom : Dom
  src : Nat := 0
  write : Bool
  idx : Nat
  sub : Nat
  off : Nat := 0
  len : Nat := 0
  data : List Byte := []
  more : Bool := false
  /-- The access comes over a link, from the manager module's hypervisor (R32). -/
  mgr : Bool := false
  /-- For a record of a WRITE_SET: the sum of the bandwidth guarantees after all its records (R264). -/
  bwSum : Option Nat := none
deriving DecidableEq, Repr

/-- A dictionary window (R31). -/
structure Window where
  /-- DW_OFFSET, 32 bits; reset 0. -/
  offset : Nat := 0
  /-- DW_STATUS[63:32] ABORT; reset 0. -/
  abort : Nat := 0
  /-- DW_STATUS[17] LOST; reset 0. -/
  lost : Bool := false
  /-- DW_STATUS[16] BUSY; reset 0. -/
  busy : Bool := false
  /-- DW_STATUS[15:0] LENGTH; reset 0. -/
  length : Nat := 0
  /-- The data buffer of 65,280 B at 0x0100; reset zero (DESIGN CHOICE, log 1). -/
  buf : NMap Byte := []
  /-- Buffer bytes that software wrote while BUSY, which a waiting access sees undefined (R31). -/
  raced : List Nat := []
  /-- The request being performed came over a link, from node 0 (R32). -/
  mgr : Bool := false
deriving DecidableEq, Repr

/-- A request that waits while firmware is not running (R35). -/
inductive Held where
  | access (a : Access)
  /-- A request written to a window's DW_REQ. -/
  | window (w : Space) (req : Nat)
  | fmp (d : Datagram)
  | usdo (r : UsdoReq)
  | usdoAbort
  /-- An access committed before a firmware fault: only its answer is still to be sent (R35). -/
  | answered (p : Path) (o : Output)
  /-- The same through a window: abort code, length and the bytes that a read places in the buffer. -/
  | windowResult (w : Space) (abort length : Nat) (data : List Byte)
  /-- An FMP datagram that node 0 forwarded in a MESSAGE of the given tag (R32). -/
  | forwarded (node tag : Nat) (bytes : List Byte)
deriving DecidableEq, Repr

/-- A pieced write of a DOMAIN in progress (R30): the source that began it, the bytes so far, the TB1 time of the
last piece. -/
structure Pieced where
  path : Path
  src : Nat
  data : List Byte
  last : Nat
deriving DecidableEq, Repr

/-- The USDO session (R26): direction, entry, size announced, bytes moved or still to be sent, time of the last
service. -/
structure UsdoSession where
  upload : Bool
  idx : Nat
  sub : Nat
  size : Nat
  data : List Byte
  last : Nat
deriving DecidableEq, Repr

/-- A cached FMP reply (R28). -/
structure FmpReply where
  src : Nat
  seq : Nat
  time : Nat
  reply : List Byte
  /-- The request was forwarded and its reply is still to come (R32). -/
  waiting : Bool := false
deriving DecidableEq, Repr

/-- An error record (R37). -/
structure ErrRec where
  status : Nat
  source : Nat
  tb1 : Nat
  tb0 : Nat
  detail : List Byte
  acked : Bool := false
deriving DecidableEq, Repr

structure DictState where
  /-- Windows other than at reset, by space key. -/
  windows : List (Space × Window) := []
  /-- Requests held while firmware is not running, oldest first. -/
  held : List Held := []
  /-- Pieced transfers open, by entry key. -/
  pieced : NMap (Option Pieced) := []
  /-- Sources whose pieced transfer was abandoned: entry key, path, source. -/
  abandoned : List (Nat × Path × Nat) := []
  usdo : Option UsdoSession := none
  /-- Last FRESHNESS accepted per source address. -/
  fresh : NMap (Option Nat) := []
  /-- The last 16 requests per source with their replies, newest first. -/
  fmpCache : List FmpReply := []
  /-- The ring of 1,024 records by slot (record 0x3001 + slot). -/
  records : NMap (Option ErrRec) := []
  /-- Records raised while firmware is not running (at most 256), oldest first (R37, R436). -/
  hwQueue : List ErrRec := []
  /-- Communication entries stored in UFS (R25); kept over resets. Reset: none stored (DESIGN CHOICE, log 2). -/
  ufsComm : Option (NMap (Option DVal)) := none
  /-- RESTORE_COMM was written and takes effect at the next reset (R25). -/
  restorePending : Bool := false
deriving DecidableEq, Repr

/-! ## The pace governor and supply behaviour (03_handshake_timing_and_supply.md) -/

/-- What a loop asks of the ceiling until its next sample (R47, R48). -/
inductive LoopAct where
  | hold
  /-- One step of 10 steps/µs per window. -/
  | lower
deriving DecidableEq, Repr

structure GovState where
  /-- Ceiling that takes effect at the next window boundary, and the core voltage that follows it (R44, R54). -/
  pendCeiling : Option Nat := none
  pendMv : Option Nat := none
  /-- Ceiling that waits for the regulator to settle (R54). -/
  afterSettle : Option Nat := none
  /-- The regulator's output stands settled at its target. -/
  settled : Bool := true
  /-- The ceiling each loop allows; none while it does not bind. -/
  powerCap : Option Nat := none
  thermalCap : Option Nat := none
  powerAct : LoopAct := .hold
  thermalAct : LoopAct := .hold
  /-- The thermal loop may go below 800 steps/µs (R49). -/
  subfloor : Bool := false
  /-- TB1 time since which the ceiling has stood below 800 and above 0 (R50), and whether it has raised its doubt event. -/
  subSince : Option Nat := none
  subDoubted : Bool := false
  /-- Thermal halt (R51). -/
  halt : Bool := false
  /-- The next window opens at 800 steps/µs after a thermal halt or sub-floor pacing has ended. -/
  release : Bool := false
  /-- POWER_LIMIT_UNMET has been recorded and power has not fallen to the limit since (R47). -/
  unmetSaid : Bool := false
  /-- Steps each engine has issued in the present pace window (R43). -/
  used : NMap Nat := []
  /-- The last ten samples of input power, in 0.1 W, newest first; the steps of the last 100 windows, newest first. -/
  powers : List Nat := []
  steps : List Nat := []
  /-- Clocks of the islands on the core rail are gated (R55). -/
  gated : Bool := false
  /-- A target below 0.66 V that waits for the gates. -/
  heldTarget : Option Nat := none
  /-- A release of the islands' clocks that waits for the regulator (R55). -/
  heldRelease : Bool := false
  /-- A RAIL_SAG record has been added since RAIL_MIN_CLEAR (R58). -/
  sagSaid : Bool := false
  /-- The core rail in mV: its level once settled, else the level from which it moves toward the target, and since when
  on TB1 (R53, R54). -/
  rail : Nat := 750
  railSince : Nat := 0
  /-- The always-on rail is without power (R42, R347). -/
  dark : Bool := false
deriving DecidableEq, Repr

/-! ## The key-value cache (07_attention_and_kv_cache.md) -/

/-- A chunk slot of a sequence region: which chunk of the sequence it holds, the prefix node it is mapped to (0 none),
and its own pages where it is not. -/
structure KvChunk where
  abs : Nat
  node : Nat := 0
  pages : List Nat := []
deriving DecidableEq, Repr

/-- A pool beside its entries, by slice × 16 + number: the pages on its free list, those of them reserved for open
committed regions, and how many pages it holds. -/
structure KvPool where
  free : List Nat := []
  reserved : Nat := 0
  held : Nat := 0
deriving DecidableEq, Repr

/-- A prefix node (R140 to R143): its pool, parent node (0 the root), hash, token bytes, pages, and use order. -/
structure KvNode where
  pool : Nat
  parent : Nat
  hash : Nat
  tokens : List Byte
  pages : List Nat
  lastUse : Nat
deriving DecidableEq, Repr

/-- A sequence region (R136, Table ATT-4). -/
structure KvSeq where
  pool : Nat
  window : Bool
  committed : Bool
  maxChunks : Nat
  header : List Nat
  chunks : NMap (Option KvChunk) := []
  /-- 0 ACTIVE, 1 FROZEN by growth, 2 FROZEN by length. -/
  state : Nat := 0
  prefixChunks : Nat := 0
  denied : Nat := 0
  length : Nat := 0
  pendingPos : Option Nat := none
  /-- PENDING_LAYERS as a number. -/
  pendingLayers : Nat := 0
  /-- Pages still reserved for the region's chunks. -/
  reserved : Nat := 0
  /-- It was closed; it goes with the last reference (R144). -/
  closed : Bool := false
deriving DecidableEq, Repr

structure KvState where
  pools : NMap KvPool := []
  /-- Open sequences by handle. -/
  seqs : NMap (Option KvSeq) := []
  nodes : NMap (Option KvNode) := []
  lastNode : Nat := 0
  useCount : Nat := 0
deriving DecidableEq, Repr
/-! ## Memory and bandwidth (11_memory_and_bandwidth_regulation.md) -/

/-- A mapping the host has made: `bytes` at `va` of a PASID stand at physical address `pa` (R196, log 5). -/
structure Mapping where
  pasid : Nat
  va : Nat
  bytes : Nat
  pa : Nat
deriving DecidableEq, Repr

/-- The regulator's state of one class. -/
structure BwClass where
  /-- BW_GUARANTEE and BW_CAP in force in this window (R258). -/
  guarantee : Nat := 0
  cap : Nat := 0
  /-- Charged bytes in this window. -/
  charged : Nat := 0
  /-- Guarantee in force in the previous window, for R266. -/
  prevGuarantee : Nat := 0
  /-- TB1 time since which a request of the class is held (R260, R262). -/
  heldSince : Option Nat := none
  /-- TB1 time of the last cause-2 record (R267). -/
  lastMissed : Option Nat := none
  /-- Lasting cause 1 of a class 0 reservation above the deliverable figure has been raised. -/
  raised : Bool := false
deriving DecidableEq, Repr

/-- An allocation in general HBM: base, bytes, owning slice, kind (R214, R254). -/
structure Alloc where
  base : Nat
  bytes : Nat
  slice : Nat
  kind : Nat
deriving DecidableEq, Repr

/-- A request held at its master (R260, R262): by the class's cap, or by the feedback of a pseudo-channel. -/
structure HeldReq where
  m : Requester
  write : Bool
  addr : Nat
  len : Nat
  data : List Byte
  report : HbmReport
  pc : Option Nat
deriving DecidableEq, Repr

structure MemState where
  /-- HBM bytes by physical address; an unlisted byte reads as `blank` says. -/
  cells : NMap Byte := []
  /-- How often the contents of the stack have become undefined since power-on (R413, R428): 0 at reset, where an unlisted
  byte reads 0 (DESIGN CHOICE, log 4). -/
  epoch : Nat := 0
  /-- Ranges that hardware has filled since then, newest first: start, end, and 0 for zeros or one more than the seed of
  free contents. -/
  zeroed : List (Nat × Nat × Nat) := []
  /-- Granules whose data is poisoned (R255). -/
  poisoned : List Nat := []
  maps : List Mapping := []
  allocs : List Alloc := []
  classes : NMap BwClass := [(0, { guarantee := 400, prevGuarantee := 400 })]
  /-- BW_WINDOW_US in force (R258). -/
  windowUs : Nat := 10
  /-- TB1 time of the present window's start. -/
  windowStart : Nat := 0
  /-- Open row per pseudo-channel: row number + 1, 0 none (R251). Reset none (DESIGN CHOICE, log 6). -/
  openRow : NMap Nat := []
  /-- Pseudo-channels whose borrowed requests are held by the feedback of R262. -/
  feedback : List Nat := []
  /-- Requests held at their masters, oldest first (R260, R262). -/
  heldReqs : List HeldReq := []
  /-- TB1 time of the last SECURE_ACCESS record by requester port (R389). -/
  lastRefusal : NMap (Option Nat) := []
deriving DecidableEq, Repr

/-! ## Tensor engines and placement (05_tensor_engines.md, 08_placement_stealing_and_preemption.md) -/

/-- ENGINE_STATE of one engine (Table TEN-19). -/
inductive EngState where
  | off
  | enabling
  | on
  | disabling
deriving DecidableEq, Repr

/-- A tile: descriptor number `n` of queue `q`, tile number, priority level, acceptance order. -/
structure Tile where
  q : Nat
  n : Nat
  t : Nat
  prio : Nat
  order : Nat
  /-- 0 no pair; 1 run A; 2 run B (R363). -/
  run : Nat := 0
  /-- Mismatches of the tile so far (R366, R367). -/
  mism : Nat := 0
  /-- Partition + 1 whose tuning frame the tile belongs to, 0 none (R370). -/
  tuning : Nat := 0
  /-- What its wait has caused (R184): 0 nothing, 1 a deferral that is counted, 2 its one pre-emption. -/
  asked : Nat := 0
  /-- It waits to be dealt again after a reservation, quarantine or disable (R195). -/
  again : Bool := false
  /-- Bytes of its state in a save slot, and the partition plus one for whose window it was saved, 0 none (R186, R257). -/
  live : Nat := 0
  forPart : Nat := 0
deriving DecidableEq, Repr

/-- Why an engine is asked to stop at its next pre-emption point (R184, R189). -/
inductive StopFor where
  | priority
  | window
deriving DecidableEq, Repr

structure Engine where
  state : EngState := .off
  /-- A request that waits for the present sequence (R113). -/
  wantEnable : Bool := false
  wantDisable : Bool := false
  /-- Last abort point reached while disabling: 0, 1 (A1), 2 (A2). -/
  abort : Nat := 0
  quarantined : Bool := false
  /-- Cause of R191. -/
  cause : Nat := 0
  /-- The steal queue, ordered by acceptance; levels by each tile's priority (R179). -/
  queue : List Tile := []
  running : Option Tile := none
  stop : Option StopFor := none
  /-- The array self-test after a mismatch runs, for the tile it holds (R366). -/
  selftest : Option Tile := none
  /-- TB1 times of ENGINE_PARITY completions within the last second (R191). -/
  parity : List Nat := []
  /-- A retest of R194 is under way. -/
  retest : Bool := false
deriving DecidableEq, Repr

/-- An entry of the residency table (R170 to R172): a tensor, or a view of tensor `parent`. -/
structure TEntry where
  view : Bool := false
  gen : Nat
  slice : Nat
  bytes : Nat
  cls : Nat := 0
  /-- 0: the module allocated the home; 1: the home is at `home` in the slice's address space; 2: it is a lane's part
  of the receive staging buffer (R244). -/
  backing : Nat := 0
  noSerai : Bool := false
  /-- 0xFF this module, else the node of a tier 5 home. -/
  node : Nat := 0xFF
  home : Nat := 0
  parent : Nat := 0
  offset : Nat := 0
  /-- The handle was released; storage stays until the last reference goes. -/
  released : Bool := false
deriving DecidableEq, Repr

/-- A copy of a whole tensor in the Serai (R165). -/
structure Copy where
  slice : Nat
  data : List Byte
  dirty : Bool
  /-- Its write-back to a tier 5 home is on the way; it is dropped on the ACK (R241). -/
  leaving : Bool := false
  lastUse : Nat
deriving DecidableEq, Repr

/-- What the module holds when an engine stages a tile's operands (R164): memory, the copies in the Serai, and the tensors
that stand in that engine's scratchpad. -/
structure Stage where
  mem : MemState := {}
  serai : NMap (Option Copy) := []
  pads : NMap (Option (List Byte)) := []
deriving DecidableEq, Repr

structure PlaceState where
  engines : NMap Engine := []
  /-- Tiles that wait while no engine may take them. -/
  undealt : List Tile := []
  /-- Engine that received the last run of the previous deal; 15 at reset, so the first run goes to the first engine. -/
  lastRun : Nat := 15
  /-- Save slots 0-47 (R187). -/
  slots : NMap (Option Tile) := []
  table : NMap (Option TEntry) := []
  /-- Last generation of each table entry; 0 before its first use (DESIGN CHOICE, log 9). -/
  gens : NMap Nat := []
  serai : NMap (Option Copy) := []
  /-- Tensors that a PREFETCH to tier 2 staged into the scratchpad of an engine and that stand there still, with their bytes,
  by engine × 2²⁰ + entry (R98, R164, R177). -/
  pads : NMap (Option (List Byte)) := []
  /-- Output tiles kept in tier 1 for the next descriptor of a queue, by queue: that descriptor's number, and the engine of
  each tile plus one (R167). -/
  tier1 : NMap (Option (Nat × NMap Nat)) := []
  useCount : Nat := 0
  /-- Loaded kernels by slice × 4096 + ID: the module's bytes as a number, plus one (R100). -/
  kernels : NMap (Option Nat) := []
deriving DecidableEq, Repr

/-! ## Queues and slices (09_queues_slices_and_contexts.md) -/

/-- The states of Table QUE-5. -/
inductive QState where
  | unconfigured
  | disabled
  | enabled
  | halted
  | disabling
deriving DecidableEq, Repr

/-- Where a descriptor stands between its fetch and its record. -/
inductive DPhase where
  /-- Accepted, waiting to begin (a fence, a hazard, a share or a free unit). -/
  | accepted
  /-- Begun: dealt, walking or waiting for its condition. -/
  | running
  /-- Its effect is complete; the record is to be written in ring order. -/
  | done
deriving DecidableEq, Repr

/-- A descriptor fetched and not yet completed (R88, R102). -/
structure Desc where
  /-- The 64 B as fetched. -/
  w : BitVec 512
  phase : DPhase := .accepted
  /-- Acceptance failed or the descriptor was refused at fetch: it has no effect. -/
  rejected : Bool := false
  status : Nat := 0
  detail : Nat := 0
  /-- Lowest-numbered engine concerned, 0xFF none. -/
  engine : Nat := 0xFF
  /-- The arithmetic flags of R76. -/
  aflags : Nat := 0
  /-- Tiles the descriptor is cut into, and tiles not yet drained. -/
  tiles : Nat := 0
  left : Nat := 0
  /-- Tagged for a tag record (R444), with the times kept for it. -/
  tagged : Bool := false
  tFetch : Nat := 0
  /-- First step, or the deal where no tile has begun. -/
  tDeal : Nat := 0
  started : Bool := false
  /-- TB1 time at which the doorbell that published it was accepted. -/
  tBell : Nat := 0
  /-- Slots of its tiles: retired, wasted, back-starved (R443, R444). -/
  retired : Nat := 0
  wasted : Nat := 0
  starved : Nat := 0
  tDone : Nat := 0
  /-- Deadline on TB1 of a waiting WAIT or CARAVAN_SEND. -/
  deadline : Option Nat := none
  /-- Output destinations bound at acceptance: bit i set binds output i to the Serai (R166). -/
  serai : Nat := 0
  /-- Number in the module's order of acceptance. -/
  order : Nat := 0
  /-- The redundant pair's run, 1 or 2; 0 while not a pair (R363). -/
  run : Nat := 0
  /-- Address and bytes of the conversion buffer held (R125). -/
  conv : Option (Nat × Nat) := none
  /-- Tiles whose outputs are undefined, and tiles that wrote nothing (R108, R367). -/
  undef : List Nat := []
  unwritten : List Nat := []
  /-- Entries of the residency table whose release waits for this descriptor's record (R89). -/
  held : List Nat := []
  /-- Objects that the descriptor reads and writes, for the hazards of R103: table entries of tensors, and the
  objects of other families under keys above them. -/
  reads : List Nat := []
  writes : List Nat := []
  /-- What the family fixed for the descriptor at its acceptance. -/
  fixed : List Nat := []
  /-- Tensors whose bytes the descriptor reads, those that it also writes included (R164, R168). -/
  inputs : List Nat := []
  /-- The placement policy at its acceptance (R177): 0x2603:02 to 0x2603:07 and 0x2605:01. -/
  policy : List Nat := []
  /-- The next descriptor reads the output tiles as its old C, and they stay in tier 1 (R167). -/
  keep : Bool := false
  /-- The engine that drained each tile, plus one. -/
  place : NMap Nat := []
  /-- What stood when a tile began, by tile (R164). -/
  stages : NMap (Option Stage) := []
deriving DecidableEq, Repr

/-- A queue (R196 to R206). -/
structure Queue where
  state : QState := .unconfigured
  /-- RING_LOG2, CRING_LOG2, PRIORITY, FLAGS, RING_VA, CRING_VA, MSI_ADDR, MSI_DATA, HOLDOFF_US of Table QUE-3. -/
  ringLog2 : Nat := 0
  cringLog2 : Nat := 0
  priority : Nat := 0
  msiEnable : Bool := false
  ringVa : Nat := 0
  cringVa : Nat := 0
  msiAddr : Nat := 0
  msiData : Nat := 0
  holdoffUs : Nat := 0
  /-- Produced, fetched, written, consumed: 32-bit free-running counts. -/
  p : Nat := 0
  f : Nat := 0
  wr : Nat := 0
  c : Nat := 0
  haltStatus : Nat := 0
  /-- The context is on chip (R207). -/
  resident : Bool := false
  /-- The queue's bit of the pending bitmap, with the TB1 time at which it was set (R209). -/
  pendingSince : Option Nat := none
  /-- Use order for the least-recently-used choice of R208. -/
  lastUse : Nat := 0
  /-- A descriptor is between its fetch and its deal (R207). -/
  inWork : Bool := false
  /-- Accepted doorbells that published descriptors not yet fetched: P, and the TB1 time (R444). -/
  bells : List (Nat × Nat) := []
  /-- TB1 time of the last completion interrupt, and one merged and waiting (R220). -/
  lastIrq : Option Nat := none
  irqHeld : Bool := false
  /-- Descriptors fetched and not completed, by descriptor number. -/
  desc : NMap (Option Desc) := []
deriving DecidableEq, Repr

/-- State of a slice beside its dictionary entries. -/
structure Slice where
  /-- E, the count of the slice's events (R221). -/
  events : Nat := 0
  /-- The next record carries OVERFLOW. -/
  overflow : Bool := false
  lastIrq : Option Nat := none
  irqHeld : Bool := false
  /-- TB1 time at which the grace timer started (R216). -/
  graceStart : Option Nat := none
  /-- Engine time used in the present window, in ticks of the count reference, 1 ns each (R218). -/
  windowNs : Nat := 0
  /-- The share in force in this window (R219). -/
  shareNow : Nat := 0
  /-- Sync counters 0-255, 64 bits each, 0 at slice creation (R99). -/
  sync : NMap Nat := []
deriving DecidableEq, Repr

structure QueueState where
  queues : NMap Queue := []
  slices : NMap Slice := []
  /-- The last pending queue served (R209). -/
  lastServed : Nat := 0
  /-- Use counter of the context cache. -/
  useCount : Nat := 0
  /-- Number of descriptors accepted so far. -/
  acceptCount : Nat := 0
  /-- Window length in force (R219). -/
  windowUsNow : Nat := 1000
deriving DecidableEq, Repr

/-! ## Multi-module links (10_multi_module_systems.md) -/

/-- What a bulk read is for (R241). -/
structure BulkTag where
  q : Nat
  n : Nat
  /-- The tier 5 tensor, and where its piece lies in it. -/
  root : Nat
  off : Nat
  len : Nat
  node : Nat
  time : Nat
deriving DecidableEq, Repr

/-- What a small read in flight is for (R239, R243, R32). -/
inductive SmallFor where
  | reader (r : Reader)
  /-- The pending bitmap of a child. -/
  | bitmap
  /-- Signal word `s` of the node. -/
  | word (s : Nat)
  /-- An FMP datagram forwarded to the node. -/
  | fmp (d : Datagram)
  /-- A ring slot of a queue in another node's memory, with the number of its descriptor (R229). -/
  | slot (q n : Nat)
deriving DecidableEq, Repr

structure SmallTag where
  what : SmallFor
  node : Nat
  time : Nat
deriving DecidableEq, Repr

/-- What waits for an ACK. -/
inductive AckFor where
  /-- A store of a hart through a confirmed window, with its target address (R238). -/
  | store (hart addr : Nat)
  /-- A write-back to a tier 5 home that a descriptor must await (R241). -/
  | writeBack (q n root : Nat)
  /-- The write-back of an evicted copy. -/
  | evict (root : Nat)
  /-- A batch sent by a CARAVAN_SEND (R247). -/
  | batch (q n seq : Nat)
  /-- A completion record of a queue in another node's memory, with its descriptor's TAG (R229). -/
  | record (q tag : Nat)
  /-- An event record of a slice in another node's memory. -/
  | event (k : Nat)
deriving DecidableEq, Repr

structure WriteTag where
  what : AckFor
  node : Nat
  time : Nat
deriving DecidableEq, Repr

/-- A tier 5 tensor being read for a descriptor: next byte to ask for. -/
structure RemoteFetch where
  q : Nat
  n : Nat
  root : Nat
  next : Nat
deriving DecidableEq, Repr

/-- A batch that is landing: bytes landed from the start of its slot, and tag and class of its frames. -/
structure LaneBatch where
  landed : Nat
  tag : Nat
  cls : Nat
deriving DecidableEq, Repr

/-- A lane of the receive staging buffer: where its part begins in the buffer, and the batches landed in part or not yet
handled, by SEQ (R247). -/
structure Lane where
  base : Nat := 0
  batches : NMap (Option LaneBatch) := []
deriving DecidableEq, Repr

/-- What the sending bridge holds of a destination lane, by node × 64 + lane (R246). -/
structure SendLane where
  free : Nat := 0
  nextSeq : Nat := 0
deriving DecidableEq, Repr

/-- A frame in a bridge: its place among all frames the bridge took, when it came (TB1), whether it is the completion of a
SIGNAL_RC, and the port it came over, none for a frame of this module (R231, R233, R240, R242). -/
structure QFrame where
  frame : Frame
  order : Nat
  time : Nat
  follows : Bool := false
  came : Option Nat := none
deriving DecidableEq, Repr

structure LinkState where
  bulk : NMap (Option BulkTag) := []
  fetches : List RemoteFetch := []
  /-- Landed bytes of tier 5 tensors by table entry. -/
  landing : NMap (List Byte) := []
  small : NMap (Option SmallTag) := []
  writes : NMap (Option WriteTag) := []
  lanes : NMap Lane := []
  send : NMap SendLane := []
  /-- Sends accepted and waiting, in acceptance order: queue, number, TB1 time of acceptance. -/
  waiting : List (Nat × Nat × Nat) := []
  /-- The 64 signal words, and the 192-bit pending bitmap (R242). -/
  words : NMap Nat := []
  pendingBits : Nat := 0
  /-- The nodes that enumeration gave IDs, as a 192-bit number; NODES_PRESENT loses the bits of those behind a link that is
  down (R249, R250). -/
  known : Nat := 0
  /-- Frames that wait to leave, oldest first, by port × 12 + type × 4 + class: those that fit 16 KiB stand in the transmit
  buffer, the rest where they came from (R231). -/
  queued : NMap (List QFrame) := []
  /-- Bytes of the buffer at the next hop that are taken as far as this bridge knows, by the same key (R231). -/
  used : NMap Nat := []
  /-- Place of each port in the 4 : 2 : 1 turn of classes 2, 1 and 0 (R231). -/
  turn : NMap Nat := []
  /-- Frames taken by the bridge so far. -/
  order : Nat := 0
  /-- Frames for this module that the cap of a bandwidth class holds, oldest first: port, frame, class (R260). -/
  parked : List (Nat × Frame × Nat) := []
  /-- The parent's node ID, as its HELLO gave it (R225); none at reset. -/
  parent : Option Nat := none
  /-- A HELLO of the parent has come and no assignment since (R225, R250). -/
  helloed : Bool := false
  /-- Port A began its training with COMPAT_MODE 1 (R222). -/
  narrow : Bool := false
  /-- The area of HBM lent to tier 5 homes of other modules: base and bytes (R228, R235); none at reset. -/
  lent : Option (Nat × Nat) := none
deriving DecidableEq, Repr

/-! ## Raster graphics and display (12_raster_graphics_and_display.md) -/

/-- A draw of a pass with the state bound at it (Table GFX-4): shader IDs, the payload of BIND_PIPELINE, viewport, push
constants and the draw's own packet as numbers, its scissor and viewport box (upper ends excluded), its primitives, the
handles bound to buffer and texture slots, and of an indexed draw the handle, index bytes, first index and count. -/
structure GfxDraw where
  vs : Nat
  fs : Nat
  pipeline : Nat
  view : Nat
  push : Nat
  call : Nat
  box : Nat × Nat × Nat × Nat
  prims : Nat
  bufs : NMap Nat
  texs : NMap Nat
  indexed : Option (Nat × Nat × Nat × Nat)
deriving DecidableEq, Repr

/-- A pass being drawn (R270, R279 to R285). -/
structure GfxPass where
  q : Nat
  n : Nat
  slice : Nat
  prio : Nat
  order : Nat
  draws : List GfxDraw := []
  /-- Primitives of the pass that the tile drawn alone keeps (R280); none: all of them. -/
  keep : Option Nat := none
  /-- Primitives submitted, and the bytes their records would take. -/
  prims : Nat := 0
  recBytes : Nat := 0
  /-- Shaders named, and buffers bound at a draw. -/
  shaders : List Nat := []
  bufs : List Nat := []
  /-- First tile row and height of the band in hand; its one tile column where a single row is drawn tile by tile. -/
  top : Nat := 0
  height : Nat := 0
  col : Option Nat := none
  /-- The geometry has been walked at least once. -/
  walked : Bool := false
  /-- Undrawn tiles of the four pipes, by tile number in the image. -/
  runs : List (List Nat) := []
  /-- Tiles of the band not yet stored or abandoned. -/
  left : Nat := 0
  status : Nat := 0
  detail : Nat := 0
deriving DecidableEq, Repr

/-- An undrawn tile that a pipe has loaded ahead (R276): its pass, number, loaded rows by attachment, and whether a load
failed. -/
structure GfxAhead where
  q : Nat
  n : Nat
  tile : Nat
  loads : List (List Byte)
  undef : Bool
deriving DecidableEq, Repr

/-- A raster pipe: the pass and tile it owns, the TB1 time at which drawing began, what the tile loaded, and the tiles that
its tile memory holds ahead. -/
structure GfxPipe where
  pass : Option (Nat × Nat) := none
  tile : Nat := 0
  began : Nat := 0
  loads : List (List Byte) := []
  undef : Bool := false
  ahead : List GfxAhead := []
deriving DecidableEq, Repr

structure GfxState where
  /-- Loaded shaders by slice × 4096 + ID: the module's bytes as a number, and its stage. -/
  shaders : NMap (Option (Nat × Nat)) := []
  /-- The parameter buffer of a slice: address and bytes. -/
  params : NMap (Option (Nat × Nat)) := []
  /-- Acceptance count at the last write of PARAM_BUFFER_BYTES, by slice. -/
  paramOrder : NMap Nat := []
  passes : List GfxPass := []
  pipes : NMap GfxPipe := []
deriving DecidableEq, Repr

/-- A GFX_PRESENT that is ready (R289). -/
structure Present where
  q : Nat
  n : Nat
  image : Nat
  root : Nat
  reproj : Nat
  /-- Codes of RQW, RQX, RQY, RQZ. -/
  pose : List Nat
deriving DecidableEq, Repr

/-- A layer of an output, by output × 4 + layer. -/
structure Layer where
  /-- LAYER_SLICE, X, Y, W, H, FMT, ALPHA, REPROJ_F, CX, CY in force since the last latch point (R287). -/
  cfg : List Nat := [0xFF, 0, 0, 0, 0, 0, 255, 0, 0, 0]
  /-- Ready presents, oldest first. -/
  ready : List Present := []
  /-- Taken at a latch point and not yet scanned out. -/
  latched : Option Present := none
  /-- The image shown last. -/
  shown : Option Present := none
  /-- What the next frame shows: 0 nothing, 1 the latched image, 2 the shown one again, 3 warped. -/
  mode : Nat := 0
  /-- The pose read at the latch point. -/
  latest : List Nat := []
deriving DecidableEq, Repr

structure DispState where
  layers : NMap Layer := []
deriving DecidableEq, Repr

/-! ## Motion planner (13_motion_planner.md) -/

/-- A search state of a plan (R302): where it stands from the start in 1/256 m, its heading bin, speed class and time, its
cost g and its f (codes of REAL32), the state and primitive it came from. -/
structure PNode where
  dx : Int
  dy : Int
  heading : Nat
  cls : Nat
  t : Nat
  g : Nat
  f : Nat
  parent : Nat := 0
  prim : Nat := 0
  /-- Position rounded to RES, heading, class, time slice. -/
  key : List Int
  /-- 0 open, 1 expanded, 2 merged into one of lower cost, 3 reached the goal, 4 reached the horizon. -/
  kind : Nat := 0
deriving DecidableEq, Repr

/-- A PLN_PLAN from its acceptance to its response. -/
structure Plan where
  q : Nat
  n : Nat
  slice : Nat
  prio : Nat
  order : Nat
  lanes : Nat
  lattice : Nat
  budgetUs : Nat
  finalUs : Nat
  world : Nat
  resp : Nat
  scratch : Nat
  /-- The request record as read at acceptance (R299). -/
  req : List Byte
  /-- Lanes granted; none while the plan waits. -/
  held : List Nat := []
  /-- 0 waiting for its grant, 1 searching, 2 the search has ended. -/
  phase : Nat := 0
  /-- START, TB1. -/
  start : Nat := 0
  timeLimited : Bool := false
  stateFull : Bool := false
  genSearch : Nat := 0
  /-- Lowest clearance along the stop, and its time (codes of REAL32). -/
  stopMin : Nat := 0
  stopT : Nat := 0
  rounds : Nat := 0
  expansions : Nat := 0
  nodes : List PNode := []
  /-- Status and DETAIL of a memory failure met while reading. -/
  status : Nat := 0
  detail : Nat := 0
deriving DecidableEq, Repr

structure PlnState where
  /-- Loaded lattices by slice × 8 + ID: the tensor's bytes. -/
  lattices : NMap (Option (List Byte)) := []
  plans : List Plan := []
deriving DecidableEq, Repr

/-! ## Acoustic engine (14_acoustic_engine.md) -/

/-- A coefficient set: the dimensions it was loaded for, and its FP32 codes. -/
structure CoefSet where
  dims : List Nat
  codes : List Nat
deriving DecidableEq, Repr

/-- One sample of every channel, as FP32 codes by channel number. -/
abbrev ChannelFrame := List Nat

structure AcuState where
  /-- Present FP32 code of input channels: M0-M31 as 0-31, A0-A15 as 32-47. -/
  value : NMap Nat := []
  /-- Consecutive unchanged samples of a channel, and samples that changed since it was stuck (R319). -/
  same : NMap Nat := []
  changed : NMap Nat := []
  stuck : List Nat := []
  /-- AAF streams ignored under R311. -/
  ignored : List Nat := []
  /-- Loaded sets by slice × 4 + kind, and sets that wait for the next boundary (R324). -/
  sets : NMap (Option CoefSet) := []
  shadow : NMap (Option CoefSet) := []
  /-- Running control taps [R][S][L]. -/
  taps : List Nat := []
  /-- ANC_MU, ANC_LEAK, ANC_OUT_LIMIT in force (R314). -/
  cfg : List Nat := []
  /-- Input frames of the block being captured, of the captured block, and anti-noise of the processed block and of
  the block being output, oldest first (R316). -/
  capture : List ChannelFrame := []
  ready : Option (List ChannelFrame) := none
  result : Option (List ChannelFrame) := none
  sending : List ChannelFrame := []
  /-- Input frames that the filter has seen, and anti-noise frames, newest first. -/
  seen : List ChannelFrame := []
  sent : List ChannelFrame := []
  /-- Samples of the fade so far; none while no fade runs (R317). -/
  fade : Option Nat := none
  /-- Frames captured since VOICE_CMD 1, and the TB2 times of the first samples of frames not yet written. -/
  voiceFrames : Nat := 0
  voiceTimes : List Nat := []
  /-- Samples of the playback frame still to play, and frames played (R322). -/
  play : List ChannelFrame := []
  played : Nat := 0
deriving DecidableEq, Repr

/-! ## The vehicle gateway (15_vehicle_gateway.md) -/

/-- A CAN channel. -/
structure CanChannel where
  /-- 0 off, 1 error active, 2 error passive, 3 bus-off, 4 fault; CAN_STATE reads 5 in its place under the fence. -/
  st : Nat := 0
  /-- The transmit buffer of 64 frames, oldest first (R327). -/
  tx : List BusFrame := []
  /-- Transmit and receive error counts. -/
  txErr : Nat := 0
  rxErr : Nat := 0
  /-- Bus-off recovery has begun (R328). -/
  recovering : Bool := false
deriving DecidableEq, Repr

/-- A LIN channel: the data routed to its published frames, by frame ID, and the schedule's position (R330). -/
structure LinChannel where
  slots : NMap (Option (List Byte)) := []
  pos : Nat := 0
deriving DecidableEq, Repr

/-- A gate control list: entries (gates, ns), base and cycle in ns (R332). -/
structure GateList where
  entries : List (Nat × Nat)
  base : Nat
  cycle : Nat
deriving DecidableEq, Repr

structure GtwState where
  can : NMap CanChannel := []
  lin : NMap LinChannel := []
  /-- The open AVTPDU of each transmit stream, with the TB1 time of its first message. -/
  building : NMap (List AcfMsg) := []
  opened : NMap Nat := []
  /-- Sequence numbers: the next to send, and the last received. -/
  seqTx : NMap Nat := []
  seqRx : NMap (Option Nat) := []
  /-- TB1 time at which a route last passed a frame, by entry (MIN_GAP_US). -/
  lastPass : NMap (Option Nat) := []
  /-- Learned addresses: MAC, VID, port; newest first (Table GTW-6). -/
  fdb : List (Nat × Nat × Nat) := []
  /-- Egress queues by port × 8 + class, oldest first. -/
  queues : NMap (List EthFrame) := []
  /-- Credit of the credit-based shapers in 10⁻⁶ bit, and the TB1 time it was reckoned at, by port × 8 + class (R332). -/
  credit : NMap (Int × Nat) := []
  /-- Gate control lists in operation and pending, by port. -/
  gcl : NMap (Option GateList) := []
  gclPend : NMap (Option GateList) := []
  /-- Pins reported reversed since module reset: connector × 256 + first pin (R453). -/
  reversed : List Nat := []
deriving DecidableEq, Repr

/-! ## Time bases (16_time_bases.md) -/

/-- One time base: its value in units of 2⁻⁴⁸ ns, and what is to happen at the next tick (R345, R351). -/
structure TimeBase where
  value : Nat := 0
  pendStep : Option Nat := none
  pendIncr : Option Nat := none
deriving DecidableEq, Repr

structure TimeState where
  bases : NMap TimeBase := []
  /-- Latched sub-second parts by requester × 8 + base (R348); reset 0. -/
  snap : NMap Nat := []
  /-- Joint latches by requester × 8 + base (R349); reset 0. -/
  joint : NMap Nat := []
  /-- Switch ports whose operating gate list holds its gates since a step of TB0, with the gates held plus one (R353). -/
  gateHold : NMap Nat := []
deriving DecidableEq, Repr

/-! ## Safety (17_safety_mechanisms.md) -/

/-- Where a window of an active partition stands in the present major frame (R359, R189, R361). -/
inductive WPhase where
  | idle
  | lead
  | running
deriving DecidableEq, Repr

structure WinState where
  phase : WPhase := .idle
  /-- TB1 time of the window's start. -/
  start : Nat := 0
  /-- Engines that were not free at the window's start and have not joined it (R361). -/
  late : List Nat := []
  /-- The window is recorded as late. -/
  recorded : Bool := false
deriving DecidableEq, Repr

/-- A tuning frame in the present major frame (R370, R371). -/
inductive TfPhase where
  | idle
  /-- Past TF_OFFSET: the window's engines take no new tile of the partition. -/
  | waiting
  /-- Tiles run. -/
  | running
  /-- Judged. -/
  | ended
deriving DecidableEq, Repr

structure TfState where
  phase : TfPhase := .idle
  /-- Engines that have begun a tuning-frame tile. -/
  begun : List Nat := []
  /-- The frame is already unverified. -/
  failed : Bool := false
  /-- The decomposition pinned at activation: the mask of the window's engines. -/
  pinned : Nat := 0
  /-- The frame is a calibration (R372). -/
  calib : Bool := false
deriving DecidableEq, Repr

/-- What the self-tests keep of one unit (R373 to R376). -/
structure DroneUnit where
  /-- TB1 time from which the pass and its interval run: the end of the previous pass, or the unit's entry into service. -/
  since : Nat := 0
  /-- Slices of the present pass that have run, passed or failed, and a failure among them. -/
  ran : Nat := 0
  failed : Bool := false
  running : Bool := false
  claimed : Bool := false
  /-- The interval record, and the doubt event, of this pass have been raised. -/
  exceeded : Bool := false
  doubled : Bool := false
deriving DecidableEq, Repr

/-- An entry of the Rearguard's own log (R386). -/
structure TakeoverLog where
  cause : Nat
  rgTime : Nat
  tb0 : Nat
  handback : Nat := 0
  detail : List Byte := []
deriving DecidableEq, Repr

/-- The Rearguard and its time base; a main-side reset leaves it alone (R16). -/
structure Rearguard where
  /-- 0 monitoring, 1 engaged, 2 holding, 3 ready, 5 starting. -/
  state : Nat := 5
  cause : Nat := 0
  takeovers : Nat := 0
  /-- Its own time base, ns. -/
  time : Nat := 0
  /-- COUNTER of the status frame. -/
  counter : Nat := 0
  /-- Causes signalled by the safety monitor and not acted on yet (R377); latched while in state 5 (R379). -/
  signals : List Nat := []
  /-- Fence held on CAN0 and CAN1 (R340). -/
  fence : Bool := false
  /-- Its overlay is composed on DO0, from and until a latch (Table SAF-11, R384). -/
  overlay : Bool := false
  /-- Cameras of CAM0 and CAM1 whose frames reach the Rearguard. -/
  cameras : List Nat := []
  /-- A lock-step restart is under way (R382). -/
  restarting : Bool := false
  /-- TB1 time from which RQ bits 1 and 2 count: the take-over, or the doubt event that last cleared them (R383). -/
  qualFrom : Nat := 0
  /-- Self-test units with a full pass since then, without failure. -/
  passed : List Nat := []
  /-- Consecutive verified frames since the take-over, by partition. -/
  verified : NMap Nat := []
  /-- TB1 time since which heartbeats have been present. -/
  beatSince : Option Nat := none
  /-- Slot of the newest entry of the take-over log, and the log, kept in UFS. -/
  newest : Nat := 0
  log : NMap (Option TakeoverLog) := []
  loggedCount : Nat := 0
  /-- The main side has entered reset other than by a controlled power-down, and MAIN_RESET is still to be raised (R378). -/
  resetSeen : Bool := false
  /-- The reason that the last MAIN_RESET named, for its log. -/
  resetCause : Nat := 0
  /-- Its own time of the last status frame. -/
  lastFrame : Option Nat := none
deriving DecidableEq, Repr

structure SafetyState where
  /-- Partitions whose deactivation waits for the boundary (R358). -/
  deactivating : List Nat := []
  windows : NMap WinState := []
  tuning : NMap TfState := []
  /-- TB1 time, in ns, of the major-frame boundary begun last (R359). -/
  frameStart : Option Int := none
  /-- The window layout in force: it applies from the first boundary after the first activation (R359). -/
  layoutInForce : Bool := false
  drone : NMap DroneUnit := []
  /-- TB1 time of the last heartbeat; none since the main-side reset at first (log 7). -/
  lastBeat : Option Nat := none
  /-- The heartbeat check is suspended until this TB1 time; `some 0` while the cores are stopped. -/
  beatSuspended : Option Nat := none
  beatLost : Bool := false
  /-- The 64 safety records by slot: record, partition, engine. -/
  ring : NMap (Option (ErrRec × Nat × Nat)) := []
deriving DecidableEq, Repr

/-! ## Isolation and security (18_isolation_and_security.md) -/

/-- A key slot in fuses (R405). -/
structure KeySlot where
  hash : List Byte
  revoked : Bool := false
deriving DecidableEq, Repr

structure SecState where
  /-- The watermark in force (R391); reset 0x00_1000_0000. -/
  watermark : Nat := 0x10000000
  /-- The value a lower is scrubbing toward, none when no lower runs (R392). -/
  target : Option Nat := none
  /-- Enclave + 1 by granule; 0 none (Table SEC-4). -/
  granules : NMap Nat := []
  /-- Owner key slots, rollback floors by KIND, debug fuse, DEBUG_EPOCH: fuses, kept over resets. Reset: nothing
  blown (DESIGN CHOICE, log 8). -/
  slots : NMap (Option KeySlot) := []
  floors : NMap Nat := []
  debugFuse : Bool := false
  epoch : Nat := 0
  /-- VERSION of the running image by KIND (R405). -/
  running : NMap Nat := []
  /-- FMP_KEY, none until the secure world writes it (Table SEC-9). -/
  fmpKey : Option (List Byte) := none
  /-- TB1 time at which the secure watchdog's timer last restarted, none while it does not run (R403). -/
  swdStart : Option Nat := none
  /-- TB1 time at which the debug module halted the security processor, which pauses the timer. -/
  swdPaused : Option Nat := none
  /-- TB1 time at which the notice window began (R402). -/
  noticeStart : Option Nat := none
  /-- Debug session: challenge, certificate supplied, scopes granted, consecutive refusals, end of the lock-out. -/
  challenge : List Byte := []
  cert : Option (List Byte) := none
  scope : Nat := 0
  refusals : Nat := 0
  lockout : Bool := false
  /-- TB1 time of the refusal that locked the port, or of the last one before it. -/
  lockedAt : Nat := 0
deriving DecidableEq, Repr

/-! ## Power states (19_power_states.md) -/

structure PwrState where
  /-- The main side is held in reset until its start (R428). -/
  inReset : Bool := true
  /-- The start to come is one from power-on, which samples the COMPAT pin (R38). -/
  cold : Bool := true
  /-- The state being entered and how far the entry has come: 1 in the notice window, then before the abort points still to
  come, at last past the last of them (Table PWR-4). -/
  entering : Option (Nat × Nat) := none
  /-- An accepted wake that has not been served: source and raw edge (R411, R420). -/
  wake : Option (Nat × Nat) := none
  /-- Firmware cores and security processor stand stopped by a power state. -/
  stopped : Bool := false
  /-- The fabric has been quiescent for DWELL_US (R409). -/
  dwell : Bool := false
  /-- TB1 time at which the fabric was last seen not quiescent (R409). -/
  busyAt : Nat := 0
  /-- TB1 time of the last abandoned entry of a state (Table PWR-3, bit 8). -/
  abandoned : NMap (Option Nat) := []
  /-- TB1 time of each source's last accepted wake, and the edges held back with their raw time (R425). -/
  lastWake : NMap (Option Nat) := []
  held : NMap (Option Nat) := []
  /-- Stuck sources that must first go inactive (R424). -/
  stuck : List Nat := []
  /-- WAKE_AT_NS whose wake has been given. -/
  timerDone : Nat := 0
  /-- The resume copy stands in UFS (R411). -/
  resumeCopy : Bool := false
  /-- The Rearguard has been told of a controlled power-down (R378). -/
  controlled : Bool := false
  /-- Functions being shut down, and those to be enabled again after it (R426): 0–2 clusters, 3–6 ports, 7 UFS. -/
  shutting : List Nat := []
  reenable : List Nat := []
  /-- Records that the next main-side start adds. -/
  bootRecords : List Nat := []
deriving DecidableEq, Repr

/-! ## Start-up, firmware, debug, counters (20_startup_firmware_and_debug.md) -/

/-- An access in progress when the firmware cores faulted (R35). -/
structure TagInfo where
  q : Nat
  n : Nat
deriving DecidableEq, Repr

structure FwState where
  /-- STATE of SKEOT_STATUS: 0 not loaded, 1 loading, 2 running, 3 updating, 4 faulted. -/
  state : Nat := 0
  /-- ABORT of the last load or update. -/
  abort : Nat := 0
  /-- The firmware cores run (R433): false while held in reset. -/
  coresRun : Bool := false
  /-- In the pause of a live update (R435): accesses are held. -/
  paused : Bool := false
  /-- Image slot in use, and the VERSION of its image. -/
  slot : Nat := 0
  version : Nat := 0
  /-- VERSION of the image copied to the other slot for an update. -/
  nextVersion : Nat := 0
  /-- The copy in the other slot has been verified. -/
  verified : Bool := false
  /-- The hand-off record stands in the firmware range. -/
  handoff : Bool := false
  /-- TB1 time at which the pause began. -/
  pauseBegan : Nat := 0
  /-- Firmware has built its tables since the last main-side reset. -/
  tables : Bool := false
  /-- Firmware serves 0x1000-0x20FF only, its tables being lost (R433). -/
  tablesLost : Bool := false
  /-- Records lost because the hardware queue was full, not yet counted (R436). -/
  lost : Nat := 0
  /-- State and ABORT of the firmware of other nodes, as the manager knows them (R432). -/
  nodes : NMap (Nat × Nat) := []
  /-- Bytes of an image that the manager is sending in MESSAGE frames (R432). -/
  incoming : List Byte := []
deriving DecidableEq, Repr

/-- One hart: 0-23 application, 24-27 firmware, 28 security processor. -/
structure Hart where
  /-- Privilege mode; M after reset. -/
  mode : HartMode := .m
  halted : Bool := false
  haltPending : Bool := false
  resetHalt : Bool := false
  haveReset : Bool := true
  resumeAck : Bool := false
  pc : BitVec 64 := 0
  x : NMap (BitVec 64) := []
  f : NMap (BitVec 64) := []
  /-- Vector registers by number (their widths are the implementation's). -/
  v : NMap (BitVec 64) := []
  /-- CSRs by number. -/
  csr : NMap (BitVec 64) := []
  /-- MENCLAVE, 64 bits (R397). -/
  menclave : BitVec 64 := 0
deriving DecidableEq, Repr

structure DebugState where
  /-- TAP instruction register, 5 bits; IDCODE after test-logic reset (R437). -/
  ir : Nat := 1
  /-- Debug module: dmactive, hartsel, hasel, hart array mask. -/
  dmactive : Bool := false
  hartsel : Nat := 0
  hasel : Bool := false
  hawindow : Nat := 0
  hawindowsel : Nat := 0
  cmderr : Nat := 0
  command : Nat := 0
  abstractauto : Nat := 0
  data : NMap Nat := []
  progbuf : NMap Nat := []
  sbaccess : Nat := 2
  sbautoinc : Bool := false
  sbreadonaddr : Bool := false
  sbreadondata : Bool := false
  sberror : Nat := 0
  sbaddress : Nat := 0
  sbdata : Nat := 0
  /-- dmi operation status of the transport. -/
  dmistat : Nat := 0
  dmiData : Nat := 0
  dmiAddr : Nat := 0
deriving DecidableEq, Repr

structure CounterState where
  /-- Counters 0-503 (R441). -/
  counts : NMap Nat := []
  /-- Latched counters by requester × 512 + index, with the time at index 511 (R442). -/
  latch : NMap Nat := []
  /-- Ticks held against an engine's running tile (R443). -/
  heldTicks : NMap Nat := []
  /-- Descriptors still to fetch before the next one is tagged (R444). -/
  tagNext : Nat := 0
  /-- TB1 time of the last dump (R445). -/
  lastDump : Nat := 0
deriving DecidableEq, Repr

/-! ## Module hardware (21_module_hardware.md) -/

/-- A sample of the coolant sensors, in 0.01 °C, with the input power in 0.1 W. -/
structure CoolSample where
  ta : Int
  tb : Int
  power : Nat
deriving DecidableEq, Repr

structure HwState where
  /-- Cameras found open (1) or switched off for overcurrent (2). -/
  cam : NMap Nat := []
  /-- Cameras whose frames arrive: from a frame's start until their power is off. -/
  receiving : List Nat := []
  /-- TB0 time of the last frame start packet by camera (R350). -/
  camTime : NMap Nat := []
  /-- Outputs whose open load has been recorded since they were switched on (R455). -/
  goOpen : List Nat := []
  /-- The coolant samples of the last 5 s, newest first (at most 50). -/
  cool : List CoolSample := []
  /-- A direction has been found since power-on (R458). -/
  dirKnown : Bool := false
  /-- The direction last found is reversed. -/
  dirReversed : Bool := false
  /-- Consecutive samples in which two working sensors differ by more than 5 °C. -/
  differ : Nat := 0
  /-- COOLANT_SENSOR_FAULT has been added since module reset. -/
  sensorSaid : Bool := false
deriving DecidableEq, Repr

/-! ## The whole machine -/

structure State where
  /-- The commands that wait, first in, first out. -/
  pending : List Instr := []
  /-- The model's own count of free values drawn; a free value is an opaque constant applied to it (log 3). -/
  freeCount : Nat := 0
  /-- The object dictionary's stored values by entry key; an unlisted entry stands at its default (R21). -/
  dict : NMap (Option DVal) := []
  /-- What the block has sent, newest first. -/
  out : List Output := []
  dic : DictState := {}
  que : QueueState := {}
  mem : MemState := {}
  plc : PlaceState := {}
  time : TimeState := {}
  saf : SafetyState := {}
  sec : SecState := {}
  rg : Rearguard := {}
  fw : FwState := {}
  harts : NMap Hart := []
  dbg : DebugState := {}
  ctr : CounterState := {}
  lnk : LinkState := {}
  kv : KvState := {}
  gfx : GfxState := {}
  dsp : DispState := {}
  pln : PlnState := {}
  acu : AcuState := {}
  gtw : GtwState := {}
  gov : GovState := {}
  hw : HwState := {}
  pwr : PwrState := {}
deriving DecidableEq, Repr

/-- The module right after reset: nothing listed anywhere, every register at its default. -/
def State.reset : State := {}

/-- Reasons for which the machine stops. No command of the table has one: a refused access answers an abort code, a
failed descriptor a status, and both are effects. The one constructor stands for an access to an address that the
spec's map does not list, made by no requester (raised by nothing; safe). -/
inductive Fault where
  | unlistedAddress
deriving DecidableEq, Repr

/-- Reasons for which a command has no meaning in the model. -/
inductive Refusal where
  /-- The command's arm is not written yet (raised by Dispatch.lean only; safe). -/
  | notModelled (mnemonic : String)
deriving DecidableEq, Repr

end Sys2Proof.Machine
end

