-- ==== Sys2Proof/Machine/Entries.lean ====
section
/-! DEFINITION. The object dictionary's entries: index, subindex, type, access, domains, default and permitted
values, chapter by chapter, as the chapters' entry tables give them (R21 to R24). -/

namespace Sys2Proof.Machine

open Sys2Proof

/-- Type codes of Table DIC-1. -/
inductive Ty where
  | bool | i8 | i16 | i32 | u8 | u16 | u32 | r32 | vis | oct | dom | r64 | i64 | u64
deriving DecidableEq, Repr

/-- The code of a type (Table DIC-1). -/
def Ty.code : Ty → Nat
  | .bool => 0x0001 | .i8 => 0x0002 | .i16 => 0x0003 | .i32 => 0x0004 | .u8 => 0x0005 | .u16 => 0x0006
  | .u32 => 0x0007 | .r32 => 0x0008 | .vis => 0x0009 | .oct => 0x000A | .dom => 0x000F | .r64 => 0x0011
  | .i64 => 0x0015 | .u64 => 0x001B

/-- The size of a fixed-size type; 0 for the strings and DOMAIN. -/
def Ty.size : Ty → Nat
  | .bool | .i8 | .u8 => 1 | .i16 | .u16 => 2 | .i32 | .u32 | .r32 => 4 | .r64 | .i64 | .u64 => 8
  | .vis | .oct | .dom => 0

/-- Types whose value is read as a signed number. -/
def Ty.signed : Ty → Bool
  | .i8 | .i16 | .i32 | .i64 => true
  | _ => false

/-- The four access types (R22). -/
inductive Acc where
  | con | ro | wo | rw
deriving DecidableEq, Repr

/-- Values an entry accepts: `btw` aborts with "too low" and "too high", `set` and
`within` with "outside the permitted set"; `zeroOr` takes 0 or a value of its range. -/
inductive Rng where
  | any
  | btw (lo hi : Int)
  | set (vs : List Nat)
  | within (lo hi : Nat)
  | zeroOr (lo hi : Int)
deriving DecidableEq, Repr

/-- One row of an entry table: subindexes `sub .. sub + m - 1` of indexes `idx .. idx + n - 1`. -/
structure EntryDef where
  idx : Nat
  sub : Nat
  acc : Acc
  ty : Ty
  dflt : DVal := .num 0
  rng : Rng := .any
  n : Nat := 1
  m : Nat := 1
  /-- Write mask where the citation gives one (bits of R22). -/
  wr : Option Nat := none
  /-- Size of a string or DOMAIN whose citation gives it; 0 for variable size. -/
  size : Nat := 0
  /-- Written only whole, in one access (R30). -/
  whole : Bool := false
deriving DecidableEq, Repr

/-- Domain mask bits (R22). -/
def Dom.bit : Dom → Nat
  | .secure => 1 | .hypervisor => 2 | .slice _ => 4 | .network => 8 | .debug => 16

/-- The writing domain of a range (Table MOD-8). -/
def rangeMask (idx : Nat) : Nat :=
  if 0x1000 ≤ idx ∧ idx < 0x2000 then 8
  else if 0x2700 ≤ idx ∧ idx < 0x2B00 then 4
  else if 0x2B00 ≤ idx ∧ idx < 0x2C00 then 8
  else if 0x2D00 ≤ idx ∧ idx < 0x2E00 then 1
  else if 0x2E00 ≤ idx ∧ idx < 0x2F00 then 16
  else if 0x3000 ≤ idx ∧ idx < 0x4000 then 0
  else if 0x4000 ≤ idx ∧ idx < 0x4700 then 8
  else 2

/-- The read mask (R23): all five bits, but for the security and debug ranges. -/
def readMask (idx : Nat) : Nat :=
  if 0x2D00 ≤ idx ∧ idx < 0x2E00 then 1 else if 0x2E00 ≤ idx ∧ idx < 0x2F00 then 17 else 31

/-- The bytes of an ASCII text. -/
def ascii (t : String) : List Byte := t.toList.map fun c => BitVec.ofNat 8 c.toNat

/-- The domains that may write an entry: those of its range in Table MOD-8, or of its own citation (R20). -/
def EntryDef.writeMask (e : EntryDef) : Nat := e.wr.getD (rangeMask e.idx)

/-- A MAC address as its six bytes on the wire. -/
def macBytes (m : Nat) : List Byte :=
  (List.range 6).map fun i => BitVec.ofNat 8 (m / 2 ^ (8 * (5 - i)))

/-- Instanced once per slice (R24): a range 0x2700-0x2AFF entry with slice in its write mask. -/
def EntryDef.instanced (e : EntryDef) : Bool :=
  decide (0x2700 ≤ e.idx ∧ e.idx < 0x2B00) && e.writeMask.testBit 2

/-- The row covers this entry. -/
def EntryDef.covers (e : EntryDef) (idx sub : Nat) : Bool :=
  decide (e.idx ≤ idx ∧ idx < e.idx + e.n ∧ e.sub ≤ sub ∧ sub < e.sub + e.m)

/-- 02_object_dictionary.md, Table DIC-3, R27, R37, R38. -/
def entries02 : List EntryDef := [
  { idx := 0x1000, sub := 0, acc := .con, ty := .u32 },
  { idx := 0x1001, sub := 0, acc := .ro, ty := .u8 },
  { idx := 0x1010, sub := 2, acc := .wo, ty := .u32, rng := .set [0x65766173] },
  { idx := 0x1011, sub := 2, acc := .wo, ty := .u32, rng := .set [0x64616F6C] },
  { idx := 0x1018, sub := 1, acc := .con, ty := .u32, dflt := .num 0x00000A3C },
  { idx := 0x1018, sub := 2, acc := .con, ty := .u32, dflt := .num 0x00096000 },
  { idx := 0x1018, sub := 3, acc := .con, ty := .u32, dflt := .num 0x00030000 },
  { idx := 0x1018, sub := 4, acc := .con, ty := .u32, dflt := .num Config.serial },
  { idx := 0x1E00, sub := 1, acc := .rw, ty := .u8, dflt := .num 0xFF, rng := .set [0, 1, 2, 3, 4, 5, 6, 7, 8, 9, 10, 11, 12, 13, 14, 15, 255] },
  { idx := 0x1E00, sub := 2, acc := .rw, ty := .u8, dflt := .num 127, rng := .btw 1 127 },
  { idx := 0x1E10, sub := 1, acc := .rw, ty := .u32, dflt := .num 0x000FFFFF, rng := .within 0 0x000FFFFF },
  { idx := 0x1E10, sub := 2, acc := .rw, ty := .bool, dflt := .num 1 },
  { idx := 0x1E10, sub := 3, acc := .rw, ty := .oct, dflt := .oct [] },
  { idx := 0x2000, sub := 1, acc := .con, ty := .vis, dflt := .oct (ascii "FV-960-L24A") },
  { idx := 0x2000, sub := 2, acc := .con, ty := .vis, dflt := .oct (ascii "C") },
  { idx := 0x2002, sub := 1, acc := .rw, ty := .u8, rng := .set [0, 1] },
  { idx := 0x2002, sub := 2, acc := .ro, ty := .u8 },
  { idx := 0x3000, sub := 1, acc := .ro, ty := .u32 },
  { idx := 0x3000, sub := 2, acc := .ro, ty := .u16 },
  { idx := 0x3000, sub := 3, acc := .wo, ty := .u16, wr := some 10, rng := .within 0x3001 0x3400 },
  { idx := 0x3000, sub := 4, acc := .ro, ty := .u32 },
  { idx := 0x3001, sub := 1, acc := .ro, ty := .u16, n := 1024 },
  { idx := 0x3001, sub := 2, acc := .ro, ty := .u16, n := 1024 },
  { idx := 0x3001, sub := 3, acc := .ro, ty := .u64, n := 1024, m := 2 },
  { idx := 0x3001, sub := 5, acc := .ro, ty := .oct, dflt := .oct [], n := 1024 }]

/-- 03_handshake_timing_and_supply.md, Table HST-3. -/
def entries03 : List EntryDef := [
  { idx := 0x2110, sub := 1, acc := .rw, ty := .u8, rng := .set [0, 1] },
  { idx := 0x2110, sub := 2, acc := .rw, ty := .u16, dflt := .num 520, rng := .btw 150 520 },
  { idx := 0x2110, sub := 3, acc := .rw, ty := .i16, dflt := .num 115, rng := .btw 85 120 },
  { idx := 0x2110, sub := 4, acc := .rw, ty := .u16, dflt := .num 1220, rng := .btw 800 1220 },
  { idx := 0x2110, sub := 5, acc := .rw, ty := .u16, dflt := .num 750, rng := .btw 680 850 },
  { idx := 0x2110, sub := 6, acc := .rw, ty := .u16, dflt := .num 1050, rng := .btw 800 1220 },
  { idx := 0x2111, sub := 1, acc := .ro, ty := .u16, dflt := .num 750 },
  { idx := 0x2111, sub := 2, acc := .ro, ty := .u16, dflt := .num 1050 },
  { idx := 0x2111, sub := 3, acc := .ro, ty := .u16 },
  { idx := 0x2111, sub := 4, acc := .ro, ty := .i16 },
  { idx := 0x2111, sub := 5, acc := .ro, ty := .u16 },
  { idx := 0x2111, sub := 6, acc := .ro, ty := .u8 },
  { idx := 0x2112, sub := 1, acc := .ro, ty := .u16, dflt := .num 0xFFFF },
  { idx := 0x2112, sub := 2, acc := .wo, ty := .u8, rng := .set [1] },
  { idx := 0x2112, sub := 3, acc := .ro, ty := .u32 }]

/-- 07_attention_and_kv_cache.md, Table ATT-2, R143. -/
def entries07 : List EntryDef := [
  { idx := 0x2710, n := 16, sub := 1, acc := .rw, ty := .u64 },
  { idx := 0x2710, n := 16, sub := 2, acc := .rw, ty := .u8, rng := .set [0, 1] },
  { idx := 0x2710, n := 16, sub := 3, acc := .rw, ty := .u32, dflt := .num 65536, rng := .set [65536] },
  { idx := 0x2710, n := 16, sub := 4, acc := .rw, ty := .u8, dflt := .num 0x0B, rng := .set [0x0B, 0x01, 0x00] },
  { idx := 0x2710, n := 16, sub := 5, acc := .rw, ty := .u16, dflt := .num 1, rng := .btw 1 256 },
  { idx := 0x2710, n := 16, sub := 6, acc := .rw, ty := .u8, dflt := .num 1, rng := .btw 1 64 },
  { idx := 0x2710, n := 16, sub := 7, acc := .rw, ty := .u16, dflt := .num 128, rng := .btw 32 256 },
  { idx := 0x2710, n := 16, sub := 8, acc := .rw, ty := .u64 },
  { idx := 0x2710, n := 16, sub := 9, acc := .wo, ty := .u8, rng := .set [1, 2, 3] },
  { idx := 0x2710, n := 16, sub := 0x0A, acc := .ro, ty := .u8 },
  { idx := 0x2710, n := 16, sub := 0x0B, acc := .ro, ty := .u32 },
  { idx := 0x2710, n := 16, sub := 0x0C, acc := .ro, ty := .u16 },
  { idx := 0x2710, n := 16, sub := 0x0D, m := 4, acc := .ro, ty := .u32 },
  { idx := 0x4700, n := 64, sub := 1, acc := .rw, ty := .u32, rng := .btw 0 1048576 },
  { idx := 0x4700, n := 64, sub := 2, m := 2, acc := .ro, ty := .u32 }]
/-- 05_tensor_engines.md, Table TEN-19, R108; 08_placement_stealing_and_preemption.md, Tables PLC-5 and PLC-9. -/
def entries08 : List EntryDef := [
  { idx := 0x2601, sub := 1, acc := .rw, ty := .u16 },
  { idx := 0x2601, sub := 2, acc := .ro, ty := .u32 },
  { idx := 0x2601, sub := 3, acc := .ro, ty := .u16 },
  { idx := 0x2602, sub := 1, m := 16, acc := .ro, ty := .u32 },
  { idx := 0x2603, sub := 1, acc := .rw, ty := .u8, dflt := .num 8, rng := .btw 1 16 },
  { idx := 0x2603, sub := 2, acc := .rw, ty := .u8, dflt := .num 1, rng := .set [0, 1, 2] },
  { idx := 0x2603, sub := 3, acc := .rw, ty := .bool },
  { idx := 0x2603, sub := 4, acc := .rw, ty := .u8, rng := .set [0, 1] },
  { idx := 0x2603, sub := 5, acc := .rw, ty := .bool, dflt := .num 1 },
  { idx := 0x2603, sub := 6, acc := .rw, ty := .u8, dflt := .num 2, rng := .btw 1 64 },
  { idx := 0x2603, sub := 7, acc := .rw, ty := .u8, dflt := .num 4 },
  { idx := 0x2604, sub := 1, m := 64, acc := .rw, ty := .u16, rng := .btw 0 256 },
  { idx := 0x2605, sub := 1, acc := .rw, ty := .u8, dflt := .num 2, rng := .btw 1 4 },
  { idx := 0x2605, sub := 2, acc := .rw, ty := .u16, dflt := .num 4096, rng := .btw 1560 8192 },
  { idx := 0x2605, sub := 3, acc := .ro, ty := .u8, dflt := .num 48 },
  { idx := 0x2605, sub := 4, acc := .wo, ty := .u16 },
  { idx := 0x2607, sub := 1, m := 14, acc := .ro, ty := .u64 },
  { idx := 0x2607, sub := 0x0F, acc := .wo, ty := .u8, rng := .set [1] }]

/-- 09_queues_slices_and_contexts.md, R202, R203, R206, Table QUE-7. -/
def entries09 : List EntryDef := [
  { idx := 0x2510, sub := 1, acc := .wo, ty := .dom, wr := some 6, size := 48, whole := true },
  { idx := 0x2510, sub := 2, acc := .wo, ty := .u64, wr := some 6 },
  { idx := 0x2510, sub := 3, acc := .ro, ty := .dom, size := 8388608 },
  { idx := 0x2501, sub := 2, acc := .rw, ty := .u16, dflt := .num 1000, rng := .btw 100 10000 },
  { idx := 0x2501, sub := 3, acc := .ro, ty := .u64, m := 4 },
  { idx := 0x2540, n := 64, sub := 1, acc := .rw, ty := .u32, rng := .btw 1 1048575 },
  { idx := 0x2540, n := 64, sub := 2, acc := .wo, ty := .u8, rng := .set [1, 2] },
  { idx := 0x2540, n := 64, sub := 3, acc := .ro, ty := .u8 },
  { idx := 0x2540, n := 64, sub := 4, acc := .rw, ty := .u64 },
  { idx := 0x2540, n := 64, sub := 5, acc := .ro, ty := .u64 },
  { idx := 0x2540, n := 64, sub := 6, acc := .rw, ty := .u16, rng := .btw 0 60000 },
  { idx := 0x2540, n := 64, sub := 7, acc := .rw, ty := .u16 },
  { idx := 0x2540, n := 64, sub := 8, acc := .rw, ty := .u8, dflt := .num 1, rng := .btw 0 3 },
  { idx := 0x2540, n := 64, sub := 9, acc := .rw, ty := .oct, dflt := .oct (List.replicate 64 0), size := 64 },
  { idx := 0x2540, n := 64, sub := 0x0A, acc := .rw, ty := .u64 },
  { idx := 0x2540, n := 64, sub := 0x0B, acc := .rw, ty := .u8, rng := .set [0, 6, 7, 8, 9, 10, 11, 12, 13, 14, 15, 16] },
  { idx := 0x2540, n := 64, sub := 0x0C, acc := .rw, ty := .u64 },
  { idx := 0x2540, n := 64, sub := 0x0D, acc := .rw, ty := .u32 },
  { idx := 0x2540, n := 64, sub := 0x0E, acc := .rw, ty := .u32, wr := some 6 },
  { idx := 0x2540, n := 64, sub := 0x0F, acc := .ro, ty := .u32 },
  { idx := 0x2540, n := 64, sub := 0x10, acc := .ro, ty := .u64 }]

/-- 10_multi_module_systems.md, Tables MMS-3 and MMS-10, R222, R235, R236, R238, R239, R243, R246, R250. -/
def entries10 : List EntryDef := [
  { idx := 0x2C00, sub := 1, acc := .ro, ty := .u8, dflt := .num 0xFF },
  { idx := 0x2C00, sub := 2, m := 2, acc := .ro, ty := .u8 },
  { idx := 0x2C00, sub := 4, acc := .wo, ty := .u8, rng := .set [1] },
  { idx := 0x2C00, sub := 5, acc := .ro, ty := .oct, dflt := .oct (List.replicate 24 0), size := 24 },
  { idx := 0x2C00, sub := 6, acc := .ro, ty := .oct, dflt := .oct (List.replicate 48 0), size := 48 },
  { idx := 0x2C01, sub := 1, acc := .rw, ty := .u8, rng := .set [0, 1] },
  { idx := 0x2C01, sub := 2, m := 4, acc := .ro, ty := .u16 },
  { idx := 0x2C02, sub := 1, acc := .rw, ty := .u32, dflt := .num 2000, rng := .btw 100 100000 },
  { idx := 0x2C02, sub := 2, acc := .rw, ty := .u16, dflt := .num 2, rng := .btw 1 1000 },
  { idx := 0x2C02, sub := 3, acc := .rw, ty := .u32, dflt := .num 10000, rng := .btw 100 1000000 },
  { idx := 0x2C02, sub := 4, acc := .rw, ty := .u64 },
  { idx := 0x2C02, sub := 5, acc := .rw, ty := .u32, dflt := .num 10000 },
  { idx := 0x2C03, sub := 1, m := 64, acc := .rw, ty := .oct, dflt := .oct (List.replicate 32 0), size := 32 },
  { idx := 0x2C05, sub := 1, acc := .rw, ty := .dom, dflt := .oct (List.replicate 196608 0), size := 196608 },
  { idx := 0x2C08, sub := 1, m := 6, acc := .ro, ty := .u64 },
  { idx := 0x2C40, n := 64, sub := 1, m := 2, acc := .rw, ty := .u8, dflt := .num 0xFF },
  { idx := 0x2C40, n := 64, sub := 3, acc := .rw, ty := .u32, dflt := .num 262144, rng := .btw 65536 67108864 },
  { idx := 0x2C40, n := 64, sub := 4, acc := .rw, ty := .u16, dflt := .num 1, rng := .btw 1 1024 },
  { idx := 0x2C40, n := 64, sub := 5, acc := .rw, ty := .u8 },
  { idx := 0x2C40, n := 64, sub := 6, acc := .wo, ty := .u8, rng := .set [1, 2] },
  { idx := 0x2C40, n := 64, sub := 7, acc := .ro, ty := .u8 },
  { idx := 0x2C40, n := 64, sub := 8, m := 3, acc := .ro, ty := .u32 }]

/-- 11_memory_and_bandwidth_regulation.md, Tables MEM-3 and MEM-4, R255 to R269. -/
def entries11 : List EntryDef := [
  { idx := 0x2401, sub := 1, acc := .rw, ty := .u16, dflt := .num 10, rng := .btw 1 100 },
  { idx := 0x2401, sub := 2, acc := .rw, ty := .u8, dflt := .num 40, rng := .btw 8 60 },
  { idx := 0x2401, sub := 4, acc := .wo, ty := .u8, rng := .set [1] },
  { idx := 0x2402, sub := 1, acc := .con, ty := .u32, dflt := .num 7372 },
  { idx := 0x2402, sub := 2, acc := .ro, ty := .u32, dflt := .num 7372 },
  { idx := 0x2402, sub := 3, acc := .ro, ty := .i16 },
  { idx := 0x2403, sub := 1, m := 32, acc := .ro, ty := .u32 },
  { idx := 0x2403, sub := 0x21, acc := .ro, ty := .u32 },
  { idx := 0x2404, sub := 1, acc := .rw, ty := .u64 },
  { idx := 0x2404, sub := 2, acc := .rw, ty := .u32 },
  { idx := 0x2405, sub := 1, m := 3, acc := .rw, ty := .u8, dflt := .num 15, rng := .btw 0 15 },
  { idx := 0x2405, sub := 4, m := 5, acc := .rw, ty := .u8, dflt := .num 0, rng := .btw 0 15 },
  { idx := 0x2405, sub := 9, m := 7, acc := .rw, ty := .u8, dflt := .num 15, rng := .btw 0 15 },
  { idx := 0x2406, sub := 1, m := 64, acc := .rw, ty := .u8, dflt := .num 15, rng := .btw 0 15 },
  { idx := 0x2407, sub := 1, m := 33, acc := .rw, ty := .u8, dflt := .num 64, rng := .btw 1 255 },
  { idx := 0x2408, sub := 1, m := 33, acc := .ro, ty := .u64 },
  { idx := 0x2410, sub := 1, acc := .rw, ty := .u32, dflt := .num 400 },
  { idx := 0x2411, n := 15, sub := 1, acc := .rw, ty := .u32 },
  { idx := 0x2410, n := 16, sub := 2, acc := .rw, ty := .u32 },
  { idx := 0x2410, sub := 3, acc := .ro, ty := .u32, dflt := .num 400 },
  { idx := 0x2411, n := 15, sub := 3, acc := .ro, ty := .u32 },
  { idx := 0x2410, n := 16, sub := 4, m := 2, acc := .ro, ty := .u64 },
  { idx := 0x2410, n := 16, sub := 6, acc := .ro, ty := .u32 },
  { idx := 0x2410, n := 16, sub := 7, acc := .ro, ty := .u64 }]

/-- 12_raster_graphics_and_display.md, Tables GFX-5 to GFX-7, R293. -/
def entries12 : List EntryDef := [
  { idx := 0x2800, sub := 1, acc := .rw, ty := .u32, dflt := .num 67108864, rng := .btw 16777216 1073741824 },
  { idx := 0x2800, sub := 2, acc := .rw, ty := .u32, dflt := .num 2000, rng := .btw 100 100000 },
  { idx := 0x2800, sub := 3, m := 3, acc := .ro, ty := .u32 },
  { idx := 0x2880, n := 4, sub := 1, acc := .rw, ty := .bool, wr := some 2 },
  { idx := 0x2880, n := 4, sub := 2, acc := .rw, ty := .u16, dflt := .num 1920, rng := .btw 64 3840, wr := some 2 },
  { idx := 0x2880, n := 4, sub := 3, acc := .rw, ty := .u16, dflt := .num 720, rng := .btw 64 2160, wr := some 2 },
  { idx := 0x2880, n := 4, sub := 4, acc := .rw, ty := .u16, dflt := .num 2200, wr := some 2 },
  { idx := 0x2880, n := 4, sub := 5, acc := .rw, ty := .u16, dflt := .num 750, wr := some 2 },
  { idx := 0x2880, n := 4, sub := 6, acc := .rw, ty := .u32, dflt := .num 99000, rng := .btw 10000 594000, wr := some 2 },
  { idx := 0x2880, n := 4, sub := 7, acc := .rw, ty := .u16, dflt := .num 100, rng := .btw 20 1000, wr := some 2 },
  { idx := 0x2880, n := 4, sub := 8, acc := .rw, ty := .u32, wr := some 2 },
  { idx := 0x2880, n := 4, sub := 9, acc := .ro, ty := .u64, wr := some 2 },
  { idx := 0x2880, n := 4, sub := 0x0A, m := 3, acc := .ro, ty := .u32, wr := some 2 },
  { idx := 0x2880, n := 4, sub := 0x0D, acc := .ro, ty := .u8, wr := some 2 },
  { idx := 0x2890, n := 16, sub := 1, acc := .rw, ty := .u8, dflt := .num 0xFF, wr := some 2 },
  { idx := 0x2890, n := 16, sub := 2, m := 4, acc := .rw, ty := .u16, wr := some 2 },
  { idx := 0x2890, n := 16, sub := 6, acc := .rw, ty := .u8, rng := .set [0, 1, 2], wr := some 2 },
  { idx := 0x2890, n := 16, sub := 7, acc := .rw, ty := .u8, dflt := .num 255, wr := some 2 },
  { idx := 0x2890, n := 16, sub := 8, m := 3, acc := .rw, ty := .r32, wr := some 2 },
  { idx := 0x28A0, sub := 1, acc := .rw, ty := .u8, dflt := .num 0xFF, wr := some 2 },
  { idx := 0x28A0, sub := 2, acc := .rw, ty := .u32 }]

/-- 13_motion_planner.md, Table PLN-8. -/
def entries13 : List EntryDef := [
  { idx := 0x2900, sub := 1, acc := .ro, ty := .u64 },
  { idx := 0x2900, sub := 2, m := 2, acc := .ro, ty := .u32 },
  { idx := 0x2901, sub := 1, m := 64, acc := .rw, ty := .u8, rng := .btw 0 16, wr := some 2 }]

/-- 14_acoustic_engine.md, Tables ACU-1 and ACU-2. -/
def entries14 : List EntryDef := [
  { idx := 0x2A00, sub := 1, acc := .rw, ty := .u16 },
  { idx := 0x2A00, sub := 2, m := 2, acc := .rw, ty := .u32 },
  { idx := 0x2A00, sub := 4, acc := .rw, ty := .u16, dflt := .num 64, rng := .btw 16 512 },
  { idx := 0x2A00, sub := 5, acc := .rw, ty := .u16, dflt := .num 32, rng := .btw 8 256 },
  { idx := 0x2A00, sub := 6, acc := .rw, ty := .u8, dflt := .num 1, rng := .set [1, 2, 4] },
  { idx := 0x2A00, sub := 7, acc := .rw, ty := .r32 },
  { idx := 0x2A00, sub := 8, acc := .rw, ty := .r32, dflt := .num 0x3F800000 },
  { idx := 0x2A00, sub := 9, acc := .rw, ty := .r32, dflt := .num 0x3E800000 },
  { idx := 0x2A00, sub := 0x0A, acc := .wo, ty := .u8, rng := .set [1, 2, 3, 4] },
  { idx := 0x2A00, sub := 0x0B, acc := .ro, ty := .u8 },
  { idx := 0x2A00, sub := 0x0C, m := 2, acc := .ro, ty := .u32 },
  { idx := 0x2A00, sub := 0x10, m := 2, acc := .rw, ty := .u32 },
  { idx := 0x2A00, sub := 0x12, acc := .rw, ty := .u16, rng := .btw 2 1024 },
  { idx := 0x2A00, sub := 0x13, acc := .rw, ty := .u8 },
  { idx := 0x2A00, sub := 0x14, acc := .wo, ty := .u8, rng := .set [1, 2] },
  { idx := 0x2A00, sub := 0x15, acc := .ro, ty := .u8 },
  { idx := 0x2A00, sub := 0x16, acc := .ro, ty := .u64 },
  { idx := 0x2A00, sub := 0x18, acc := .rw, ty := .u32 },
  { idx := 0x2A00, sub := 0x19, acc := .rw, ty := .u16, rng := .btw 2 1024 },
  { idx := 0x2A00, sub := 0x1A, acc := .ro, ty := .u32 },
  { idx := 0x2A10, sub := 1, m := 3, acc := .rw, ty := .u8, dflt := .num 0xFF, wr := some 2 },
  { idx := 0x2A10, sub := 4, m := 2, acc := .rw, ty := .u8, rng := .btw 0 8, wr := some 2 },
  { idx := 0x2A10, sub := 6, acc := .ro, ty := .u32, wr := some 2 },
  { idx := 0x2A11, sub := 1, m := 48, acc := .rw, ty := .u16, dflt := .num 0xFFFF, wr := some 2 },
  { idx := 0x2A12, sub := 1, m := 24, acc := .rw, ty := .u16, dflt := .num 0xFFFF, wr := some 2 },
  { idx := 0x2A13, sub := 1, m := 16, acc := .rw, ty := .u64, wr := some 2 },
  { idx := 0x2A18, n := 8, sub := 1, acc := .rw, ty := .u8, rng := .btw 0 2, wr := some 2 },
  { idx := 0x2A18, n := 8, sub := 2, acc := .rw, ty := .u8, dflt := .num 8, rng := .btw 1 16, wr := some 2 },
  { idx := 0x2A18, n := 8, sub := 3, acc := .rw, ty := .u8, dflt := .num 32, rng := .set [16, 24, 32], wr := some 2 },
  { idx := 0x2A18, n := 8, sub := 4, acc := .ro, ty := .u8, wr := some 2 }]

/-- 15_vehicle_gateway.md, Tables GTW-3 to GTW-5, GTW-7, GTW-9, GTW-11, R333, R335 to R340. -/
def entries15 : List EntryDef := [
  { idx := 0x2B01, sub := 1, m := 3, acc := .ro, ty := .u32 },
  { idx := 0x2B10, n := 16, sub := 1, acc := .rw, ty := .u8, rng := .within 0 3 },
  { idx := 0x2B10, n := 16, sub := 2, acc := .rw, ty := .u16, dflt := .num 500, rng := .set [125, 250, 500, 1000] },
  { idx := 0x2B10, n := 16, sub := 3, acc := .rw, ty := .u16, dflt := .num 2000,
    rng := .set [0, 1000, 2000, 4000, 5000, 8000, 10000] },
  { idx := 0x2B10, n := 16, sub := 4, acc := .rw, ty := .u16, dflt := .num 800, rng := .btw 500 900 },
  { idx := 0x2B10, n := 16, sub := 5, acc := .rw, ty := .u16, dflt := .num 700, rng := .btw 500 900 },
  { idx := 0x2B10, n := 16, sub := 6, acc := .rw, ty := .bool },
  { idx := 0x2B10, n := 16, sub := 7, acc := .rw, ty := .bool, dflt := .num 1 },
  { idx := 0x2B10, n := 16, sub := 8, acc := .wo, ty := .u8, rng := .set [1, 2] },
  { idx := 0x2B10, n := 16, sub := 9, acc := .ro, ty := .u8 },
  { idx := 0x2B10, n := 16, sub := 0x0A, acc := .ro, ty := .u16 },
  { idx := 0x2B10, n := 16, sub := 0x0B, m := 2, acc := .ro, ty := .u64 },
  { idx := 0x2B10, n := 16, sub := 0x0D, acc := .ro, ty := .u32 },
  { idx := 0x2B10, n := 16, sub := 0x10, acc := .rw, ty := .bool },
  { idx := 0x2B10, n := 16, sub := 0x11, m := 2, acc := .rw, ty := .u32 },
  { idx := 0x2B10, n := 16, sub := 0x13, acc := .rw, ty := .u8, rng := .btw 0 8 },
  { idx := 0x2B10, n := 16, sub := 0x14, m := 2, acc := .rw, ty := .u64 },
  { idx := 0x2B30, n := 8, sub := 1, acc := .rw, ty := .u8, rng := .within 0 2 },
  { idx := 0x2B30, n := 8, sub := 2, acc := .rw, ty := .u16, dflt := .num 19200, rng := .btw 1000 20000 },
  { idx := 0x2B30, n := 8, sub := 3, m := 2, acc := .rw, ty := .dom, dflt := .oct [] },
  { idx := 0x2B30, n := 8, sub := 5, acc := .wo, ty := .u8, rng := .set [1, 2] },
  { idx := 0x2B30, n := 8, sub := 6, acc := .ro, ty := .u8 },
  { idx := 0x2B30, n := 8, sub := 7, acc := .ro, ty := .u32 },
  { idx := 0x2B40, n := 20, sub := 1, acc := .rw, ty := .bool },
  { idx := 0x2B40, n := 20, sub := 2, m := 2, acc := .rw, ty := .u8 },
  { idx := 0x2B40, n := 20, sub := 4, acc := .rw, ty := .u8, dflt := .num 8, rng := .btw 1 8 },
  { idx := 0x2B40, n := 20, sub := 5, acc := .ro, ty := .u8 },
  { idx := 0x2B40, n := 20, sub := 6, acc := .wo, ty := .u8, rng := .set [1] },
  { idx := 0x2B40, n := 20, sub := 7, acc := .ro, ty := .u32 },
  { idx := 0x2B40, n := 20, sub := 8, acc := .ro, ty := .u8 },
  { idx := 0x2B60, sub := 1, m := 6, acc := .rw, ty := .dom, dflt := .oct [] },
  { idx := 0x2B62, sub := 1, m := 22, acc := .ro, ty := .oct, dflt := .oct (List.replicate 32 0) },
  { idx := 0x2B80, n := 22, sub := 1, acc := .rw, ty := .dom, dflt := .oct [] },
  { idx := 0x2B80, n := 22, sub := 2, acc := .rw, ty := .u64 },
  { idx := 0x2B80, n := 22, sub := 3, acc := .rw, ty := .u32, rng := .zeroOr 1000 1000000000 },
  { idx := 0x2B80, n := 22, sub := 4, acc := .wo, ty := .u8, rng := .set [1] },
  { idx := 0x2B80, n := 22, sub := 5, acc := .ro, ty := .u8 },
  { idx := 0x2BA0, sub := 1, m := 10, acc := .rw, ty := .u16, dflt := .num 1000, rng := .btw 10 10000 },
  { idx := 0x2BA0, sub := 0x0B, acc := .ro, ty := .u16 },
  { idx := 0x2BA0, sub := 0x0C, acc := .rw, ty := .u8, rng := .within 0 15 },
  { idx := 0x2BA0, sub := 0x0D, acc := .ro, ty := .u8 },
  { idx := 0x2BB0, sub := 1, acc := .ro, ty := .u8 },
  { idx := 0x2BB0, sub := 2, acc := .ro, ty := .u32 },
  { idx := 0x4000, sub := 1, acc := .rw, ty := .dom, dflt := .oct [], size := 262144 },
  { idx := 0x4000, sub := 2, acc := .wo, ty := .u8, rng := .set [1] },
  { idx := 0x4000, sub := 3, acc := .ro, ty := .dom, dflt := .oct [], size := 262144 },
  { idx := 0x4000, sub := 4, acc := .ro, ty := .u16 },
  { idx := 0x4100, sub := 1, acc := .rw, ty := .dom, dflt := .oct [], size := 2048 },
  { idx := 0x4100, sub := 2, acc := .con, ty := .oct, dflt := .oct (macBytes Config.engineMac), size := 6 }]

/-- 16_time_bases.md, Table TIM-4, R354. -/
def entries16 : List EntryDef := [
  { idx := 0x2200, sub := 1, acc := .rw, ty := .bool },
  { idx := 0x2200, sub := 2, acc := .rw, ty := .u8, dflt := .num 246 },
  { idx := 0x2200, sub := 3, acc := .rw, ty := .u8, dflt := .num 248 },
  { idx := 0x2200, sub := 4, acc := .ro, ty := .oct, dflt := .oct (List.replicate 8 0), size := 8 },
  { idx := 0x2200, sub := 5, acc := .ro, ty := .u32 },
  { idx := 0x2210, sub := 1, acc := .rw, ty := .u8, dflt := .num 1, rng := .set [0, 1, 2] },
  { idx := 0x2211, sub := 1, acc := .ro, ty := .u8 },
  { idx := 0x2212, sub := 1, acc := .rw, ty := .u8, dflt := .num 1, rng := .set [0, 1, 2] },
  { idx := 0x2213, sub := 1, acc := .rw, ty := .u8, rng := .set [0, 2], wr := some 1 },
  { idx := 0x2214, n := 4, sub := 1, acc := .rw, ty := .u8, rng := .set [0, 1, 2] },
  { idx := 0x2210, n := 3, sub := 2, acc := .ro, ty := .u8 },
  { idx := 0x2213, sub := 2, acc := .rw, ty := .u8, wr := some 1, rng := .set [0] },
  { idx := 0x2214, n := 4, sub := 2, acc := .rw, ty := .u8, rng := .set [0] },
  { idx := 0x2210, sub := 3, acc := .rw, ty := .i64 },
  { idx := 0x2211, sub := 3, acc := .ro, ty := .i64 },
  { idx := 0x2212, sub := 3, acc := .rw, ty := .i64 },
  { idx := 0x2213, sub := 3, acc := .rw, ty := .i64, wr := some 1 },
  { idx := 0x2214, n := 4, sub := 3, acc := .rw, ty := .i64 },
  { idx := 0x2210, sub := 4, acc := .rw, ty := .u64, dflt := .num 281474976710656 },
  { idx := 0x2211, sub := 4, acc := .ro, ty := .u64, dflt := .num 281474976710656 },
  { idx := 0x2212, sub := 4, acc := .rw, ty := .u64, dflt := .num 281474976710656 },
  { idx := 0x2213, sub := 4, acc := .rw, ty := .u64, dflt := .num 281474976710656, wr := some 1 },
  { idx := 0x2214, n := 4, sub := 4, acc := .rw, ty := .u64, dflt := .num 281474976710656 },
  { idx := 0x2210, sub := 5, acc := .wo, ty := .oct, size := 16 },
  { idx := 0x2211, sub := 5, acc := .ro, ty := .oct, dflt := .oct [] },
  { idx := 0x2212, sub := 5, acc := .wo, ty := .oct, size := 16 },
  { idx := 0x2213, sub := 5, acc := .wo, ty := .oct, size := 16, wr := some 1 },
  { idx := 0x2214, n := 4, sub := 5, acc := .wo, ty := .oct, size := 16 },
  { idx := 0x2210, sub := 6, acc := .wo, ty := .u8, rng := .set [1] },
  { idx := 0x2211, sub := 6, acc := .ro, ty := .u8 },
  { idx := 0x2212, sub := 6, acc := .wo, ty := .u8, rng := .set [1] },
  { idx := 0x2213, sub := 6, acc := .wo, ty := .u8, rng := .set [1], wr := some 1 },
  { idx := 0x2214, n := 4, sub := 6, acc := .wo, ty := .u8, rng := .set [1] },
  { idx := 0x2210, sub := 7, acc := .rw, ty := .u32, dflt := .num 100000, rng := .btw 1000 1000000 },
  { idx := 0x2211, sub := 7, acc := .ro, ty := .u32, dflt := .num 100000 },
  { idx := 0x2212, sub := 7, acc := .rw, ty := .u32, dflt := .num 100000, rng := .btw 1000 1000000 },
  { idx := 0x2213, sub := 7, acc := .rw, ty := .u32, dflt := .num 100000, rng := .btw 1000 1000000, wr := some 1 },
  { idx := 0x2214, n := 4, sub := 7, acc := .rw, ty := .u32, dflt := .num 100000, rng := .btw 1000 1000000 },
  { idx := 0x2210, n := 3, sub := 8, acc := .ro, ty := .u8 },
  { idx := 0x2213, sub := 8, acc := .ro, ty := .u8, wr := some 1 },
  { idx := 0x2214, n := 4, sub := 8, acc := .ro, ty := .u8 },
  { idx := 0x2210, n := 3, sub := 9, acc := .ro, ty := .i64 },
  { idx := 0x2213, sub := 9, acc := .ro, ty := .i64, wr := some 1 },
  { idx := 0x2214, n := 4, sub := 9, acc := .ro, ty := .i64 },
  { idx := 0x2210, n := 3, sub := 0x0A, acc := .ro, ty := .bool, dflt := .num 1 },
  { idx := 0x2213, sub := 0x0A, acc := .ro, ty := .bool, dflt := .num 1, wr := some 1 },
  { idx := 0x2214, n := 4, sub := 0x0A, acc := .ro, ty := .bool, dflt := .num 1 }]

/-- 17_safety_mechanisms.md, Tables SAF-1, SAF-3, SAF-6, SAF-7, SAF-10, R385, R386. -/
def entries17 : List EntryDef := [
  { idx := 0x2310, n := 8, sub := 1, m := 3, acc := .rw, ty := .u64 },
  { idx := 0x2310, n := 8, sub := 4, acc := .rw, ty := .u8, dflt := .num 14, rng := .btw 1 14 },
  { idx := 0x2310, n := 8, sub := 5, acc := .rw, ty := .bool },
  { idx := 0x2310, n := 8, sub := 6, acc := .rw, ty := .u8, rng := .btw 0 4 },
  { idx := 0x2310, n := 8, sub := 7, acc := .rw, ty := .u8, dflt := .num 1, rng := .btw 1 16 },
  { idx := 0x2310, n := 8, sub := 8, acc := .rw, ty := .u8, dflt := .num 2, rng := .btw 1 8 },
  { idx := 0x2310, n := 8, sub := 9, acc := .wo, ty := .u8, rng := .set [1, 2] },
  { idx := 0x2310, n := 8, sub := 0x0A, m := 2, acc := .ro, ty := .u8 },
  { idx := 0x2310, n := 8, sub := 0x0C, acc := .ro, ty := .u32 },
  { idx := 0x2310, n := 8, sub := 0x0D, acc := .ro, ty := .u64 },
  { idx := 0x2310, n := 8, sub := 0x0E, acc := .ro, ty := .u8 },
  { idx := 0x2320, sub := 1, acc := .rw, ty := .u32, rng := .zeroOr 1000 1000000 },
  { idx := 0x2320, sub := 2, acc := .rw, ty := .u64 },
  { idx := 0x2320, sub := 3, acc := .rw, ty := .dom, dflt := .oct [] },
  { idx := 0x2320, sub := 4, acc := .ro, ty := .u64 },
  { idx := 0x2320, sub := 5, acc := .ro, ty := .u32 },
  { idx := 0x2330, n := 8, sub := 1, acc := .rw, ty := .u32 },
  { idx := 0x2330, n := 8, sub := 2, acc := .rw, ty := .u8, rng := .btw 0 64 },
  { idx := 0x2330, n := 8, sub := 3, acc := .rw, ty := .u8, dflt := .num 0xFF },
  { idx := 0x2330, n := 8, sub := 4, acc := .rw, ty := .u32 },
  { idx := 0x2330, n := 8, sub := 5, acc := .rw, ty := .u64 },
  { idx := 0x2330, n := 8, sub := 6, acc := .rw, ty := .u8 },
  { idx := 0x2330, n := 8, sub := 7, m := 3, acc := .rw, ty := .u32 },
  { idx := 0x2330, n := 8, sub := 0x0A, acc := .rw, ty := .u8, dflt := .num 1, rng := .btw 1 255 },
  { idx := 0x2330, n := 8, sub := 0x0B, acc := .ro, ty := .u64 },
  { idx := 0x2330, n := 8, sub := 0x0C, acc := .wo, ty := .u8, rng := .set [1] },
  { idx := 0x2340, sub := 1, acc := .rw, ty := .bool, dflt := .num 1 },
  { idx := 0x2340, sub := 2, acc := .rw, ty := .u16, dflt := .num 100, rng := .btw 10 1000 },
  { idx := 0x2340, sub := 3, acc := .rw, ty := .u16, dflt := .num 10, rng := .btw 0 1000 },
  { idx := 0x2340, sub := 4, acc := .ro, ty := .u64 },
  { idx := 0x2340, sub := 5, m := 2, acc := .ro, ty := .u32 },
  { idx := 0x2350, sub := 1, acc := .ro, ty := .u8, dflt := .num 5 },
  { idx := 0x2350, sub := 2, acc := .wo, ty := .u16, wr := some 8 },
  { idx := 0x2350, sub := 3, acc := .wo, ty := .u16, wr := some 10, rng := .set [0x5447] },
  { idx := 0x2350, sub := 4, acc := .ro, ty := .u16 },
  { idx := 0x2350, sub := 5, acc := .ro, ty := .u8 },
  { idx := 0x2350, sub := 6, acc := .rw, ty := .u8, dflt := .num 8, rng := .btw 1 64 },
  { idx := 0x2350, sub := 7, acc := .rw, ty := .u16, dflt := .num 20, rng := .btw 5 1000 },
  { idx := 0x2350, sub := 8, acc := .ro, ty := .u32 },
  { idx := 0x2351, sub := 1, acc := .rw, ty := .u64 },
  { idx := 0x2351, sub := 2, acc := .rw, ty := .u32 },
  { idx := 0x3401, n := 64, sub := 1, m := 2, acc := .ro, ty := .u16 },
  { idx := 0x3401, n := 64, sub := 3, m := 2, acc := .ro, ty := .u64 },
  { idx := 0x3401, n := 64, sub := 5, acc := .ro, ty := .oct, dflt := .oct [] },
  { idx := 0x3401, n := 64, sub := 6, m := 2, acc := .ro, ty := .u8 },
  { idx := 0x3441, sub := 1, acc := .ro, ty := .u16 },
  { idx := 0x3441, sub := 2, acc := .ro, ty := .u32 },
  { idx := 0x3480, sub := 1, acc := .ro, ty := .u16 },
  { idx := 0x3481, n := 16, sub := 1, acc := .ro, ty := .u16 },
  { idx := 0x3481, n := 16, sub := 2, m := 3, acc := .ro, ty := .u64 },
  { idx := 0x3481, n := 16, sub := 5, acc := .ro, ty := .oct, dflt := .oct [] }]

/-- 18_isolation_and_security.md, Tables SEC-3, SEC-4, SEC-9, SEC-10, R399 to R403. -/
def entries18 : List EntryDef := [
  { idx := 0x2D01, sub := 1, acc := .rw, ty := .u64, dflt := .num 0x10000000 },
  { idx := 0x2D01, sub := 2, acc := .ro, ty := .u64 },
  { idx := 0x2D01, sub := 3, acc := .rw, ty := .u64, dflt := .num 0x40000000 },
  { idx := 0x2D01, sub := 4, acc := .ro, ty := .u8 },
  { idx := 0x2003, sub := 1, acc := .ro, ty := .u64, m := 2 },
  { idx := 0x2D10, sub := 1, acc := .wo, ty := .oct, size := 8 },
  { idx := 0x2D11, sub := 0, acc := .ro, ty := .dom, size := 24576 },
  { idx := 0x2D12, sub := 1, m := 64, acc := .rw, ty := .u16, dflt := .num 0xFFFF },
  { idx := 0x2D30, sub := 1, acc := .rw, ty := .oct, dflt := .oct (List.replicate 16 0), size := 16 },
  { idx := 0x2D30, sub := 2, acc := .rw, ty := .u8, dflt := .num 10, rng := .btw 0 50 },
  { idx := 0x2D30, sub := 3, acc := .wo, ty := .u8, rng := .set [1] },
  { idx := 0x2D30, sub := 4, acc := .ro, ty := .u8 },
  { idx := 0x2D20, sub := 1, acc := .rw, ty := .u16, dflt := .num 1000, rng := .btw 10 10000 },
  { idx := 0x2D20, sub := 2, acc := .wo, ty := .u16, rng := .set [0x4B43] },
  { idx := 0x2D40, sub := 1, acc := .wo, ty := .oct, size := 16 },
  { idx := 0x2D40, sub := 2, acc := .ro, ty := .u8 },
  { idx := 0x2D40, sub := 3, acc := .wo, ty := .oct, size := 49 },
  { idx := 0x2D40, sub := 4, acc := .wo, ty := .u8, rng := .set [0, 1, 2, 3] },
  { idx := 0x2D40, sub := 5, acc := .ro, ty := .oct, size := 20 },
  { idx := 0x2D40, sub := 6, acc := .wo, ty := .oct, size := 5 },
  { idx := 0x2D40, sub := 7, acc := .wo, ty := .u16, rng := .set [0x4446] },
  { idx := 0x2D40, sub := 8, acc := .rw, ty := .u8, dflt := .num 0x1F },
  { idx := 0x2D40, sub := 9, acc := .rw, ty := .u8, rng := .btw 0 63 },
  { idx := 0x2E01, sub := 1, acc := .ro, ty := .oct, size := 16 },
  { idx := 0x2E01, sub := 2, acc := .wo, ty := .dom },
  { idx := 0x2E01, sub := 3, acc := .wo, ty := .oct, size := 96 },
  { idx := 0x2E01, sub := 4, acc := .ro, ty := .u8 },
  { idx := 0x2E01, sub := 5, acc := .wo, ty := .u8, rng := .set [1] }]

/-- 19_power_states.md, Table PWR-2. -/
def entries19 : List EntryDef := [
  { idx := 0x2120, sub := 1, acc := .rw, ty := .u32, dflt := .num 2 },
  { idx := 0x2120, sub := 2, acc := .rw, ty := .u32, dflt := .num 1000, rng := .btw 0 10000000 },
  { idx := 0x2120, sub := 3, acc := .ro, ty := .u8 },
  { idx := 0x2120, sub := 4, acc := .ro, ty := .u8 },
  { idx := 0x2120, sub := 5, acc := .ro, ty := .u16 },
  { idx := 0x2120, sub := 6, acc := .ro, ty := .u32 },
  { idx := 0x2121, sub := 1, acc := .rw, ty := .u64 },
  { idx := 0x2121, sub := 2, acc := .rw, ty := .u8, rng := .within 0 3 },
  { idx := 0x2130, sub := 1, acc := .rw, ty := .u8, dflt := .num 7, rng := .within 0 7 },
  { idx := 0x2130, sub := 2, acc := .rw, ty := .u8, dflt := .num 15, rng := .within 0 15 },
  { idx := 0x2130, sub := 3, acc := .rw, ty := .bool, dflt := .num 1 },
  { idx := 0x2130, sub := 4, acc := .ro, ty := .u16, dflt := .num 0xFF },
  { idx := 0x2140, sub := 1, acc := .rw, ty := .u64, dflt := .num 3 },
  { idx := 0x2140, sub := 2, acc := .rw, ty := .u16, dflt := .num 0x3FF },
  { idx := 0x2140, sub := 3, acc := .rw, ty := .u64 },
  { idx := 0x2140, sub := 4, acc := .ro, ty := .oct, dflt := .oct (0xFF :: List.replicate 15 0), size := 16 },
  { idx := 0x2140, sub := 5, acc := .ro, ty := .oct, dflt := .oct (List.replicate 156 0), size := 156 },
  { idx := 0x2140, sub := 6, acc := .ro, ty := .u64 }]

/-- 20_startup_firmware_and_debug.md, Tables STD-4 and STD-8, R440, R444. -/
def entries20 : List EntryDef := [
  { idx := 0x2005, sub := 1, m := 6, acc := .ro, ty := .u32 },
  { idx := 0x2E02, sub := 1, acc := .rw, ty := .u16, dflt := .num 0xFFFF },
  { idx := 0x2E02, sub := 2, acc := .ro, ty := .u32 },
  { idx := 0x2F01, sub := 1, acc := .wo, ty := .u8, rng := .set [1] },
  { idx := 0x2F02, sub := 1, acc := .rw, ty := .u64 },
  { idx := 0x2F02, sub := 2, acc := .rw, ty := .u8, dflt := .num 4, rng := .btw 4 16 },
  { idx := 0x2F02, sub := 3, acc := .rw, ty := .u32, rng := .zeroOr 10 100000 },
  { idx := 0x2F02, sub := 4, acc := .ro, ty := .u32 },
  { idx := 0x2F02, sub := 5, acc := .rw, ty := .u32 },
  { idx := 0x2F02, sub := 6, acc := .ro, ty := .u32 },
  { idx := 0x2F03, sub := 1, acc := .rw, ty := .u8, rng := .set [0, 4, 5, 6, 7, 8, 9, 10, 11, 12, 13, 14, 15, 16, 17, 18, 19, 20] },
  { idx := 0x2F03, sub := 2, acc := .rw, ty := .u64 },
  { idx := 0x2F03, sub := 3, acc := .rw, ty := .u8, dflt := .num 4, rng := .btw 4 16 },
  { idx := 0x2F03, sub := 4, acc := .ro, ty := .u32 },
  { idx := 0x2F03, sub := 5, acc := .rw, ty := .u32 }]

/-- 21_module_hardware.md, Table HWD-11, R454. -/
def entries21 : List EntryDef := [
  { idx := 0x2150, sub := 1, m := 2, acc := .ro, ty := .i16, dflt := .num 0x7FFF },
  { idx := 0x2150, sub := 3, acc := .ro, ty := .u16, dflt := .num 300 },
  { idx := 0x2150, sub := 4, acc := .ro, ty := .u8, dflt := .num 5 },
  { idx := 0x2150, sub := 5, acc := .ro, ty := .u16, dflt := .num 520 },
  { idx := 0x2150, sub := 6, acc := .ro, ty := .u32 },
  { idx := 0x2160, sub := 1, acc := .rw, ty := .u16, rng := .within 0 4095 },
  { idx := 0x2160, sub := 2, acc := .ro, ty := .u32, dflt := .num 0xFFFFFFFF }]

/-- The whole table (R21). -/
def entryTable : List EntryDef :=
  entries02 ++ entries03 ++ entries07 ++ entries08 ++ entries09 ++ entries10 ++ entries11 ++ entries12 ++ entries13 ++ entries14 ++ entries15 ++ entries16 ++ entries17 ++ entries18 ++ entries19 ++ entries20 ++ entries21

/-- The row of an entry. -/
def findEntry (idx sub : Nat) : Option EntryDef := entryTable.find? (·.covers idx sub)

/-- The highest subindex in use of an index, over the rows that name it. -/
def highestSub (idx : Nat) : Nat :=
  entryTable.foldl (fun a e => if e.idx ≤ idx ∧ idx < e.idx + e.n then max a (e.sub + e.m - 1) else a) 0

/-- How many subindexes other than 0 an index holds. -/
def subCount (idx : Nat) : Nat :=
  entryTable.foldl (fun a e => if e.idx ≤ idx ∧ idx < e.idx + e.n ∧ 0 < e.sub then a + e.m else a) 0

/-- The write mask that all entries of an index share by their citations; none where the range's stands. -/
def commonMask (idx : Nat) : Option Nat :=
  match entryTable.filter fun e => decide (e.idx ≤ idx ∧ idx < e.idx + e.n) with
  | e :: es => if es.all fun x => decide (x.wr = e.wr) then e.wr else none
  | [] => none

/-- Subindex 0 of an index with more than one subindex (R21), in the domains of the index's entries (R23). -/
def subZero (idx : Nat) : EntryDef :=
  { idx := idx, sub := 0, acc := .con, ty := .u8, dflt := .num (highestSub idx), wr := commonMask idx }

/-- The entry at an index and subindex, subindex 0 included. -/
def lookupEntry (idx sub : Nat) : Option EntryDef :=
  match findEntry idx sub with
  | some e => some e
  | none => if sub = 0 ∧ 1 < subCount idx then some (subZero idx) else none

/-- The index exists. -/
def indexExists (idx : Nat) : Bool := entryTable.any fun e => decide (e.idx ≤ idx ∧ idx < e.idx + e.n)

/-- What an entry holds after reset, before any write. -/
def defaultVal (idx sub : Nat) : DVal :=
  match findEntry idx sub with
  | some e => e.dflt
  | none => .num 0

end Sys2Proof.Machine
end

