-- ==== Sys2Proof/Machine/Ops.lean ====
section
/-! DEFINITION. The operations that the commands share: reading and setting dictionary entries, free values, the
output log, error records, safety records and doubt events, interrupts, and the module's memory. -/

namespace Sys2Proof.Machine

open Sys2Proof

/-- The outcome of a command's effect that always completes. -/
abbrev Out := Host.Outcome State Fault Refusal

/-- The answer of a dictionary write: the next state, an abort code with the state unchanged, or an abort code with
what the refusal itself records. -/
inductive WRes where
  | ok (s : State)
  | abort (code : Nat)
  | refuse (code : Nat) (s : State)

/-! ## Numbers and bytes (R7) -/

/-- A number as `n` little-endian bytes. -/
def leBytes : Nat → Nat → List Byte
  | 0, _ => []
  | n + 1, v => BitVec.ofNat 8 v :: leBytes n (v / 256)

/-- The number that little-endian bytes spell. -/
def leNat : List Byte → Nat
  | [] => 0
  | b :: bs => b.toNat + 256 * leNat bs

/-- `n` bytes from offset `o`, padded with zeros where the list ends. -/
def slice (bs : List Byte) (o n : Nat) : List Byte :=
  let r := (bs.drop o).take n
  r ++ List.replicate (n - r.length) 0

/-- The little-endian field of `n` bytes at offset `o`. -/
def field (bs : List Byte) (o n : Nat) : Nat := leNat (slice bs o n)

/-- `bs` with `d` put over offset `o`, grown with zeros where needed. -/
def overlay (bs : List Byte) (o : Nat) (d : List Byte) : List Byte :=
  slice bs 0 o ++ d ++ bs.drop (o + d.length)

/-- The bits `hi .. lo` of a number. -/
def bits (v hi lo : Nat) : Nat := (v >>> lo) % 2 ^ (hi + 1 - lo)

/-- The two's complement reading of an `n`-bit number. -/
def toSigned (n v : Nat) : Int := if v < 2 ^ (n - 1) then (v : Int) else (v : Int) - (2 : Int) ^ n

/-- The `n`-bit two's complement of an integer. -/
def ofSigned (n : Nat) (i : Int) : Nat := (i % (2 : Int) ^ n).toNat

/-- Ceiling division. -/
def cdiv (a b : Nat) : Nat := (a + b - 1) / b

/-- The numbers of the bits set in a mask, below `n`. -/
def maskBits (n mask : Nat) : List Nat := (List.range n).filter mask.testBit

/-! ## Dictionary values -/

/-- The key of an entry: occurrence (0 the module's, s + 1 slice s's), index, subindex. -/
def entryKey (inst idx sub : Nat) : Nat := inst * 16777216 + idx * 256 + sub

namespace State

/-- The value an entry holds. -/
def val (s : State) (idx sub : Nat) (inst : Nat := 0) : DVal :=
  (NMap.get none s.dict (entryKey inst idx sub)).getD (defaultVal idx sub)

/-- The number an entry holds (0 for a string). -/
def get (s : State) (idx sub : Nat) (inst : Nat := 0) : Nat :=
  match s.val idx sub inst with
  | .num n => n
  | .oct _ => 0

/-- The bytes of a string or DOMAIN entry. -/
def getB (s : State) (idx sub : Nat) (inst : Nat := 0) : List Byte :=
  match s.val idx sub inst with
  | .num _ => []
  | .oct b => b

/-- An INTEGER entry's value, `n` bits wide. -/
def getI (s : State) (n idx sub : Nat) (inst : Nat := 0) : Int := toSigned n (s.get idx sub inst)

/-- Stores a value in an entry. -/
def setVal (s : State) (idx sub : Nat) (v : DVal) (inst : Nat := 0) : State :=
  { s with dict := NMap.set none s.dict (entryKey inst idx sub) (some v) }

def set (s : State) (idx sub v : Nat) (inst : Nat := 0) : State := s.setVal idx sub (.num v) inst

def setB (s : State) (idx sub : Nat) (b : List Byte) (inst : Nat := 0) : State := s.setVal idx sub (.oct b) inst

/-- Returns an entry to its default. -/
def clear (s : State) (idx sub : Nat) (inst : Nat := 0) : State :=
  { s with dict := NMap.set none s.dict (entryKey inst idx sub) none }

/-- Adds to a counter entry, saturating at its type's largest value. -/
def bump (s : State) (idx sub : Nat) (by_ : Nat := 1) (inst : Nat := 0) : State :=
  let size := match findEntry idx sub with
    | some e => e.ty.size
    | none => 8
  s.set idx sub (min (s.get idx sub inst + by_) (2 ^ (8 * size) - 1)) inst

/-- Adds to a free-running 32-bit counter entry. -/
def bump32 (s : State) (idx sub : Nat) (inst : Nat := 0) : State :=
  s.set idx sub ((s.get idx sub inst + 1) % 4294967296) inst

/-! ## Free values and outputs -/

/-- Draws a free value: it is unconstrained, and the next draw is another (log 3). -/
def fresh (s : State) (u : Config.Use) : Nat × State :=
  (Config.free u s.freeCount, { s with freeCount := s.freeCount + 1 })

/-- Draws a free number among candidates: the opaque choice where it names one of them, else the first; none where
there is no candidate. -/
def pick (s : State) (u : Config.Use) (cands : List Nat) : Option Nat × State :=
  match cands with
  | [] => (none, s)
  | c :: cs =>
    let v := Config.free u s.freeCount
    (some (if (c :: cs).contains v then v else c), { s with freeCount := s.freeCount + 1 })

def emit (s : State) (o : Output) : State := { s with out := o :: s.out }

/-! ## Time -/

/-- Time base `n` in ns (R346). -/
def tb (s : State) (n : Nat) : Nat :=
  (NMap.get {} s.time.bases n).value / 281474976710656 % 18446744073709551616

/-- TB1, which time-outs, events and deadlines read (Table TIM-1). -/
def now (s : State) : Nat := s.tb 1

/-! ## Firmware -/

/-- Firmware serves the dictionary: STATE 2 or 3, not in the pause of a live update, and not stopped by a power state (R15,
R411, R435). -/
def fwRunning (s : State) : Bool :=
  decide (s.fw.state = 2 ∨ s.fw.state = 3) && !s.fw.paused && !s.pwr.stopped


/-! ## Compatibility and performance counters (R39, R441) -/

/-- COMPAT_MODE 1 (R39). -/
def compat (s : State) : Bool := decide (s.get 0x2002 1 = 1)

/-- Adds to a performance counter: 48 bits saturating, or 32 bits wrapping with COMPAT_MODE 1 (R441). -/
def count (s : State) (i n : Nat) : State :=
  let v := NMap.get 0 s.ctr.counts i + n
  let v := if s.compat then v % 4294967296 else min v 281474976710655
  { s with ctr := { s.ctr with counts := NMap.set 0 s.ctr.counts i v } }

/-- Adds what the block's own work counts and the spec does not state: a free amount. -/
def countFree (s : State) (i : Nat) : State :=
  let n := Config.free .result s.freeCount
  { s with freeCount := s.freeCount + 1 }.count i n

/-! ## Slices -/

/-- SLICE_STATE: 0 absent, 1 active, 2 suspended, 3 destroying (Table QUE-7). -/
def sliceState (s : State) (k : Nat) : Nat := s.get (0x2540 + k) 3

def slicePasid (s : State) (k : Nat) : Nat := s.get (0x2540 + k) 1

/-- The existing slice that holds a PASID. -/
def sliceOf (s : State) (pasid : Nat) : Option Nat :=
  (List.range 64).find? fun k => decide (s.sliceState k ≠ 0 ∧ s.slicePasid k = pasid)

def sliceX (s : State) (k : Nat) : Slice := NMap.get {} s.que.slices k

def setSlice (s : State) (k : Nat) (x : Slice) : State :=
  { s with que := { s.que with slices := NMap.set {} s.que.slices k x } }

def queue (s : State) (q : Nat) : Queue := NMap.get {} s.que.queues q

def setQueue (s : State) (q : Nat) (x : Queue) : State :=
  { s with que := { s.que with queues := NMap.set {} s.que.queues q x } }

/-- The slice that owns a queue's block: it exists and has the bit in QUEUE_BLOCKS (R202). -/
def blockOwner (s : State) (b : Nat) : Option Nat :=
  (List.range 64).find? fun k =>
    decide (s.sliceState k ≠ 0) && ((s.getB (0x2540 + k) 9).getD (b / 8) 0).getLsbD (b % 8)

def queueOwner (s : State) (q : Nat) : Option Nat := s.blockOwner (q / 512)

/-! ## Memory -/

/-- What an unlisted byte of HBM reads as: what hardware has filled its range with, zeros or free contents; else zero at
reset, and free once the contents of the stack have become undefined (log 4). -/
def blank (s : State) (a : Nat) : Byte :=
  match s.mem.zeroed.find? fun r => decide (r.1 ≤ a ∧ a < r.2.1) with
  | some r => if r.2.2 = 0 then 0 else BitVec.ofNat 8 (Config.fn 0x801 [r.2.2, a])
  | none => if s.mem.epoch = 0 then 0 else BitVec.ofNat 8 (Config.fn 0x800 [s.mem.epoch, a])

def readByte (s : State) (a : Nat) : Byte := NMap.get (s.blank a) s.mem.cells a

def readMem (s : State) (a n : Nat) : List Byte := (List.range n).map fun i => s.readByte (a + i)

def writeByte (s : State) (a : Nat) (b : Byte) : State :=
  { s with mem := { s.mem with cells := NMap.set (s.blank a) s.mem.cells a b } }

/-- Stores bytes in HBM at physical address `a`, in ascending order. -/
def writeMem (s : State) (a : Nat) : List Byte → State
  | [] => s
  | b :: bs => (s.writeByte a b).writeMem (a + 1) bs

/-- HBM's range (R251). -/
def inHbm (a : Nat) : Bool := decide (a ≤ 0x05FFFFFFFF)

/-- The physical address of a byte of a PASID's address space, through the host's mappings. -/
def translate (s : State) (pasid va : Nat) : Option Nat :=
  (s.mem.maps.find? fun m => decide (m.pasid = pasid ∧ m.va ≤ va ∧ va < m.va + m.bytes)).map
    fun m => m.pa + (va - m.va)

/-! ## Interrupts (R220, R242) -/

/-- A write of `data` to the signal page at an offset: bit `data` of the word, and the module's own bit of the pending
bitmap (R242). -/
def signalWrite (s : State) (off data : Nat) : State :=
  if 63 < data ∨ 512 ≤ off ∨ off % 8 ≠ 0 then s
  else
    let n := s.get 0x2C00 1
    { s with lnk := { s.lnk with
        words := NMap.set 0 s.lnk.words (off / 8) (NMap.get 0 s.lnk.words (off / 8) ||| 2 ^ data)
        pendingBits := if n < 192 then s.lnk.pendingBits ||| 2 ^ n else s.lnk.pendingBits } }

/-- The signal page (Table MEM-1). -/
def signalPage : Nat := 0x1000200000

/-- Sends an interrupt: a write to the address in the PASID's space (PASID 0 writes the physical map), which may be the
signal page. -/
def sendMsi (s : State) (pasid addr data : Nat) : State :=
  let pa := if pasid = 0 then some addr else s.translate pasid addr
  match pa with
  | some a => if signalPage ≤ a ∧ a < signalPage + 4096 then s.signalWrite (a - signalPage) data
    else s.emit (.msi pasid addr data)
  | none => s.emit (.msi pasid addr data)

/-- Sends an interrupt unless its address is 0. -/
def msi (s : State) (pasid addr data : Nat) : State := if addr = 0 then s else s.sendMsi pasid addr data

/-! ## Error records (R37) -/

/-- ERROR_REGISTER bit 0: some record is unacknowledged. -/
def anyUnacked (s : State) : Bool := s.dic.records.any fun e => match e.2 with
  | some r => !r.acked
  | none => false

/-- The NOTIFY frame of a ring slot (R30, Table DIC-4): a header of TYPE 0x85 with one record that names the error record's
index, tagged while FMP_AUTH is 1. Its SEQUENCE, FRESHNESS and TARGET_NODE, and what else stands in the record, the spec does
not state: they are free (log 139). -/
def notifyFrame (s : State) (slot : Nat) : List Byte × State :=
  let tagged := decide (s.get 0x1E10 2 = 1)
  let u := fun (k : Nat) => Config.free .detail (s.freeCount + k)
  let n := u 6 % 256
  let data := (List.range (4 * cdiv n 4)).map fun i => if i < n then BitVec.ofNat 8 (u (7 + i)) else (0 : Byte)
  let head := leBytes 2 0xF960 ++ leBytes 1 1 ++ leBytes 1 0x85 ++ leBytes 2 (u 0) ++ leBytes 1 1
    ++ leBytes 1 tagged.toNat ++ leBytes 4 (u 1) ++ leBytes 1 (u 2) ++ leBytes 3 0
  let rec_ := leBytes 2 (0x3001 + slot) ++ leBytes 1 (u 3) ++ leBytes 1 0 ++ leBytes 4 (u 4) ++ leBytes 2 n ++ leBytes 2 (u 5)
    ++ leBytes 4 0 ++ data
  let body := head ++ rec_
  (body ++ (if tagged then Crypto.cmac (s.sec.fmpKey.getD []) body else []), { s with freeCount := s.freeCount + 263 })

/-- Enters a record in the ring of 0x3001-0x3400 and sends a NOTIFY frame (R30). -/
def enterRecord (s : State) (r : ErrRec) : State :=
  let slot := if s.get 0x3000 2 = 0 then 0 else (s.get 0x3000 2 - 0x3001 + 1) % 1024
  let s := { s with dic := { s.dic with records := NMap.set none s.dic.records slot (some r) } }
  let s := (s.bump 0x3000 1).set 0x3000 2 (0x3001 + slot)
  if s.getB 0x1E10 3 = [] then s
  else
    let f := s.notifyFrame slot
    f.2.emit (.notify (s.getB 0x1E10 3) slot f.1)

/-- Raises an error record: at once while firmware runs, else into the hardware queue of 256 (R436). -/
def addRecord (s : State) (status block unit : Nat) (detail : List Byte := []) : State :=
  let r : ErrRec := { status := status, source := block * 256 + unit, tb1 := s.now, tb0 := s.tb 0, detail := detail }
  if s.fwRunning then s.enterRecord r
  else if s.dic.hwQueue.length < 256 then { s with dic := { s.dic with hwQueue := s.dic.hwQueue ++ [r] } }
  else { s with fw := { s.fw with lost := s.fw.lost + 1 } }

/-- Firmware that runs again enters the records that hardware has queued, and counts those lost (R436). -/
def flushRecords (s : State) : State :=
  let rs := s.dic.hwQueue
  let n := s.fw.lost
  let s := { s with dic := { s.dic with hwQueue := [] }, fw := { s.fw with lost := 0 } }
  (rs.foldl enterRecord s).bump 0x2005 6 n

/-! ## Safety records and doubt events (R385, R377, R380) -/

/-- A safety record: in the general ring and in the safety ring of 64, with its interrupt. -/
def safetyRecord (s : State) (status block unit : Nat) (detail : List Byte) (part engine : Nat) : State :=
  let s := s.addRecord status block unit detail
  let r : ErrRec := { status := status, source := block * 256 + unit, tb1 := s.now, tb0 := s.tb 0, detail := detail }
  let slot := if s.get 0x3441 1 = 0 then 0 else (s.get 0x3441 1 - 0x3401 + 1) % 64
  let s := { s with saf := { s.saf with ring := NMap.set none s.saf.ring slot (some (r, part, engine)) } }
  ((s.set 0x3441 1 (0x3401 + slot)).bump 0x3441 2).msi 0 (s.get 0x2351 1) (s.get 0x2351 2)

/-- What a further doubt event does while the Rearguard is engaged, holding or ready (R381, R383). -/
def furtherDoubt (s : State) (cause : Nat) : State :=
  let g := if cause = St.mainReset then { s.rg with
      cause := cause
      log := NMap.set none s.rg.log s.rg.newest ((NMap.get none s.rg.log s.rg.newest).map fun e =>
        { e with cause := cause, detail := leBytes 2 s.rg.resetCause }) } else s.rg
  if g.state = 2 ∨ g.state = 3 then { s with rg := { g with state := 2, passed := [], verified := [], qualFrom := s.now } }
  else { s with rg := g }

/-- The signal of a doubt event at the Rearguard: kept until it acts in states 0 and 5 (R379, R380) and during a lock-step
restart (R382), acted on at once in states 1 to 3. -/
def rearguardDoubt (s : State) (cause : Nat) : State :=
  if s.rg.state = 0 ∨ s.rg.state = 5 ∨ s.rg.restarting then { s with rg := { s.rg with signals := s.rg.signals ++ [cause] } }
  else s.furtherDoubt cause

/-- A doubt event: signalled to the Rearguard without firmware, and recorded (R377). -/
def doubt (s : State) (cause : Nat) (part : Nat := 0xFF) (engine : Nat := 0xFF) (more : List Byte := []) : State :=
  (s.safetyRecord St.doubtEvent 0x0F 0xFF (leBytes 2 cause ++ more) part engine).rearguardDoubt cause

end State

end Sys2Proof.Machine
end

