-- ==== Sys2Proof/Machine/Frames.lean ====
section
/-! DEFINITION. Plomor frames as the link bridge sends and checks them, its buffers, the outbound windows, and the requests
that it makes (R227, R230, R231, R233, R236 to R241). -/

namespace Sys2Proof.Machine

open Sys2Proof

/-- KIND values (Table MMS-6). -/
def kWriteP : Nat := 1
def kWriteC : Nat := 2
def kRead : Nat := 3
def kCompletion : Nat := 4
def kAck : Nat := 5
def kCaravan : Nat := 6
def kCredit : Nat := 7
def kSignalRc : Nat := 8
def kMessage : Nat := 9
def kHello : Nat := 10
def kAssign : Nat := 11

/-- Header bytes 0 to 23, with HOPS taken as zero (Table MMS-5). -/
def frameHeader (f : Frame) : List Byte :=
  leBytes 1 f.dst ++ leBytes 1 f.src ++ leBytes 1 f.kind ++ leBytes 1 f.cls ++ leBytes 2 (if f.kind = kRead then f.len else f.payload.length)
    ++ leBytes 2 f.tag ++ leBytes 8 f.addr ++ leBytes 2 f.status ++ leBytes 2 0 ++ leBytes 4 f.seq

/-- FRAME_CRC (R230). -/
def frameCheck (f : Frame) : Nat := Crypto.crc32c (frameHeader f ++ f.payload)

/-! ## Outbound windows (R236) -/

/-- A window record: local base, size, target address, node, mode, class, enabled. -/
structure OutWin where
  base : Nat
  size : Nat
  target : Nat
  node : Nat
  mode : Nat
  cls : Nat
  on : Bool
deriving DecidableEq, Repr

def outWinOf (b : List Byte) : OutWin :=
  { base := field b 0 8, size := field b 8 8, target := field b 16 8, node := field b 24 1, mode := field b 25 1,
    cls := field b 26 1, on := (field b 27 1).testBit 0 }

/-- The outbound aperture (Table MEM-1). -/
def aperture : Nat := 0x4000000000
def apertureSize : Nat := 0x4000000000

/-! ## Buffers (R231, R233) -/

/-- Type of a frame: 0 posted, 1 non-posted, 2 completion (Table MMS-6). -/
def frameType (k : Nat) : Nat :=
  if k = kWriteC ∨ k = kRead ∨ k = kSignalRc then 1 else if k = kCompletion ∨ k = kAck then 2 else 0

/-- Bytes of a frame: its header and its payload (R230). -/
def frameSize (f : Frame) : Nat := 32 + f.payload.length

/-- Size of each buffer (R231). -/
def bufferBytes : Nat := 16384

/-- The buffer of a port, a type and a class. -/
def bufferKey (p type cls : Nat) : Nat := p * 12 + type * 4 + cls % 4

/-- The turn of the classes below 3 while all of them hold frames: 4 : 2 : 1. -/
def classTurn : List Nat := [2, 1, 2, 0, 2, 1, 2]

/-- What of a list of frames, oldest first, does not fit a buffer with `n` bytes left. -/
def beyond : Nat → List QFrame → List QFrame
  | _, [] => []
  | n, q :: qs => if frameSize q.frame ≤ n then beyond (n - frameSize q.frame) qs else q :: qs

namespace State

def nodeId (s : State) : Nat := s.get 0x2C00 1

/-- A node's bit in NODES_PRESENT. -/
def nodePresent (s : State) (n : Nat) : Bool := ((s.getB 0x2C00 5).getD (n / 8) 0).getLsbD (n % 8)

/-- ROUTE_TABLE: the port toward a node, 0 to 3 for A to D. -/
def routeTo (s : State) (n : Nat) : Nat := bits ((s.getB 0x2C00 6).getD (n / 4) 0).toNat (2 * (n % 4) + 1) (2 * (n % 4))

/-- PORT_STATE of port `p`: 0 down, 1 training, 2 up. -/
def portState (s : State) (p : Nat) : Nat := s.get 0x2C01 (2 + p) % 16

def outWin (s : State) (w : Nat) : OutWin := outWinOf (s.getB 0x2C03 (w + 1))

/-- The enabled window that an access to the physical map falls in, with the address at its target. -/
def windowAt (s : State) (addr len : Nat) : Option (OutWin × Nat) :=
  if addr < aperture then none
  else
    let off := addr - aperture
    ((List.range 64).map s.outWin).findSome? fun x =>
      if x.on ∧ x.base ≤ off ∧ off + len ≤ x.base + x.size then some (x, x.target + (off - x.base)) else none

/-! ## Places of an address space (R171, R196, R229) -/

/-- The contiguous physical pieces of a range of a PASID's address space, `none` for bytes without translation. -/
def segments (s : State) (pasid : Nat) : Nat → Nat → Nat → List (Option Nat × Nat)
  | 0, _, _ => []
  | fuel + 1, va, n =>
    if n = 0 then [] else
    match s.mem.maps.find? fun m => decide (m.pasid = pasid ∧ m.va ≤ va ∧ va < m.va + m.bytes) with
    | none =>
      let next := (s.mem.maps.filter fun m => decide (m.pasid = pasid ∧ va < m.va)).foldl (fun a m => min a (m.va - va)) n
      (none, next) :: s.segments pasid fuel (va + next) (n - next)
    | some m =>
      let k := min n (m.va + m.bytes - va)
      (some (m.pa + (va - m.va)), k) :: s.segments pasid fuel (va + k) (n - k)

/-- Where pieces begin that follow one another in the physical map. -/
def joined : List (Option Nat × Nat) → Option Nat
  | [] => none
  | [p] => p.1
  | (a, n) :: ps => if a.isSome ∧ joined ps = a.map (· + n) then a else none

/-- The physical address of a range of a PASID's space, where all of it translates and lies in one piece. -/
def place (s : State) (pasid va n : Nat) : Option Nat := joined (s.segments pasid (2 * s.mem.maps.length + 2) va n)

/-- Node and address of a home in another module's memory: a tier 5 home, or one of a slice's own space that its tables map
whole into an outbound window (R168, R229). -/
def farHome (s : State) (e : TEntry) : Option (Nat × Nat) :=
  if e.node ≠ 0xFF then some (e.node, e.home)
  else if e.backing ≠ 1 then none
  else match (s.place (s.slicePasid e.slice) e.home e.bytes).bind fun a => s.windowAt a e.bytes with
    | some (x, t) => if x.node = s.nodeId then none else some (x.node, t)
    | none => none

/-! ## The buffers of a port -/

def buffer (s : State) (k : Nat) : List QFrame := NMap.get [] s.lnk.queued k

def setBuffer (s : State) (k : Nat) (b : List QFrame) : State :=
  { s with lnk := { s.lnk with queued := NMap.set [] s.lnk.queued k b } }

def setUsed (s : State) (k n : Nat) : State := { s with lnk := { s.lnk with used := NMap.set 0 s.lnk.used k n } }

/-- Frames that wait at a port. -/
def queuedAt (s : State) (p : Nat) : List QFrame := (List.range 12).flatMap fun i => s.buffer (p * 12 + i)

/-- A frame goes to the next hop: sent, counted, and its bytes taken in the buffer there. -/
def leave (s : State) (p : Nat) (f : Frame) : State :=
  let k := bufferKey p (frameType f.kind) f.cls
  ((((s.setUsed k (NMap.get 0 s.lnk.used k + frameSize f)).emit (.plomor p f)).bump 0x2C08 1).count (315 + p) f.payload.length)

/-- Room for `n` bytes in a buffer at the next hop. What that buffer has passed on meanwhile, when it would not do, is free. -/
def room (s : State) (k n : Nat) : Bool × State :=
  let u := NMap.get 0 s.lnk.used k
  if u + n ≤ bufferBytes then (true, s)
  else
    let v := s.fresh .credit
    let u := u - v.1 % (u + 1)
    (decide (u + n ≤ bufferBytes), v.2.setUsed k u)

/-- The order of R233: no posted frame of the same source, destination and class that came earlier waits here; for the
completion of a SIGNAL_RC, none of any class (R242). -/
def mayLeave (s : State) (p : Nat) (q : QFrame) : Bool :=
  decide (frameType q.frame.kind = 0) || !((List.range 4).any fun c =>
    (q.follows || decide (c = q.frame.cls % 4)) && (s.buffer (bufferKey p 0 c)).any fun e =>
      decide (e.order < q.order ∧ e.frame.src = q.frame.src ∧ e.frame.dst = q.frame.dst))

/-- The buffers of a port in the order its transmitter looks at them: class 3, then the other classes by their turn; within a
class posted frames, completions, non-posted frames (DESIGN CHOICE, log 155). -/
def serveOrder (s : State) (p : Nat) : List Nat :=
  let t := NMap.get 0 s.lnk.turn p
  (3 :: (classTurn.drop t ++ classTurn.take t).eraseDups).flatMap fun c => [0, 2, 1].map fun ty => bufferKey p ty c

/-- The first of some buffers whose oldest frame may leave and has room at the next hop. -/
def readyFrame (p : Nat) : List Nat → State → Option (Nat × QFrame) × State
  | [], s => (none, s)
  | k :: ks, s => match s.buffer k with
    | [] => readyFrame p ks s
    | q :: _ => if !s.mayLeave p q then readyFrame p ks s
      else
        let r := s.room k (frameSize q.frame)
        if r.1 then (some (k, q), r.2) else readyFrame p ks r.2

/-- The turn moves past the place that served a class. -/
def passTurn (s : State) (p cls : Nat) : State :=
  if 3 ≤ cls then s
  else
    let t := NMap.get 0 s.lnk.turn p
    let i := ((classTurn.drop t ++ classTurn.take t).findIdx? (· = cls)).getD 0
    { s with lnk := { s.lnk with turn := NMap.set 0 s.lnk.turn p ((t + i + 1) % 7) } }

/-- A port sends what it can of the frames that wait there (R231). -/
def transmit (p : Nat) : Nat → State → State
  | 0, s => s
  | fuel + 1, s => match readyFrame p (s.serveOrder p) s with
    | (none, s) => s
    | (some (k, q), s) => transmit p fuel (((s.setBuffer k (s.buffer k).tail).passTurn p (q.frame.cls % 4)).leave p q.frame)

/-- Every port that has frames waiting sends what it can. -/
def transmitAll (s : State) : State :=
  (List.range 4).foldl (fun s p => if s.queuedAt p = [] then s else transmit p (s.queuedAt p).length s) s

/-- Bytes that the receive buffer of a port, a type and a class holds: frames that came over the port and have neither left nor
got into a transmit buffer, and those that a bandwidth cap holds. -/
def received (s : State) (p type cls : Nat) : Nat :=
  let here := fun (f : Frame) => decide (frameType f.kind = type ∧ f.cls % 4 = cls % 4)
  let waiting := (s.lnk.queued.flatMap fun e => beyond bufferBytes e.2).filter fun q => decide (q.came = some p) && here q.frame
  (waiting.foldl (fun a q => a + frameSize q.frame) 0)
    + (s.lnk.parked.filter fun e => decide (e.1 = p) && here e.2.1).foldl (fun a e => a + frameSize e.2.1) 0

/-- Puts a frame on a port; a port whose link is down discards it (R249). It leaves at once where nothing waits at the port and
the next hop has room. -/
def putFrame (s : State) (p : Nat) (f : Frame) (came : Option Nat := none) (follows : Bool := false) : State :=
  if s.portState p ≠ 2 then s
  else
    let k := bufferKey p (frameType f.kind) f.cls
    if s.queuedAt p = [] ∧ NMap.get 0 s.lnk.used k + frameSize f ≤ bufferBytes then s.leave p f
    else
      let q : QFrame := { frame := f, order := s.lnk.order, time := s.now, follows := follows, came := came }
      let s := s.setBuffer k (s.buffer k ++ [q])
      transmit p (s.queuedAt p).length { s with lnk := { s.lnk with order := s.lnk.order + 1 } }

/-- The frames queued for a port are discarded, and its buffers are empty (R249). -/
def dropPort (s : State) (p : Nat) : State :=
  let other := fun (k : Nat) => decide (k / 12 ≠ p)
  { s with lnk := { s.lnk with
      queued := s.lnk.queued.filter (fun e => other e.1), used := s.lnk.used.filter (fun e => other e.1),
      turn := s.lnk.turn.filter (fun e => decide (e.1 ≠ p)) } }

/-- Sends a frame of this module toward its destination (R227, R230); one for an absent node is discarded. -/
def sendFrame (s : State) (f : Frame) (follows : Bool := false) : State :=
  let f := { f with src := s.nodeId }
  if s.nodePresent f.dst then s.putFrame (s.routeTo f.dst) { f with crc := frameCheck f } none follows else s

/-! ## Requests (R238 to R241) -/

/-- A request can reach a node. -/
def reaches (s : State) (n : Nat) : Bool := s.nodePresent n && decide (s.portState (s.routeTo n) = 2)

/-- A tag for a new request: the module's own choice among those free in `lo .. lo + k - 1`; none where all are in
use. -/
def freshTag (s : State) (lo k : Nat) (used : List Nat) : Option Nat × State :=
  let v := lo + Config.free .handle s.freeCount % k
  let s := { s with freeCount := s.freeCount + 1 }
  (if used.contains v then (List.range (min k (used.length + 1))).findSome? fun i =>
      if used.contains (lo + i) then none else some (lo + i)
   else some v, s)

/-- A tag for a confirmed write. -/
def writeTag (s : State) (t : WriteTag) : Nat × State :=
  match s.freshTag 0 65536 (s.lnk.writes.map (·.1)) with
  | (tag, s) =>
    let g := tag.getD 0
    (g, { s with lnk := { s.lnk with writes := NMap.set none s.lnk.writes g (some t) } })

/-- A confirmed write of up to 4,064 bytes to a node. -/
def sendWriteC (s : State) (node cls addr : Nat) (data : List Byte) (what : AckFor) : State :=
  match s.writeTag { what := what, node := node, time := s.now } with
  | (tag, s) => s.sendFrame { dst := node, src := 0, kind := kWriteC, cls := cls, tag := tag, addr := addr, payload := data }

/-- Confirmed writes of any length, in frames of 4,064 bytes. -/
def sendWrites (s : State) (node cls addr : Nat) (data : List Byte) (what : AckFor) : State :=
  (List.range (cdiv data.length 4064)).foldl (fun s i =>
    s.sendWriteC node cls (addr + 4064 * i) ((data.drop (4064 * i)).take 4064) what) s

/-- Reserves the landing space of a piece: the bytes that have landed reach up to its end (R234, R241). -/
def reserve (s : State) (root upTo : Nat) : State :=
  let b := NMap.get [] s.lnk.landing root
  { s with lnk := { s.lnk with landing := NMap.set [] s.lnk.landing root (slice b 0 (max b.length upTo)) } }

/-- One piece of a tensor is asked for, where a bulk tag is free: its landing space is reserved, then the READ goes. -/
def askPiece (s : State) (f : RemoteFetch) (node home off len : Nat) : State :=
  if 256 ≤ s.lnk.bulk.length then s
  else match s.freshTag 1024 256 (s.lnk.bulk.map (·.1)) with
    | (none, s) => s
    | (some tag, s) =>
      let b : BulkTag := { q := f.q, n := f.n, root := f.root, off := off, len := len, node := node, time := s.now }
      let s := s.reserve f.root (off + len)
      let s := { s with
        lnk := { s.lnk with
          bulk := NMap.set none s.lnk.bulk tag (some b)
          fetches := s.lnk.fetches.map fun (g : RemoteFetch) =>
            if g.root = f.root ∧ g.q = f.q ∧ g.n = f.n then { g with next := off + len } else g } }
      s.sendFrame { dst := node, src := 0, kind := kRead, cls := (s.queue f.q).priority, tag := tag, addr := home + off, len := len }

/-- Asks for the next pieces of a tensor being fetched, while bulk tags are free (R241). -/
def issueBulk (s : State) (f : RemoteFetch) : State :=
  match NMap.get none s.plc.table f.root with
  | none => s
  | some e => match s.farHome e with
    | none => s
    | some (node, home) => (List.range (min 256 (cdiv (e.bytes - f.next) 4064))).foldl (fun s i =>
        let off := f.next + 4064 * i
        s.askPiece f node home off (min 4064 (e.bytes - off))) s

/-- Continues every fetch, and drops those that have asked for everything. -/
def pumpBulk (s : State) : State :=
  let s := s.lnk.fetches.foldl issueBulk s
  { s with
    lnk := { s.lnk with
      fetches := s.lnk.fetches.filter fun f => match NMap.get none s.plc.table f.root with
        | some e => decide (f.next < e.bytes) && (s.farHome e).isSome
        | none => false } }

/-- A descriptor still waits for bytes of a tier 5 home. -/
def fetching (s : State) (q n : Nat) : Bool :=
  (s.lnk.fetches.any fun f => decide (f.q = q ∧ f.n = n))
    || (s.lnk.bulk.any fun b => match b.2 with
        | some t => decide (t.q = q ∧ t.n = n)
        | none => false)

/-- A descriptor's write-backs to tier 5 homes still await ACKs (R241). -/
def awaitsAck (s : State) (q n : Nat) : Bool :=
  s.lnk.writes.any fun w => match w.2 with
    | some t => (match t.what with
      | .writeBack p m _ => decide (p = q ∧ m = n)
      | _ => false)
    | none => false

end State

end Sys2Proof.Machine
end

