-- ==== Sys2Proof/Machine/Regions.lean ====
section
/-! DEFINITION. Who may reach which memory: request tags and refusals (R388, R389), the ranges of partitions and
enclaves, and allocation in general HBM (R254, R357, R390, R396). -/

namespace Sys2Proof.Machine

open Sys2Proof

namespace State

/-! ## Partitions and their windows, as other chapters need them (R355, R359) -/

/-- PART_STATE: 0 inactive, 1 active, 2 degraded. -/
def partState (s : State) (k : Nat) : Nat := s.get (0x2310 + k) 0x0A

def partActive (s : State) (k : Nat) : Bool := decide (s.partState k ≠ 0)

/-- The records of the window table (Table SAF-4): start, length, engine mask, partition. -/
def windowTable (s : State) : List (Nat × Nat × Nat × Nat) :=
  let b := s.getB 0x2320 3
  (List.range (b.length / 16)).map fun w =>
    (field b (16 * w) 4, field b (16 * w + 4) 4, field b (16 * w + 8) 2, field b (16 * w + 10) 1)

def ownsWindow (s : State) (k : Nat) : Bool := s.windowTable.any fun r => decide (r.2.2.2 = k)

/-- The partition that has the slice as a member and is active. -/
def activePartOf (s : State) (sl : Nat) : Option Nat :=
  (List.range 8).find? fun k => s.partActive k && (s.get (0x2310 + k) 1).testBit sl

/-- An engine reserved by a window of an active partition. -/
def reserved (s : State) (e : Nat) : Bool :=
  s.windowTable.any fun r => s.partActive r.2.2.2 && r.2.2.1.testBit e

/-! ## Request tags (R388) -/

/-- The enclave of a slice (SLICE_ENCLAVE), none where it is 0xFFFF. -/
def sliceEnclave (s : State) (k : Nat) : Option Nat :=
  let v := s.get 0x2D12 (k + 1)
  if k < 64 ∧ v < 256 then some v else none

def hart (s : State) (h : Nat) : Hart := NMap.get {} s.harts h

def setHart (s : State) (h : Nat) (x : Hart) : State := { s with harts := NMap.set {} s.harts h x }

/-- World and enclave tag of a requester (Table SEC-1, R397, R440). -/
def tags (s : State) : Requester → Bool × Option Nat
  | .secProc | .scrubber => (true, none)
  | .hart n =>
    let h := s.hart n
    if h.mode = .m then (true, none)
    else (false, if h.menclave.getLsbD 15 then some (h.menclave.toNat % 256) else none)
  | .engine _ k | .placement k | .frontEnd k | .raster k | .planner k | .acoustic k | .bridge k =>
    (false, s.sliceEnclave k)
  | .firmware | .display | .camera | .tdm | .gateway | .extPcie | .inbound _ => (false, none)
  | .debug =>
    let v := s.get 0x2E02 1
    if v = 0xFFFE then (true, none) else (false, if v < 256 then some v else none)

/-- Start of the save slots and end of general HBM (Table MEM-1). -/
def generalEnd : Nat := 0x05C0000000

/-- The enclave that holds the granule of an address. -/
def enclaveAt (s : State) (a : Nat) : Option Nat :=
  let v := NMap.get 0 s.sec.granules (a / 2097152)
  if v = 0 then none else some (v - 1)

/-- Whether a request to one address is refused (R389, R392). -/
def refusedAt (s : State) (m : Requester) (a : Nat) : Bool :=
  let t := s.tags m
  let releasing := match s.sec.target with
    | some lo => decide (lo ≤ a ∧ a < s.sec.watermark)
    | none => false
  let saves := decide (generalEnd ≤ a ∧ a < 0x05D5000000)
  (releasing && decide (m ≠ .scrubber))
    || (!t.1 && decide (a < s.sec.watermark))
    || (!t.1 && saves)
    || (match s.enclaveAt a with
        | some e => !t.1 && decide (t.2 ≠ some e)
        | none => false)

/-- Whether any byte of a request is refused; checked by granule of 64 B. -/
def refuses (s : State) (m : Requester) (a n : Nat) : Bool :=
  (List.range (cdiv (a % 64 + n) 64)).any fun i => s.refusedAt m ((a / 64 + i) * 64)

/-- Master port 1 to 33 (R263). -/
def port : Requester → Nat
  | .engine n _ => n + 1
  | .placement _ => 17
  | .frontEnd _ => 18
  | .raster _ => 19
  | .planner _ => 20
  | .acoustic _ => 21
  | .bridge _ | .inbound _ => 22
  | .hart n => 23 + n / 8
  | .firmware => 26
  | .secProc | .scrubber => 27
  | .display => 28
  | .camera => 29
  | .tdm => 30
  | .gateway => 31
  | .extPcie => 32
  | .debug => 33

/-- The bandwidth class of a request (R257). -/
def classOf (s : State) : Requester → Nat
  | .engine _ k | .placement k | .frontEnd k | .raster k | .planner k | .acoustic k | .bridge k => s.get 0x2406 (k + 1)
  | .inbound c => s.get 0x2405 (0x0C + c % 4)
  | .hart n => s.get 0x2405 (1 + n / 8)
  | .firmware => s.get 0x2405 4
  | .secProc | .scrubber => s.get 0x2405 5
  | .display => s.get 0x2405 6
  | .camera => s.get 0x2405 7
  | .tdm => s.get 0x2405 8
  | .gateway => s.get 0x2405 9
  | .extPcie => s.get 0x2405 0x0A
  | .debug => s.get 0x2405 0x0B

/-- The record SECURE_ACCESS of a refusal, at most once per millisecond per requester (R389). -/
def noteRefusal (s : State) (m : Requester) (a : Nat) : State :=
  let p := port m
  let due := match NMap.get none s.mem.lastRefusal p with
    | none => true
    | some t => decide (t + 1000000 ≤ s.now)
  if due then
    ({ s with mem := { s.mem with lastRefusal := NMap.set none s.mem.lastRefusal p (some s.now) } }).addRecord
      St.secureAccess 0x0E 0xFF (leBytes 1 p ++ leBytes 2 (a / 2097152))
  else s

/-! ## Allocation (R254, R357, R390, R396) -/

/-- The memory range of a partition. -/
def partRange (s : State) (k : Nat) : Nat × Nat :=
  (s.get (0x2310 + k) 2, s.get (0x2310 + k) 2 + s.get (0x2310 + k) 3)

/-- Whether `bytes` at `base` may be given to a slice: inside general HBM above the reserve, free, inside the slice's
active partition and outside every other active one, and inside its enclave or outside every enclave. -/
def mayAllocate (s : State) (sl base bytes : Nat) : Bool :=
  decide (0 < bytes ∧ s.get 0x2D01 3 ≤ base ∧ s.sec.watermark ≤ base ∧ base + bytes ≤ generalEnd ∧ base % 64 = 0)
    && s.mem.allocs.all (fun a => decide (base + bytes ≤ a.base ∨ a.base + a.bytes ≤ base))
    && (List.range 8).all (fun k =>
        let r := s.partRange k
        if s.activePartOf sl = some k then decide (r.1 ≤ base ∧ base + bytes ≤ r.2)
        else !s.partActive k || decide (base + bytes ≤ r.1 ∨ r.2 ≤ base))
    && (match s.sliceEnclave sl with
        | none => s.sec.granules.all fun g => decide (base + bytes ≤ g.1 * 2097152 ∨ (g.1 + 1) * 2097152 ≤ base)
        | some e => (List.range ((base + bytes - 1) / 2097152 + 1 - base / 2097152)).all fun i =>
            decide (NMap.get 0 s.sec.granules (base / 2097152 + i) = e + 1))

/-- Rounds an address up to a multiple of 64 KiB. -/
def pageUp (a : Nat) : Nat := cdiv a 65536 * 65536

/-- Addresses at which a free range can begin: the ends of everything that bounds one. -/
def allocStarts (s : State) : List Nat :=
  (max (s.get 0x2D01 3) s.sec.watermark :: s.mem.allocs.map (fun a => pageUp (a.base + a.bytes)))
    ++ (List.range 8).flatMap (fun k => [(s.partRange k).1, (s.partRange k).2])
    ++ s.sec.granules.flatMap (fun g => [g.1 * 2097152, (g.1 + 1) * 2097152])

/-- Allocates `bytes` of general HBM for a slice: the module's own choice of address among those allowed; none where
no range is free. -/
def allocate (s : State) (sl bytes kind : Nat) : Option (Nat × State) :=
  let v := Config.free .address s.freeCount
  let s := { s with freeCount := s.freeCount + 1 }
  let base := if s.mayAllocate sl v bytes then some v else (s.allocStarts.find? fun b => s.mayAllocate sl b bytes)
  base.map fun b =>
    (b, { s with mem := { s.mem with allocs := s.mem.allocs ++ [{ base := b, bytes := bytes, slice := sl, kind := kind }] } })

/-- Returns an allocation. -/
def deallocate (s : State) (base : Nat) : State :=
  { s with mem := { s.mem with allocs := s.mem.allocs.filter fun a => decide (a.base ≠ base) } }

/-- Fills a range of HBM: with zeros where `seed` is 0, else with contents that the spec does not state, one more than their
seed. -/
def fillMem (s : State) (a n seed : Nat) : State :=
  { s with mem := { s.mem with
      cells := s.mem.cells.filter fun c => decide (c.1 < a ∨ a + n ≤ c.1)
      zeroed := if s.mem.epoch = 0 ∧ seed = 0 ∧ s.mem.zeroed = [] then [] else (a, a + n, seed) :: s.mem.zeroed
      poisoned := s.mem.poisoned.filter fun g => decide (g * 64 < a ∨ a + n < g * 64 + 64) } }

/-- Zeroes a range of HBM. -/
def zeroMem (s : State) (a n : Nat) : State := s.fillMem a n 0

end State

end Sys2Proof.Machine
end

