-- ==== Sys2Proof/Machine/Memory.lean ====
section
/-! DEFINITION. The HBM stack, its errors, and the bandwidth regulator (11_memory_and_bandwidth_regulation.md). -/

namespace Sys2Proof.Machine

open Sys2Proof

/-- The pseudo-channel of an address (R251). -/
def pcOf (a : Nat) : Nat := (bits a 12 8) ^^^ (bits a 17 13) ^^^ (bits a 22 18)

/-- The row of a pseudo-channel's own addresses that an address lies in, plus one (R251): 1 KiB rows. -/
def rowOf (a : Nat) : Nat := a / 32768 + 1

namespace State

def bwClass (s : State) (c : Nat) : BwClass := NMap.get {} s.mem.classes c

def setBwClass (s : State) (c : Nat) (x : BwClass) : State :=
  { s with mem := { s.mem with classes := NMap.set {} s.mem.classes c x } }

/-! ## Charging (R259, R263) -/

/-- Charges one access of `data` bytes in the granule at `a` to a class: its data bytes, and 80 B if it opens a row. -/
def chargeAs (s : State) (m : Requester) (c a data : Nat) : State :=
  let pc := pcOf a
  let opens := NMap.get 0 s.mem.openRow pc ≠ rowOf a
  let n := if opens then data + 80 else data
  let s := { s with mem := { s.mem with openRow := NMap.set 0 s.mem.openRow pc (rowOf a) } }
  if s.compat then s else
  let x := s.bwClass c
  let s := s.setBwClass c { x with charged := x.charged + n }
  (((s.bump (0x2410 + c) 4 n).bump (0x2410 + c) 5 data).bump 0x2408 (port m) n).count (256 + c) n

/-- Charges one access in the class of its requester (R257). -/
def chargeGranule (s : State) (m : Requester) (a data : Nat) : State := s.chargeAs m (s.classOf m) a data

/-- Charges an access that covers `n` bytes at `a` to a class, granule by granule. -/
def chargeRangeAs (s : State) (m : Requester) (c a n : Nat) : State :=
  (List.range (cdiv (a % 64 + n) 64)).foldl (fun s i => s.chargeAs m c ((a / 64 + i) * 64) 64) s

/-- Charges an access that covers `n` bytes at `a`, granule by granule (R252). -/
def chargeRange (s : State) (m : Requester) (a n : Nat) : State :=
  (List.range (cdiv (a % 64 + n) 64)).foldl (fun s i => s.chargeGranule m ((a / 64 + i) * 64) 64) s

/-- Budget of a class in the present window (R260), in bytes: units of 0.1 GB/s are 100 B per microsecond. -/
def budget (s : State) (c : Nat) : Nat := s.get (0x2410 + c) 3 * 100 * s.mem.windowUs

/-- A request of the class is borrowed now (R260). -/
def borrowed (s : State) (c : Nat) : Bool := decide (c = 15 ∨ s.budget c ≤ (s.bwClass c).charged)

/-- The class has reached its cap in the window (R260). -/
def capped (s : State) (c : Nat) : Bool :=
  decide ((s.bwClass c).cap ≠ 0 ∧ (s.bwClass c).cap * 100 * s.mem.windowUs ≤ (s.bwClass c).charged)

/-! ## Errors in the stack (R255, R256) -/

/-- A granule becomes poisoned: recorded with its physical address and counted. -/
def poison (s : State) (g : Nat) : State :=
  let s := if s.mem.poisoned.contains g then s
    else { s with mem := { s.mem with poisoned := s.mem.poisoned ++ [g] } }
  (s.addRecord St.hbmUncorrectable 0x12 (pcOf (g * 64)) (leBytes 8 (g * 64))).bump 0x2403 0x21

/-- The granules a range touches. -/
def granulesOf (a n : Nat) : List Nat := (List.range (cdiv (a % 64 + n) 64)).map (a / 64 + ·)

/-- What a reader that is refused or gets poison receives: a fault, or zeros where Table SEC-2 and Table MEM-2 say
so. -/
def faultsOn : Requester → Bool
  | .hart _ | .firmware | .secProc | .debug | .extPcie | .inbound _ | .frontEnd _ => true
  | _ => false

/-- Delivery of a read that is not held: refused, outside the map, poisoned, corrected or plain. -/
def deliver (s : State) (m : Requester) (a n : Nat) (report : HbmReport) : State :=
  if !inHbm (a + n - 1) then s.emit (.loadData none)
  else if s.refuses m a n then
    (s.noteRefusal m a).emit (.loadData (if faultsOn m then none else some (List.replicate n 0)))
  else
    let s := s.chargeRange m a n
    let bad := (granulesOf a n).filter fun g => s.mem.poisoned.contains g
    let bad := if report = .uncorrectable then (granulesOf a n).head?.toList ++ bad.filter (· ≠ a / 64) else bad
    let s := bad.foldl poison s
    let s := if report = .corrected then s.bump 0x2403 (pcOf a + 1) else s
    if bad = [] then s.emit (.loadData (some (s.readMem a n)))
    else match m with
      | .hart _ | .firmware | .secProc | .extPcie | .inbound _ | .debug => s.emit (.loadData none)
      | _ => s.emit (.loadData (some ((s.readMem a n).mapIdx fun i b => if bad.contains ((a + i) / 64) then 0 else b)))

/-- Stores bytes of one granule: a whole granule ends its poison; a part is read, merged and written as two
accesses, and is dropped while the granule is poisoned (R252, R255, Table MEM-2). -/
def storeGranule (s : State) (m : Requester) (a : Nat) (bs : List Byte) : State :=
  let g := a / 64
  if bs.length = 64 ∧ a % 64 = 0 then
    let s := (s.chargeGranule m a 64).writeMem a bs
    { s with mem := { s.mem with poisoned := s.mem.poisoned.filter (· ≠ g) } }
  else
    let s := (s.chargeGranule m a 64).chargeGranule m a 64
    if s.mem.poisoned.contains g then s.poison g else s.writeMem a bs

/-- A store that is not held, cut into its granules. -/
def store (s : State) (m : Requester) (a : Nat) (bs : List Byte) : State :=
  if bs = [] then s
  else if !inHbm (a + bs.length - 1) then s.emit (.loadData none)
  else if s.refuses m a bs.length then
    let s := s.noteRefusal m a
    if faultsOn m then s.emit (.loadData none) else s
  else
    (granulesOf a bs.length).foldl (fun s g =>
      let lo := max a (g * 64)
      let hi := min (a + bs.length) (g * 64 + 64)
      s.storeGranule m lo ((bs.drop (lo - a)).take (hi - lo))) s

/-! ## Stores of the front end (R197, R221, R229) -/

/-- A store through an outbound window: posted, or confirmed where its ACK tells `what` (R237, R238). -/
def windowWrite (s : State) (x : OutWin) (t : Nat) (bs : List Byte) (what : AckFor) : State :=
  if x.node = s.nodeId then s.store (.inbound x.cls) t bs
  else if x.mode = 1 then s.sendWrites x.node x.cls t bs what
  else s.sendFrame { dst := x.node, src := 0, kind := kWriteP, cls := x.cls, addr := t, payload := bs }

/-- Stores a record at an address of a PASID's space: in HBM, or in another module's memory through an outbound window. False
where it has no translation, is refused, or its node is not present. -/
def storeVa (s : State) (m : Requester) (pasid va : Nat) (bs : List Byte) (what : AckFor) : Bool × State :=
  match s.place pasid va bs.length with
  | none => (false, s)
  | some a =>
    if inHbm (a + bs.length - 1) then
      if s.refuses m a bs.length then (false, s.noteRefusal m a) else (true, s.store m a bs)
    else match s.windowAt a bs.length with
      | some (x, t) => if x.node = s.nodeId ∨ s.nodePresent x.node then (true, s.windowWrite x t bs what) else (false, s)
      | none => (false, s)

/-! ## Events (R221) -/

/-- The 32-byte event record of Table QUE-8. -/
def eventBytes (s : State) (e log2 event status queue detail : Nat) (overflow : Bool) : List Byte :=
  let phase := if e.testBit log2 then 0 else 1
  leBytes 2 event ++ leBytes 2 status ++ leBytes 1 (phase + (if overflow then 2 else 0)) ++ leBytes 3 0
    ++ leBytes 4 queue ++ leBytes 4 0 ++ leBytes 8 s.now ++ leBytes 8 detail

/-- Sends or holds the event interrupt of a slice: one that falls within 10 µs of the previous is merged (R220). -/
def eventIrq (s : State) (k : Nat) : State :=
  let x := s.sliceX k
  let send := (s.setSlice k { x with lastIrq := some s.now, irqHeld := false }).msi (s.slicePasid k)
    (s.get (0x2540 + k) 0x0C) (s.get (0x2540 + k) 0x0D)
  match x.lastIrq with
  | none => send
  | some t => if s.now < t + 10000 then s.setSlice k { x with irqHeld := true } else send

/-- Posts an event to a slice that is not absent (R221). -/
def postEvent (s : State) (k event status queue detail : Nat) : State :=
  if s.sliceState k = 0 then s else
  let x := s.sliceX k
  let log2 := s.get (0x2540 + k) 0x0B
  let lose := (s.setSlice k { x with overflow := true }).bump (0x2540 + k) 0x0F
  if log2 = 0 then lose
  else if 2 ^ log2 < (x.events + 1 + 4294967296 - s.get (0x2540 + k) 0x0E) % 4294967296 then lose
  else
    let rec_ := s.eventBytes x.events log2 event status queue detail x.overflow
    let r := s.storeVa (.frontEnd k) (s.slicePasid k) (s.get (0x2540 + k) 0x0A + 32 * (x.events % 2 ^ log2)) rec_ (.event k)
    if r.1 then (r.2.setSlice k { x with events := (x.events + 1) % 4294967296, overflow := false }).eventIrq k
    else (r.2.setSlice k { x with overflow := true }).bump (0x2540 + k) 0x0F

/-- Posts an event to every slice that is active or suspended. -/
def postAll (s : State) (event status detail : Nat) : State :=
  ((List.range 64).filter fun k => decide (s.sliceState k = 1 ∨ s.sliceState k = 2)).foldl
    (fun s k => s.postEvent k event status 0xFFFFFFFF detail) s

/-! ## Holding requests (R260, R262, R269) -/

/-- The requests of a class that R262 holds in a pseudo-channel under feedback: the borrowed ones, or with
COMPAT_MODE 1 those of every class but 0. -/
def feedbackHolds (s : State) (c : Nat) : Bool := if s.compat then decide (c ≠ 0) else s.borrowed c

/-- Requests of a class begin to be held. -/
def noteHeld (s : State) (c : Nat) : State :=
  let x := s.bwClass c
  s.setBwClass c { x with heldSince := some (x.heldSince.getD s.now) }

/-- The cap of a class holds its requests now (R260). -/
def capHolds (s : State) (c : Nat) : Bool := !s.compat && s.capped c

/-- Holds a request. -/
def holdReq (s : State) (r : HeldReq) : State :=
  let s := s.noteHeld (s.classOf r.m)
  { s with mem := { s.mem with heldReqs := s.mem.heldReqs ++ [r] } }

/-- Performs a request. -/
def perform (s : State) (r : HeldReq) : State :=
  if r.write then s.store r.m r.addr r.data else s.deliver r.m r.addr r.len r.report

/-- A request at its master: held by the cap of its class, held by feedback, or performed. -/
def request (s : State) (r : HeldReq) : State :=
  let c := s.classOf r.m
  if s.capHolds c then s.holdReq { r with pc := none }
  else if s.mem.feedback.contains (pcOf r.addr) && s.feedbackHolds c then s.holdReq { r with pc := some (pcOf r.addr) }
  else s.perform r

/-- The held time of a class that has no request held any more is added to BW_HELD_NS. -/
def settleHeld (s : State) (c : Nat) : State :=
  let x := s.bwClass c
  if s.capHolds c ∨ (s.mem.heldReqs.any fun r => decide (s.classOf r.m = c)) ∨ (s.lnk.parked.any fun e => decide (e.2.2 = c)) then s else
  match x.heldSince with
  | none => s
  | some t => (s.setBwClass c { x with heldSince := none }).bump (0x2410 + c) 7 (s.now - t)

/-- The tier in which the controller serves a request of a class: guaranteed requests of class 0, other guaranteed ones, borrowed
ones (R261); with COMPAT_MODE 1 class 0 and then all others (R269). -/
def tier (s : State) (c : Nat) : Nat :=
  if s.compat then (if c = 0 then 0 else 1) else if s.borrowed c then 2 else if c = 0 then 0 else 1

/-- Serves requests that reach the controller together: by tier, oldest first within one (R261). A cap that is met again holds
the rest. -/
def serveTiers : Nat → List HeldReq → State → State
  | 0, _, s => s
  | fuel + 1, rs, s =>
    match (List.range 3).findSome? fun t => rs.findIdx? fun r => decide (s.tier (s.classOf r.m) = t) with
    | none => s
    | some i => match rs[i]? with
      | none => s
      | some r => serveTiers fuel (rs.eraseIdx i) (s.request r)

/-- Releases the held requests that a condition names. -/
def releaseHeld (s : State) (rel : HeldReq → Bool) : State :=
  let rs := s.mem.heldReqs.filter rel
  let s := { s with mem := { s.mem with heldReqs := s.mem.heldReqs.filter fun r => !rel r } }
  let s := serveTiers rs.length rs s
  (List.range 16).foldl settleHeld s

/-- The feedback signal of a pseudo-channel whose queue holds `queued` requests (R262). -/
def feedbackSignal (s : State) (pc queued : Nat) : State :=
  let th := s.get 0x2401 2
  if th ≤ queued then
    if s.mem.feedback.contains pc then s else { s with mem := { s.mem with feedback := s.mem.feedback ++ [pc] } }
  else if queued + 8 ≤ th ∧ s.mem.feedback.contains pc then
    ({ s with mem := { s.mem with feedback := s.mem.feedback.filter (· ≠ pc) } }).releaseHeld fun r => decide (r.pc = some pc)
  else s

/-! ## Windows and guarantees (R258, R260, R265 to R268) -/

/-- What is left for class `c` once class 0 and the classes above `c` have their guarantees. -/
def leftFor (s : State) (c : Nat) : Nat :=
  ((List.range 14).filter fun i => c < i + 1).foldl (fun r i => r - (s.bwClass (i + 1)).guarantee)
    (s.get 0x2402 2 - (s.bwClass 0).guarantee)

/-- The effective guarantee of a class (R265). -/
def effectiveOf (s : State) (c : Nat) : Nat :=
  if c = 0 then (s.bwClass 0).guarantee
  else if c = 15 then 0
  else min (s.bwClass c).guarantee (s.leftFor c)

/-- GUARANTEE_MISSED (R268), and the doubt event of cause 2 on an active partition's class (R377). -/
def guaranteeMissed (s : State) (c cause : Nat) : State :=
  let e := s.get (0x2410 + c) 3
  let s := s.addRecord St.guaranteeMissed 0x13 c (leBytes 1 c ++ leBytes 1 cause ++ leBytes 4 e)
  let s := ((List.range 64).filter fun k => decide ((s.sliceState k = 1 ∨ s.sliceState k = 2) ∧ s.get 0x2406 (k + 1) = c)).foldl
    (fun s k => s.postEvent k 0x0007 St.guaranteeMissed 0xFFFFFFFF (c + 256 * cause + 4294967296 * e)) s
  let s := s.msi 0 (s.get 0x2404 1) (s.get 0x2404 2)
  match (List.range 8).find? fun k => s.partActive k && decide (s.get (0x2310 + k) 4 = c) with
  | some k => if cause = 2 then s.doubt St.guaranteeMissed k else s
  | none => s

/-- Cause 2 at the end of a window: held throughout, and short of its budget by more than 4 KiB per master (R267). -/
def missedInWindow (s : State) (c masters : Nat) : State :=
  let x := s.bwClass c
  if s.get (0x2410 + c) 3 = 0 ∨ s.budget c ≤ x.charged + 4096 * masters then s else
  let s := s.bump (0x2410 + c) 6
  let due := match x.lastMissed with
    | none => true
    | some t => decide (t + 1000000 ≤ s.now)
  if due then (s.setBwClass c { s.bwClass c with lastMissed := some s.now }).guaranteeMissed c 2 else s

/-- Takes the guarantee, cap and effective guarantee of a class for the new window; a fall with an unchanged guarantee,
or a reservation above the deliverable figure, raises cause 1 once (R265, R266). -/
def openClass (s : State) (c : Nat) : State :=
  let x := s.bwClass c
  let old := s.get (0x2410 + c) 3
  let e := s.effectiveOf c
  let beyond := decide (c = 0 ∧ s.get 0x2402 2 < e)
  let s := s.set (0x2410 + c) 3 e
  let s := s.setBwClass c { x with prevGuarantee := x.guarantee, charged := 0, raised := beyond }
  if s.compat then s
  else if (e < old ∧ x.guarantee = x.prevGuarantee) ∨ (beyond ∧ !x.raised) then s.guaranteeMissed c 1
  else s

/-- A bandwidth window boundary. `starved` names the classes that had a request held for want of HBM throughout the
window that ends, each with the number of its masters. -/
def bwBoundary (s : State) (starved : List (Nat × Nat)) : State :=
  let s := if s.compat then s else starved.foldl (fun s p => s.missedInWindow p.1 p.2) s
  let s := (List.range 16).foldl (fun s c =>
    s.setBwClass c { s.bwClass c with guarantee := s.get (0x2410 + c) 1, cap := s.get (0x2410 + c) 2 }) s
  let s := (List.range 16).foldl openClass s
  let s := { s with mem := { s.mem with windowUs := s.get 0x2401 1, windowStart := s.now } }
  s.releaseHeld fun r => decide (r.pc = none)

/-! ## Temperature (R265, Table MEM-5) -/

/-- Threshold of a level, and the deliverable figure it sets. -/
def hbmLevels : List (Int × Nat) := [(85, 7064), (95, 5298), (100, 3532)]

/-- The level after a reading: a level is entered at its threshold and left below the threshold less 3 °C. -/
def hbmLevel (level : Nat) (t : Int) : Nat :=
  let up := (hbmLevels.filter fun p => decide (p.1 ≤ t)).length
  let hold := (hbmLevels.filter fun p => decide (p.1 - 3 ≤ t)).length
  max up (min level hold)

/-- The level that a deliverable figure stands for. -/
def levelOfFigure (v : Nat) : Nat := if v = 7064 then 1 else if v = 5298 then 2 else if v = 3532 then 3 else 0

/-- A reading of the stack's sensor. -/
def hbmTemp (s : State) (t : Int) : State :=
  let l := hbmLevel (levelOfFigure (s.get 0x2402 2)) t
  let v := if l = 0 then 7372 else (hbmLevels.getD (l - 1) (0, 7372)).2
  (s.set 0x2402 3 (ofSigned 16 t)).set 0x2402 2 v

/-! ## Writes of class entries (R263, R264, R355) -/

/-- The sum of the guarantees of classes 0 to 14 but one. -/
def guaranteesBut (s : State) (c : Nat) : Nat :=
  ((List.range 15).filter (· ≠ c)).foldl (fun a j => a + s.get (0x2410 + j) 1) 0

/-- A write of BW_GUARANTEE; `total` is the sum after all records where it is part of a WRITE_SET. -/
def writeGuarantee (s : State) (c v : Nat) (total : Option Nat) : WRes :=
  let cap := s.get (0x2410 + c) 2
  let sum := total.getD (s.guaranteesBut c + v)
  if c = 15 ∧ v ≠ 0 then .abort Ab.high
  else if cap ≠ 0 ∧ cap < v then .abort Ab.high
  else if (List.range 8).any (fun k => s.partActive k && s.ownsWindow k && decide (s.get (0x2310 + k) 4 = c
      ∧ v < s.get 0x2605 2 ∧ v < s.get (0x2410 + c) 1)) then .abort (Ab.refusal St.partitionBusy)
  else if s.get (0x2410 + c) 1 < v ∧ 7372 < sum then .abort (Ab.refusal St.bwOvercommit)
  else .ok (s.set (0x2410 + c) 1 v)

/-- Writes of the range 0x2400. -/
def bandwidthWrite (s : State) (idx sub n : Nat) (total : Option Nat) : WRes :=
  if 0x2410 ≤ idx then
    if sub = 1 then s.writeGuarantee (idx - 0x2410) n total
    else if n ≠ 0 ∧ n < s.get idx 1 then .abort Ab.low
    else .ok (s.set idx 2 n)
  else if idx = 0x2401 ∧ sub = 4 then
    let s := (List.range 16).foldl (fun s c => ((((s.clear (0x2410 + c) 4).clear (0x2410 + c) 5).clear (0x2410 + c) 6).clear (0x2410 + c) 7)) s
    .ok ((List.range 33).foldl (fun s p => s.clear 0x2408 (p + 1)) s)
  else if idx = 0x2406 ∧ ((List.range 8).any fun k => s.partActive k && s.ownsWindow k && (s.get (0x2310 + k) 1).testBit (sub - 1))
  then .abort (Ab.refusal St.partitionBusy)
  else .ok (s.set idx sub n)

end State

/-! ## The commands -/

/-- HBM_READ (R255, R256, R259 to R262, R389). `queued` is how many requests the pseudo-channel's queue holds. -/
def execHbmRead (m : Requester) (addr len queued : Nat) (report : HbmReport) (s : State) : Out :=
  .next ((s.feedbackSignal (pcOf addr) queued).request
    { m := m, write := false, addr := addr, len := len, data := [], report := report, pc := none })

/-- PARTIAL_GRANULE_WRITE (R252): also the store of whole granules. -/
def execPartialGranuleWrite (m : Requester) (addr : Nat) (data : List Byte) (s : State) : Out :=
  .next (s.request { m := m, write := true, addr := addr, len := data.length, data := data, report := .ok, pc := none })

/-- BW_WINDOW_BOUNDARY (R258, R265 to R268). -/
def execBwWindowBoundary (starved : List (Nat × Nat)) (s : State) : Out := .next (s.bwBoundary starved)

/-- HBM_TEMP_SAMPLE (R265). -/
def execHbmTempSample (celsius : Int) (s : State) : Out := .next (s.hbmTemp celsius)

end Sys2Proof.Machine
end

