-- ==== Sys2Proof/Machine/Queues.lean ====
section
/-! DEFINITION. Queues, doorbells, contexts and slices (09_queues_slices_and_contexts.md). -/

namespace Sys2Proof.Machine

open Sys2Proof

/-- Difference of two 32-bit free-running counts. -/
def diff32 (a b : Nat) : Nat := (a + 4294967296 - b) % 4294967296

namespace State

/-! ## Contexts (R207 to R209) -/

/-- Queues whose context is on chip. -/
def residents (s : State) : List Nat := (s.que.queues.filter fun e => e.2.resident).map (·.1)

/-- A context has no work in flight (R207). -/
def idleContext (s : State) (q : Nat) : Bool :=
  !(s.queue q).inWork || decide ((s.queue q).state = .halted ∨ (s.queue q).state = .disabled)

/-- Marks a context as the most recently used. -/
def touch (s : State) (q : Nat) : State :=
  ({ s with que := { s.que with useCount := s.que.useCount + 1 } }).setQueue q
    { s.queue q with lastUse := s.que.useCount + 1 }

/-- Where a queue's context is spilled (Table MEM-1). -/
def contextAddr (q : Nat) : Nat := 0x05D5000000 + 64 * q

/-- One access of the front end to a spilled context is charged to the slice that owns the queue (R259). -/
def chargeContext (s : State) (q : Nat) : State := match s.queueOwner q with
  | some k => s.chargeGranule (.frontEnd k) (contextAddr q) 64
  | none => s

/-- A queue's context as it stands is written to its place in HBM; its layout there is not stated and the bytes are free. -/
def storeContext (s : State) (q : Nat) : State :=
  let v := s.fresh .data
  (v.2.chargeContext q).fillMem (contextAddr q) 64 (v.1 + 1)

/-- Loads a queue's context: it is on chip and its pending bit is clear; the wait of a latched doorbell is seen. -/
def loadContext (s : State) (q : Nat) : State :=
  let x := s.queue q
  let s := ((s.chargeContext q).setQueue q { x with resident := true, pendingSince := none }).bump 0x2501 4
  let s := match x.pendingSince with
    | some t => s.set 0x2501 6 (max (s.get 0x2501 6) (s.now - t))
    | none => s
  s.touch q

/-- Spills a context; an enabled queue with descriptors to fetch is pending again at once (R209). -/
def spillContext (s : State) (q : Nat) (again : Bool) : State :=
  let x := s.queue q
  let p := if again && decide (x.state = .enabled) && decide (0 < diff32 x.p x.f) then some s.now else x.pendingSince
  (((s.storeContext q).setQueue q { x with resident := false, pendingSince := p }).bump 0x2501 3).count 325 1

/-- The least recently used context that has no work in flight (R208). -/
def lruContext (s : State) : Option Nat :=
  (s.residents.filter s.idleContext).foldl (fun a q => match a with
    | none => some q
    | some b => if (s.queue q).lastUse < (s.queue b).lastUse then some q else some b) none

/-- Brings a context on chip if it can be (R208), else sets its pending bit (R209). -/
def needContext (s : State) (q : Nat) (doorbell : Bool) : State :=
  if (s.queue q).resident then s.touch q
  else if s.residents.length < 4096 then s.loadContext q
  else match s.lruContext with
    | some b => (s.spillContext b false).loadContext q
    | none =>
      let x := s.queue q
      let s := s.setQueue q { x with pendingSince := some (x.pendingSince.getD s.now) }
      if doorbell then ((s.chargeContext q).storeContext q).bump 0x2501 5 else s

/-- The pending queue served next: ascending queue ID, wrapping, from the last one served (R209). -/
def nextPending (s : State) : Option Nat :=
  let ps := (s.que.queues.filter fun e => e.2.pendingSince.isSome).map (·.1)
  match ps.find? fun q => decide (s.que.lastServed < q) with
  | some q => some q
  | none => ps.head?

/-! ## Interrupts of queues (R220) -/

/-- Sends a queue's completion interrupt, or merges it into one at the end of the holdoff. -/
def queueIrq (s : State) (q : Nat) : State :=
  let x := s.queue q
  if !x.msiEnable then s else
  let pasid := match s.queueOwner q with
    | some k => s.slicePasid k
    | none => 0
  let send := (s.setQueue q { x with lastIrq := some s.now, irqHeld := false }).sendMsi pasid x.msiAddr x.msiData
  match x.lastIrq with
  | none => send
  | some t => if s.now < t + 1000 * x.holdoffUs then s.setQueue q { x with irqHeld := true } else send

/-- The end of a holdoff: the merged interrupt is sent. -/
def holdoffEnd (s : State) : HoldoffOwner → State
  | .queue q =>
    let x := s.queue q
    if !x.irqHeld then s else
    let pasid := match s.queueOwner q with
      | some k => s.slicePasid k
      | none => 0
    (s.setQueue q { x with lastIrq := some s.now, irqHeld := false }).sendMsi pasid x.msiAddr x.msiData
  | .slice k =>
    let x := s.sliceX k
    if !x.irqHeld then s else
    (s.setSlice k { x with lastIrq := some s.now, irqHeld := false }).msi (s.slicePasid k)
      (s.get (0x2540 + k) 0x0C) (s.get (0x2540 + k) 0x0D)

/-! ## Doorbells (R199, R200) -/

/-- Posts DOORBELL_INVALID to the slice that owns the queue's block, if one does. -/
def doorbellInvalid (s : State) (q v : Nat) : State :=
  match s.queueOwner q with
  | some k => s.postEvent k 0x0003 0 q v
  | none => s

/-- A doorbell write at offset `off` of the region: an 8-byte write sets P and C, a 4-byte write P (offset a multiple
of 8) or C. -/
def doorbell (s : State) (off : Nat) (wide : Bool) (v : BitVec 64) : State :=
  let q := off / 8
  let x := s.queue q
  let lo := v.toNat % 4294967296
  let hi := v.toNat / 4294967296
  let p := if wide ∨ off % 8 < 4 then lo else x.p
  let c := if wide then hi else if off % 8 < 4 then x.c else lo
  let shown := if wide then v.toNat else lo
  if x.state = .unconfigured then s.doorbellInvalid q shown
  else if 2 ^ x.ringLog2 < diff32 p x.f ∨ 2 ^ x.cringLog2 < diff32 x.wr c then s.doorbellInvalid q shown
  else
    let bells := if p = x.p then x.bells else x.bells ++ [(p, s.now)]
    let s := (s.count 324 1).setQueue q { x with p := p, c := c, bells := bells }
    ({ s with pwr := { s.pwr with dwell := false, busyAt := s.now } }).needContext q true

/-! ## Queue configuration and commands (R202 to R206) -/

/-- Whether a domain may configure a queue: the slice of the path's PASID must own its block; the hypervisor's
queue must lie in an owned block. Answers the owning slice or an abort code. -/
def queueAccess (s : State) (d : Dom) (q : Nat) : Except Nat Nat :=
  match s.queueOwner q with
  | none => match d with
    | .slice _ => .error Ab.domain
    | _ => .error Ab.value
  | some k => match d with
    | .slice p => if s.slicePasid k = p then .ok k else .error Ab.domain
    | _ => .ok k

/-- A write of QUEUE_CONFIG (Table QUE-3). -/
def queueConfig (s : State) (d : Dom) (b : List Byte) : WRes :=
  let q := field b 0 4
  if b.length ≠ 48 then .abort Ab.length
  else if 262143 < q then .abort Ab.value
  else match s.queueAccess d q with
    | .error e => .abort e
    | .ok k =>
      let rl := field b 4 1
      let cl := field b 5 1
      let pr := field b 6 1
      if rl < 4 ∨ 20 < rl ∨ cl < 4 ∨ 20 < cl ∨ 3 < pr ∨ field b 8 8 % 4096 ≠ 0 ∨ field b 16 8 % 4096 ≠ 0
          ∨ field b 24 8 % 4 ≠ 0 ∨ 1 < field b 7 1 ∨ 1000 < field b 36 2 then .abort Ab.value
      else if s.get (0x2540 + k) 8 < pr then .abort Ab.high
      else
        let x := s.queue q
        if x.state ≠ .unconfigured ∧ x.state ≠ .disabled then .abort (Ab.refusal St.queueState)
        else .ok (s.setQueue q { x with
          state := .disabled, ringLog2 := rl, cringLog2 := cl, priority := pr, msiEnable := (field b 7 1).testBit 0,
          ringVa := field b 8 8, cringVa := field b 16 8, msiAddr := field b 24 8, msiData := field b 32 4,
          holdoffUs := field b 36 2 })

/-- A disabling queue without descriptors awaiting their record becomes disabled (R206). -/
def settleDisable (s : State) (q : Nat) : State :=
  let x := s.queue q
  if x.state = .disabling ∧ x.desc = [] then s.setQueue q { x with state := .disabled } else s

/-- Table QUE-5. -/
def queueCommand (s : State) (cmd q : Nat) : WRes :=
  let x := s.queue q
  let refuse := WRes.abort (Ab.refusal St.queueState)
  if cmd = 1 then match x.state with
    | .disabled => .ok ((s.setQueue q { x with state := .enabled }).needContext q false)
    | .enabled => .ok s
    | _ => refuse
  else if cmd = 2 then match x.state with
    | .enabled | .halted => .ok ((s.setQueue q { x with state := .disabling }).settleDisable q)
    | _ => .ok s
  else if cmd = 3 then match x.state with
    | .halted => .ok ((s.setQueue q { x with state := .enabled }).needContext q false)
    | .enabled => .ok s
    | _ => refuse
  else if cmd = 4 then match x.state with
    | .disabled => .ok (s.setQueue q { x with p := 0, f := 0, wr := 0, c := 0, bells := [] })
    | _ => refuse
  else .abort Ab.value

/-- A write of QUEUE_CMD (Table QUE-4). -/
def queueCmd (s : State) (d : Dom) (v : Nat) : WRes :=
  let q := bits v 17 0
  match s.queueAccess d q with
  | .error e => .abort e
  | .ok _ => s.queueCommand (bits v 31 28) q

/-- Descriptors of a queue accepted and not completed (R198). -/
def inFlight (s : State) (q : Nat) : Nat :=
  ((s.queue q).desc.filter fun e => match e.2 with
    | some d => decide (d.phase ≠ .done) && !d.rejected
    | none => false).length

/-- One record of QUEUE_INFO (R206). -/
def queueInfo (s : State) (q : Nat) : List Byte :=
  let x := s.queue q
  let st := match x.state with
    | .unconfigured => 0
    | .disabled => 1
    | .enabled => 2
    | .halted => 3
    | .disabling => 4
  leBytes 1 st ++ leBytes 1 x.priority ++ leBytes 2 (s.inFlight q) ++ leBytes 4 x.p ++ leBytes 4 x.f ++ leBytes 4 x.wr
    ++ leBytes 4 x.c ++ leBytes 2 x.haltStatus ++ leBytes 1 (if x.resident then 1 else 0) ++ leBytes 9 0

/-- A read of QUEUE_INFO: a slice sees zeros for queues outside its blocks. -/
def queueInfoRead (s : State) (d : Dom) (off len : Nat) : List Byte :=
  (List.range (min len (8388608 - off))).map fun i =>
    let q := (off + i) / 32
    let seen := match d, s.queueOwner q with
      | .slice p, some k => decide (s.slicePasid k = p)
      | .slice _, none => false
      | _, _ => true
    if seen then (s.queueInfo q).getD ((off + i) % 32) 0 else 0

/-- Unconfigures the queues of a block (R213, R215). -/
def unconfigureBlock (s : State) (b : Nat) : State :=
  { s with que := { s.que with queues := s.que.queues.filter fun e => decide (e.1 / 512 ≠ b) } }

/-! ## Memory quotas (R214, R216, R217) -/

def memUsed (s : State) (k : Nat) : Nat := s.get (0x2540 + k) 5

def memQuota (s : State) (k : Nat) : Nat := s.get (0x2540 + k) 4

/-- What follows a fall of MEM_USED or a rise of MEM_QUOTA: at or below the quota the timer stops, and a suspended
slice returns to active with SLICE_RESUMED. -/
def quotaSettle (s : State) (k : Nat) : State :=
  if s.memQuota k < s.memUsed k then s else
  let s := s.setSlice k { s.sliceX k with graceStart := none }
  if s.sliceState k = 2 then (s.set (0x2540 + k) 3 1).postEvent k 0x0006 0 0xFFFFFFFF (s.memUsed k) else s

/-- Counts an allocation of a slice. -/
def useMem (s : State) (k n : Nat) : State := s.set (0x2540 + k) 5 (s.memUsed k + n)

/-- Counts freed memory of a slice. -/
def freeMem (s : State) (k n : Nat) : State := (s.set (0x2540 + k) 5 (s.memUsed k - n)).quotaSettle k

/-- An allocation of `n` bytes would exceed the quota (R214). -/
def overQuota (s : State) (k n : Nat) : Bool := decide (s.memQuota k < s.memUsed k + n)

/-- The grace timer has run out with MEM_USED above the quota (R216). -/
def graceExpired (s : State) (k : Nat) : Bool :=
  match (s.sliceX k).graceStart with
  | none => false
  | some t => decide (s.get (0x2540 + k) 6 ≠ 0 ∧ t + 1000000 * s.get (0x2540 + k) 6 ≤ s.now
      ∧ s.memQuota k < s.memUsed k ∧ s.sliceState k = 1)

/-- An active slice becomes suspended (R217). -/
def suspend (s : State) (k : Nat) : State :=
  if s.graceExpired k then
    ((s.setSlice k { s.sliceX k with graceStart := none }).set (0x2540 + k) 3 2).postEvent k 0x0005 St.sliceSuspended
      0xFFFFFFFF (s.memUsed k)
  else s

/-- A write of MEM_QUOTA (R216). -/
def writeQuota (s : State) (k v : Nat) : State :=
  let s := s.set (0x2540 + k) 4 v
  if s.sliceState k ≠ 1 ∧ s.sliceState k ≠ 2 then s
  else if v < s.memUsed k then
    let s := s.postEvent k 0x0004 St.quotaExceeded 0xFFFFFFFF (s.memUsed k - v)
    s.setSlice k { s.sliceX k with graceStart := some ((s.sliceX k).graceStart.getD s.now) }
  else s.quotaSettle k

/-! ## Slices (R211 to R215, R218) -/

/-- Two QUEUE_BLOCKS values share a bit. -/
def blocksMeet (a b : List Byte) : Bool := (a.zip b).any fun p => decide (p.1 &&& p.2 ≠ 0)

/-- SLICE_CMD 1 (R212). -/
def sliceCreate (s : State) (k : Nat) : WRes :=
  let others := (List.range 64).filter fun j => decide (j ≠ k ∧ s.sliceState j ≠ 0)
  if s.sliceState k ≠ 0 ∨ s.slicePasid k = 0 then .abort Ab.value
  else if others.any fun j => decide (s.slicePasid j = s.slicePasid k) || blocksMeet (s.getB (0x2540 + j) 9) (s.getB (0x2540 + k) 9)
  then .abort Ab.value
  else .ok ((s.setSlice k { shareNow := (s.sliceX k).shareNow }).set (0x2540 + k) 3 1)

/-- SLICE_CMD 2 (R215): the slice runs down; a running grace timer stops (R216). -/
def sliceDestroy (s : State) (k : Nat) : WRes :=
  if s.sliceState k = 1 ∨ s.sliceState k = 2 then
    .ok ((s.setSlice k { s.sliceX k with graceStart := none }).set (0x2540 + k) 3 3)
  else if s.sliceState k = 3 then .ok s
  else .abort Ab.value

/-- A write of QUEUE_BLOCKS (R213); an absent slice's blocks own nothing and are stored. -/
def writeBlocks (s : State) (k : Nat) (b : List Byte) : WRes :=
  if s.sliceState k = 0 then .ok (s.setB (0x2540 + k) 9 b)
  else
    let old := s.getB (0x2540 + k) 9
    let has := fun (m : List Byte) (n : Nat) => (m.getD (n / 8) 0).getLsbD (n % 8)
    let added := (List.range 512).filter fun n => has b n && !has old n
    let removed := (List.range 512).filter fun n => has old n && !has b n
    if added.any fun n => (s.blockOwner n).isSome then .abort Ab.value
    else if s.que.queues.any fun e => removed.contains (e.1 / 512)
        && decide (e.2.state ≠ .unconfigured ∧ e.2.state ≠ .disabled)
    then .abort (Ab.refusal St.queueBlockBusy)
    else .ok (removed.foldl unconfigureBlock (s.setB (0x2540 + k) 9 b))

/-- A write of ENGINE_SHARE: the sum of all may not exceed 256 (R218). -/
def writeShare (s : State) (k v : Nat) : WRes :=
  let others := ((List.range 64).filter (· ≠ k)).foldl (fun a j => a + s.get (0x2540 + j) 7) 0
  if 256 < others + v then .abort (Ab.refusal St.shareOvercommit) else .ok (s.set (0x2540 + k) 7 v)

/-- Writes of a slice's entries (Table QUE-7). -/
def sliceWrite (s : State) (d : Dom) (idx sub : Nat) (v : DVal) : WRes :=
  let k := idx - 0x2540
  match v with
  | .oct b => if sub = 9 then s.writeBlocks k b else .ok (s.setB idx sub b)
  | .num n =>
    if sub = 1 then
      if s.sliceState k ≠ 0 ∧ n ≠ s.slicePasid k then .abort (Ab.refusal St.queueState)
      else .ok (s.set idx 1 n)
    else if sub = 2 then (if n = 1 then s.sliceCreate k else s.sliceDestroy k)
    else if sub = 4 then .ok (s.writeQuota k n)
    else if sub = 6 then .ok ((s.set idx 6 n).suspend k)
    else if sub = 7 then s.writeShare k n
    else if sub = 0x0A ∧ n % 4096 ≠ 0 then .abort Ab.value
    else if sub = 0x0E then match d with
      | .slice p => if s.sliceState k ≠ 0 ∧ s.slicePasid k = p then .ok (s.set idx sub n) else .abort Ab.domain
      | _ => .ok (s.set idx sub n)
    else .ok (s.set idx sub n)

/-- The end of an accounting window: every slice returns within its share, and shares and window length written
since take effect (R218, R219). -/
def engineWindow (s : State) : State :=
  let s := { s with que := { s.que with windowUsNow := s.get 0x2501 2 } }
  (List.range 64).foldl (fun s k =>
    s.setSlice k { s.sliceX k with windowNs := 0, shareNow := s.get (0x2540 + k) 7 }) s

end State

/-! ## The commands of this chapter that are no dictionary access -/

/-- CONTEXT_SPILL_LOAD (R209): the context of `q`, which has no work in flight any more, is spilled and a pending
queue is loaded. -/
def execContextSpillLoad (q : Nat) (s : State) : Out :=
  .next (if (s.queue q).resident && s.idleContext q then
    match s.nextPending with
    | none => s
    | some n =>
      let s := (s.spillContext q true).loadContext n
      { s with que := { s.que with lastServed := n } }
  else s)

/-- IRQ_HOLDOFF_END (R220, R221). -/
def execIrqHoldoffEnd (t : HoldoffOwner) (s : State) : Out := .next (s.holdoffEnd t)

/-- GRACE_EXPIRY (R217). -/
def execGraceExpiry (k : Nat) (s : State) : Out := .next (s.suspend k)

/-- ENGINE_WINDOW_BOUNDARY (R218, R219). -/
def execEngineWindowBoundary (s : State) : Out := .next s.engineWindow

end Sys2Proof.Machine
end

