-- ==== Sys2Proof/Machine/Security.lean ====
section
/-! DEFINITION. Isolation and security: watermark, enclaves, harts' worlds, holds, keys, images and debug sessions
(18_isolation_and_security.md). -/

namespace Sys2Proof.Machine

open Sys2Proof

namespace State

/-! ## Watermark and reserve (R390 to R394) -/

/-- A raise: in force at once. -/
def raiseWatermark (s : State) (v : Nat) : State :=
  ({ s with sec := { s.sec with watermark := v, target := none } }).set 0x2D01 4 0

/-- A lower in progress is cancelled: the range is secure again, a part of it zeroed in ascending order (R393). How far
the scrubber had come is a free value. -/
def cancelLower (s : State) : State :=
  match s.sec.target with
  | none => s
  | some lo =>
    let f := s.fresh .choice
    f.2.zeroMem lo (f.1 % (s.sec.watermark - lo + 1) / 64 * 64)

/-- A write of SECURE_WATERMARK. -/
def writeWatermark (s : State) (v : Nat) : WRes :=
  let w := s.sec.watermark
  if s.sec.target.isSome ∧ v < w then .abort (Ab.refusal St.scrubBusy)
  else if s.get 0x2D01 3 < v ∨ 0x05BFFFFFFF < v ∨ v % 67108864 ≠ 0 then .abort (Ab.refusal St.watermarkInvalid)
  else
    let s := s.set 0x2D01 1 v
    if w ≤ v then .ok (s.cancelLower.raiseWatermark v)
    else .ok (({ s with sec := { s.sec with target := some v } }).set 0x2D01 4 1)

/-- The scrubber, at its master's class, zeroes the last byte: the new watermark takes effect (R392). -/
def scrubDone (s : State) : State :=
  match s.sec.target with
  | none => s
  | some lo =>
    let n := s.sec.watermark - lo
    ((s.chargeRange .scrubber lo n).zeroMem lo n).raiseWatermark lo

/-- Some slice exists. -/
def anySlice (s : State) : Bool := (List.range 64).any fun k => decide (s.sliceState k ≠ 0)

/-- A write of SEC_RESERVE_TOP (R394). -/
def writeReserve (s : State) (v : Nat) : WRes :=
  let bad := WRes.abort (Ab.refusal St.watermarkInvalid)
  if v % 67108864 ≠ 0 then .abort Ab.value
  else if v < s.sec.watermark then bad
  else if v ≤ s.get 0x2D01 3 then .ok (s.set 0x2D01 3 v)
  else if s.anySlice ∨ 0x05BFFFFFFF < v then bad
  else if s.sec.granules.any fun g => decide (g.1 * 2097152 < v) then bad
  else if (List.range 8).any fun k => decide ((s.partRange k).1 < v ∧ s.sec.watermark < (s.partRange k).2) then bad
  else .ok (s.set 0x2D01 3 v)

/-! ## Enclaves (R395, R396) -/

/-- An allocation overlaps a granule. -/
def granuleUsed (s : State) (g : Nat) (ok : Alloc → Bool) : Bool :=
  s.mem.allocs.any fun a => ok a && decide (a.base < (g + 1) * 2097152 ∧ g * 2097152 < a.base + a.bytes)

/-- The granule is enclave `e`'s. -/
def ownGranule (s : State) (g e : Nat) : State :=
  { s with sec := { s.sec with granules := NMap.set 0 s.sec.granules g e } }

/-- Zeroes granules and gives them to an enclave (`e` = enclave + 1) or back to general HBM (0). -/
def giveGranules (s : State) (gs : List Nat) (e : Nat) : State :=
  gs.foldl (fun s g => ((s.chargeRange .scrubber (g * 2097152) 2097152).zeroMem (g * 2097152) 2097152).ownGranule g e) s

/-- ENCLAVE_CMD: OP, ID, FIRST, COUNT of Table SEC-4. -/
def enclaveCmd (s : State) (b : List Byte) : WRes :=
  let op := field b 0 1
  let id := field b 2 1
  let first := field b 4 2
  let count := field b 6 2
  let bad := WRes.abort (Ab.refusal St.enclaveInvalid)
  let bound := fun a : Alloc => decide (a.slice < 64 ∧ s.sliceEnclave a.slice = some id)
  if op = 1 then
    if count = 0 ∨ 12288 < count then .abort Ab.value else
    let gs := (List.range count).map (first + ·)
    if gs.any fun g =>
        decide (g * 2097152 < s.get 0x2D01 3 ∨ generalEnd ≤ g * 2097152)
          || decide (NMap.get 0 s.sec.granules g ≠ 0 ∧ NMap.get 0 s.sec.granules g ≠ id + 1)
          || s.granuleUsed g (fun _ => true) then bad
    else .ok (s.giveGranules gs (id + 1))
  else if op = 2 then
    if count = 0 ∨ 12288 < count then .abort Ab.value else
    let gs := (List.range count).map (first + ·)
    if gs.any fun g => decide (NMap.get 0 s.sec.granules g ≠ id + 1) || s.granuleUsed g bound then bad
    else .ok (s.giveGranules gs 0)
  else if op = 3 then
    let gs := (s.sec.granules.filter fun g => decide (g.2 = id + 1)).map (·.1)
    if gs.any fun g => s.granuleUsed g bound then bad else .ok (s.giveGranules gs 0)
  else .abort Ab.value

/-- GRANULE_MAP (Table SEC-4). -/
def granuleMapByte (s : State) (i : Nat) : Byte :=
  let v := NMap.get 0 s.sec.granules (i / 2)
  let w := if v = 0 then 0xFFFF else v - 1
  BitVec.ofNat 8 (if i % 2 = 0 then w else w / 256)

/-- The slice holds a parameter buffer (an allocation of kind 5). -/
def holdsParamBuffer (s : State) (k : Nat) : Bool := s.mem.allocs.any fun a => decide (a.slice = k ∧ a.kind = 5)

/-- A write of SLICE_ENCLAVE (R396). -/
def writeSliceEnclave (s : State) (k v : Nat) : WRes :=
  if 255 < v ∧ v ≠ 0xFFFF then .abort Ab.value
  else if s.sliceState k = 0 ∨ (s.sliceState k = 1 ∧ s.memUsed k = 0 ∧ !s.holdsParamBuffer k) then
    .ok (s.set 0x2D12 (k + 1) v)
  else .abort (Ab.refusal St.enclaveInvalid)

/-! ## Holds (R399) -/

/-- Bit `b` of SECURE_HOLD_MASK. -/
def heldBlock (s : State) (b : Nat) : Bool := ((s.getB 0x2D30 1).getD (b / 8) 0).getLsbD (b % 8)

/-! ## Images and keys (R405) -/

def keySlot (s : State) (n : Nat) : Option KeySlot := NMap.get none s.sec.slots n

/-- A public key is the one that a slot number stands for. -/
def keyOk (s : State) (slot : Nat) (key : List Byte) : Bool :=
  let h := Crypto.sha384 key
  if s.sec.slots = [] then decide (slot = 0xFF ∧ h = Config.mfgKeyHash)
  else match s.keySlot slot with
    | some k => decide (slot < 4) && !k.revoked && decide (h = k.hash)
    | none => false

def allZero (b : List Byte) : Bool := b.all fun x => decide (x = 0)

/-- The VERSION of an image that passes every check of R405, none for one that fails. -/
def verifyImage (s : State) (kind : Nat) (img : List Byte) : Option Nat :=
  let body := img.drop 512
  if decide (512 ≤ img.length ∧ field img 0 4 = 0x53450960 ∧ field img 4 1 = kind)
      && allZero (slice img 6 2) && allZero (slice img 264 248)
      && decide (NMap.get 0 s.sec.floors kind ≤ field img 8 4)
      && decide (field img 12 4 = body.length ∧ body.length % 4096 = 0)
      && s.keyOk (field img 5 1) (slice img 72 96)
      && decide (Crypto.sha384 body = slice img 24 48)
      && Crypto.ecdsaVerify (slice img 72 96) (slice img 168 96) (slice img 0 168)
  then some (field img 8 4) else none

/-- The first of the copies that verifies (R406). -/
def verifyCopies (s : State) (kind : Nat) (copies : List (List Byte)) : Option Nat :=
  copies.findSome? fun c => s.verifyImage kind c

/-! ## Debug sessions (R407, R408) -/

/-- The hart may stay halted under the scopes granted (R439). -/
def haltAllowed (s : State) (h : Nat) : Bool :=
  if h < 24 then s.sec.scope.testBit 0 && (decide ((s.hart h).mode ≠ .m) || s.sec.scope.testBit 3)
  else if h < 28 then s.sec.scope.testBit 1
  else s.sec.scope.testBit 3

/-- A halted hart resumes; the watchdog's timer goes on when it is the security processor. -/
def resumeHart (s : State) (h : Nat) : State :=
  let s := s.setHart h { s.hart h with halted := false, haltPending := false }
  if h = 28 then match s.sec.swdPaused with
    | some t => { s with sec := { s.sec with swdPaused := none, swdStart := s.sec.swdStart.map (· + (s.now - t)) } }
    | none => s
  else s

/-- Scopes change: harts whose scope ended resume. -/
def setScope (s : State) (v : Nat) : State :=
  let s := { s with sec := { s.sec with scope := v } }
  (List.range 29).foldl (fun s h =>
    if ((s.hart h).halted || (s.hart h).haltPending) && !s.haltAllowed h then s.resumeHart h else s) s

/-- A new DBG_CHALLENGE: 16 random bytes. -/
def renewChallenge (s : State) : State :=
  let f := s.fresh .random
  { f.2 with sec := { f.2.sec with challenge := leBytes 16 f.1 } }

/-- The end of a session (R408). -/
def endSession (s : State) : State := ({ s with sec := { s.sec with cert := none } }).setScope 0

/-- The certificate and the response meet every condition of R407. -/
def responseOk (s : State) (resp : List Byte) : Bool :=
  match s.sec.cert with
  | none => false
  | some c =>
    decide (c.length = 304 ∧ field c 0 4 = 0x44420960 ∧ field c 4 1 = 1 ∧ field c 7 1 = 0
        ∧ field c 8 4 = s.get 0x1018 4 ∧ s.sec.epoch ≤ field c 12 4)
      && s.keyOk (field c 5 1) (slice c 112 96)
      && Crypto.ecdsaVerify (slice c 112 96) (slice c 208 96) (slice c 0 208)
      && Crypto.ecdsaVerify (slice c 16 96) resp (s.sec.challenge ++ leBytes 4 (s.get 0x1018 4))

/-- A write of DBG_RESPONSE: the next state, and whether it is refused. -/
def debugResponse (s : State) (resp : List Byte) : State × Bool :=
  if !s.sec.lockout && s.responseOk resp then
    let v := if s.sec.debugFuse then 0 else (match s.sec.cert with
      | some c => field c 6 1 &&& s.get 0x2D40 8
      | none => 0)
    (({ s with sec := { s.sec with refusals := 0 } }).setScope v |>.renewChallenge, false)
  else
    let n := if s.sec.lockout then s.sec.refusals else s.sec.refusals + 1
    let at_ := if s.sec.lockout then s.sec.lockedAt else s.now
    (({ s with sec := { s.sec with refusals := n, lockout := s.sec.lockout || decide (3 ≤ n), lockedAt := at_ } }).renewChallenge, true)

/-! ## Writes of the security and debug-session entries -/

def securityWrite (s : State) (idx sub : Nat) (v : DVal) : WRes :=
  match v with
  | .num n =>
    if idx = 0x2D01 ∧ sub = 1 then s.writeWatermark n
    else if idx = 0x2D01 ∧ sub = 3 then s.writeReserve n
    else if idx = 0x2D12 then s.writeSliceEnclave (sub - 1) n
    else if idx = 0x2D20 then
      let s := if sub = 1 then s.set 0x2D20 1 n else s
      .ok { s with sec := { s.sec with
        swdStart := s.sec.swdStart.map fun _ => s.now, swdPaused := s.sec.swdPaused.map fun _ => s.now } }
    else if idx = 0x2D30 ∧ sub = 3 then .ok (if s.get 0x2D30 4 = 1 then s.set 0x2D30 4 2 else s)
    else if idx = 0x2D40 ∧ sub = 4 then match s.keySlot n with
      | none => .abort Ab.value
      | some k =>
        let left := s.sec.slots.filter fun e => decide (e.1 ≠ n) && (match e.2 with
          | some k => !k.revoked
          | none => false)
        if left = [] ∧ !k.revoked then .abort Ab.value
        else .ok { s with sec := { s.sec with slots := NMap.set none s.sec.slots n (some { k with revoked := true }) } }
    else if idx = 0x2D40 ∧ sub = 7 then .ok { s with sec := { s.sec with debugFuse := true } }
    else if idx = 0x2D40 ∧ sub = 8 then .ok ((s.set idx sub n).setScope (s.sec.scope &&& n))
    else if idx = 0x2D40 ∧ sub = 9 then
      if n < s.sec.epoch then .abort Ab.low else .ok { s with sec := { s.sec with epoch := n } }
    else if idx = 0x2E01 ∧ sub = 5 then .ok s.endSession
    else .ok (s.set idx sub n)
  | .oct b =>
    if idx = 0x2D10 then s.enclaveCmd b
    else if idx = 0x2D40 ∧ sub = 1 then .ok { s with sec := { s.sec with fmpKey := some b } }
    else if idx = 0x2D40 ∧ sub = 3 then
      let n := field b 0 1
      if 3 < n ∨ (s.keySlot n).isSome then .abort Ab.value
      else .ok { s with sec := { s.sec with slots := NMap.set none s.sec.slots n (some { hash := b.drop 1 }) } }
    else if idx = 0x2D40 ∧ sub = 6 then
      let k := field b 0 1
      let f := field b 1 4
      if k < 1 ∨ 5 < k ∨ f < NMap.get 0 s.sec.floors k ∨ NMap.get 0 s.sec.running k < f then .abort Ab.value
      else .ok { s with sec := { s.sec with floors := NMap.set 0 s.sec.floors k f } }
    else if idx = 0x2D30 ∧ sub = 1 then .ok (s.setB idx sub (slice b 0 10 ++ List.replicate 6 0))
    else if idx = 0x2E01 ∧ sub = 2 then .ok { s with sec := { s.sec with cert := some b } }
    else if idx = 0x2E01 ∧ sub = 3 then
      let r := s.debugResponse b
      if r.2 then .refuse (Ab.refusal St.debugDenied) r.1 else .ok r.1
    else .ok (s.setB idx sub b)

/-! ## Harts (R397, R398) -/

/-- The registers that an mret to a lower mode leaves: a0 to a3 of the integer file, nothing of the float and vector
files, and of the CSRs all but fflags, frm, fcsr and vstart. -/
def worldClear (h : Hart) : Hart :=
  { h with
    x := h.x.filter (fun e => decide (10 ≤ e.1 ∧ e.1 ≤ 13)), f := [], v := []
    csr := h.csr.filter fun e => decide (e.1 ≠ 1 ∧ e.1 ≠ 2 ∧ e.1 ≠ 3 ∧ e.1 ≠ 8) }

/-- An mret of an application hart; a halt request held for M-mode takes effect after the zeroing (R439). -/
def mret (s : State) (h : Nat) (into : HartMode) : State :=
  let x := s.hart h
  if x.mode ≠ .m ∨ 24 ≤ h then s
  else if into = .m then s
  else
    let y := worldClear { x with mode := into }
    s.setHart h { y with halted := y.halted || y.haltPending, haltPending := false }

end State

/-! ## The commands of this chapter that are no dictionary access -/

/-- SCRUB_COMPLETE (R392). -/
def execScrubComplete (s : State) : Out := .next s.scrubDone

/-- MENCLAVE_WRITE (R397, Table SEC-5): from M-mode; below M the access faults and changes nothing. -/
def execMenclaveWrite (hart : Nat) (v : BitVec 64) (s : State) : Out :=
  .next (if (s.hart hart).mode = .m then s.setHart hart { s.hart hart with menclave := v &&& 0x80FF }
    else s.emit (.readData none))

/-- M_MODE_TRAP (R398): the hart is in the secure world from here. -/
def execMModeTrap (hart : Nat) (s : State) : Out := .next (s.setHart hart { s.hart hart with mode := .m })

/-- MRET (R398). -/
def execMret (hart : Nat) (into : HartMode) (s : State) : Out := .next (s.mret hart into)

/-- NOTICE_TIMEOUT (R402). -/
def execNoticeTimeout (s : State) : Out :=
  .next (match s.sec.noticeStart with
    | some t => if s.get 0x2D30 4 = 1 ∧ t + 1000000 * s.get 0x2D30 2 ≤ s.now then s.set 0x2D30 4 2 else s
    | none => s)

/-- DEBUG_LOCKOUT_END (R407): 10 s after the third refusal. -/
def execDebugLockoutEnd (s : State) : Out :=
  .next (if s.sec.lockout ∧ s.sec.lockedAt + 10000000000 ≤ s.now then
    { s with sec := { s.sec with lockout := false, refusals := 0 } } else s)

/-- JTAG_TRST (R408, R437): the session ends and the TAP is reset. -/
def execJtagTrst (s : State) : Out :=
  .next ({ s with dbg := { s.dbg with ir := 1, dmistat := 0, dmiData := 0, dmiAddr := 0 } }).endSession

end Sys2Proof.Machine
end

