-- ==== Sys2Proof/Machine/Governor.lean ====
section
/-! DEFINITION. The pace governor, the core regulator with its interlock, and supply behaviour
(03_handshake_timing_and_supply.md). -/

namespace Sys2Proof.Machine

open Sys2Proof

namespace State

/-! ## Which engines run -/

def engine (s : State) (e : Nat) : Engine := NMap.get {} s.plc.engines e

def setEngine (s : State) (e : Nat) (x : Engine) : State :=
  { s with plc := { s.plc with engines := NMap.set {} s.plc.engines e x } }

def engineOn (s : State) (e : Nat) : Bool := decide ((s.engine e).state = .on) && !(s.engine e).quarantined

/-- The enabled, unquarantined engines in ascending order. -/
def enginesOn (s : State) : List Nat := (List.range 16).filter s.engineOn

/-! ## The governor's own state -/

def setGov (s : State) (g : GovState) : State := { s with gov := g }

def ceiling (s : State) : Nat := s.get 0x2111 2
def coreMv (s : State) : Nat := s.get 0x2111 1
def tjMax (s : State) : Int := s.getI 16 0x2111 4
def govFixed (s : State) : Bool := decide (s.get 0x2110 1 = 1)

/-- A row of Table HST-1 in steps/µs: rates at −40, 25, 85 and 125 °C. -/
def rateRow : Nat → List Nat
  | 0 => [1000, 950, 880, 800]
  | 1 => [1180, 1120, 1050, 960]
  | 2 => [1310, 1240, 1160, 1070]
  | _ => [1420, 1350, 1270, 1220]

/-- The lower corner of the cell of Table HST-1 that holds a temperature in 0.1 °C: column, its temperature, its width. -/
def tempCell (tj : Int) : Nat × Int × Int :=
  if tj < 250 then (0, -400, 650) else if tj < 850 then (1, 250, 600) else (2, 850, 400)

/-- The same of a voltage in mV: row, its voltage, the height of the cell. -/
def voltCell (mv : Nat) : Nat × Int × Int :=
  if mv < 750 then (0, 680, 70) else if mv < 800 then (1, 750, 50) else (2, 800, 50)

/-- An engine's natural rate at a voltage and a temperature, in steps/µs, meets a ceiling: Table HST-1 interpolated in both
directions, as Table HST-5 and the worked example of chapter 3 interpolate it; outside the temperatures of the table the
rate is free (DEDUCED, log 111). -/
def meets (e mv : Nat) (tj : Int) (c : Nat) : Bool :=
  if tj < -400 ∨ 1250 < tj then decide (c ≤ Config.fn 0x710 [e, mv, (tj + 32768).toNat])
  else
    let t := tempCell tj
    let v := voltCell mv
    let at_ : Nat → Int := fun r =>
      let x : Int := (rateRow r).getD t.1 0
      let y : Int := (rateRow r).getD (t.1 + 1) 0
      x * t.2.2 + (tj - t.2.1) * (y - x)
    decide ((c : Int) * t.2.2 * v.2.2 ≤ at_ v.1 * v.2.2 + ((mv : Int) - v.2.1) * (at_ (v.1 + 1) - at_ v.1))

/-- The natural rate of the slowest enabled engine meets a ceiling at a voltage. -/
def allMeet (s : State) (mv c : Nat) : Bool := s.enginesOn.all fun e => meets e mv s.tjMax c

/-- The lowest step of 5 mV from 0.68 V to 0.85 V at which the slowest enabled engine's natural rate meets a ceiling, else
0.85 V (R46). With no engine enabled the lowest step meets every ceiling (DEDUCED, log 111). -/
def voltageFor (s : State) (c : Nat) : Nat :=
  (((List.range 35).map fun i => 680 + 5 * i).find? fun mv => s.allMeet mv c).getD 850

/-! ## Supply levels (R53, R54, R58) -/

/-- Running firmware finds RAIL_MIN_MV below 680 (R58). -/
def railSag (s : State) : State :=
  if s.fwRunning ∧ s.get 0x2112 1 < 680 ∧ !s.gov.sagSaid then
    (s.setGov { s.gov with sagSaid := true }).addRecord St.railSag 0x11 0xFF (leBytes 2 (s.get 0x2112 1))
  else s

/-- The regulator records the lowest voltage that the core rail reaches, at all times (R58). -/
def noteRail (s : State) (mv : Nat) : State := (s.set 0x2112 1 (min mv (s.get 0x2112 1))).railSag

/-- The core rail stands at a voltage. -/
def railAt (s : State) (mv : Nat) : State := (s.setGov { s.gov with rail := mv, railSince := s.now }).noteRail mv

/-- The regulator's present output: on its way to the target at 1 mV in 400 ns (R53), until it has settled. -/
def presentMv (s : State) : Nat :=
  let g := s.gov
  let moved := (s.now - g.railSince) / 400
  if g.settled then g.rail
  else if g.rail < s.coreMv then min s.coreMv (g.rail + moved) else max s.coreMv (g.rail - moved)

/-! ## The core regulator (R54, R55) -/

/-- A new target of the core regulator, which moves from its present output. A target below 0.66 V while an island's clock
runs is held and counted. -/
def setTarget (s : State) (mv : Nat) : State :=
  if mv < 660 ∧ !s.gov.gated then (s.setGov { s.gov with heldTarget := some mv }).bump 0x2112 3
  else
    let s := s.railAt s.presentMv
    let s := s.setGov { s.gov with heldTarget := none, settled := if s.coreMv = mv then s.gov.settled else false }
    s.set 0x2111 1 mv

/-- The islands' clocks are gated, a release that waited is withdrawn, and a held target proceeds. -/
def gateIslands (s : State) : State :=
  let s := s.setGov { s.gov with gated := true, heldRelease := false }
  match s.gov.heldTarget with
  | some mv => s.setTarget mv
  | none => s

/-- A request to release the islands' clocks: held and counted until the regulator has settled at 0.66 V or above. -/
def releaseIslands (s : State) : State :=
  if s.gov.settled ∧ 660 ≤ s.coreMv then s.setGov { s.gov with gated := false, heldRelease := false }
  else (s.setGov { s.gov with heldRelease := true }).bump 0x2112 3

/-- A new pair of ceiling and voltage, in the order of R54: the voltage first where it rises above the present output, the
ceiling first where it falls. It replaces a change under way. -/
def retarget (s : State) (c mv : Nat) : State :=
  let s := s.setGov { s.gov with pendCeiling := none, pendMv := none, afterSettle := none }
  if s.presentMv < mv then
    let s := s.setTarget mv
    if s.ceiling < c then s.setGov { s.gov with afterSettle := some c }
    else if c < s.ceiling then s.setGov { s.gov with pendCeiling := some c }
    else s
  else
    let later := if mv = s.coreMv then none else some mv
    if c = s.ceiling then match later with
      | some v => s.setTarget v
      | none => s
    else s.setGov { s.gov with pendCeiling := some c, pendMv := later }

/-! ## The loops (R46 to R52) -/

/-- The ceiling that both loops allow in automatic mode, or the fixed one; a thermal halt takes all of it. -/
def wantedCeiling (s : State) : Nat :=
  let g := s.gov
  if g.halt then 0
  else
    let top := if s.govFixed then s.get 0x2110 6 else s.get 0x2110 4
    let c := if s.govFixed then top else min top (g.powerCap.getD top)
    min c (g.thermalCap.getD c)

/-- LIMITER (Table HST-3). -/
def limiter (s : State) : Nat :=
  let g := s.gov
  let w := s.wantedCeiling
  if g.halt then 5
  else if g.thermalCap = some w then 2
  else if s.govFixed then 4
  else if g.powerCap = some w then 1
  else if s.coreMv = 850 ∧ !s.allMeet 850 w then 3
  else 0

/-- Aims at what the loops allow now; in thermal halt at a ceiling of 0 (R46, R51, R52). -/
def aim (s : State) : State :=
  let c := s.wantedCeiling
  let mv := if s.govFixed then s.get 0x2110 5 else s.voltageFor c
  let same := decide (c = s.gov.pendCeiling.getD (s.gov.afterSettle.getD s.ceiling) ∧ mv = s.gov.pendMv.getD s.coreMv)
  let s := if same then s else s.retarget c mv
  s.set 0x2111 6 s.limiter

/-- The effective limit in 0.1 W (R47). -/
def powerLimit (s : State) : Nat := 10 * min (s.get 0x2110 2) (s.get 0x2150 5)

/-- The floor of the thermal loop: 800 steps/µs, or 200 in sub-floor pacing (R48, R49). -/
def thermalFloor (s : State) : Nat := if s.gov.subfloor then 200 else 800

/-- A cap that a loop lifts: to a value the module chooses between the present ceiling and the maximum, at which it no
longer binds. -/
def liftCap (s : State) (cap : Option Nat) : Option Nat × State :=
  match cap with
  | none => (none, s)
  | some c =>
    let top := s.get 0x2110 4
    let f := s.fresh .choice
    let v := c + f.1 % (top - c + 1)
    (if top ≤ v then none else some v, f.2)

/-- A sample of input power (R47). In fixed mode the loop is inactive (R52). -/
def powerSample (s : State) (dw : Nat) : State :=
  let ps := (dw :: s.gov.powers).take 10
  let s := (s.setGov { s.gov with powers := ps }).set 0x2111 3 (min 65535 (ps.foldl (· + ·) 0 / ps.length))
  if s.govFixed then s.setGov { s.gov with powerAct := .hold, powerCap := none }
  else if s.powerLimit < dw then s.setGov { s.gov with powerAct := .lower }
  else
    let l := s.liftCap s.gov.powerCap
    let s := l.2
    (s.setGov { s.gov with powerAct := .hold, powerCap := l.1, unmetSaid := false }).aim

/-- POWER_LIMIT_UNMET: once until power has fallen to the limit. -/
def powerUnmet (s : State) : State :=
  if s.govFixed ∨ s.gov.powerAct ≠ .lower ∨ s.ceiling ≠ 800 ∨ s.gov.unmetSaid then s
  else (s.setGov { s.gov with unmetSaid := true }).addRecord St.powerLimitUnmet 0x11 0xFF

/-- THERMAL_HALT and its release (R51). -/
def thermalHalt (s : State) (tj : Int) : State :=
  if s.gov.halt then
    if tj < 1100 then s.setGov { s.gov with halt := false, release := true, thermalCap := some 800, subfloor := false }
    else s
  else if 1300 ≤ tj then
    (((s.setGov { s.gov with halt := true }).aim).addRecord St.thermalHalt 0x11 0xFF).doubt St.thermalHalt
  else s

/-- Sub-floor pacing begins at 125 °C and ends below 122 °C (R49). -/
def thermalSubfloor (s : State) (tj : Int) : State :=
  let g := s.gov
  if g.subfloor then
    if tj < 1220 then s.setGov { g with subfloor := false, release := true, thermalCap := g.thermalCap.map (max 800) }
    else s
  else if 1250 ≤ tj then (s.setGov { g with subfloor := true }).addRecord St.thermalSubfloor 0x11 0xFF
  else s

/-- A sample of the junction sensors (R48 to R51). -/
def thermalSample (s : State) (tj : Int) : State :=
  let s := s.set 0x2111 4 (ofSigned 16 tj)
  let s := (if s.gov.halt then s else s.thermalSubfloor tj).thermalHalt tj
  if s.gov.halt then s else
  let target := 10 * s.getI 16 0x2110 3
  let hot := s.gov.subfloor || (decide (target < tj) && !s.govFixed)
  if hot then s.setGov { s.gov with thermalAct := .lower }
  else
    let l := s.liftCap s.gov.thermalCap
    let s := l.2
    (s.setGov { s.gov with thermalAct := .hold, thermalCap := if s.govFixed then none else l.1 }).aim

/-- One step of 10 steps/µs down, where a loop asks for it. -/
def lowerStep (s : State) : State :=
  let g := s.gov
  if g.halt then s else
  let down := fun (floor : Nat) => max floor (s.ceiling - 10)
  let p := if g.powerAct = .lower ∧ 800 < s.ceiling then some (down 800) else g.powerCap
  let t := if g.thermalAct = .lower ∧ s.thermalFloor < s.ceiling then some (down s.thermalFloor) else g.thermalCap
  if p = g.powerCap ∧ t = g.thermalCap then s else (s.setGov { g with powerCap := p, thermalCap := t }).aim

/-- The mean steps per microsecond over all enabled engines in the last 100 windows. -/
def stepRate (s : State) : Nat :=
  let e := ((List.range 16).filter s.engineOn).length
  let w := s.gov.steps.length
  if e = 0 ∨ w = 0 then 0 else s.gov.steps.foldl (· + ·) 0 / (w * e)

/-- Keeps the time since which pacing is sub-floor (R50). -/
def noteSubfloor (s : State) : State :=
  let g := s.gov
  if 0 < s.ceiling ∧ s.ceiling < 800 then s.setGov { g with subSince := some (g.subSince.getD s.now) }
  else s.setGov { g with subSince := none, subDoubted := false }

/-- A pace window boundary (R43, R44, R54): allowances are reset, a pending ceiling takes effect with the voltage that
follows it, and the loops' next step is made, for the next boundary. -/
def paceBoundary (s : State) : State :=
  let g := s.gov
  let sum := g.used.foldl (fun a e => a + e.2) 0
  let s := s.setGov { g with used := [], steps := (sum :: g.steps).take 100 }
  let s := s.set 0x2111 5 (min 65535 s.stepRate)
  let s := if g.release ∧ !g.halt then
      (s.setGov { s.gov with release := false, pendCeiling := none }).set 0x2111 2 (max 800 s.ceiling)
    else match g.pendCeiling with
      | some c => (s.setGov { s.gov with pendCeiling := none }).set 0x2111 2 c
      | none => s
  let s := match s.gov.pendMv with
    | some mv => (s.setGov { s.gov with pendMv := none }).setTarget mv
    | none => s
  let s := if g.release ∧ !g.halt then s.aim else s
  let s := if s.gov.settled then s else s.noteRail s.presentMv
  s.noteSubfloor.lowerStep

/-- The regulator signals settled (R54, R55): the ceiling that waited rises at the next window, and a release of the islands
that waited proceeds at 0.66 V or above. -/
def regulatorSettled (s : State) : State :=
  let g := s.gov
  let s := s.setGov { g with settled := true, afterSettle := none }
  let s := s.railAt s.coreMv
  let s := match g.afterSettle with
    | some c => s.setGov { s.gov with pendCeiling := some c }
    | none => s
  if g.heldRelease ∧ 660 ≤ s.coreMv then s.setGov { s.gov with gated := false, heldRelease := false } else s

/-- Fixed mode ends what the loops had taken, but for sub-floor pacing (R52). -/
def dropLoops (s : State) : State :=
  let s := s.setGov { s.gov with powerAct := .hold, powerCap := none }
  if s.gov.subfloor then s else s.setGov { s.gov with thermalAct := .hold, thermalCap := none }

/-- Writes of the governor's entries (R45, R52). -/
def governorWrite (s : State) (idx sub n : Nat) : WRes :=
  if idx = 0x2112 then .ok ((s.set 0x2112 1 0xFFFF).setGov { s.gov with sagSaid := false })
  else if sub = 5 ∧ n % 5 ≠ 0 then .abort Ab.value
  else
    let s := s.set 0x2110 sub n
    .ok (if s.govFixed then s.dropLoops else s).aim

/-! ## Supply (R56 to R60) -/

/-- The hold point in mV: the higher of 14 V and the input power over 20 A (R57). -/
def holdPoint (s : State) : Nat := max 14000 (5 * s.get 0x2111 3)

/-- The always-on rail returns: every time base restarts at zero, and the Rearguard starts anew with its latches (R347,
R379, R451). -/
def alwaysOnReturn (s : State) : State :=
  let g := s.rg
  let rg : Rearguard := { newest := g.newest, log := g.log, loggedCount := g.loggedCount }
  { s with time := {}, rg := rg, gov := { s.gov with dark := false } }

/-- The inputs stand at new voltages (mV). At or above the hold point the core rail holds its target, or goes on toward it;
below it the rail is what the circuit's physics makes of it. No detector acts (R56). The always-on rail and the Rearguard lose power where the
higher input is below 4.5 V. -/
def supplyChange (s : State) (in48 in12 rail : Nat) : State :=
  let s := s.railAt (if s.holdPoint ≤ in48 then (if s.gov.settled then s.coreMv else s.presentMv)
    else min rail (max s.coreMv s.presentMv))
  if max in48 in12 < 4500 then s.setGov { s.gov with dark := true }
  else if s.gov.dark then s.alwaysOnReturn
  else s

/-! ## Quiescence, and work that ends IDLE (R409, R418) -/

def setPwr (s : State) (p : PwrState) : State := { s with pwr := p }

def pwrState (s : State) : Nat := s.get 0x2120 3

/-- No descriptor, tile, pass, plan, Drone slice, save or restore is under way, and no dictionary access waits; no hart is
halted by the debug module (R409, R440). That the application harts are in WFI is the event's word: nothing of it is
visible to the block. -/
def quiescent (s : State) : Bool :=
  (s.que.queues.all fun e => e.2.desc.isEmpty && !e.2.inWork && !(decide (e.2.state = .enabled) && decide (e.2.p ≠ e.2.f)))
    && (s.plc.engines.all fun e => e.2.running.isNone && e.2.queue.isEmpty && e.2.selftest.isNone
          && decide (e.2.state = .on ∨ e.2.state = .off))
    && s.plc.slots.isEmpty && s.gfx.passes.isEmpty && s.pln.plans.isEmpty
    && (s.saf.drone.all fun e => !e.2.running)
    && s.dic.held.isEmpty && (s.harts.all fun h => !h.2.halted)

/-- The fabric is seen busy now: the dwell begins anew (R409). -/
def noteBusy (s : State) : State :=
  if s.quiescent then s else s.setPwr { s.pwr with dwell := false, busyAt := s.now }

/-- IDLE ends: the islands are released (R418). -/
def leaveIdle (s : State) : State :=
  if s.pwrState = 1 then ((s.set 0x2120 3 0).releaseIslands).setPwr { s.pwr with dwell := false, busyAt := s.now } else s

/-- The 16 bytes of LAST_WAKE (Table PWR-7). -/
def lastWakeBytes (src from_ during time : Nat) : List Byte :=
  leBytes 1 src ++ leBytes 1 from_ ++ leBytes 1 during ++ leBytes 5 0 ++ leBytes 8 time

/-- The state the module is in, or is entering, for a wake. -/
def wakeState (s : State) : Nat := match s.pwr.entering with
  | some e => e.1
  | none => s.pwrState

/-- The module is in RUN and enters no other state. -/
def inRun (s : State) : Bool := decide (s.pwrState = 0) && s.pwr.entering.isNone

/-- A work source wakes the module: it is written to LAST_WAKE unless a source acted before it, and kept for the exit or the
next abort point (R420). -/
def workWake (s : State) : State :=
  if s.pwr.wake.isSome then s
  else
    let during := if s.pwr.entering.isSome then 1 else 0
    (s.setB 0x2140 4 (lastWakeBytes 0xFE s.wakeState during s.now)).setPwr { s.pwr with wake := some (0xFE, s.now) }

/-- A doorbell, a dictionary access or an inbound request: it ends IDLE, and wakes the module from SLEEP or while it enters
SLEEP (R418). -/
def workArrives (s : State) : State :=
  if s.inRun then s
  else if s.pwr.entering.isNone ∧ s.pwrState = 1 then s.leaveIdle
  else if s.wakeState = 2 then s.workWake
  else s

end State

/-! ## The commands -/

/-- PACE_WINDOW_BOUNDARY (R43, R44): the pace ceiling of the next window; the natural rate beside it is a duration (R40). -/
def execPaceWindowBoundary (s : State) : Out := .next s.paceBoundary

/-- POWER_LOOP_SAMPLE (R47). -/
def execPowerLoopSample (deciWatt : Nat) (s : State) : Out := .next (s.powerSample deciWatt)

/-- POWER_LIMIT_UNMET (R47): 1 ms at the floor above the limit. -/
def execPowerLimitUnmet (s : State) : Out := .next s.powerUnmet

/-- THERMAL_LOOP_SAMPLE (R48, R49, R51): 32 readings in 0.1 °C. -/
def execThermalLoopSample (sensors : List Int) (s : State) : Out :=
  .next (match sensors with
    | [] => s
    | t :: ts => s.thermalSample (ts.foldl max t))

/-- SUBFLOOR_DOUBT (R50): sub-floor pacing has lasted longer than 1 ms. -/
def execSubfloorDoubt (s : State) : Out :=
  .next (match s.gov.subSince with
    | none => s
    | some t => if s.gov.subDoubted ∨ s.now ≤ t + 1000000 then s
      else (s.setGov { s.gov with subDoubted := true }).doubt St.thermalSubfloor)

/-- REGULATOR_SETTLED (R54). -/
def execRegulatorSettled (s : State) : Out := .next (if s.gov.settled then s else s.regulatorSettled)

/-- SUPPLY_INPUT_CHANGE (R56 to R58, R449 to R451). -/
def execSupplyInputChange (in48 in12 rail : Nat) (s : State) : Out := .next (s.supplyChange in48 in12 rail)

end Sys2Proof.Machine
end

