-- ==== Sys2Proof/Machine/Engines.lean ====
section
/-! DEFINITION. The tensor engines as units that take tiles: enabling and disabling, dealing, stealing, pre-emption,
save slots and quarantine (R108 to R113, R178 to R195). What a tile computes is in the families' files. -/

namespace Sys2Proof.Machine

open Sys2Proof

namespace State

/-- ENGINE_STATE (Table TEN-19). -/
def engineStateWord (s : State) : Nat :=
  (List.range 16).foldl (fun a e => a + (match (s.engine e).state with
    | .off => 0
    | .enabling => 1
    | .on => 2
    | .disabling => 3) * 4 ^ e) 0

/-- ENGINE_QUARANTINE. -/
def quarantineWord (s : State) : Nat :=
  (List.range 16).foldl (fun a e => if (s.engine e).quarantined then a + 2 ^ e else a) 0

/-! ## Descriptors in flight -/

def desc (s : State) (q n : Nat) : Option Desc := NMap.get none (s.queue q).desc n

def setDesc (s : State) (q n : Nat) (d : Desc) : State :=
  s.setQueue q { s.queue q with desc := NMap.set none (s.queue q).desc n (some d) }

/-- The slice whose work a queue carries; the queue numbers above the last queue stand for the tuning frames of the
partitions, which work for TF_SLICE. -/
def queueSlice (s : State) (q : Nat) : Nat :=
  if 262144 ≤ q then s.get (0x2330 + (q - 262144)) 3 else (s.queueOwner q).getD 0

/-- The active partition a tile's slice belongs to. -/
def tilePart (s : State) (t : Tile) : Option Nat := s.activePartOf (s.queueSlice t.q)

/-! ## Windows (R189, R180) -/

/-- The window of an active partition that has the engine in its lead or is running. -/
def windowOf (s : State) (e : Nat) : Option Nat :=
  (List.range s.windowTable.length).find? fun w =>
    let r := s.windowTable.getD w (0, 0, 0, 0)
    decide ((NMap.get {} s.saf.windows w).phase ≠ .idle) && s.partActive r.2.2.2 && r.2.2.1.testBit e

/-- The partition for which a window reserves the engine now. -/
def windowPart (s : State) (e : Nat) : Option Nat := (s.windowOf e).map fun w => (s.windowTable.getD w (0, 0, 0, 0)).2.2.2

/-- Descriptors of partition `k`'s tuning frame are still to be issued. -/
def frameOpen (s : State) (k : Nat) : Bool := (s.queue (262144 + k)).desc.any fun e => match e.2 with
  | some d => decide (d.phase = .accepted)
  | none => false

/-- The tuning frame of the engine's window runs: no new tile of the partition but its own until the engine's last one
has ended (R370). -/
def tuningHolds (s : State) (e : Nat) (t : Tile) : Bool :=
  match s.windowPart e with
  | none => false
  | some k =>
    decide ((NMap.get ({} : TfState) s.saf.tuning k).phase = .running) && decide (t.tuning ≠ k + 1)
      && (s.frameOpen k || (s.engine e).queue.any fun u => decide (u.tuning = k + 1))

/-- An engine begins a tile of a tuning frame. -/
def noteTuning (s : State) (e : Nat) (t : Tile) : State :=
  if t.tuning = 0 then s
  else
    let f := NMap.get ({} : TfState) s.saf.tuning (t.tuning - 1)
    if f.begun.contains e then s
    else { s with saf := { s.saf with tuning := NMap.set {} s.saf.tuning (t.tuning - 1) { f with begun := f.begun ++ [e] } } }

/-- A disabling engine that has not reached A1 still completes its redundant pairs, and nothing else (R112). -/
def runsPairs (s : State) (e : Nat) : Bool :=
  decide ((s.engine e).state = .disabling ∧ (s.engine e).abort = 0) && !(s.engine e).quarantined

/-- An engine may begin a tile: on, or disabling with a pair to complete; within a window only its partition's work (R12); and
once the tile's tier 5 operands have landed (R164, R168). -/
def mayRun (s : State) (e : Nat) (t : Tile) : Bool :=
  (s.engineOn e || (s.runsPairs e && decide (t.run ≠ 0))) && (match s.windowPart e with
    | none => decide (t.tuning = 0)
    | some k => decide (s.tilePart t = some k)) && !s.tuningHolds e t && !s.fetching t.q t.n

/-- A policy value as it stood when a descriptor was accepted (R177): 0x2603:02 to :07 at 0 to 5, 0x2605:01 at 6. -/
def policy (s : State) (q n i : Nat) : Nat := match s.desc q n with
  | some d => d.policy.getD i 0
  | none => 0

/-- The policy in force now. -/
def policyNow (s : State) : List Nat := ((List.range 6).map fun i => s.get 0x2603 (i + 2)) ++ [s.get 0x2605 1]

/-! ## Taking work (R179, R180) -/

/-- The highest priority in a list of tiles, plus one; 0 for none. -/
def topPrio (ts : List Tile) : Nat := ts.foldl (fun a t => max a (t.prio + 1)) 0

/-- The first tile of the highest level that the engine may run. -/
def ownHead (s : State) (e : Nat) : Option Tile :=
  let ts := (s.engine e).queue.filter (s.mayRun e)
  ts.find? fun t => decide (t.prio + 1 = topPrio ts)

/-- Saved tiles with their slots that the engine may run: a pair's tile in a window slot only on its own engine
(R182, R190). -/
def savedFor (s : State) (e : Nat) : List (Nat × Tile) :=
  s.plc.slots.filterMap fun p => match p.2 with
    | some t => if s.mayRun e t && (decide (t.run = 0) || decide (p.1 = e)) then some (p.1, t) else none
    | none => none

/-- A saved tile comes before every unstarted tile the engine has (R179, items 1 and 2). -/
def savedFirst (s : State) (e : Nat) : Bool :=
  let sv := s.savedFor e
  sv.any (fun p => decide (p.1 = e)) || (decide (sv ≠ []) && match s.ownHead e with
    | none => true
    | some t => decide (t.prio + 1 ≤ topPrio (sv.map (·.2))))

/-- A tile of engine `v` that thief `e` may take (R180), never one of a redundant pair (R14). -/
def stealable (s : State) (e v : Nat) (t : Tile) : Bool :=
  decide (s.policy t.q t.n 3 = 1 ∧ e ≠ v ∧ t.run = 0 ∧ t.tuning = 0) && s.mayRun e t && decide (s.windowOf e = s.windowOf v)

/-- The stealable tiles of engine `v` at a level. -/
def stealableAt (s : State) (e v p : Nat) : List Tile :=
  (s.engine v).queue.filter fun t => decide (t.prio = p) && s.stealable e v t

/-- Engine `v` holds at least STEAL_MIN_TILES stealable tiles at the level, by the policy of the tile to be taken. -/
def enough (s : State) (e v p : Nat) : Bool := match (s.stealableAt e v p).getLast? with
  | some t => decide (s.policy t.q t.n 4 ≤ (s.stealableAt e v p).length)
  | none => false

/-- The victim at a level: most stealable tiles, at least STEAL_MIN_TILES, ties to the lower number. -/
def victimAt (s : State) (e p : Nat) : Option Nat :=
  (List.range 16).foldl (fun a v =>
    let n := (s.stealableAt e v p).length
    if !s.enough e v p then a
    else match a with
      | none => some v
      | some b => if (s.stealableAt e b p).length < n then some v else some b) none

/-- What an engine stages a tile from now (R164). -/
def stageNow (s : State) (e : Nat) : Stage :=
  { mem := s.mem, serai := s.plc.serai
    pads := s.plc.pads.filterMap fun p => if p.1 / 1048576 = e then some (p.1 % 1048576, p.2) else none }

/-- A tile's first pass begins: its operands are staged, and the descriptor's first step is timed. -/
def stageTile (s : State) (e : Nat) (t : Tile) : State := match s.desc t.q t.n with
  | some d => s.setDesc t.q t.n { d with
      started := true, tDeal := if d.started then d.tDeal else s.now
      stages := NMap.set none d.stages t.t (some (s.stageNow e)) }
  | none => s

/-- Gives an engine a tile to run, taking it from a steal queue. -/
def startTile (s : State) (e v : Nat) (t : Tile) : State :=
  let s := s.setEngine v { s.engine v with queue := (s.engine v).queue.erase t }
  let s := s.stageTile e t
  (s.setEngine e { s.engine e with running := some t, stop := none }).noteTuning e t

/-- The steal of R180: highest level first, the tail tile of the victim's sub-queue. -/
def steal (s : State) (e : Nat) : State :=
  match [3, 2, 1, 0].findSome? fun p => (s.victimAt e p).map fun v => (v, p) with
  | none => s
  | some (v, p) =>
    match (s.stealableAt e v p).getLast? with
    | none => s
    | some t => (s.startTile e v t).bump 0x2607 2

/-- The Drone runs a slice on the unit, or has claimed it (R373); in a lead or window a claimed engine serves its partition
(R374). Engines are units 0 to 15, the Serai 16, shader cores 32 to 79, pipes 96 to 99 and planner lanes 128 to 143. -/
def droneHolds (s : State) (u : Nat) : Bool :=
  let d := NMap.get ({} : DroneUnit) s.saf.drone u
  d.running || (d.claimed && !(decide (u < 16) && (s.windowPart u).isSome))

/-- The units that the Drone tests (Table SAF-8). -/
def testUnits : List Nat :=
  List.range 17 ++ (List.range 48).map (32 + ·) ++ (List.range 4).map (96 + ·) ++ (List.range 16).map (128 + ·)

/-- A unit enters service: its pass and its interval run from here (R374, R375). -/
def droneEnter (s : State) (u : Nat) : State :=
  { s with saf := { s.saf with drone := NMap.set {} s.saf.drone u { since := s.now } } }

/-- An engine that is on and runs nothing takes its next work (R179). A saved tile waits for TILE_RESTORE. -/
def takeWork (s : State) (e : Nat) : State :=
  let x := s.engine e
  if !(s.engineOn e || s.runsPairs e) || x.running.isSome || x.selftest.isSome || s.droneHolds e then s
  else if s.savedFirst e then s
  else match s.ownHead e with
    | some t => s.startTile e e t
    | none => s.steal e

def allTakeWork (s : State) : State := (List.range 16).foldl takeWork s

/-! ## Priority pre-emption (R184) -/

/-- Free general slots (R187). -/
def generalFree (s : State) : List Nat :=
  (List.range 32).map (· + 16) |>.filter fun k => decide (NMap.get none s.plc.slots k = none)

/-- General slots that no pending stop is going to use. -/
def slotsSpare (s : State) : List Nat :=
  s.generalFree.drop ((List.range 16).filter fun e => decide ((s.engine e).stop = some .priority)).length

/-- An engine that may run the tile is idle (R184). -/
def idleFor (s : State) (t : Tile) : Bool :=
  (List.range 16).any fun e => s.mayRun e t && (s.engine e).running.isNone && (s.engine e).selftest.isNone && !s.droneHolds e

/-- Engines whose running tile may be pre-empted for a waiting tile: within a window only for its partition's work (R12, R183). -/
def victims (s : State) (t : Tile) : List Nat :=
  (List.range 16).filter fun e => match (s.engine e).running with
    | some u => s.engineOn e && s.mayRun e t
        && decide (u.prio + s.policy t.q t.n 6 ≤ t.prio ∧ u.run = 0 ∧ u.tuning = 0 ∧ (s.engine e).stop = none)
    | none => false

/-- The victim (R184): the running tile of lowest priority, then of least live state, then the higher engine number. How much
live state a running tile holds, the spec gives in no value of the machine: each is free. -/
def chooseVictim (s : State) (t : Tile) : Option Nat × State :=
  let rank : Nat → Nat × Nat := fun e => ((match (s.engine e).running with
    | some u => u.prio
    | none => 4), Config.free .result (s.freeCount + e))
  ((s.victims t).foldl (fun (a : Option Nat) e => match a with
    | none => some e
    | some b => if (rank e).1 < (rank b).1 ∨ ((rank e).1 = (rank b).1 ∧ (rank e).2 ≤ (rank b).2) then some e else a) none,
   { s with freeCount := s.freeCount + 16 })

/-- Notes on a waiting tile what its wait has caused. -/
def noteAsked (s : State) (e : Nat) (t : Tile) (k : Nat) : State :=
  s.setEngine e { s.engine e with queue := (s.engine e).queue.map fun u => if u = t then { u with asked := k } else u }

/-- A tile in engine `e`'s steal queue that no idle engine may run asks for its one pre-emption; without a free general slot
that is deferred, which is counted once for the tile (R184). -/
def preemptFor (s : State) (e : Nat) (t : Tile) : State :=
  if t.asked = 2 ∨ s.policy t.q t.n 6 = 4 ∨ s.victims t = [] ∨ s.idleFor t then s
  else if s.slotsSpare = [] then (if t.asked = 1 then s else (s.noteAsked e t 1).bump 0x2607 5)
  else match s.chooseVictim t with
    | (none, s) => s
    | (some v, s) => (s.setEngine v { s.engine v with stop := some .priority }).noteAsked e t 2

/-- Every waiting tile asks. -/
def preemptAll (s : State) : State :=
  (List.range 16).foldl (fun s e => (s.engine e).queue.foldl (fun s t => s.preemptFor e t) s) s

/-- The engine holds what is not its window's: work of others, or a self-test after a mismatch (R361, R368). -/
def foreignTo (s : State) (k e : Nat) : Bool :=
  (s.engine e).selftest.isSome || match (s.engine e).running with
    | some t => decide (s.tilePart t ≠ some k)
    | none => false

/-- WINDOW_LATE, once for a window, with the engine and its delay in µs (R361). -/
def noteLate (s : State) (w k e : Nat) : State :=
  let x := NMap.get ({} : WinState) s.saf.windows w
  let y := { x with late := x.late.filter (· ≠ e), recorded := true }
  let s : State := { s with saf := { s.saf with windows := NMap.set {} s.saf.windows w y } }
  if x.recorded then s
  else (s.safetyRecord St.windowLate 0x0F k (leBytes 1 e ++ leBytes 4 (min 4294967295 ((s.now - x.start) / 1000))) k e).bump 0x2320 5

/-- A late engine that is free joins its window (R361). -/
def joinWindow (s : State) (e : Nat) : State :=
  match s.windowOf e, s.windowPart e with
  | some w, some k =>
    let x := NMap.get ({} : WinState) s.saf.windows w
    if x.phase = .running ∧ x.late.contains e ∧ !s.foreignTo k e then s.noteLate w k e else s
  | _, _ => s

/-- One engine, or every idle engine, takes its next work, and the tiles left waiting ask for a pre-emption. -/
def serveWork (s : State) (e : Nat) : State := ((s.joinWindow e).takeWork e).preemptAll

def serveAll (s : State) : State := s.allTakeWork.preemptAll

/-! ## Dealing (R178) -/

/-- A tile takes its place in a steal queue by acceptance, after the tiles of its own descriptor (R179). -/
def insertTile (ts : List Tile) (t : Tile) : List Tile :=
  ts.takeWhile (fun x => decide (x.order ≤ t.order)) ++ t :: ts.dropWhile (fun x => decide (x.order ≤ t.order))

/-- Deals tiles in contiguous runs to a list of engines, the first run going to the engine after the last served; those dealt
again are counted as they reach an engine (R195). -/
def dealTo (s : State) (es : List Nat) (ts : List Tile) : State :=
  if es = [] then { s with plc := { s.plc with undealt := s.plc.undealt ++ ts } }
  else if ts = [] then s
  else
    let order := es.filter (s.plc.lastRun < ·) ++ es.filter (· ≤ s.plc.lastRun)
    let n := es.length
    let base := ts.length / n
    let extra := ts.length % n
    let r := (List.range n).foldl (fun (p : State × List Tile × Nat) i =>
      let k := if i < extra then base + 1 else base
      let e := order.getD i 0
      if k = 0 then p
      else (p.1.setEngine e { p.1.engine e with queue := (p.2.1.take k).foldl insertTile (p.1.engine e).queue }, p.2.1.drop k, e))
      (s, ts.map fun t => { t with again := false }, s.plc.lastRun)
    (({ r.1 with plc := { r.1.plc with lastRun := r.2.2 } }).bump 0x2607 1 ts.length).bump 0x2607 0x0D (ts.filter fun (t : Tile) => t.again).length

/-- Deals tiles again after a reservation, quarantine or disable. -/
def redeal (s : State) (es : List Nat) (ts : List Tile) : State := s.dealTo es (ts.map fun t => { t with again := true })

/-- The engines of a redundant pair's deal: those of its own list still among the ones given (R182). -/
def pairTargets (s : State) (t : Tile) (es : List Nat) : List Nat :=
  match s.desc t.q t.n with
  | none => es
  | some d =>
    let own := es.filter fun e => (d.fixed.headD 0).testBit e
    if t.run = 0 ∨ own = [] then es else own

/-- Engines a tile may be dealt to: those on and not held by a window of another partition. -/
def dealTargets (s : State) (t : Tile) : List Nat :=
  s.enginesOn.filter fun e => match s.windowPart e with
    | none => true
    | some k => decide (s.tilePart t = some k)

/-- Deals tiles of several descriptors again, each descriptor's in contiguous runs among the engines that may have them. -/
def redealAll (s : State) (ts : List Tile) : State :=
  let keys := (ts.map fun t => (t.q, t.n)).eraseDups
  keys.foldl (fun s k =>
    let mine := ts.filter fun t => decide ((t.q, t.n) = k)
    match mine with
    | [] => s
    | t :: _ => s.redeal (s.pairTargets t (s.dealTargets t)) mine) s

/-- Tiles left undealt are dealt once engines may take them, each descriptor's in contiguous runs (R178). -/
def dealWaiting (s : State) : State :=
  let ts := s.plc.undealt
  let keys := (ts.map fun t => (t.q, t.n)).eraseDups
  keys.foldl (fun s k =>
    let mine := ts.filter fun t => decide ((t.q, t.n) = k)
    match mine with
    | [] => s
    | t :: _ => s.dealTo (s.dealTargets t) mine) { s with plc := { s.plc with undealt := [] } }

/-! ## Save slots (R186 to R188) -/

def setSlot (s : State) (k : Nat) (t : Option Tile) : State :=
  let s := { s with plc := { s.plc with slots := NMap.set none s.plc.slots k t } }
  s.set 0x2605 3 (48 - s.plc.slots.length)

/-- The address of a save slot (Table MEM-1). -/
def slotAddr (k : Nat) : Nat := 0x05C0000000 + 7340032 * k

/-- The class of a tile's save or restore (R257): its slice's, or for a window that of the window's partition. -/
def slotClass (s : State) (t : Tile) : Nat :=
  if t.forPart = 0 then s.get 0x2406 (s.queueSlice t.q + 1) else s.get (0x2310 + (t.forPart - 1)) 4

/-- An engine stopped at a pre-emption point writes `live` bytes of its state to a slot, in `part`'s window where that is not 0;
what stands in the slot's bytes the spec does not state. -/
def saveTile (s : State) (e slot live part : Nat) : State :=
  match (s.engine e).running with
  | none => s
  | some t =>
    let t := { t with live := live, forPart := part }
    let s := s.setEngine e { s.engine e with running := none, stop := none }
    let seed := s.fresh .data
    let s := (seed.2.fillMem (slotAddr slot) live (seed.1 + 1)).chargeRangeAs (.engine e (s.queueSlice t.q)) (s.slotClass t) (slotAddr slot) live
    (s.setSlot slot (some t)).bump 0x2607 6 live

/-- A tile in an engine's window slot becomes one that any engine may restore: it moves to a general slot where one is
free, else it stays, which any engine may restore as well. -/
def releaseWindowSlot (s : State) (e : Nat) : State :=
  match NMap.get none s.plc.slots e, s.generalFree with
  | some t, g :: _ => (s.setSlot e none).setSlot g (some t)
  | _, _ => s

/-- Scratchpad copies of an engine go: the scratchpad was zeroed, or the engine lost its power (R111, R112, R192). -/
def dropEnginePads (s : State) (e : Nat) : State :=
  { s with plc := { s.plc with pads := s.plc.pads.filter fun p => decide (p.1 / 1048576 ≠ e) } }

/-! ## Quarantine (R191 to R193) -/

/-- A partition whose reserved engine is quarantined degrades; a window below PART_MIN_ENGINES is a doubt event
(R362). -/
def degradeOne (s : State) (e k : Nat) : State :=
  let mine := s.windowTable.filter fun r => decide (r.2.2.2 = k)
  if s.partActive k && mine.any (fun r => r.2.2.1.testBit e) then
    let s := (s.set (0x2310 + k) 0x0A 2).safetyRecord St.partitionDegraded 0x0F k (leBytes 1 e) k e
    if mine.any fun r => decide (((maskBits 16 r.2.2.1).filter s.engineOn).length < s.get (0x2310 + k) 7)
    then s.doubt St.partitionDegraded k e else s
  else s

def degrade (s : State) (e : Nat) : State := (List.range 8).foldl (fun s k => s.degradeOne e k) s

/-- A degraded partition none of whose reserved engines is quarantined any more is active again (R362). -/
def settleDegraded (s : State) : State :=
  (List.range 8).foldl (fun s k =>
    let bad := s.windowTable.any fun r => decide (r.2.2.2 = k) && (maskBits 16 r.2.2.1).any fun e => (s.engine e).quarantined
    if s.partState k = 2 && !bad then s.set (0x2310 + k) 0x0A 1 else s) s

/-- A redundant pair's tile in an engine's window slot (R192, step 5). -/
def slotPair (s : State) (e : Nat) : List Tile := match NMap.get none s.plc.slots e with
  | some t => if t.run = 0 then [] else [t]
  | none => []

/-- Quarantines an engine: its tiles are dealt again from their first pass, pairs from run A; the engine is off (R14, R192). -/
def quarantine (s : State) (e cause : Nat) : State :=
  let x := s.engine e
  let again := (x.running.toList ++ (x.selftest.toList.filter (·.mism < 2)) ++ s.slotPair e ++ x.queue).map fun t =>
    { t with run := min t.run 1, live := 0, forPart := 0, asked := 0 }
  let lastOne := decide (s.enginesOn = [e])
  let s := if s.slotPair e = [] then s else s.setSlot e none
  let s := ((s.setEngine e { quarantined := true, cause := cause, parity := x.parity }).droneEnter e).aim
  let s := (s.dropEnginePads e).releaseWindowSlot e
  let s := s.addRecord St.engineQuarantined 0x01 e (leBytes 1 e ++ leBytes 1 cause)
  let s := s.postAll 0x0008 St.engineQuarantined (e + 256 * cause)
  let s := if lastOne then s.addRecord St.noEngine 0x01 e else s
  ((s.redealAll again).degrade e).serveAll

/-! ## Parity (R108, R191) -/

/-- A parity event of an engine: recorded with its detail and counted. -/
def parityEvent (s : State) (e detail : Nat) : State :=
  (s.addRecord St.engineParity 0x01 e (leBytes 4 detail)).bump 0x2602 (e + 1)

/-- A parity failure in data with a current copy in a lower tier: fetched again (R108, R169). -/
def parityRepair (s : State) (e detail : Nat) : State := (s.parityEvent e detail).bump 0x2607 0x0E

/-- A parity failure in a dirty Serai copy (memory 3): a copy that the tile's descriptor reads is lost, and its home keeps
the older contents (R169). Tiles that have begun keep what they staged. -/
def loseCopy (s : State) (t : Tile) (detail : Nat) : State :=
  if detail / 16777216 ≠ 3 then s
  else match s.desc t.q t.n with
    | none => s
    | some d =>
      let dirty := d.inputs.filter fun r => match NMap.get none s.plc.serai r with
        | some c => c.dirty
        | none => false
      match s.pick .choice dirty with
      | (none, s) => s
      | (some r, s) => { s with plc := { s.plc with serai := NMap.set none s.plc.serai r none } }

/-- An ENGINE_PARITY completion on an engine: the tile is undefined; PARITY_QUARANTINE of them within 1 s of TB1
quarantine the engine for cause 3. -/
def parityLoss (s : State) (e : Nat) (t : Tile) : State :=
  let ts := s.now :: (s.engine e).parity.filter fun t => decide (s.now < t + 1000000000)
  let s := s.setEngine e { s.engine e with parity := ts }
  let limit := s.policy t.q t.n 5
  if limit ≠ 0 ∧ limit ≤ ts.length then s.quarantine e 3 else s

/-- Marks a tile of a descriptor undefined with a status, the first one reported standing. -/
def markTile (s : State) (t : Tile) (status detail : Nat) : State :=
  match s.desc t.q t.n with
  | none => s
  | some d =>
    let d := { d with undef := d.undef ++ [t.t] }
    s.setDesc t.q t.n (if d.status = 0 then { d with status := status, detail := detail } else d)

/-- A tile of a descriptor has drained on an engine. -/
def tileDone (s : State) (e : Nat) (t : Tile) : State :=
  match s.desc t.q t.n with
  | none => s
  | some d => s.setDesc t.q t.n { d with left := d.left - 1, engine := e, tDone := s.now, place := NMap.set 0 d.place t.t (e + 1) }

/-- The ticks held against a tile go to a slot counter: 0 retired, 1 wasted (R443). -/
def settleTicks (s : State) (e which : Nat) (t : Tile) : State :=
  let n := NMap.get 0 s.ctr.heldTicks e
  let s := match s.desc t.q t.n with
    | some d => s.setDesc t.q t.n
        (if which = 0 then { d with retired := d.retired + n } else { d with wasted := d.wasted + n })
    | none => s
  ({ s with ctr := { s.ctr with heldTicks := NMap.set 0 s.ctr.heldTicks e 0 } }).count (16 * e + which) n

/-! ## Mismatches of a redundant pair (R366, R367) -/

/-- Counts and records a mismatch of a tile. -/
def noteMismatch (s : State) (e : Nat) (t : Tile) : State :=
  let k := s.tilePart t
  let tag := match s.desc t.q t.n with
    | some d => if s.compat then bits d.w.toNat 31 0 else bits d.w.toNat 63 32
    | none => 0
  let where_ := leBytes 1 e ++ leBytes 4 t.q ++ leBytes 4 tag ++ leBytes 4 t.t
  let s := s.safetyRecord St.redundancyMismatch 0x0F (k.getD 0xFF) where_ (k.getD 0xFF) e
  match k with
  | some k => s.bump (0x2310 + k) 0x0C
  | none => s

/-- A tile's second mismatch: a doubt event, and the descriptor will complete with REDUNDANCY_MISMATCH; the tile writes
nothing. -/
def secondMismatch (s : State) (e : Nat) (t : Tile) : State :=
  let s := s.doubt St.redundancyMismatch ((s.tilePart t).getD 0xFF) e
  match s.desc t.q t.n with
  | none => s
  | some d =>
    let d := { d with unwritten := d.unwritten ++ [t.t], left := d.left - 1, engine := e, tDone := s.now }
    s.setDesc t.q t.n (if d.status = 0 then { d with status := St.redundancyMismatch, detail := t.t } else d)

/-- The tile the engine runs has mismatched: the engine takes no tile and runs the array self-test. -/
def mismatch (s : State) (e : Nat) (t : Tile) : State :=
  let t := { t with mism := t.mism + 1 }
  let s := (s.settleTicks e 1 t).noteMismatch e t
  let s := s.setEngine e { s.engine e with running := none, stop := none, selftest := some t }
  if 2 ≤ t.mism then s.secondMismatch e t else s

/-! ## Enabling and disabling (R110 to R113) -/

/-- An engine holds a tile of a redundant pair, running, waiting or in its window slot (R112, R187). -/
def holdsPair (s : State) (e : Nat) : Bool :=
  decide (s.slotPair e ≠ []) ||
  (match (s.engine e).running with
    | some t => decide (t.run ≠ 0)
    | none => false) || (s.engine e).selftest.isSome || (s.engine e).queue.any fun t => decide (t.run ≠ 0)

/-- A disabling engine reaches abort point A1 once no redundant pair has a tile on it. -/
def reachA1 (s : State) (e : Nat) : State :=
  let x := s.engine e
  if x.state = .disabling ∧ x.abort = 0 ∧ !s.holdsPair e then
    if x.wantEnable then (s.setEngine e { x with state := .on, wantEnable := false }).takeWork e
    else s.setEngine e { x with abort := 1 }
  else s

/-- After a tile has ended on an engine: abort point A1, then its next work. -/
def endTile (s : State) (e : Nat) : State := (s.reachA1 e).serveWork e

/-- Moves one engine toward its requested state. -/
def requestEngine (s : State) (e : Nat) (want : Bool) : State :=
  let x := s.engine e
  if x.quarantined then s
  else match x.state, want with
    | .off, true => s.setEngine e { x with state := .enabling }
    | .enabling, false => s.setEngine e { x with wantDisable := true }
    | .enabling, true => s.setEngine e { x with wantDisable := false }
    | .on, false => (s.setEngine e { x with state := .disabling, abort := 0, wantEnable := false }).reachA1 e
    | .disabling, true => s.setEngine e { x with wantEnable := true }
    | .disabling, false => s.setEngine e { x with wantEnable := false }
    | _, _ => s

/-- A write of ENGINE_ENABLE: holds first, then reserved engines (R110, R355, R399). -/
def writeEngineEnable (s : State) (v : Nat) : WRes :=
  let cleared := (List.range 16).filter fun e => (s.get 0x2601 1).testBit e && !v.testBit e
  if cleared.any s.heldBlock then .abort (Ab.refusal St.secureHold)
  else if cleared.any s.reserved then .abort (Ab.refusal St.partitionBusy)
  else .ok ((List.range 16).foldl (fun s e => s.requestEngine e (v.testBit e)) (s.set 0x2601 1 v))

/-- The enable sequence ends: on, or quarantined for cause 1; a retest that passes lifts the quarantine (R111,
R194). Its scratchpad was zeroed. -/
def enableDone (s : State) (e : Nat) (pass : Bool) : State :=
  let x := s.engine e
  if x.state ≠ .enabling then s
  else
    let s := s.dropEnginePads e
    if x.retest then
      if !pass then s.setEngine e { x with state := .off, retest := false }
      else
        let y : Engine := { x with state := .off, retest := false, quarantined := false, cause := 0 }
        let s := (s.setEngine e y).settleDegraded.droneEnter e
        if (s.get 0x2601 1).testBit e then (s.setEngine e { y with state := .on }).aim.dealWaiting.serveAll else s
    else if !pass then s.quarantine e 1
    else
      let s := ((s.setEngine e { x with state := .on, wantDisable := false }).droneEnter e).aim
      if x.wantDisable then s.requestEngine e false else s.dealWaiting.serveAll

/-! ## Saves (R108, R112, R186, R187) -/

/-- A parity failure while the running tile is saved, in data that exists nowhere else: the tile is undefined, or its pair has
mismatched (R108, R109). -/
def lostSave (s : State) (e : Nat) (t : Tile) (detail : Nat) : State :=
  let s := s.parityEvent e detail
  if t.run ≠ 0 then s.mismatch e t
  else
    let s := s.setEngine e { s.engine e with running := none, stop := none }
    (((s.tileDone e t).markTile t St.engineParity detail).settleTicks e 1 t).parityLoss e t

/-- The running tile is saved in slot `k`, unless a parity failure loses it. -/
def saveOrLose (s : State) (e : Nat) (t : Tile) (k live : Nat) (parity : Option Parity) (part : Nat) : State :=
  match parity with
  | some (.dirty detail) => s.lostSave e t detail
  | some (.clean detail) => (s.parityRepair e detail).saveTile e k (min live 7340032) part
  | none => s.saveTile e k (min live 7340032) part

/-- The slot a disabling engine saves to: a general slot, or its own window slot. -/
def disableSlot (s : State) (e : Nat) : Option Nat := match s.slotsSpare with
  | g :: _ => some g
  | [] => if NMap.get none s.plc.slots e = none then some e else none

/-- Abort point A2 is reached with no tile running. An enable that waits abandons the disable here (R113). -/
def reachA2 (s : State) (e : Nat) : State :=
  let y := s.engine e
  if y.state ≠ .disabling ∨ y.running.isSome then s
  else if y.wantEnable then (s.setEngine e { y with state := .on, wantEnable := false, abort := 0 }).serveWork e
  else s.setEngine e { y with abort := 2 }

/-- Abort point A2: the running tile is saved, or with no slot free runs on to its drain, after which A2 is reached with
nothing saved (R112, R187). -/
def disableSaveDone (s : State) (e live : Nat) (parity : Option Parity) : State :=
  let x := s.engine e
  if x.state ≠ .disabling ∨ x.abort ≠ 1 then s
  else match x.running, s.disableSlot e with
    | none, _ => s.reachA2 e
    | some _, none => s
    | some t, some k => (s.saveOrLose e t k live parity 0).reachA2 e

/-- A3 to the end: tiles handed back for re-placement, the memories zeroed, the rail off. An enable request that came after A2,
whose next abort point is A3 itself, is not one that the rule places: the disable completes, and the enable follows at once,
as one that comes after A3 (DESIGN CHOICE, log 142). -/
def disableDone (s : State) (e : Nat) : State :=
  let x := s.engine e
  if x.state ≠ .disabling ∨ x.abort ≠ 2 then s
  else
    let s := ((s.setEngine e { state := if x.wantEnable then .enabling else .off, parity := x.parity }).droneEnter e).aim
    let s := (s.dropEnginePads e).releaseWindowSlot e
    (s.redealAll x.queue).serveAll

/-- A write of QUARANTINE_RETEST (R194). -/
def retest (s : State) (v : Nat) : State :=
  (maskBits 16 v).foldl (fun s e =>
    let x := s.engine e
    if x.quarantined ∧ (x.cause = 1 ∨ x.cause = 3) then s.setEngine e { x with state := .enabling, retest := true } else s) s

/-- Writes of the ranges 0x2601 to 0x2607 (R110, R176, R177, R194, R195, R355). -/
def placementWrite (s : State) (idx sub n : Nat) : WRes :=
  if idx = 0x2601 then s.writeEngineEnable n
  else if idx = 0x2604 then
    let others := ((List.range 64).filter (· + 1 ≠ sub)).foldl (fun a k => a + s.get 0x2604 (k + 1)) 0
    if 256 < others + n then .abort (Ab.refusal St.seraiOvercommit) else .ok (s.set idx sub n)
  else if idx = 0x2605 ∧ sub = 2 then
    if (List.range 8).any fun k => s.partActive k && s.ownsWindow k then .abort (Ab.refusal St.partitionBusy)
    else .ok (s.set idx sub n)
  else if idx = 0x2605 ∧ sub = 4 then .ok (s.retest n)
  else if idx = 0x2607 then .ok ((List.range 14).foldl (fun s i => s.clear 0x2607 (i + 1)) s)
  else .ok (s.set idx sub n)

/-! ## The steps of an engine -/

/-- A tile has drained: it is done, and the engine's tile and step counters advance (R85, R441). -/
def countDone (s : State) (e : Nat) (t : Tile) : State :=
  let s := s.setEngine e { s.engine e with running := none, stop := none }
  (((s.tileDone e t).count (16 * e + 6) 1).countFree (16 * e + 7)).countFree (16 * e + 8)

/-- A tile drains: a pair's run A is followed by run B on the same engine, whose drain is PAIR_COMPARE; any other tile is done,
and the engine takes its next work (R85, R109, R179, R182). -/
def drain (s : State) (e : Nat) (r : DrainResult) : State :=
  match (s.engine e).running with
  | none => s
  | some t =>
    if t.run = 2 then s
    else
      let s := match r with
        | .clean => s
        | .parityClean detail => s.parityRepair e detail
        | .parityDirty detail => (s.parityEvent e detail).loseCopy t detail
      if t.run = 1 then (match r with
        | .parityDirty _ => s.mismatch e t
        | _ => s.setEngine e { s.engine e with running := some { t with run := 2 } })
      else
        let s := s.countDone e t
        let s := match r with
          | .parityDirty detail => ((s.markTile t St.engineParity detail).settleTicks e 1 t).parityLoss e t
          | _ => s.settleTicks e 0 t
        s.endTile e

/-- The slot a stopping engine saves to: its own window slot, or the module's choice of a free general slot. -/
def stopSlot (s : State) (e : Nat) : Option Nat × State :=
  match (s.engine e).stop with
  | some .window => (if NMap.get none s.plc.slots e = none then some e else none, s)
  | some .priority => s.pick .choice s.generalFree
  | none => (none, s)

/-- An engine asked to stop reaches a pre-emption point (R185 to R187, R108). -/
def pointSave (s : State) (e live : Nat) (parity : Option Parity) : State :=
  let why := (s.engine e).stop
  match (s.engine e).running with
  | none => s
  | some t =>
    if why = none then s
    else match s.stopSlot e with
      | (none, s) => s
      | (some k, s) =>
        let part := if why = some .window then (match s.windowPart e with
          | some p => p + 1
          | none => 0) else 0
        let lost := match parity with
          | some (.dirty _) => true
          | _ => false
        let s := s.saveOrLose e t k live parity part
        let s := if lost then s else s.bump 0x2607 (if why = some .window then 4 else 3)
        s.serveWork e

/-- The saved tile that the engine may take from slot `k` now (R179): the one in its own window slot first, else one of the
highest saved priority, and neither before a tile of higher priority in its own queue. -/
def mayRestore (s : State) (e k : Nat) : Option Tile :=
  let sv := s.savedFor e
  if !s.savedFirst e ∨ (sv.any (fun p => decide (p.1 = e)) ∧ k ≠ e) then none
  else (sv.find? fun p => decide (p.1 = k ∧ (k = e ∨ p.2.prio + 1 = topPrio (sv.map (·.2))))).map (·.2)

/-- A restore reads the saved bytes, and then stages again what the tile reads (R164, R188); how many bytes that is, the spec
does not state for a tile in its course: free amounts from the Serai and from tiers 4 and 5. -/
def chargeRestore (s : State) (e k : Nat) (t : Tile) : State :=
  let s := s.chargeRangeAs (.engine e (s.queueSlice t.q)) (s.slotClass t) (slotAddr k) t.live
  let a := s.fresh .result
  let b := a.2.fresh .result
  (b.2.bump 0x2607 7 a.1).bump 0x2607 8 b.1

/-- A saved tile resumes on an engine that may run it (R188, R190). -/
def restore (s : State) (e k : Nat) : State :=
  let x := s.engine e
  if x.running.isSome ∨ x.selftest.isSome ∨ s.droneHolds e then s
  else match s.mayRestore e k with
    | none => s
    | some t =>
      let s := (s.chargeRestore e k t).setSlot k none
      (s.setEngine e { x with running := some { t with live := 0, forPart := 0 } }).serveAll

end State

/-- TILE_DRAIN (R85, R108, R179, R180). -/
def execTileDrain (e : Nat) (r : DrainResult) (s : State) : Out := .next (s.drain e r)

/-- PREEMPTION_POINT_SAVE (R185 to R187). -/
def execPreemptionPointSave (e live : Nat) (parity : Option Parity) (s : State) : Out := .next (s.pointSave e live parity)

/-- TILE_RESTORE (R188). -/
def execTileRestore (e slot : Nat) (s : State) : Out := .next (s.restore e slot)

/-- ENGINE_ENABLE_DONE (R111, R194). -/
def execEngineEnableDone (e : Nat) (pass : Bool) (s : State) : Out := .next (s.enableDone e pass)

/-- ENGINE_DISABLE_SAVE_DONE (R112, R113). -/
def execEngineDisableSaveDone (e : DisableSave) (s : State) : Out := .next (s.disableSaveDone e.engine e.live e.parity)

/-- ENGINE_DISABLE_DONE (R112, R113). -/
def execEngineDisableDone (e : Nat) (s : State) : Out := .next (s.disableDone e)

end Sys2Proof.Machine
end

