-- ==== Sys2Proof/Machine/Formats.lean ====
section
/-! DEFINITION. The fifteen number formats: exact values, decoding, conversion with its rounding and special cases,
packing and block scaling (R62 to R67, R75). -/

namespace Sys2Proof.Machine

open Sys2Proof

/-- An exact value of the arithmetic: NaN, an infinity, or `(-1)^neg * m * 2^e` (`m = 0` is a signed zero). -/
inductive Num where
  | nan
  | inf (neg : Bool)
  | fin (neg : Bool) (m : Nat) (e : Int)
deriving DecidableEq, Repr

/-- A value with the arithmetic flags raised on the way to it (Table FMT-7). -/
structure Fv where
  v : Num
  fl : Nat := 0
deriving DecidableEq, Repr

/-! ## Flags of Table FMT-7 -/

def flINV : Nat := 1
def flOVFCVT : Nat := 2
def flOVFACC : Nat := 4
def flCLAMP : Nat := 8
def flWRAP : Nat := 16

namespace Num

/-- `2 ^ k` for a non-negative integer exponent. -/
def pow2 (k : Int) : Nat := 2 ^ k.toNat

def zero : Num := .fin false 0 0

def ofInt (i : Int) : Num := .fin (decide (i < 0)) i.natAbs 0

def neg : Num → Num
  | .nan => .nan
  | .inf s => .inf (!s)
  | .fin s m e => .fin (!s) m e

def abs : Num → Num
  | .nan => .nan
  | .inf _ => .inf false
  | .fin _ m e => .fin false m e

def isNan (x : Num) : Bool := decide (x = .nan)

def isZero : Num → Bool
  | .fin _ 0 _ => true
  | _ => false

def isNeg : Num → Bool
  | .nan => false
  | .inf s => s
  | .fin s m _ => s && decide (m ≠ 0)

def signBit : Num → Bool
  | .nan => false
  | .inf s => s
  | .fin s _ _ => s

/-- The integer `v * 2^(-e0)` for an exponent `e0` at most the value's own. -/
def scaledInt (s : Bool) (m : Nat) (e e0 : Int) : Int :=
  let n : Int := m * pow2 (e - e0)
  if s then -n else n

/-- Exact sum. An exact zero of operands not both negative zeros is +0; ∞ - ∞ is NaN. -/
def add : Num → Num → Num
  | .nan, _ => .nan
  | _, .nan => .nan
  | .inf a, .inf b => if a = b then .inf a else .nan
  | .inf a, _ => .inf a
  | _, .inf b => .inf b
  | .fin a m e, .fin b n f =>
    let e0 := min e f
    let t := scaledInt a m e e0 + scaledInt b n f e0
    if t = 0 then .fin (a && b && decide (m = 0 ∧ n = 0)) 0 0 else .fin (decide (t < 0)) t.natAbs e0

def sub (x y : Num) : Num := x.add y.neg

/-- Exact product; ∞ × 0 is NaN. -/
def mul : Num → Num → Num
  | .nan, _ => .nan
  | _, .nan => .nan
  | .inf a, .inf b => .inf (a != b)
  | .inf a, .fin b n _ => if n = 0 then .nan else .inf (a != b)
  | .fin a m _, .inf b => if m = 0 then .nan else .inf (a != b)
  | .fin a m e, .fin b n f => .fin (a != b) (m * n) (e + f)

/-- The value times `2 ^ k`. -/
def scale (k : Int) : Num → Num
  | .fin s m e => .fin s m (e + k)
  | x => x

/-- Strict order of values that are not NaN; both zeros are equal. -/
def lt : Num → Num → Bool
  | .nan, _ => false
  | _, .nan => false
  | .inf a, .inf b => a && !b
  | .inf a, .fin _ _ _ => a
  | .fin _ _ _, .inf b => !b
  | .fin a m e, .fin b n f => decide (scaledInt a m e (min e f) < scaledInt b n f (min e f))

/-- Rounds a magnitude to `p` significant bits, no finer than `2 ^ qmin`: the rounded integer and its exponent. -/
def roundMag (p : Nat) (qmin : Int) (rtz : Bool) (m : Nat) (e : Int) : Nat × Int :=
  if m = 0 then (0, qmin) else
  let q := max (e + m.log2 + 1 - p) qmin
  if q ≤ e then (m * pow2 (e - q), q)
  else
    let d := (q - e).toNat
    let k := m >>> d
    let r := m % 2 ^ d
    let half := 2 ^ (d - 1)
    let up := !rtz && (decide (half < r) || decide (r = half ∧ k % 2 = 1))
    (if up then k + 1 else k, q)

/-- The integer nearest a magnitude, ties to even, or its truncation. -/
def roundInt (rtz : Bool) (m : Nat) (e : Int) : Nat :=
  if 0 ≤ e then m * pow2 e
  else
    let d := (-e).toNat
    let k := m >>> d
    let r := m % 2 ^ d
    let half := 2 ^ (d - 1)
    if !rtz && (decide (half < r) || decide (r = half ∧ k % 2 = 1)) then k + 1 else k

/-- `⌊log₂⌋` of a non-zero magnitude. -/
def floorLog2 (m : Nat) (e : Int) : Int := (m.log2 : Int) + e

end Num

/-! ## FP32 -/

/-- Rounds to FP32; overflow gives an infinity and OVF_ACC (R74). -/
def Fv.round (x : Fv) (rtz : Bool := false) : Fv :=
  match x.v with
  | .fin s m e =>
    let r := Num.roundMag 24 (-149) rtz m e
    if 128 ≤ Num.floorLog2 r.1 r.2 ∧ r.1 ≠ 0 then
      if rtz then { v := .fin s 16777215 104, fl := x.fl ||| flOVFACC } else { v := .inf s, fl := x.fl ||| flOVFACC }
    else { v := .fin s r.1 r.2, fl := x.fl }
  | v => { v := v, fl := x.fl }

/-- INV of an operation whose operands are not NaN and whose result is. -/
def invFlag (r a b : Num) : Nat := if r.isNan && !a.isNan && !b.isNan then flINV else 0

def Fv.add (a b : Fv) : Fv :=
  let r := a.v.add b.v
  Fv.round { v := r, fl := a.fl ||| b.fl ||| invFlag r a.v b.v }

def Fv.sub (a b : Fv) : Fv := a.add { b with v := b.v.neg }

def Fv.mul (a b : Fv) : Fv :=
  let r := a.v.mul b.v
  Fv.round { v := r, fl := a.fl ||| b.fl ||| invFlag r a.v b.v }

def Fv.zero : Fv := { v := Num.zero }

/-- The bits of an FP32 value. -/
def f32Bits : Num → Nat
  | .nan => 0x7FC00000
  | .inf s => if s then 0xFF800000 else 0x7F800000
  | .fin s m e =>
    let r := Num.roundMag 24 (-149) false m e
    let sign := if s then 0x80000000 else 0
    if r.1 < 8388608 then sign + r.1
    else if r.1 = 16777216 then sign + (r.2 + 151).toNat * 8388608
    else sign + (r.2 + 150).toNat * 8388608 + (r.1 - 8388608)

/-! ## The formats (Table FMT-1) -/

/-- Width of an element in bits. -/
def fmtWidth (c : Nat) : Nat :=
  if c = 0 ∨ c = 5 then 4 else if c = 6 ∨ c = 7 then 6 else if c = 3 ∨ c = 0xA ∨ c = 0xB then 16
  else if c = 4 ∨ c = 0xC then 32 else 8

/-- Elements of one packing group (R63). -/
def fmtGroup (c : Nat) : Nat := if fmtWidth c = 4 then 2 else if fmtWidth c = 6 then 4 else 1

/-- Bytes of one packing group. -/
def fmtGroupBytes (c : Nat) : Nat := fmtGroup c * fmtWidth c / 8

/-- Bytes that `n` elements occupy (R63). -/
def fmtBytes (c n : Nat) : Nat := cdiv n (fmtGroup c) * fmtGroupBytes c

/-- The integer class: INT4, INT8, UINT8, INT16 (R68). -/
def intClass (c : Nat) : Bool := decide (c ≤ 3)

/-- Integer formats, INT32 among them. -/
def isIntFmt (c : Nat) : Bool := decide (c ≤ 4)

/-- A binary floating format: significant bits, exponent bits, bias, and the kind of its top codes. -/
structure FloatFmt where
  p : Nat
  eb : Nat
  bias : Nat
  /-- 0 IEEE infinities and NaNs; 1 E4M3, one NaN; 2 neither. -/
  top : Nat
deriving DecidableEq, Repr

def floatFmt (c : Nat) : Option FloatFmt :=
  if c = 5 then some { p := 2, eb := 2, bias := 1, top := 2 }
  else if c = 6 then some { p := 4, eb := 2, bias := 1, top := 2 }
  else if c = 7 then some { p := 3, eb := 3, bias := 3, top := 2 }
  else if c = 8 then some { p := 4, eb := 4, bias := 7, top := 1 }
  else if c = 9 then some { p := 3, eb := 5, bias := 15, top := 0 }
  else if c = 0xA then some { p := 11, eb := 5, bias := 15, top := 0 }
  else if c = 0xB then some { p := 8, eb := 8, bias := 127, top := 0 }
  else if c = 0xC then some { p := 24, eb := 8, bias := 127, top := 0 }
  else none

/-- Exponent of the least place. -/
def FloatFmt.qmin (f : FloatFmt) : Int := 2 - (f.bias : Int) - f.p

/-- Largest finite magnitude as integer and exponent. -/
def FloatFmt.maxFin (f : FloatFmt) : Nat × Int :=
  if f.top = 0 then (2 ^ f.p - 1, (2 : Int) ^ f.eb - 1 - f.bias - f.p)
  else if f.top = 1 then (14, 5)
  else (2 ^ f.p - 1, (2 : Int) ^ f.eb - f.bias - f.p)

/-- The value of a code. -/
def FloatFmt.decode (f : FloatFmt) (b : Nat) : Num :=
  let mb := f.p - 1
  let s := b.testBit (f.eb + mb)
  let e := (b >>> mb) % 2 ^ f.eb
  let m := b % 2 ^ mb
  if f.top = 0 ∧ e = 2 ^ f.eb - 1 then (if m = 0 then .inf s else .nan)
  else if f.top = 1 ∧ e = 15 ∧ m = 7 then .nan
  else if e = 0 then .fin s m f.qmin
  else .fin s (2 ^ mb + m) (f.qmin + e - 1)

/-- The code of a finite magnitude already on the format's grid. -/
def FloatFmt.code (f : FloatFmt) (s : Bool) (k : Nat) (q : Int) : Nat :=
  let mb := f.p - 1
  let sign := if s then 2 ^ (f.eb + mb) else 0
  if k < 2 ^ mb then sign + k
  else if k = 2 ^ f.p then sign + (q - f.qmin + 2).toNat * 2 ^ mb
  else sign + (q - f.qmin + 1).toNat * 2 ^ mb + (k - 2 ^ mb)

def FloatFmt.maxCode (f : FloatFmt) (s : Bool) : Nat := f.code s f.maxFin.1 f.maxFin.2

def FloatFmt.infCode (f : FloatFmt) (s : Bool) : Nat :=
  (if s then 2 ^ (f.eb + f.p - 1) else 0) + (2 ^ f.eb - 1) * 2 ^ (f.p - 1)

/-- Range of an integer format; an MXINT8 element, in units of 2⁻⁶, saturates at its largest finite magnitude (R75). -/
def intRange (c : Nat) : Int × Int :=
  if c = 0 then (-8, 7) else if c = 1 then (-128, 127) else if c = 0xE then (-127, 127) else if c = 2 then (0, 255)
  else if c = 3 then (-32768, 32767) else (-2147483648, 2147483647)

/-- The value of an element code (Table FMT-1). -/
def decodeElem (c b : Nat) : Num :=
  match floatFmt c with
  | some f => f.decode b
  | none =>
    if c = 0xD then (if b = 255 then .nan else .fin false 1 ((b : Int) - 127))
    else if c = 0xE then (Num.ofInt (toSigned 8 b)).scale (-6)
    else if c = 2 then .fin false b 0
    else Num.ofInt (toSigned (fmtWidth c) b)

/-! ## Conversion (R75, Table FMT-6) -/

/-- Canonical NaN, or +0 with INV where the format has none. -/
def FloatFmt.nanCode (f : FloatFmt) : Nat × Nat :=
  if f.top = 2 then (0, flINV)
  else if f.top = 1 then (0x7F, 0)
  else if f.p = 3 then (0x7E, 0)
  else (f.infCode false + 2 ^ (f.p - 2), 0)

/-- An infinite input. -/
def FloatFmt.ofInf (f : FloatFmt) (sat s : Bool) : Nat × Nat :=
  if sat || f.top = 2 then (f.maxCode s, flOVFCVT)
  else if f.top = 1 then (0x7F, 0)
  else (f.infCode s, 0)

/-- A finite overflow. -/
def FloatFmt.ofOverflow (f : FloatFmt) (rtz sat s : Bool) : Nat × Nat :=
  if rtz || sat || f.top = 2 then (f.maxCode s, flOVFCVT)
  else if f.top = 1 then (0x7F, flOVFCVT)
  else (f.infCode s, flOVFCVT)

def FloatFmt.encode (f : FloatFmt) (rtz sat : Bool) : Num → Nat × Nat
  | .nan => f.nanCode
  | .inf s => f.ofInf sat s
  | .fin s m e =>
    let r := Num.roundMag f.p f.qmin rtz m e
    if Num.lt (.fin false f.maxFin.1 f.maxFin.2) (.fin false r.1 r.2) then f.ofOverflow rtz sat s
    else (f.code s r.1 r.2, 0)

/-- Conversion to an integer format, or to an MXINT8 element in units of 2⁻⁶. -/
def encodeInt (c : Nat) (rtz : Bool) : Num → Nat × Nat
  | .nan => (0, flINV)
  | .inf s => (ofSigned (fmtWidth c) (if s then (intRange c).1 else (intRange c).2), flOVFCVT)
  | .fin s m e =>
    let n : Int := Num.roundInt rtz m (if c = 0xE then e + 6 else e)
    let i := if s then -n else n
    if i < (intRange c).1 then (ofSigned (fmtWidth c) (intRange c).1, flOVFCVT)
    else if (intRange c).2 < i then (ofSigned (fmtWidth c) (intRange c).2, flOVFCVT)
    else (ofSigned (fmtWidth c) i, 0)

/-- Conversion to E8M0 (R75). +∞ gives 0xFE, a saturation, and sets OVF_CVT as every infinity that saturates does (log 29). -/
def encodeE8M0 (rtz : Bool) : Num → Nat × Nat
  | .nan => (0xFF, flINV)
  | .inf s => if s then (0xFF, flINV) else (0xFE, flOVFCVT)
  | .fin s m e =>
    if s || m = 0 then (0xFF, flINV)
    else
      let x := Num.floorLog2 m e
      if x < -127 then (0, 0)
      else
        -- twice the value against the sum of the bounding powers of two
        let base := 2 ^ m.log2
        let up := !rtz && m ≠ base && (decide (3 * base < 2 * m) || (decide (3 * base = 2 * m) && decide ((x + 127) % 2 = 1)))
        let x := if up then x + 1 else x
        if 127 < x then (0xFE, flOVFCVT) else ((x + 127).toNat, 0)

/-- Conversion of one value to a plain format: code and flags. CVT[0] RND, CVT[1] SAT. -/
def convertElem (c cvt : Nat) (v : Num) : Nat × Nat :=
  match floatFmt c with
  | some f => f.encode (cvt.testBit 0) (cvt.testBit 1) v
  | none => if c = 0xD then encodeE8M0 (cvt.testBit 0) v else encodeInt c (cvt.testBit 0) v

/-! ## Block scaling (R66, R67) -/

/-- An element under its scale code. -/
def scaledElem (v : Num) (sc : Nat) : Num := if sc = 0xFF then .nan else v.scale ((sc : Int) - 127)

/-- emax of Table R67. -/
def fmtEmax (c : Nat) : Int :=
  if c = 9 then 15 else if c = 8 then 8 else if c = 7 then 4 else if c = 6 ∨ c = 5 then 2 else 0

/-- Largest finite magnitude of a block-scaled element format. -/
def fmtMax (c : Nat) : Num :=
  match floatFmt c with
  | some f => .fin false f.maxFin.1 f.maxFin.2
  | none => .fin false 127 (-6)

/-- The smallest integer `x` with `amax * 2^(-x) ≤ max`. -/
def noClipExp (c : Nat) (m : Nat) (e : Int) : Int :=
  let x0 := Num.floorLog2 m e - fmtEmax c
  if Num.lt (fmtMax c) (.fin false m (e - x0)) then x0 + 1
  else if Num.lt (fmtMax c) (.fin false m (e - (x0 - 1))) then x0 else x0 - 1

/-- Quantises one block: scale code, element codes, flags. -/
def quantBlock (c cvt : Nat) (vs : List Num) : Nat × List Nat × Nat :=
  if vs.any fun v => match v with
    | .fin _ _ _ => false
    | _ => true
  then (0xFF, vs.map fun _ => 0, flINV)
  else
    let amax := vs.foldl (fun a v => if a.lt v.abs then v.abs else a) Num.zero
    match amax with
    | .fin _ m e =>
      if m = 0 then (0x7F, vs.map fun _ => 0, 0)
      else
        let x := if cvt.testBit 2 then noClipExp c m e else Num.floorLog2 m e - fmtEmax c
        let xc := max (-127) (min 127 x)
        let es := vs.map fun v => convertElem c (cvt % 2 + 2) (v.scale (-xc))
        ((xc + 127).toNat, es.map (·.1), (es.foldl (fun a p => a ||| p.2) 0) ||| (if x = xc then 0 else flCLAMP))
    | _ => (0x7F, vs.map fun _ => 0, 0)

/-- Cuts a list into chunks of `k`. -/
def chunks {α : Type} (k : Nat) (l : List α) : List (List α) :=
  (List.range (cdiv l.length k)).map fun i => (l.drop (i * k)).take k

/-- Quantises one row: scale codes, element codes, flags (blocks of 32). -/
def quantRow (c cvt : Nat) (vs : List Num) : List Nat × List Nat × Nat :=
  (chunks 32 vs).foldl (fun (a : List Nat × List Nat × Nat) b =>
    let q := quantBlock c cvt b
    (a.1 ++ [q.1], a.2.1 ++ q.2.1, a.2.2 ||| q.2.2)) ([], [], 0)

/-! ## Format bytes (R62, R64) -/

def fmtCode (b : Nat) : Nat := b % 32
def fmtBS (b : Nat) : Bool := b.testBit 7

/-- A code and BS setting that exist (R62, R64); bits 6:5 are zero. -/
def fmtValid (b : Nat) : Bool :=
  let c := fmtCode b
  decide (c ≤ 0xE ∧ bits b 6 5 = 0)
    && (if fmtBS b then decide (5 ≤ c ∧ c ≤ 9 ∨ c = 0xE) else decide (c ≠ 0xE))

/-- Formats an array operand field admits (Table FMT-2). -/
def fmtArray (b : Nat) : Bool := fmtValid b && decide (fmtCode b ≠ 4 ∧ fmtCode b ≠ 0xD)

/-- Formats an output field of the matrix, convolution and image families admits. -/
def fmtOut (b : Nat) : Bool := fmtValid b && decide (fmtCode b ≠ 0xD)

/-- The lowest value of a format: −∞ where it has one, else the most negative finite value (R95). -/
def fmtLowest (b : Nat) : Num :=
  let c := fmtCode b
  match floatFmt c with
  | some f => if f.top = 0 ∧ !fmtBS b then .inf true else .fin true f.maxFin.1 f.maxFin.2
  | none => if c = 0xD then .fin false 1 (-127)
    else if c = 0xE then .fin true 127 (-6) else Num.ofInt (intRange c).1

end Sys2Proof.Machine
end

