-- ==== Sys2Proof/Machine/Functions.lean ====
section
/-! DEFINITION. The functions of Table FMT-9 to far more places than FP32 has, in fixed point: what the bounds of R77 are
measured against. A number stands for itself times 2⁻³²⁰; every value is right to better than 2⁻⁸⁰ of itself. -/

namespace Sys2Proof.Machine.Fx

open Sys2Proof.Machine

/-- Fraction bits. -/
def bits : Nat := 320

def one : Int := 2 ^ bits

/-- A finite value in fixed point. -/
def ofNum : Num → Int
  | .fin s m e =>
    let v : Int := if 0 ≤ e + bits then m * Num.pow2 (e + bits) else (m : Int) / Num.pow2 (-(e + bits))
    if s then -v else v
  | _ => 0

/-- A fixed-point value as an exact value. -/
def toNum (i : Int) : Num := .fin (decide (i < 0)) i.natAbs (-(bits : Int))

def mul (a b : Int) : Int := a * b / one

def div (a b : Int) : Int := a * one / b

/-- The first `k` terms of the exponential series, innermost first. -/
def series (y : Int) : Nat → Int → Int
  | 0, t => t
  | k + 1, t => series y k (one + mul y t / (k + 1))

/-- Squares `n` times. -/
def squares : Nat → Int → Int
  | 0, t => t
  | n + 1, t => squares n (mul t t)

/-- eˣ for a magnitude of at most 256: the series for x / 1024, squared ten times. -/
def exp (x : Int) : Int := squares 10 (series (x / 1024) 40 one)

/-- Inverse hyperbolic tangent for a magnitude of at most 1/3, by its series. -/
def atanh (x : Int) : Int :=
  ((List.range 110).foldl (fun (a : Int × Int) k => (a.1 + a.2 / (2 * k + 1), mul (mul a.2 x) x)) (0, x)).1

def ln2 : Int := 2 * atanh (one / 3)

/-- log₂ of `m * 2^e`, `m` not 0: the exponent, and the logarithm of a value from 1 to 2. -/
def log2 (m : Nat) (e : Int) : Int :=
  let k := Num.floorLog2 m e
  let z := ofNum (.fin false m (-(m.log2 : Int)))
  k * one + div (2 * atanh (div (z - one) (z + one))) ln2

/-- 2ˣ: the whole part, and e to the rest times ln 2, as fraction and power of two. -/
def exp2 (x : Int) : Int × Int := (exp (mul (x % one) ln2), x / one)

/-- 1 / (1 + e⁻ˣ); beyond a magnitude of 128 its asymptote. -/
def sigmoid (x : Int) : Int :=
  if 128 * one < x then one else if x < -(128 * one) then 0 else div one (one + exp (-x))

/-- The hyperbolic tangent, by the sigmoid of twice its argument. -/
def tanh (x : Int) : Int := 2 * sigmoid (2 * x) - one

/-- √(2/π) and 0.044715 of the tanh form. -/
def rootTwoOverPi : Int := 7978845608028653558798921198687637369517 * one / 10 ^ 40

def gelu (x : Int) : Int :=
  mul (x / 2) (one + tanh (mul rootTwoOverPi (x + 44715 * mul x (mul x x) / 1000000)))

/-- ⌊√n⌋, one bit after another from bit `k - 1` down. -/
def root (n : Nat) : Nat → Nat → Nat
  | 0, r => r
  | k + 1, r => if (r + 2 ^ k) * (r + 2 ^ k) ≤ n then root n k (r + 2 ^ k) else root n k r

/-- 1 / √(m * 2^e). -/
def rsqrt (m : Nat) (e : Int) : Int :=
  let v := ofNum (.fin false m e)
  root ((one * one * one / v).toNat) 420 0

end Sys2Proof.Machine.Fx
end

