-- ==== Sys2Proof/Machine/Flags.lean ====
section
/-! DEFINITION. FP32 and INT32 arithmetic with the arithmetic flags of R76: integer accumulation (R70), block and tree
sums (R71, R72, R96), the function table (R77), and comparisons. -/

namespace Sys2Proof.Machine

open Sys2Proof

/-! ## INT32 (R70) -/

/-- Two's complement modulo 2³². -/
def wrap32 (i : Int) : Int := toSigned 32 (ofSigned 32 i)

/-- An INT32 sum that wraps; a wrap sets INT_WRAP. -/
def addWrap (a b : Int × Nat) : Int × Nat :=
  let t := a.1 + b.1
  let r := wrap32 t
  (r, a.2 ||| b.2 ||| (if r = t then 0 else flWRAP))

/-- The integer a value stands for (the integer formats only). -/
def Num.toInt : Num → Int
  | .fin s m e => Num.scaledInt s m e (min e 0)
  | _ => 0

/-- INT32 as FP32, rounded by RND of CVT (R92, R96). -/
def fvOfInt (rtz : Bool) (i : Int) (fl : Nat := 0) : Fv := Fv.round { v := Num.ofInt i, fl := fl } rtz

/-- `a × b + c` rounded once. -/
def Fv.fma (a b c : Fv) : Fv :=
  let p := a.v.mul b.v
  let r := p.add c.v
  Fv.round { v := r, fl := a.fl ||| b.fl ||| c.fl ||| invFlag p a.v b.v ||| invFlag r p c.v }

/-! ## Trees (R72, R96) -/

/-- One level of a balanced binary tree. -/
def pairUp {α : Type} (f : α → α → α) : List α → List α
  | a :: b :: r => f a b :: pairUp f r
  | r => r

/-- The value of a balanced binary tree over a list, `k` levels deep. -/
def tree {α : Type} (f : α → α → α) (z : α) : Nat → List α → α
  | 0, l => l.headD z
  | k + 1, l => tree f z k (pairUp f l)

/-- A sum over a tree of 2^k leaves, missing leaves being `z`. -/
def treeSum {α : Type} (f : α → α → α) (z : α) (k : Nat) (l : List α) : α :=
  tree f z k (l ++ List.replicate (2 ^ k - l.length) z)

/-- The reduction of R96: a tree of 512 leaves in each chunk, chunk results added in ascending order. -/
def reduceSum {α : Type} (f : α → α → α) (z : α) (l : List α) : α :=
  match (chunks 512 l).map (treeSum f z 9) with
  | [] => z
  | c :: cs => cs.foldl f c

/-! ## Array sums (R70 to R72, R74) -/

/-- Exact sum of a block's products; an exact zero is +0. -/
def exactSum (ps : List Num) : Num := ps.foldl Num.add Num.zero

/-- One block of a pair of formats of at most 8 bits: exact sum, scaled, rounded once (R71). -/
def block8 (xs ys : List Num) : Fv :=
  let r := exactSum (List.zipWith Num.mul xs ys)
  let bad := (xs ++ ys).any Num.isNan
  Fv.round { v := r, fl := if r.isNan && !bad then flINV else 0 }

/-- One block of a pair with an operand of 16 or 32 bits: exact products, or products rounded to FP32 where one operand
is FP32, summed by a tree of 32 leaves (R72). -/
def block16 (f32op : Bool) (xs ys : List Num) : Fv :=
  treeSum Fv.add Fv.zero 5 (List.zipWith (fun x y =>
    let p := Num.mul x y
    let v : Fv := { v := p, fl := invFlag p x y }
    if f32op then v.round else v) xs ys)

/-- One pass: the four block results of up to 128 rows combined, and added to the accumulator entry. -/
def passSum (block : List Num → List Num → Fv) (acc : Fv) (xs ys : List Num) : Fv :=
  let b := fun (i : Nat) => block ((xs.drop (32 * i)).take 32) ((ys.drop (32 * i)).take 32)
  let part := fun (i : Nat) => if 32 * i < xs.length then b i else Fv.zero
  acc.add (((part 0).add (part 1)).add ((part 2).add (part 3)))

/-- The FP32 sum of a run of reduction rows counted in passes of 128 from its start. -/
def floatDot (block : List Num → List Num → Fv) (xs ys : List Num) : Fv :=
  (List.range (cdiv xs.length 128)).foldl (fun a i =>
    passSum block a ((xs.drop (128 * i)).take 128) ((ys.drop (128 * i)).take 128)) Fv.zero

/-- The INT32 sum of a run of reduction rows (R70). The order of the additions within a pass, on which only INT_WRAP depends, the
spec does not fix: the products are added one by one, by ascending row (DESIGN CHOICE, log 146). -/
def intDot (xs ys : List Num) : Int × Nat :=
  (List.zipWith (fun x y => x.toInt * y.toInt) xs ys).foldl (fun a p => addWrap a (p, 0)) (0, 0)

/-- How a pair of float formats accumulates. -/
def blockOf (fa fb : Nat) : List Num → List Num → Fv :=
  if fmtWidth (fmtCode fa) ≤ 8 ∧ fmtWidth (fmtCode fb) ≤ 8 then block8
  else block16 (decide (fmtCode fa = 0xC ∨ fmtCode fb = 0xC))

/-! ## Functions (R77, Table FMT-9) -/

/-- Numbers of the functions in the opaque table `Config.fn`. -/
def fnExp : Nat := 0x10
def fnExp2 : Nat := 0x11
def fnRecip : Nat := 0x12
def fnRsqrt : Nat := 0x13
def fnLog2 : Nat := 0x14
def fnSigmoid : Nat := 0x15
def fnTanh : Nat := 0x16
def fnSilu : Nat := 0x17
def fnGelu : Nat := 0x18

/-- A unit in the last place of a value's FP32 representation, times `k`. -/
def ulps (k : Nat) (v : Num) : Num := match v with
  | .fin _ m e => .fin false k (max (Num.floorLog2 m e - 23) (-149))
  | _ => Num.zero

/-- A function's result, known only within `tol` of the exact value `v`: the free function value where it lies there, else `v`
rounded. -/
def within (f : Nat) (args : List Num) (v tol : Num) : Num :=
  let r := decodeElem 0xC (Config.fn f (args.map f32Bits) % 4294967296)
  match r with
  | .fin _ _ _ => if tol.lt (r.sub v).abs then (Fv.round { v := v }).v else r
  | _ => (Fv.round { v := v }).v

/-- `x` is above an exact decimal threshold `n / 10000`. -/
def gtDec (x : Num) (n : Int) : Bool := (Num.ofInt n).lt (x.mul (Num.ofInt 10000))

/-- `x` is below `n / 10000`. -/
def ltDec (x : Num) (n : Int) : Bool := (x.mul (Num.ofInt 10000)).lt (Num.ofInt n)

/-- The larger of 1 and a magnitude, times 2ᵏ. -/
def tolOf (k : Int) (x : Num) : Num := (if (Num.ofInt 1).lt x.abs then x.abs else Num.ofInt 1).scale k

/-- An exact quotient (m * 2^e) / (n * 2^f) to 80 places: truncated, with a last bit that says whether it is exact. -/
def quotient (m : Nat) (e : Int) (n : Nat) (f : Int) : Num :=
  let k : Nat := n.log2 + 80
  .fin false (2 * (m * 2 ^ k / n) + (if m * 2 ^ k % n = 0 then 0 else 1)) (e - f - k - 1)

/-- A function of Table FMT-9, NaN of NaN: special cases exactly, the rest free within the bound. The cases
that the table does not list are the function's limits, which are the model's choice (DESIGN CHOICE, log 144): SiLU and GELU
of −∞ give +0 and of +∞ +∞, log2 of +∞ is +∞, rsqrt of +∞ is +0. -/
def fnValue (f : Nat) (x : Num) : Num :=
  let pInf := Num.inf false
  let nInf := Num.inf true
  let one := Num.ofInt 1
  let v := Fx.ofNum x
  let ofUlps := fun (y : Num) => within f [x] y (ulps 2 y)
  let near := fun (y : Int) (tol : Num) => within f [x] (Fx.toNum y) tol
  if x.isNan then .nan
  else if f = fnExp then
    if x = nInf ∨ ltDec x (-1040000) then Num.zero else if x = pInf ∨ gtDec x 887228 then pInf
    else ofUlps (Fx.toNum (Fx.exp v))
  else if f = fnExp2 then
    if x.lt (Num.ofInt (-150)) then Num.zero else if !x.lt (Num.ofInt 128) then pInf
    else ofUlps ((Fx.toNum (Fx.exp2 v).1).scale (Fx.exp2 v).2)
  else match x with
  | .fin s m e =>
    if f = fnRecip then
      if m = 0 then .inf s
      else
        let y := quotient 1 0 m e
        let r := within f [x.abs] y (ulps 1 y)
        if s then r.neg else r
    else if f = fnRsqrt then
      if m = 0 then .inf s else if s then .nan else ofUlps (Fx.toNum (Fx.rsqrt m e))
    else if f = fnLog2 then
      if m = 0 then nInf else if s then .nan
      else
        let y := Fx.toNum (Fx.log2 m e)
        within f [x] y (if x.lt (.fin false 1 (-1)) ∨ (Num.ofInt 2).lt x then ulps 2 y else .fin false 1 (-21))
    else if f = fnSigmoid then
      let r := near (Fx.sigmoid v) (.fin false 1 (-20))
      if r.isNeg then Num.zero else if one.lt r then one else r
    else if f = fnTanh then
      let r := near (Fx.tanh v) (.fin false 1 (-20))
      if r.lt one.neg then one.neg else if one.lt r then one else r
    else if f = fnSilu then near (Fx.mul v (Fx.sigmoid v)) (tolOf (-20) x)
    else near (Fx.gelu v) (tolOf (-19) x)
  | .inf s =>
    if f = fnRecip then .fin s 0 0
    else if f = fnRsqrt then (if s then .nan else Num.zero)
    else if f = fnLog2 then (if s then .nan else pInf)
    else if f = fnTanh then (if s then one.neg else one)
    else if f = fnSigmoid then (if s then Num.zero else one)
    else if s then Num.zero else pInf
  | .nan => .nan

/-- A function with its flags: a NaN input gives the canonical NaN with INV, as a NaN that the function produces does; a finite
value that exp, exp2 or the reciprocal takes beyond FP32 sets OVF_ACC (R74, R76, R77). -/
def fnEval (f : Nat) (a : Fv) : Fv :=
  let r := fnValue f a.v
  let grows := decide (f = fnExp ∨ f = fnExp2 ∨ f = fnRecip)
  let grew := match a.v, r with
    | .fin _ m _, .inf _ => grows && decide (f ≠ fnRecip ∨ m ≠ 0)
    | _, _ => false
  { v := r, fl := a.fl ||| (if r.isNan then flINV else 0) ||| (if grew then flOVFACC else 0) }

/-- `a / b` as `a × reciprocal(b)`, within 2 ulp of the quotient where both are finite and not 0 and the reciprocal is (DEDUCED,
log 145). A NaN operand sets INV, as it does for every function of Table FMT-9. -/
def fvDiv (a b : Fv) : Fv :=
  let r := fnEval fnRecip b
  let p := a.mul r
  let p := if a.v.isNan then { p with fl := p.fl ||| flINV } else p
  match a.v, b.v, r.v with
  | .fin s m e, .fin t n f, .fin _ (_ + 1) _ =>
    if m = 0 ∨ n = 0 then p
    else
      let q := quotient m e n f
      let q := if s != t then q.neg else q
      if (ulps 2 q).lt (p.v.sub q).abs ∨ p.v = .inf true ∨ p.v = .inf false then Fv.round { v := q, fl := a.fl ||| b.fl } else p
  | _, _, _ => p

/-- ReLU, exact: a NaN stays NaN. -/
def fvRelu (a : Fv) : Fv := if a.v.isNan then a else if Num.zero.lt a.v then a else { a with v := Num.zero }

/-- The epilogues of Table TEN-6. -/
def epilogue (e : Nat) (a : Fv) : Fv :=
  if e = 1 then fvRelu a else if e = 2 then fnEval fnSilu a else if e = 3 then fnEval fnGelu a
  else if e = 4 then fnEval fnSigmoid a else if e = 5 then fnEval fnTanh a else a

/-! ## Order (R96) -/

/-- `a` ranks above `b`: NaN above all else. -/
def ranksAbove (a b : Num) : Bool := if a.isNan then !b.isNan else if b.isNan then false else b.lt a

/-- The index of the largest value, ties to the lower index. -/
def argmaxFrom : Nat → Num → Nat → List Num → Nat
  | best, _, _, [] => best
  | best, bv, i, v :: vs => if ranksAbove v bv then argmaxFrom i v (i + 1) vs else argmaxFrom best bv (i + 1) vs

def argmax : List Num → Nat
  | [] => 0
  | v :: vs => argmaxFrom 0 v 1 vs

/-- The maximum of two values. A NaN operand gives NaN: R96 ranks a NaN for TOPK and argmax only (DESIGN CHOICE, log 147). -/
def fvMax (a b : Fv) : Fv :=
  let fl := a.fl ||| b.fl
  if a.v.isNan ∨ b.v.isNan then { v := .nan, fl := fl } else if a.v.lt b.v then { b with fl := fl } else { a with fl := fl }

/-- The minimum of two values; a NaN operand gives NaN (DESIGN CHOICE, log 147). -/
def fvMin (a b : Fv) : Fv :=
  let fl := a.fl ||| b.fl
  if a.v.isNan ∨ b.v.isNan then { v := .nan, fl := fl } else if b.v.lt a.v then { b with fl := fl } else { a with fl := fl }

end Sys2Proof.Machine
end

