-- ==== Sys2Proof/Machine/Tensors.lean ====
section
/-! DEFINITION. Tensor handles, the residency table, homes and Serai copies (R164 to R177), and the reads and writes a
descriptor makes through handles. -/

namespace Sys2Proof.Machine

open Sys2Proof

/-! ## Handles (Table PLC-2) -/

def hKind (h : Nat) : Nat := h / 268435456
def hGen (h : Nat) : Nat := bits h 27 20
def hIndex (h : Nat) : Nat := h % 1048576

def mkHandle (kind gen i : Nat) : Nat := kind * 268435456 + gen * 1048576 + i

/-- A byte range of a tensor: the tensor's table entry, where the range begins in it, and its length. -/
structure TRef where
  root : Nat
  off : Nat
  bytes : Nat
deriving DecidableEq, Repr

namespace State

def tentry (s : State) (i : Nat) : Option TEntry := NMap.get none s.plc.table i

def setTentry (s : State) (i : Nat) (e : Option TEntry) : State :=
  { s with plc := { s.plc with table := NMap.set none s.plc.table i e } }

/-- The entry a handle value names, released or not. -/
def findHandle (s : State) (h : Nat) : Option TEntry :=
  match s.tentry (hIndex h) with
  | none => none
  | some e => if e.gen = hGen h ∧ hKind h = (if e.view then 2 else 1) then some e else none

/-- The handle names a tensor of the slice (check 8 of R88, R170, R172). -/
def named (s : State) (sl h : Nat) : Bool :=
  match s.findHandle h with
  | none => false
  | some e => decide (e.slice = sl) && !e.released

/-- The bytes a handle names; views count as ranges of their tensor. -/
def tref (s : State) (h : Nat) : Option TRef :=
  (s.findHandle h).map fun e =>
    if e.view then { root := e.parent, off := e.offset, bytes := e.bytes } else { root := hIndex h, off := 0, bytes := e.bytes }

/-- Size of what a handle names. -/
def tbytes (s : State) (h : Nat) : Nat := match s.tref h with
  | some r => r.bytes
  | none => 0

/-- The class of the tensor a handle names (R173). -/
def tclass (s : State) (h : Nat) : Nat := match s.tref h with
  | some r => (match s.tentry r.root with
    | some e => e.cls
    | none => 0)
  | none => 0

/-- Enters a tensor or view in the residency table: the module's own choice of a free index, the entry's next
generation (R170); none where the table is full. -/
def newEntry (s : State) (e : TEntry) : Option (Nat × State) :=
  let v := Config.free .handle s.freeCount
  let s := { s with freeCount := s.freeCount + 1 }
  let i := if 1 ≤ v ∧ v ≤ 1048575 ∧ s.tentry v = none then some v
    else if 1048575 ≤ s.plc.table.length then none
    else (List.range (s.plc.table.length + 1)).findSome? fun j => if s.tentry (j + 1) = none then some (j + 1) else none
  i.map fun i =>
    let g := (NMap.get 0 s.plc.gens i + 1) % 256
    let s := { s with plc := { s.plc with gens := NMap.set 0 s.plc.gens i g } }
    (mkHandle (if e.view then 2 else 1) g i, s.setTentry i (some { e with gen := g }))

/-! ## References and release (R89, R172) -/

/-- Every descriptor whose record is not yet written. -/
def allDescs (s : State) : List Desc :=
  s.que.queues.flatMap fun q => q.2.desc.filterMap (·.2)

/-- A display layer holds the image: latched, or shown and not yet replaced (R291). -/
def displayed (s : State) (i : Nat) : Bool :=
  s.dsp.layers.any fun l => decide ((l.2.latched.map (·.root)) = some i ∨ (l.2.shown.map (·.root)) = some i)

/-- Some accepted descriptor, or the display, holds the entry. -/
def heldEntry (s : State) (i : Nat) : Bool := (s.allDescs.any fun d => d.held.contains i) || s.displayed i

/-- Some accepted descriptor names the tensor, itself or by a view (R166, R174). -/
def namedRoot (s : State) (i : Nat) : Bool := s.heldEntry i || s.allDescs.any fun d => d.reads.contains i || d.writes.contains i

/-- Scratchpad copies of a tensor go: it was discarded, invalidated or freed (R165, R173). -/
def dropPads (s : State) (root : Nat) : State :=
  { s with plc := { s.plc with pads := s.plc.pads.filter fun p => decide (p.1 % 1048576 ≠ root) } }

/-- Scratchpad copies of a tensor follow a write (R165). -/
def writePads (s : State) (root off : Nat) (bs : List Byte) : State :=
  { s with plc := { s.plc with pads := s.plc.pads.map fun p =>
      if p.1 % 1048576 = root then (p.1, p.2.map fun b => overlay b off bs) else p } }

/-- Something still refers to the entry beside its own handle. -/
def referred (s : State) (i : Nat) : Bool :=
  s.heldEntry i || s.plc.table.any fun e => match e.2 with
    | some v => v.view && decide (v.parent = i)
    | none => false

/-- Frees the storage of an entry whose last reference has gone; its dirty copies are discarded (R172). -/
def freeEntry (s : State) (i : Nat) (e : TEntry) : State :=
  let s := s.setTentry i none
  if e.view then s else
  let s := ({ s with
    plc := { s.plc with serai := NMap.set none s.plc.serai i none }
    lnk := { s.lnk with landing := NMap.set [] s.lnk.landing i [] } }).dropPads i
  if e.backing = 0 ∧ e.node = 0xFF then (s.deallocate e.home).freeMem e.slice e.bytes else s

/-- One pass over the released entries. -/
def reapOnce (s : State) : State :=
  s.plc.table.foldl (fun s p => match p.2 with
    | some e => if e.released && !s.referred p.1 then s.freeEntry p.1 e else s
    | none => s) s

/-- Frees everything whose last reference has gone: views first, then the tensors they held. -/
def reap (s : State) : State := s.reapOnce.reapOnce

/-! ## Homes -/

/-- The physical pieces of a range of a local home. -/
def homePieces (s : State) (e : TEntry) (off n : Nat) : List (Option Nat × Nat) :=
  if e.backing = 1 then s.segments (s.slicePasid e.slice) (2 * s.mem.maps.length + 2) (e.home + off) n
  else [(some (e.home + off), n)]

/-- The home of a table entry lies in another module's memory. -/
def isFar (s : State) (root : Nat) : Bool := match s.tentry root with
  | some e => (s.farHome e).isSome
  | none => false

/-! ## The Serai (R165, R174, R176, R177) -/

/-- Serai bytes of a slice. -/
def seraiUsed (s : State) (sl : Nat) : Nat :=
  s.plc.serai.foldl (fun a p => match p.2 with
    | some c => if c.slice = sl then a + c.data.length else a
    | none => a) 0

/-- Capacity of a slice's share, in bytes. -/
def seraiShare (s : State) (sl : Nat) : Nat := s.get 0x2604 (sl + 1) * 65536

/-- Capacity of the common part. -/
def seraiCommon (s : State) : Nat :=
  16777216 - (List.range 64).foldl (fun a k => a + s.seraiShare k) 0

/-- Common-part data: what slices hold above their shares. -/
def seraiExcess (s : State) : Nat :=
  (List.range 64).foldl (fun a k => a + (s.seraiUsed k - s.seraiShare k)) 0

/-- `n` more bytes of a slice fit now; a region that is under test is out of service (Table SAF-8). -/
def seraiFits (s : State) (sl n : Nat) : Bool :=
  let u := s.seraiUsed sl
  let sh := s.seraiShare sl
  let gone := if (NMap.get ({} : DroneUnit) s.saf.drone 16).running then 262144 else 0
  decide (s.seraiExcess - (u - sh) + (u + n - sh) + gone ≤ s.seraiCommon)

/-- The output fits by size alone (R166). -/
def seraiCapacityFits (s : State) (sl n : Nat) : Bool := decide (n ≤ s.seraiShare sl ∨ n ≤ s.seraiCommon)

/-- Rank of a class for EVICT_ORDER 1: activation, state, weight. -/
def classRank (c : Nat) : Nat := if c = 0 then 0 else if c = 2 then 1 else 2

/-- Whether `a` goes before `b` when evicting for a descriptor with policy `p` (R177): common data before shares; weights first
while WEIGHT_SERAI is 0, or where their slice is above its share (R174); then EVICT_ORDER. -/
def evictBefore (s : State) (p : List Nat) (a b : Nat × Copy) : Bool :=
  let beyond := fun (c : Copy) => decide (s.seraiShare c.slice < s.seraiUsed c.slice)
  let cls : Nat → Nat := fun i => match s.tentry i with
    | some e => e.cls
    | none => 0
  let weight := fun (x : Nat × Copy) => decide (cls x.1 = 1) && (decide (p.getD 1 0 = 0) || beyond x.2)
  if beyond a.2 != beyond b.2 then beyond a.2
  else if weight a != weight b then weight a
  else if p.getD 2 0 = 1 ∧ classRank (cls a.1) ≠ classRank (cls b.1) then decide (classRank (cls a.1) < classRank (cls b.1))
  else decide (a.2.lastUse < b.2.lastUse)

/-- The next copy to evict for an allocation of slice `sl`: data of slices above their share, or the slice's own, never
a copy that an accepted descriptor names. `ok` bounds the choice further, as the caller asks. -/
def evictNext (s : State) (p : List Nat) (sl : Nat) (ok : Nat → Copy → Bool) : Option (Nat × Copy) :=
  let cs : List (Nat × Copy) := s.plc.serai.filterMap fun p => match p.2 with
    | some c => if (decide (c.slice = sl) || decide (s.seraiShare c.slice < s.seraiUsed c.slice)) && !s.namedRoot p.1
        && !c.leaving && ok p.1 c then some (p.1, c) else none
    | none => none
  cs.foldl (fun (a : Option (Nat × Copy)) c => match a with
    | none => some c
    | some b => if s.evictBefore p c b then some c else a) none

def setCopy (s : State) (root : Nat) (c : Option Copy) : State :=
  { s with plc := { s.plc with serai := NMap.set none s.plc.serai root c } }

/-- A write-back of the tensor still awaits its ACK. -/
def backPending (s : State) (root : Nat) : Bool := s.lnk.writes.any fun e => match e.2 with
  | some t => (match t.what with
    | .evict r => decide (r = root)
    | .writeBack _ _ r => decide (r = root)
    | _ => false)
  | none => false

/-- A copy that was to go once its home is current goes when no write-back of it awaits an ACK (R241). -/
def settleLeaving (s : State) (root : Nat) : State := match NMap.get none s.plc.serai root with
  | some c => if c.leaving ∧ !c.dirty ∧ !s.backPending root then s.setCopy root none else s
  | none => s

end State

/-! ## A descriptor's work -/

/-- A descriptor's execution: the state so far, who works, and what the record will say. -/
structure Work where
  s : State
  q : Nat
  n : Nat
  sl : Nat
  prio : Nat
  /-- The requester whose requests reach memory. -/
  m : Requester
  st : Nat := 0
  det : Nat := 0
  fl : Nat := 0
  /-- The outputs of the tile in hand are undefined. -/
  undef : Bool := false
  /-- What the tile in hand staged from (R164); none where the work reads what stands now. -/
  seen : Option Stage := none
  /-- The reads stage nothing for an engine, and the staging counters do not count them (R195). -/
  quiet : Bool := false

namespace Work

/-- The first failure stands. -/
def fail (w : Work) (status detail : Nat) : Work := if w.st = 0 then { w with st := status, det := detail } else w

/-- A failure that leaves the tile's outputs undefined. -/
def failUndef (w : Work) (status detail : Nat) : Work := { w.fail status detail with undef := true }

def flag (w : Work) (f : Nat) : Work := { w with fl := w.fl ||| f }

/-- The state as reads see it. -/
def view (w : Work) : State := match w.seen with
  | some t => { w.s with mem := t.mem, plc := { w.s.plc with serai := t.serai } }
  | none => w.s

/-- Counts staged bytes: 7 from the Serai, 8 from tiers 4 and 5 (Table PLC-9). -/
def staged (w : Work) (k n : Nat) : Work := if w.quiet then w else { w with s := w.s.bump 0x2607 k n }

/-- Reads physical bytes: an address that the map does not have ends in RING_FAULT (R253), bytes in another module's memory are
free; refused requests read zero (R389); a poisoned granule makes the outputs undefined, or shows as
zeros on the display (Table MEM-2). -/
def readPhys (w : Work) (a n : Nat) : List Byte × Work :=
  if n = 0 then ([], w)
  else if !State.inHbm (a + n - 1) then
    if (w.s.windowAt a n).isSome then
      let v := w.s.fresh .data
      (leBytes n v.1, { w with s := v.2 })
    else (List.replicate n 0, w.failUndef St.ringFault 0)
  else if w.s.refuses w.m a n then
    (List.replicate n 0, { w with s := w.s.noteRefusal w.m a }.fail St.secureAccess 0)
  else
    let bad := (State.granulesOf a n).filter fun g => w.view.mem.poisoned.contains g
    let data := w.view.readMem a n
    let w := { w with s := w.s.chargeRange w.m a n }
    match bad with
    | [] => (data, w)
    | g :: _ => if w.m = .display then
        (data.mapIdx fun i b => if bad.contains ((a + i) / 64) then 0 else b, { w with s := bad.foldl State.poison w.s })
      else (data, { w with s := bad.foldl State.poison w.s }.failUndef St.hbmUncorrectable g)

/-- Writes physical bytes: refused requests are dropped; those in an outbound window go to its node (R229), and an address
that the map does not have ends in RING_FAULT (R253). -/
def writePhys (w : Work) (a : Nat) (bs : List Byte) : Work :=
  if bs = [] then w
  else if !State.inHbm (a + bs.length - 1) then match w.s.windowAt a bs.length with
    | some (x, t) => if x.node = w.s.nodeId ∨ w.s.reaches x.node then { w with s := w.s.windowWrite x t bs (.writeBack w.q w.n 1048576) }
      else w.failUndef St.nodeUnreachable 0
    | none => w.failUndef St.ringFault 0
  else
    let no := w.s.refuses w.m a bs.length
    let w := { w with s := w.s.store w.m a bs }
    if no then w.fail St.secureAccess 0 else w

/-- The physical pieces of a range of a run of 64 KiB pages. -/
def pagePieces (pages : List Nat) (off n : Nat) : List (Option Nat × Nat) :=
  if n = 0 then [] else
  (List.range ((off + n - 1) / 65536 + 1 - off / 65536)).map fun i =>
    let p := off / 65536 + i
    let lo := max off (p * 65536)
    let hi := min (off + n) (p * 65536 + 65536)
    ((pages[p]?).map (· + lo % 65536), hi - lo)

/-- Reads pieces of a home; bytes without translation read zero with RING_FAULT (R171). -/
def readPieces (w : Work) : List (Option Nat × Nat) → List Byte × Work
  | [] => ([], w)
  | (some a, n) :: ps =>
    let r := w.readPhys a n
    let t := r.2.readPieces ps
    (r.1 ++ t.1, t.2)
  | (none, n) :: ps =>
    let t := (w.failUndef St.ringFault 0).readPieces ps
    (List.replicate n 0 ++ t.1, t.2)

/-- Writes pieces of a home; bytes without translation are dropped with RING_FAULT, and the tile's outputs are undefined
(R171). -/
def writePieces (w : Work) : List (Option Nat × Nat) → List Byte → Work
  | [], _ => w
  | (some a, n) :: ps, bs => (w.writePhys a (bs.take n)).writePieces ps (bs.drop n)
  | (none, n) :: ps, bs => (w.failUndef St.ringFault 0).writePieces ps (bs.drop n)

/-- Writes bytes of a tensor's home; a tier 5 home by confirmed writes (R241). -/
def writeHome (w : Work) (root off : Nat) (bs : List Byte) (what : AckFor) : Work :=
  match w.s.tentry root with
  | none => w
  | some e =>
    match w.s.farHome e with
    | none => w.writePieces (w.s.homePieces e off bs.length) bs
    | some (node, home) =>
      if w.s.reaches node then { w with s := w.s.sendWrites node w.prio (home + off) bs what }
      else w.failUndef St.nodeUnreachable 0

/-- Reads bytes of a tensor's home; a tier 5 home's bytes have landed before the work starts. -/
def readHome (w : Work) (root off n : Nat) : List Byte × Work :=
  match w.s.tentry root with
  | none => (List.replicate n 0, w)
  | some e =>
    if (w.s.farHome e).isNone then w.readPieces (w.view.homePieces e off n)
    else (slice (NMap.get [] w.s.lnk.landing root) off n, w)

/-- Writes a dirty copy back to its home (R165). -/
def writeBack (w : Work) (root : Nat) (c : Copy) (what : AckFor) : Work :=
  let w := w.writeHome root 0 c.data what
  { w with s := w.s.bump 0x2607 0x0A c.data.length }

/-- Evicts one whole copy; a dirty copy of a tier 5 tensor is dropped only on its ACK (R241). -/
def evict (w : Work) (root : Nat) (c : Copy) : Work :=
  let remote := w.s.isFar root
  let w := { w with s := w.s.bump 0x2607 9 }
  if c.dirty then
    let w := { w with s := (w.writeBack root c (.evict root)).s }
    { w with s := w.s.setCopy root (if remote then some { c with leaving := true, dirty := false } else none) }
  else { w with s := w.s.setCopy root none }

/-- The placement policy of the descriptor at work (R177). -/
def policy (w : Work) : List Nat := match NMap.get none (w.s.queue w.q).desc w.n with
  | some d => d.policy
  | none => []

/-- Makes room for `n` bytes of a slice in the Serai by evicting; false where that cannot free the room. -/
def makeRoom (w : Work) (sl n : Nat) (ok : Nat → Copy → Bool) : Nat → Bool × Work
  | 0 => (w.s.seraiFits sl n, w)
  | fuel + 1 =>
    if w.s.seraiFits sl n then (true, w)
    else match w.s.evictNext w.policy sl ok with
      | none => (false, w)
      | some (r, c) => (w.evict r c).makeRoom sl n ok fuel

/-- Brings a whole tensor into the Serai if there is room. -/
def seraiPlace (w : Work) (root : Nat) (ok : Nat → Copy → Bool) : Bool × Work :=
  match w.s.tentry root with
  | none => (false, w)
  | some e =>
    if e.noSerai || (NMap.get none w.s.plc.serai root).isSome then ((NMap.get none w.s.plc.serai root).isSome, w)
    else
      let r := w.makeRoom e.slice e.bytes ok w.s.plc.serai.length
      if !r.1 then r
      else
        let d := { r.2 with seen := none }.readHome root 0 e.bytes
        let s := d.2.s
        let s := { s with plc := { s.plc with useCount := s.plc.useCount + 1 } }
        (true, { d.2 with seen := w.seen, s := s.setCopy root (some { slice := e.slice, data := d.1, dirty := false, lastUse := s.plc.useCount }) })

/-- A copy in the Serai is used: it becomes the most recently used. -/
def touch (w : Work) (root : Nat) : Work := match NMap.get none w.s.plc.serai root with
  | some c =>
    let s := { w.s with plc := { w.s.plc with useCount := w.s.plc.useCount + 1 } }
    { w with s := s.setCopy root (some { c with lastUse := s.plc.useCount }) }
  | none => w

/-- Reads `n` bytes at `off` of a handle from the lowest tier with a current copy (R164). -/
def read (w : Work) (h off n : Nat) : List Byte × Work :=
  match w.s.tref h with
  | none => match NMap.get none w.s.kv.seqs h with
    | some q => (w.staged 8 n).readPieces (pagePieces q.header off n)
    | none => (List.replicate n 0, w)
  | some r =>
    match w.seen.bind fun t => NMap.get none t.pads r.root with
    | some b => (slice b (r.off + off) n, w)
    | none => match NMap.get none w.view.plc.serai r.root with
      | some c => (slice c.data (r.off + off) n, (w.touch r.root).staged 7 n)
      | none =>
        let d := w.readHome r.root (r.off + off) n
        (d.1, d.2.staged 8 n)

/-- Bytes as they stand, without a staging access: the neighbours of a partial group. -/
def peek (w : Work) (h off n : Nat) : List Byte :=
  match w.s.tref h with
  | none => List.replicate n 0
  | some r =>
    match NMap.get none w.s.plc.serai r.root with
    | some c => slice c.data (r.off + off) n
    | none => ({ w with m := .secProc, seen := none }.readHome r.root (r.off + off) n).1

/-- Writes bytes at `off` of a handle: to the Serai where the output is bound there and room is found, else to the home;
a copy on chip follows (R165, R166). -/
def write (w : Work) (h off : Nat) (bs : List Byte) (serai : Bool := false) : Work :=
  match w.s.tref h with
  | none => w
  | some r =>
    let p := if serai then w.seraiPlace r.root (fun _ _ => true) else (false, w)
    let w := { p.2 with s := p.2.s.writePads r.root (r.off + off) bs }
    match NMap.get none w.s.plc.serai r.root, p.1 with
    | some c, true =>
      let s := { w.s with plc := { w.s.plc with useCount := w.s.plc.useCount + 1 } }
      { w with s := s.setCopy r.root (some { c with data := overlay c.data (r.off + off) bs, dirty := true, leaving := false, lastUse := s.plc.useCount }) }
    | some c, false =>
      let w := w.writeHome r.root (r.off + off) bs (.writeBack w.q w.n r.root)
      { w with s := w.s.setCopy r.root (some { c with data := overlay c.data (r.off + off) bs }) }
    | none, _ => w.writeHome r.root (r.off + off) bs (.writeBack w.q w.n r.root)

/-- Discards every on-chip copy of a tensor. -/
def dropCopy (w : Work) (h : Nat) : Work :=
  match w.s.tref h with
  | none => w
  | some r => { w with s := (w.s.setCopy r.root none).dropPads r.root }

/-- The tensor's home can be written. -/
def homeReached (w : Work) (root : Nat) : Bool := match w.s.tentry root with
  | some e => match w.s.farHome e with
    | some (node, _) => w.s.reaches node
    | none => true
  | none => false

/-- Writes every dirty copy of the tensor back to its home; the copy stays, clean where its home could be written. -/
def flush (w : Work) (h : Nat) : Work :=
  match w.s.tref h with
  | none => w
  | some r =>
    match NMap.get none w.s.plc.serai r.root with
    | some c =>
      if c.dirty then
        let w := w.writeBack r.root c (.writeBack w.q w.n r.root)
        if w.homeReached r.root then { w with s := w.s.setCopy r.root (some { c with dirty := false }) } else w
      else w
    | none => w

/-- `n` free bytes: outputs that the spec calls undefined. -/
def freeBytes (w : Work) (n : Nat) : List Byte × Work :=
  ((List.range n).map fun i => BitVec.ofNat 8 (Config.free .data (w.s.freeCount + i)),
   { w with s := { w.s with freeCount := w.s.freeCount + n } })

/-- One free value of a use. -/
def freeVal (w : Work) (u : Config.Use) : Nat × Work :=
  (Config.free u w.s.freeCount, { w with s := { w.s with freeCount := w.s.freeCount + 1 } })

/-- Writes an output: free bytes where the tile's outputs are undefined. -/
def output (w : Work) (h off : Nat) (bs : List Byte) (serai : Bool := false) : Work :=
  if w.undef then
    let f := w.freeBytes bs.length
    f.2.write h off f.1 serai
  else w.write h off bs serai

/-! ## Elements -/

/-- The codes of `n` elements from element `i` of a tensor in format `c` (R63). -/
def readCodes (w : Work) (h c i n : Nat) : List Nat × Work :=
  let wd := fmtWidth c
  let b0 := i * wd / 8
  let b1 := cdiv ((i + n) * wd) 8
  let r := w.read h b0 (b1 - b0)
  let v := leNat r.1 >>> (i * wd - 8 * b0)
  ((List.range n).map fun j => (v >>> (j * wd)) % 2 ^ wd, r.2)

/-- Element values; with scales at byte `so` of handle `sh` where the operand is block-scaled, element 0 of the run being
element `k0` of its row (R65, R66). -/
def readElems (w : Work) (h fmt i n : Nat) (sh so k0 : Nat) : List Num × Work :=
  let c := fmtCode fmt
  let r := w.readCodes h c i n
  let vs := r.1.map (decodeElem c)
  if fmtBS fmt then
    let b0 := k0 / 32
    let b1 := (k0 + n - 1) / 32
    let sc := r.2.read sh (so + b0) (b1 + 1 - b0)
    (vs.mapIdx fun j v => scaledElem v ((sc.1.getD ((k0 + j) / 32 - b0) 0).toNat), sc.2)
  else (vs, r.2)

/-- Packs element codes into a number. -/
def packCodes (wd : Nat) : List Nat → Nat
  | [] => 0
  | c :: cs => c % 2 ^ wd + 2 ^ wd * packCodes wd cs

/-- Writes element codes from element `i`; the tail of the last group of a tensor of `total` elements is zero, other neighbours
keep their bits (R63). With a stride above the row length, the spec does not say which element is the tensor's last: the model
takes the last one that the descriptor addresses (DESIGN CHOICE, log 150). -/
def writeCodes (w : Work) (h c i : Nat) (cs : List Nat) (total : Nat) (serai : Bool := false) : Work :=
  if cs = [] then w else
  let wd := fmtWidth c
  let cs := if i + cs.length = total then cs ++ List.replicate (cdiv total (fmtGroup c) * fmtGroup c - total) 0 else cs
  let n := cs.length
  let b0 := i * wd / 8
  let b1 := cdiv ((i + n) * wd) 8
  let sh := i * wd - 8 * b0
  let aligned := decide (sh = 0 ∧ (i + n) * wd = 8 * b1)
  let old := if aligned then 0 else leNat (w.peek h b0 (b1 - b0))
  let k := if w.undef then n else 0
  let free := (List.range k).map fun i => Config.free .data (w.s.freeCount + i)
  let w := { w with s := { w.s with freeCount := w.s.freeCount + k } }
  let new := packCodes wd (if w.undef then free else cs)
  let v := old % 2 ^ sh + (new <<< sh) + ((old >>> (sh + n * wd)) <<< (sh + n * wd))
  w.write h b0 (leBytes (b1 - b0) v) serai

/-- Converts values under CVT and writes them from element `i`; a block-scaled row also writes its scales at byte `so` of
`sh` (R67, R75). -/
def writeElems (w : Work) (h fmt cvt i : Nat) (vs : List Fv) (total : Nat) (sh so : Nat) (serai : Bool := false) : Work :=
  let c := fmtCode fmt
  let w := w.flag (vs.foldl (fun a v => a ||| v.fl) 0)
  if fmtBS fmt then
    let q := quantRow c cvt (vs.map (·.v))
    let w := (w.writeCodes h c i q.2.1 total serai).flag q.2.2
    w.output sh so (q.1.map fun x => BitVec.ofNat 8 x) serai
  else
    let q := vs.map fun v => convertElem c cvt v.v
    (w.writeCodes h c i (q.map (·.1)) total serai).flag (q.foldl (fun a p => a ||| p.2) 0)

end Work

end Sys2Proof.Machine
end

