-- ==== Sys2Proof/Machine/Operands.lean ====
section
/-! DEFINITION. The work descriptor's fields (R86, R87), what a family tells the acceptance checks about a descriptor,
when a descriptor may begin (R99, R103), and how it ends (R102, R107). -/

namespace Sys2Proof.Machine

open Sys2Proof

/-- Bits `hi:lo` of a descriptor. -/
def Desc.fld (d : Desc) (hi lo : Nat) : Nat := bits d.w.toNat hi lo

/-! ## The header (Tables TEN-2 and TEN-3) -/

/-- Header fields read by the version that COMPAT_MODE selects; `c` is COMPAT_MODE = 1. -/
def Desc.opcode (d : Desc) (c : Bool) : Nat := if c then d.fld 63 48 else d.fld 15 0
def Desc.version (d : Desc) (c : Bool) : Nat := if c then d.fld 47 44 else d.fld 19 16
def Desc.tag (d : Desc) (c : Bool) : Nat := if c then d.fld 31 0 else d.fld 63 32
def Desc.halt (d : Desc) (c : Bool) : Bool := !c && d.w.getLsbD 28
def Desc.redundant (d : Desc) (c : Bool) : Bool := !c && d.w.getLsbD 27
def Desc.fence (d : Desc) (c : Bool) : Bool := if c then d.w.getLsbD 38 else d.w.getLsbD 26
def Desc.irq (d : Desc) (c : Bool) : Bool := if c then d.w.getLsbD 37 else d.w.getLsbD 25
def Desc.cmpl (d : Desc) (c : Bool) : Bool := if c then d.w.getLsbD 36 else d.w.getLsbD 24

/-- Reserved header bits. -/
def headerReserved (c : Bool) : List (Nat × Nat) := if c then [(43, 39), (35, 32)] else [(31, 29), (23, 20)]

/-! ## What a family says of a descriptor (R88) -/

/-- What a handle field may name. -/
inductive HKind where
  | tensor
  | pool
  | seq
  /-- A tensor, or a sequence whose header is read (R136). -/
  | tensorOrSeq
deriving DecidableEq, Repr

/-- One use of a handle field: its lowest bit, whether the descriptor writes through it, the bytes it must hold, and
whether 0 means none. -/
structure HUse where
  lo : Nat
  out : Bool := false
  bytes : Nat := 0
  zeroOk : Bool := false
  kind : HKind := .tensor
deriving DecidableEq, Repr

/-- What the acceptance checks need to know. -/
structure OpInfo where
  /-- Reserved body bits, as (high, low). -/
  reserved : List (Nat × Nat)
  /-- Check 5: status and DETAIL of a failure. -/
  fmt : Option (Nat × Nat) := none
  /-- Check 6: lowest bits of the failing fields. -/
  bad : List Nat := []
  /-- Check 7: lowest bits of the failing output handle fields. -/
  clash : List Nat := []
  /-- Checks 8 and 9. -/
  uses : List HUse := []
  /-- Sequences named through a list (R145), and whether the descriptor writes them. -/
  seqs : List Nat := []
  seqOut : Bool := false
  /-- Lowest bits of handle fields that name a tensor the descriptor also writes to. -/
  alsoWrites : List Nat := []
  /-- Lowest bits of output handle fields whose tensor the descriptor also reads. -/
  alsoReads : List Nat := []
  /-- No output may name a weight tensor (R173). -/
  barWeights : Bool := false
  /-- What the family fixes for the descriptor at its acceptance. -/
  fixed : List Nat := []
  /-- A further check of the family after check 9. -/
  more : Option (Nat × Nat) := none

/-- Failing fields of a list of (fails, lowest bit). -/
def badBits (l : List (Bool × Nat)) : List Nat := (l.filter (·.1)).map (·.2)

/-- First failure of a list of (fails, status, DETAIL). -/
def firstFail (l : List (Bool × Nat × Nat)) : Option (Nat × Nat) := (l.find? (·.1)).map (·.2)

def minOf : List Nat → Option Nat
  | [] => none
  | x :: xs => some (xs.foldl min x)

/-- The handle value of a use. -/
def HUse.handle (u : HUse) (d : Desc) : Nat := d.fld (u.lo + 31) u.lo

/-- Output fields that break check 7: equal to an input handle other than as `ok` permits (R88). -/
def clashes (d : Desc) (uses : List HUse) (ok : HUse → HUse → Bool) : List Nat :=
  (uses.filter fun o => o.out && decide (o.handle d ≠ 0)
    && (uses.any fun i => !i.out && decide (i.handle d = o.handle d) && !ok o i)).map (·.lo)

/-- Output fields that break check 7 by naming a weight tensor of the queue's slice (R173). -/
def weightClashes (s : State) (sl : Nat) (d : Desc) (i : OpInfo) : List Nat :=
  if i.barWeights then (i.uses.filter fun o => o.out && s.named sl (o.handle d) && decide (s.tclass (o.handle d) = 1)).map (·.lo) else []

/-- The number of engines a descriptor was cut for, and their mask: the first of the values fixed for it. -/
def Desc.mask (d : Desc) : Nat := d.fixed.headD 0

/-- The family's own values fixed at acceptance. -/
def Desc.data (d : Desc) : List Nat := d.fixed.drop 1

def Desc.engineCount (d : Desc) : Nat := (maskBits 16 d.mask).length

/-- A format byte field with its lowest bit. -/
def fmtFail (ok : Bool) (lo : Nat) : Bool × Nat × Nat := (!ok, St.formatUnsupported, lo)

/-- Reserved bits inside a format byte and a conversion control byte (Tables FMT-3 and FMT-5). -/
def fmtReserved (lo : Nat) : Nat × Nat := (lo + 6, lo + 5)
def cvtReserved (lo : Nat) : Nat × Nat := (lo + 7, lo + 3)

/-- Opcodes whose work is cut into tiles and dealt: families 01 to 04, the operations of the DMA engine, and 07. -/
def dealtOp (op : Nat) : Bool :=
  decide ((0x0100 ≤ op ∧ op < 0x0500) ∨ (0x0500 ≤ op ∧ op ≤ 0x0504) ∨ (0x0700 ≤ op ∧ op < 0x0800))

namespace State

/-- The descriptor family's 8 bits. -/
def family (s : State) (d : Desc) : Nat := d.opcode s.compat / 256

/-- Whether the descriptor is of the control family, which occupies no engine and runs while every engine is off. -/
def isControl (s : State) (d : Desc) : Bool := decide (s.family d = 6)

/-- Every other family waits while no engine is on (R110). -/
def engineGate (s : State) (d : Desc) : Bool := s.isControl d || decide (s.enginesOn ≠ [])

/-- SIGNAL and TIMESTAMP behave as if FENCE were set (R99). -/
def fenced (s : State) (d : Desc) : Bool :=
  let op := d.opcode s.compat
  d.fence s.compat || decide (op = 0x0601 ∨ op = 0x0603)

/-- Two descriptors conflict on an object (R103). -/
def hazard (a b : Desc) : Bool :=
  a.writes.any (fun x => b.reads.contains x || b.writes.contains x) || a.reads.any fun x => b.writes.contains x

/-- Descriptors of the queue that come before number `n`. -/
def earlier (s : State) (q n : Nat) : List Desc :=
  (s.queue q).desc.filterMap fun p =>
    if diff32 n p.1 ≠ 0 ∧ diff32 n p.1 < 2147483648 then p.2 else none

/-- Nothing of its queue holds a descriptor back: every earlier one has begun, none is an unfinished WAIT, its fence is met,
and it has no hazard with an unfinished one (R99, R103). -/
def clearToBegin (s : State) (q n : Nat) (d : Desc) : Bool :=
  decide (d.phase = .accepted)
    && (s.earlier q n).all fun e =>
      decide (e.phase ≠ .accepted)
        && (decide (e.phase = .done) || (decide (e.opcode s.compat ≠ 0x0602) && !s.fenced d && !hazard e d))

/-- A descriptor may begin: nothing of its queue holds it back, and an engine is on where it needs that (R110). One that was
accepted before its queue halted and has not begun may begin while the queue is halted: R107 and R204 speak of those that have
begun (DESIGN CHOICE, log 143). -/
def mayBegin (s : State) (q n : Nat) (d : Desc) : Bool := s.engineGate d && s.clearToBegin q n d

/-- The queue has a descriptor accepted, clear to begin and not yet dealt: its context has work in flight (R207). -/
def noteWork (s : State) (q : Nat) : State :=
  let x := s.queue q
  s.setQueue q { x with inWork := x.desc.any fun e => match e.2 with
    | some d => dealtOp (d.opcode s.compat) && !d.rejected && s.clearToBegin q e.1 d
    | none => false }

/-- Posts QUEUE_HALTED and stops a queue that was enabled or disabling (R107, R204). -/
def haltQueue (s : State) (q status tag : Nat) : State :=
  let x := s.queue q
  if x.state ≠ .enabled ∧ x.state ≠ .disabling then s
  else
    let s := s.setQueue q { x with state := .halted, haltStatus := status }
    match s.queueOwner q with
    | some k => s.postEvent k 1 status q tag
    | none => s

/-- A descriptor completes: its status, DETAIL and flags are fixed; with HALT_ON_ERR a status other than OK halts its
queue (R107). -/
def finish (s : State) (q n : Nat) (status detail aflags : Nat) : State :=
  match s.desc q n with
  | none => s
  | some d =>
    let d' := if d.status ≠ 0 then { d with phase := .done, aflags := aflags, tDone := s.now }
      else { d with phase := .done, status := status, detail := detail, aflags := aflags, tDone := s.now }
    let s := s.setDesc q n d'
    let s := { s with lnk := { s.lnk with fetches := s.lnk.fetches.filter fun f => decide (f.q ≠ q ∨ f.n ≠ n) } }
    let s := if d.keep then { s with plc := { s.plc with
      tier1 := NMap.set none s.plc.tier1 q (some ((n + 1) % 4294967296, d.place)) } } else s
    let s := s.noteWork q
    if d'.status ≠ 0 ∧ d.halt s.compat then s.haltQueue q d'.status (d.tag s.compat) else s

/-- A ring slot that cannot be read halts the queue (R204, Table MEM-2); the TAG of a descriptor never read is free. -/
def slotLost (s : State) (q status : Nat) : State :=
  let t := s.fresh .detail
  t.2.haltQueue q status (t.1 % 4294967296)

/-- A record that cannot be written: the queue halts and COMPLETION_LOST is posted (R204). -/
def recordLost (s : State) (q tag : Nat) : State :=
  let s := s.haltQueue q St.ringFault tag
  match s.queueOwner q with
  | some k => s.postEvent k 0x0002 St.ringFault q tag
  | none => s

/-- The requester of a descriptor's data: the engine that retired its last tile, else the placement unit. -/
def dataPort (sl : Nat) (d : Desc) : Requester := if d.engine < 16 then .engine d.engine sl else .placement sl

/-- Tensors with homes in other modules that a descriptor reads, or writes in part into the Serai, with no current copy on chip are asked for (R168,
R241); none where one cannot be reached. -/
def fetchInputs (s : State) (q n : Nat) (d : Desc) : Option State :=
  let far := (d.inputs ++ if d.serai = 0 then [] else d.writes).eraseDups.filter fun r => match s.tentry r with
    | some e => (s.farHome e).isSome && !e.view && !(NMap.get none s.plc.serai r).isSome
    | none => false
  if far.any fun r => match (s.tentry r).bind s.farHome with
      | some (node, _) => !s.reaches node
      | none => false then none
  else if far = [] then some s
  else
    let more : List RemoteFetch := far.map fun r => { q := q, n := n, root := r, next := 0 }
    let s : State := { s with lnk := { s.lnk with fetches := s.lnk.fetches ++ more } }
    some s.pumpBulk

/-- The work record of a descriptor. -/
def startWork (s : State) (q n : Nat) (d : Desc) : Work :=
  { s := s, q := q, n := n, sl := s.queueSlice q, prio := (s.queue q).priority, m := dataPort (s.queueSlice q) d }

/-- The cap of the bandwidth class of a queue's slice holds what its descriptors ask of memory (R257, R260). -/
def workHeld (s : State) (q : Nat) : Bool := s.capHolds (s.get 0x2406 (s.queueSlice q + 1))

/-- Its requests begin to be held where one of its descriptors stands at them. -/
def noteWait (s : State) (q n : Nat) : State :=
  if s.workHeld q ∧ (s.desc q n).isSome then s.noteHeld (s.get 0x2406 (s.queueSlice q + 1)) else s

/-- A descriptor whose opcode satisfies `op`, begun, with every tile drained and every tier 5 byte landed. -/
def readyDesc (s : State) (q n : Nat) (op : Nat → Bool) : Option Desc :=
  match s.desc q n with
  | none => none
  | some d =>
    if d.phase = .running ∧ d.left = 0 ∧ op (d.opcode s.compat) ∧ !d.rejected ∧ !s.fetching q n ∧ !s.workHeld q
    then some d else none

/-- Runs a family's effect on a ready descriptor and completes it; otherwise it waits. -/
def runDesc (s : State) (q n : Nat) (op : Nat → Bool) (f : Work → Desc → Work) : State :=
  match s.readyDesc q n op with
  | none => s.noteWait q n
  | some d =>
    let w := f (s.startWork q n d) d
    w.s.finish q n w.st w.det w.fl

/-- Begins a descriptor that needs no tile (control, link, display and planner work), where it may begin. -/
def beginDirect (s : State) (q n : Nat) (op : Nat → Bool) : Option (Desc × State) :=
  match s.desc q n with
  | none => none
  | some d =>
    if s.mayBegin q n d ∧ op (d.opcode s.compat) ∧ !d.rejected ∧ !s.workHeld q then
      some ({ d with phase := .running }, s.setDesc q n { d with phase := .running, tDeal := s.now })
    else none

/-- Runs a family's effect on a descriptor that needs no tile: it begins and completes. -/
def runDirect (s : State) (q n : Nat) (op : Nat → Bool) (f : Work → Desc → Work) : State :=
  match s.beginDirect q n op with
  | none => s.noteWait q n
  | some (d, s) =>
    let w := f (s.startWork q n d) d
    w.s.finish q n w.st w.det w.fl

/-- Begins a descriptor without tiles where it may begin, asking for its tier 5 inputs, and answers it once they are
there. -/
def readyDirect (s : State) (q n : Nat) (op : Nat → Bool) : Option Desc × State :=
  let s := match s.beginDirect q n op with
    | none => s.noteWait q n
    | some (d, t) => match t.fetchInputs q n d with
      | some t => t
      | none => t.finish q n St.nodeUnreachable 0 0
  (s.readyDesc q n op, s)

/-- Output `i` of the descriptor is bound for the Serai (R166). -/
def toSerai (d : Desc) (i : Nat) : Bool := d.serai.testBit i

end State

namespace Work

/-- One output tile, of the tiles `ts` its reduction was cut into, over what it staged; nothing where one of them writes nothing
(R108, R367). A read or write that leaves its outputs undefined does so for all of them: the tile is then run with free
outputs throughout (R171, Table MEM-2). -/
def groupM {α : Type} (w : Work) (d : Desc) (ts : List Nat) (z : α) (f : Work → α × Work) : α × Work :=
  if ts.any d.unwritten.contains then (z, w)
  else
    let st := ts.head?.bind fun t => NMap.get none d.stages t
    let u := ts.any d.undef.contains
    let a := f { w with undef := u, seen := st }
    let b := if a.2.undef && !u then f { w with undef := true, seen := st } else a
    (b.1, { b.2 with undef := false, seen := none })

def group (w : Work) (d : Desc) (ts : List Nat) (f : Work → Work) : Work := (w.groupM d ts () fun w => ((), f w)).2

/-- Runs a function for each tile number. -/
def tiles (w : Work) (d : Desc) (f : Work → Nat → Work) : Work :=
  (List.range d.tiles).foldl (fun w t => w.group d [t] fun w => f w t) w

/-- What R173 asks of an output of class state once the last tile has drained. -/
def settleState (w : Work) (h : Nat) : Work := if w.s.tclass h = 2 then w.flush h else w

end Work

end Sys2Proof.Machine
end

