-- ==== Sys2Proof/Machine/Matrix.lean ====
section
/-! DEFINITION. The matrix family, 0x01xx (R89 to R93): acceptance, tile decomposition and the arithmetic of R92. -/

namespace Sys2Proof.Machine

open Sys2Proof

/-- The fields of Table TEN-6. -/
structure Gemm where
  acc : Bool
  split : Nat
  transB : Bool
  epi : Nat
  batch : Nat
  outScale : Nat
  cvt : Nat
  cf : Nat
  bf : Nat
  af : Nat
  ldc : Nat
  ldb : Nat
  lda : Nat
  k : Nat
  n : Nat
  m : Nat
  bs : Nat
  as_ : Nat
  bias : Nat
  c : Nat
  b : Nat
  a : Nat
  cs : Nat
deriving DecidableEq, Repr

def gemmOf (op : Nat) (d : Desc) : Gemm :=
  { acc := decide (op = 0x0102), split := d.fld 472 470, transB := d.w.getLsbD 468, epi := d.fld 467 464,
    batch := d.fld 463 448, outScale := d.fld 447 416, cvt := d.fld 415 408, cf := d.fld 407 400, bf := d.fld 399 392,
    af := d.fld 391 384, ldc := d.fld 379 360, ldb := d.fld 359 340, lda := d.fld 339 320, k := d.fld 315 296,
    n := d.fld 295 276, m := d.fld 275 256, bs := d.fld 255 224, as_ := d.fld 223 192, bias := d.fld 191 160,
    c := d.fld 159 128, b := d.fld 127 96, a := d.fld 95 64, cs := d.fld 511 480 }

/-- Groups of split-input mode (R83); 1 when off. -/
def Gemm.groups (g : Gemm) : Nat := 2 ^ g.split

def Gemm.int (g : Gemm) : Bool := intClass (fmtCode g.af)

/-- Elements from the first to the last of a tensor of `batch` matrices. -/
def spanElems (batch rows ld cols : Nat) : Nat := (batch - 1) * ld * rows + (rows - 1) * ld + cols

/-- Checks of the matrix family (Table TEN-6, R90). Within check 5 a mixed pair is reported before an output format that its field
does not admit: Table TEN-4 gives no order there (DESIGN CHOICE, log 149). -/
def gemmInfo (op : Nat) (d : Desc) : OpInfo :=
  let g := gemmOf op d
  let brows := if g.transB then g.n else g.k
  let bcols := if g.transB then g.k else g.n
  let kb := cdiv g.k 32
  let narrow := decide (5 ≤ fmtCode g.cf ∧ fmtCode g.cf ≤ 9)
  let sc := fun (f h : Nat) => fmtBS f != decide (h ≠ 0)
  let uses : List HUse :=
    [{ lo := 64, bytes := fmtBytes (fmtCode g.af) (spanElems g.batch g.m g.lda g.k) },
     { lo := 96, bytes := fmtBytes (fmtCode g.bf) (spanElems g.batch brows g.ldb bcols) },
     { lo := 128, out := true, bytes := fmtBytes (fmtCode g.cf) (spanElems g.batch g.m g.ldc g.n) },
     { lo := 160, bytes := 4 * g.n, zeroOk := true },
     { lo := 192, bytes := g.batch * g.m * kb, zeroOk := true },
     { lo := 224, bytes := g.batch * g.n * kb, zeroOk := true },
     { lo := 480, out := true, bytes := g.batch * g.m * cdiv g.n 32, zeroOk := true }]
  { reserved := [(479, 473), (469, 469), (383, 380), (319, 316), fmtReserved 384, fmtReserved 392, fmtReserved 400, cvtReserved 408],
    fmt := firstFail
      [fmtFail (fmtArray g.af) 384, fmtFail (fmtArray g.bf) 392,
       (intClass (fmtCode g.af) != intClass (fmtCode g.bf), St.formatPairInvalid, 392),
       fmtFail (fmtOut g.cf) 400],
    bad := badBits
      [(decide (4 < g.split), 470), (decide (5 < g.epi), 464), (decide (g.batch = 0 ∨ (op ≠ 0x0101 ∧ g.batch ≠ 1)), 448),
       (decide (g.m = 0), 256), (decide (g.n = 0), 276), (decide (g.k = 0), 296),
       (decide (g.lda < g.k), 320), (decide (g.ldb < bcols), 340), (decide (g.ldc < g.n), 360),
       (sc g.af g.as_, 192), (sc g.bf g.bs, 224), (sc g.cf g.cs, 400),
       (g.acc && (fmtBS g.cf || narrow), 400),
       (decide (g.split ≠ 0 ∧ g.split ≤ 4 ∧ (g.n % g.groups ≠ 0 ∨ g.k % g.groups ≠ 0)), 276)],
    barWeights := true,
    clash := clashes d uses (fun _ _ => false),
    uses := uses, alsoReads := if g.acc then [128] else [] }

/-! ## Tiles (R93) -/

/-- Rows of a tile. -/
def Gemm.mTile (g : Gemm) (e : Nat) : Nat := if 4 * e ≤ cdiv g.m 256 * cdiv g.n 512 then 256 else 128

/-- Output tiles of one matrix. -/
def Gemm.outTiles (g : Gemm) (e : Nat) : Nat := cdiv g.m (g.mTile e) * cdiv g.n 512

/-- Blocks of 128 reduction rows of one group. -/
def Gemm.blocks (g : Gemm) : Nat := cdiv (g.k / g.groups) 128

/-- The smallest power of two, at most `p`, that brings `t` tiles to `e`; the largest where none does. -/
def kSplit (t e p : Nat) : Nat → Nat → Nat
  | 0, s => s
  | fuel + 1, s => if e ≤ t * s ∨ p < 2 * s then s else kSplit t e p fuel (2 * s)

def Gemm.slices (g : Gemm) (e : Nat) : Nat := kSplit (g.batch * g.outTiles e) e g.blocks 20 1

/-- Tiles of the descriptor: every output tile of every matrix, in its K slices. -/
def Gemm.tiles (g : Gemm) (e : Nat) : Nat := g.batch * g.outTiles e * g.slices e

/-- The reduction rows of slice `i` of one group, as first row and count. -/
def Gemm.sliceRows (g : Gemm) (sl i : Nat) : Nat × Nat :=
  let p := g.blocks
  let first := fun (j : Nat) => j * (p / sl) + min j (p % sl)
  let lo := first i * 128
  let hi := min (first (i + 1) * 128) (g.k / g.groups)
  (lo, hi - lo)

/-! ## Arithmetic (R92) -/

/-- A value of either class on its way through R92. -/
inductive Sum where
  | int (i : Int) (fl : Nat)
  | flt (v : Fv)

/-- The partial of one K slice of one output element. Each element of a block-scaled operand carries the scale of its own block of
the row; with SPLIT, and a group of rows that is no multiple of 32, one block of the array so spans two scales, for which R71
names one (DESIGN CHOICE, log 148). -/
def Gemm.part (g : Gemm) (n sl i : Nat) (xs ys : List Num) : Sum :=
  let kg := g.k / g.groups
  let base := (n * g.groups / g.n) * kg
  let r := g.sliceRows sl i
  let x := (xs.drop (base + r.1)).take r.2
  let y := (ys.drop (base + r.1)).take r.2
  if g.int then
    let p := intDot x y
    .int p.1 p.2
  else .flt (floatDot (blockOf g.af g.bf) x y)

/-- Run B's partial of a pair (R364): for the integer class the negated weights are latched, and the negated sum is negated again
modulo 2³² before its signature and R92; a float partial is as in run A. -/
def Gemm.partB (g : Gemm) (n sl i : Nat) (xs ys : List Num) : Sum :=
  if g.int then match g.part n sl i xs (ys.map Num.neg) with
    | .int p f => .int (wrap32 (-p)) f
    | r => r
  else g.part n sl i xs ys

/-- The partial that a descriptor's tile leaves: a pair's is run B's, with the flags of both runs. -/
def Gemm.partOf (g : Gemm) (pair : Bool) (n sl i : Nat) (xs ys : List Num) : Sum :=
  if pair then match g.part n sl i xs ys, g.partB n sl i xs ys with
    | .int _ f, .int p h => .int p (f ||| h)
    | _, r => r
  else g.part n sl i xs ys

def Sum.add : Sum → Sum → Sum
  | .int a f, .int b h => let r := addWrap (a, f) (b, h); .int r.1 r.2
  | .flt a, .flt b => .flt (a.add b)
  | a, _ => a

/-- Partials combined in an order. -/
def combine (order : List Nat) (ps : List Sum) : Sum :=
  match order.filterMap fun i => ps[i]? with
  | [] => .int 0 0
  | p :: r => r.foldl Sum.add p

/-- The steps of R92 after the sum: bias, old C, scale and epilogue; either an exact INT32 value or an FP32 value. -/
def Gemm.finish (g : Gemm) (sum : Sum) (bias : Option Num) (old : Option Num) : Fv :=
  let rtz := g.cvt.testBit 0
  let oldF : Option Fv := old.map fun o => if fmtCode g.cf = 4 then fvOfInt rtz o.toInt else { v := o }
  let tail := fun (v : Fv) =>
    let v := match oldF with
      | some o => v.add o
      | none => v
    epilogue g.epi (v.mul { v := decodeElem 0xC g.outScale })
  match sum with
  | .int i fl =>
    let r := match bias with
      | some b => addWrap (i, fl) (b.toInt, 0)
      | none => (i, fl)
    if g.cf = 4 ∧ g.outScale = 0x3F800000 ∧ g.epi = 0 then
      let r := match old with
        | some o => addWrap r (o.toInt, 0)
        | none => r
      { v := Num.ofInt r.1, fl := r.2 }
    else tail (fvOfInt rtz r.1 r.2)
  | .flt v =>
    tail (match bias with
      | some b => v.add { v := b }
      | none => v)

namespace Work

/-- Runs a reader over a list, threading the work. -/
def mapM {α β : Type} (w : Work) (f : Work → α → β × Work) : List α → List β × Work
  | [] => ([], w)
  | a :: as =>
    let r := f w a
    let t := r.2.mapM f as
    (r.1 :: t.1, t.2)

/-- Columns `n0 .. n0 + cnt - 1` of B of matrix `i`, each with all K rows. -/
def bColumns (w : Work) (g : Gemm) (i n0 cnt : Nat) : List (List Num) × Work :=
  let kb := cdiv g.k 32
  let base := i * g.ldb * (if g.transB then g.n else g.k)
  if g.transB then
    w.mapM (fun w n => w.readElems g.b g.bf (base + n * g.ldb) g.k g.bs ((i * g.n + n) * kb) 0) ((List.range cnt).map (n0 + ·))
  else
    let rows := w.mapM (fun w k => w.readCodes g.b (fmtCode g.bf) (base + k * g.ldb + n0) cnt) (List.range g.k)
    let cols := (List.range cnt).map fun j => rows.1.map fun r => decodeElem (fmtCode g.bf) (r.getD j 0)
    if fmtBS g.bf then
      rows.2.mapM (fun w j =>
        let sc := w.read g.bs ((i * g.n + n0 + j) * kb) kb
        ((cols.getD j []).mapIdx fun k v => scaledElem v ((sc.1.getD (k / 32) 0).toNat), sc.2)) (List.range cnt)
    else (cols, rows.2)

/-- The order in which the partials of an output tile arrive: ascending in a pair, else free (R80, R93, R363). -/
def arrival (w : Work) (pair : Bool) : List Nat → List Nat × Work
  | [] => ([], w)
  | [a] => ([a], w)
  | a :: as =>
    if pair then (a :: as, w)
    else
      let v := w.freeVal .choice
      let later := v.2.arrival pair as
      let k := v.1 % (as.length + 1)
      (later.1.take k ++ a :: later.1.drop k, later.2)

/-- One output tile: rows `m0 ..`, columns `n0 ..` of matrix `i`. -/
def gemmTile (w : Work) (g : Gemm) (d : Desc) (sl i m0 mc n0 nc : Nat) : Work :=
  let cols := w.bColumns g i n0 nc
  let bias := if g.bias = 0 then ([], cols.2) else cols.2.readElems g.bias (if g.int then 4 else 0xC) n0 nc 0 0 0
  let ord := bias.2.arrival (decide (d.run ≠ 0)) (List.range sl)
  let total := spanElems g.batch g.m g.ldc g.n
  (List.range mc).foldl (fun w r =>
    let m := m0 + r
    let xs := w.readElems g.a g.af (i * g.lda * g.m + m * g.lda) g.k g.as_ ((i * g.m + m) * cdiv g.k 32) 0
    let ci := i * g.ldc * g.m + m * g.ldc + n0
    let old := if g.acc then xs.2.readElems g.c g.cf ci nc 0 0 0 else ([], xs.2)
    let vs := (List.range nc).map fun j =>
      let ps := (List.range sl).map fun k => g.partOf (decide (d.run ≠ 0)) (n0 + j) sl k xs.1 (cols.1.getD j [])
      g.finish (combine ord.1 ps) bias.1[j]? old.1[j]?
    old.2.writeElems g.c g.cf g.cvt ci vs total g.cs ((i * g.m + m) * cdiv g.n 32 + n0 / 32) (State.toSerai d 0)) ord.2

/-- The whole descriptor, output tile by output tile: a tile with a slice that never matched writes nothing, one with an
undefined slice is undefined. -/
def gemm (w : Work) (op : Nat) (d : Desc) : Work :=
  let g := gemmOf op d
  let e := d.engineCount
  let sl := g.slices e
  let mt := g.mTile e
  let rows := cdiv g.m mt
  let per := g.outTiles e
  let w := (List.range (g.batch * per)).foldl (fun w o =>
    let mine := (List.range sl).map fun k => o * sl + k
    let t := o % per
    let m0 := (t % rows) * mt
    let n0 := (t / rows) * 512
    w.group d mine fun w => w.gemmTile g d sl (o / per) m0 (min mt (g.m - m0)) n0 (min 512 (g.n - n0))) w
  (w.settleState g.c).settleState g.cs

end Work

/-- GEMM (R92). -/
def execGemm (q n : Nat) (s : State) : Out := .next (s.runDesc q n (· = 0x0100) fun w d => w.gemm 0x0100 d)

/-- GEMM_BATCHED (R90, R92). -/
def execGemmBatched (q n : Nat) (s : State) : Out := .next (s.runDesc q n (· = 0x0101) fun w d => w.gemm 0x0101 d)

/-- GEMM_ACC (R92). -/
def execGemmAcc (q n : Nat) (s : State) : Out := .next (s.runDesc q n (· = 0x0102) fun w d => w.gemm 0x0102 d)

end Sys2Proof.Machine
end

