-- ==== Sys2Proof/Machine/Vector.lean ====
section
/-! DEFINITION. The vector family, 0x04xx (R95 to R97): element-wise work, reductions, normalisation, conversion,
softmax, top-k and gather. -/

namespace Sys2Proof.Machine

open Sys2Proof

/-- The fields of Table TEN-8. -/
structure Vec where
  op : Nat
  imm2 : Nat
  imm : Nat
  cvt : Nat
  zf : Nat
  yf : Nat
  xf : Nat
  fn : Nat
  col : Bool
  row : Bool
  cols : Nat
  rows : Nat
  aux : Nat
  z : Nat
  y : Nat
  x : Nat
deriving DecidableEq, Repr

def vecOf (op : Nat) (d : Desc) : Vec :=
  { op := op, imm2 := d.fld 351 320, imm := d.fld 319 288, cvt := d.fld 287 280, zf := d.fld 279 272, yf := d.fld 271 264,
    xf := d.fld 263 256, fn := d.fld 255 248, col := d.w.getLsbD 245, row := d.w.getLsbD 244, cols := d.fld 243 224,
    rows := d.fld 223 192, aux := d.fld 191 160, z := d.fld 159 128, y := d.fld 127 96, x := d.fld 95 64 }

/-- Binary ELEMENTWISE operations. -/
def Vec.binary (v : Vec) : Bool := decide (v.op = 0x0400 ∧ (v.fn ≤ 5 ∨ v.fn = 0x20))

/-- Y is read: a binary ELEMENTWISE with a handle, or the beta of a layer norm. -/
def Vec.usesY (v : Vec) : Bool := decide (v.y ≠ 0) && (v.binary || decide (v.op = 0x0402 ∧ v.fn = 0))

/-- Permitted OP values (Table TEN-9). -/
def Vec.opOk (v : Vec) : Bool :=
  if v.op = 0x0400 then decide (v.fn ≤ 5 ∨ (0x10 ≤ v.fn ∧ v.fn ≤ 0x1B) ∨ v.fn = 0x20)
  else if v.op = 0x0401 then decide (v.fn ≤ 4)
  else if v.op = 0x0402 then decide (v.fn ≤ 1)
  else decide (v.fn = 0)

/-- The uses the AUX handle has at once. -/
def Vec.auxUses (v : Vec) : Nat :=
  (if v.op = 0x0402 ∨ v.op = 0x0405 ∨ v.op = 0x0406 then 1 else 0) + (if fmtBS v.xf then 1 else 0) + (if fmtBS v.zf then 1 else 0)

/-- AUX is written: top-k indices, or the scales of Z. -/
def Vec.auxOut (v : Vec) : Bool := decide (v.op = 0x0405) || fmtBS v.zf

/-- Elements of Z. -/
def Vec.zElems (v : Vec) : Nat :=
  if v.op = 0x0401 then v.rows else if v.op = 0x0405 then v.rows * v.imm2 else v.rows * v.cols

/-- Bytes AUX must hold. -/
def Vec.auxBytes (v : Vec) : Nat :=
  if v.op = 0x0402 then fmtBytes (fmtCode v.xf) v.cols
  else if v.op = 0x0405 then 4 * v.rows * v.imm2
  else if v.op = 0x0406 then 4 * v.rows
  else if v.op = 0x0401 ∧ fmtBS v.zf then cdiv v.rows 32
  else v.rows * cdiv v.cols 32

/-- Checks of the vector family (Tables TEN-8 and TEN-9, R95, R96). -/
def vecInfo (op : Nat) (d : Desc) : OpInfo :=
  let v := vecOf op d
  let yElems := if v.op = 0x0402 ∨ v.row then v.cols else if v.col then v.rows else v.rows * v.cols
  let auxNeeded := decide (v.op = 0x0405 ∨ v.op = 0x0406) || fmtBS v.xf || fmtBS v.zf
  let uses : List HUse :=
    [{ lo := 64, bytes := if v.op = 0x0406 then 0 else fmtBytes (fmtCode v.xf) (v.rows * v.cols) }]
    ++ (if v.usesY then [{ lo := 96, bytes := fmtBytes (fmtCode v.yf) yElems, zeroOk := true }] else [])
    ++ [{ lo := 128, out := true, bytes := fmtBytes (fmtCode v.zf) v.zElems }]
    ++ (if v.auxUses = 0 then [] else [{ lo := 160, out := v.auxOut, bytes := v.auxBytes, zeroOk := !auxNeeded }])
  let same := decide ((v.op = 0x0400 ∨ v.op = 0x0403) ∧ fmtWidth (fmtCode v.xf) = fmtWidth (fmtCode v.zf))
  { reserved := [(511, 352), (247, 246), cvtReserved 280, fmtReserved 272, fmtReserved 264, fmtReserved 256],
    fmt := firstFail
      [fmtFail (fmtValid v.xf) 256, fmtFail (!v.usesY || (fmtValid v.yf && !fmtBS v.yf)) 264,
       fmtFail (fmtValid v.zf && (decide (v.op ≠ 0x0401 ∨ v.fn ≠ 4) || decide (v.zf = 4))) 272],
    bad := badBits
      [(!v.opOk, 248), (decide (v.cols = 0), 224), (decide (v.rows = 0), 192), (v.col && v.row, 244),
       (decide (v.op = 0x0405 ∧ (v.imm2 = 0 ∨ 256 < v.imm2)), 320), (!v.usesY && decide (v.yf ≠ 0), 264),
       (decide (1 < v.auxUses), 160)],
    barWeights := true,
    clash := clashes d uses (fun o i => same && decide (o.lo = 128 ∧ i.lo = 64)),
    uses := uses }

/-! ## Tiles: whole rows (R97) -/

/-- Tiles of the descriptor; the spec gives only that a tile holds whole rows. -/
def rowTiles (rows e : Nat) : Nat := max 1 (min rows e)

/-- First row and count of tile `t`. -/
def rowsOfTile (rows tiles t : Nat) : Nat × Nat :=
  let first := fun (j : Nat) => j * (rows / tiles) + min j (rows % tiles)
  (first t, first (t + 1) - first t)

/-! ## Element functions (R96, Table TEN-9) -/

/-- An INT32 result outside the range: the value is free, a function of the operands. -/
def intOr (f : Nat) (a b r : Int) : Int :=
  if wrap32 r = r then r else toSigned 32 (Config.fn (0x100 + f) [ofSigned 32 a, ofSigned 32 b] % 4294967296)

/-- ELEMENTWISE in INT32. -/
def intOp (f : Nat) (a b : Int) : Fv :=
  let out := fun (i : Int) => ({ v := Num.ofInt i } : Fv)
  if f = 0 then (let r := addWrap (a, 0) (b, 0); { v := Num.ofInt r.1, fl := r.2 })
  else if f = 1 then (let r := addWrap (a, 0) (-b, 0); { v := Num.ofInt r.1, fl := r.2 })
  else if f = 2 then out (intOr f a b (a * b))
  else if f = 3 then out (max a b)
  else if f = 4 then out (min a b)
  else if f = 0x19 then out (max a 0)
  else if f = 0x1A then out (intOr f a 0 (if a < 0 then -a else a))
  else out (intOr f a 0 (-a))

/-- ELEMENTWISE in FP32. -/
def floatOp (f : Nat) (a b : Fv) : Fv :=
  if f = 0 then a.add b else if f = 1 then a.sub b else if f = 2 then a.mul b else if f = 3 then fvMax a b
  else if f = 4 then fvMin a b else if f = 5 then fvDiv a b
  else if f = 0x19 then fvRelu a
  else if f = 0x1A then { a with v := a.v.abs }
  else if f = 0x1B then { a with v := a.v.neg }
  else if f = 0x20 then (fnEval fnSilu a).mul b
  else fnEval f a

/-- Operations without an integer meaning. -/
def floatOnly (f : Nat) : Bool := decide (f = 5 ∨ (0x10 ≤ f ∧ f ≤ 0x18) ∨ f = 0x20)

/-- An operand of an FP32 operation. -/
def fvOperand (cvt fmt : Nat) (v : Num) : Fv :=
  if isIntFmt (fmtCode fmt) then fvOfInt (cvt.testBit 0) v.toInt else Fv.round { v := v }

/-- An element as an operation finds it: a float format unpacked to FP32, an integer as it is (R79). -/
def unpacked (fmt : Nat) (v : Num) : Fv := if isIntFmt (fmtCode fmt) then { v := v } else Fv.round { v := v }

/-- A result on its way into Z: a float format is packed from FP32 (R79). -/
def toPack (v : Vec) (z : Fv) : Fv := if isIntFmt (fmtCode v.zf) then z else z.round (v.cvt.testBit 0)

/-- Inserts a value after those that rank at least as high. -/
def insertRank (p : Nat × Num) : List (Nat × Num) → List (Nat × Num)
  | [] => [p]
  | r :: rs => if ranksAbove p.2 r.2 then p :: r :: rs else r :: insertRank p rs

/-- Values ordered from the largest down, ties by lower index, the first `k` (R96). -/
def topk (k : Nat) (vs : List Num) : List (Nat × Num) :=
  ((vs.mapIdx fun i v => (i, v)).foldl (fun l p => insertRank p l) []).take k

/-- One REDUCE result. -/
def reduceRow (v : Vec) (xs : List Num) : Fv :=
  if v.fn = 4 then { v := Num.ofInt (argmax (xs.map fun x => (unpacked v.xf x).v)) }
  else if isIntFmt (fmtCode v.xf) then
    let is := xs.map Num.toInt
    if v.fn = 0 then (let r := reduceSum addWrap (0, 0) (is.map fun i => (i, 0)); { v := Num.ofInt r.1, fl := r.2 })
    else if v.fn = 3 then
      (let r := reduceSum addWrap (0, 0) (is.map fun i => (intOr 2 i i (i * i), 0)); { v := Num.ofInt r.1, fl := r.2 })
    else { v := Num.ofInt (is.foldl (fun a i => if v.fn = 1 then max a i else min a i) (is.headD 0)) }
  else
    let fs := xs.map (fvOperand v.cvt v.xf)
    if v.fn = 0 then reduceSum Fv.add Fv.zero fs
    else if v.fn = 3 then reduceSum Fv.add Fv.zero (fs.map fun a => a.mul a)
    else match fs with
      | [] => Fv.zero
      | a :: as => as.foldl (if v.fn = 1 then fvMax else fvMin) a

/-- One row of NORM. -/
def normRow (v : Vec) (xs gamma beta : List Fv) : List Fv :=
  let r := fnEval fnRecip (fvOfInt false v.cols)
  let eps : Fv := { v := decodeElem 0xC v.imm2 }
  let g := fun (j : Nat) => gamma.getD j { v := Num.ofInt 1 }
  if v.fn = 0 then
    let mean := (reduceSum Fv.add Fv.zero xs).mul r
    let c := xs.map fun x => x.sub mean
    let var := (reduceSum Fv.add Fv.zero (c.map fun x => x.mul x)).mul r
    let k := fnEval fnRsqrt (var.add eps)
    c.mapIdx fun j x => ((x.mul k).mul (g j)).add (beta.getD j Fv.zero)
  else
    let ms := (reduceSum Fv.add Fv.zero (xs.map fun x => x.mul x)).mul r
    let k := fnEval fnRsqrt (ms.add eps)
    xs.mapIdx fun j x => (x.mul k).mul (g j)

/-- One row of SOFTMAX. -/
def softmaxRow (v : Vec) (xs : List Fv) : List Fv :=
  let t := xs.map fun x => x.mul { v := decodeElem 0xC v.imm }
  match t with
  | [] => []
  | a :: as =>
    let m := as.foldl fvMax a
    let e := t.map fun x => fnEval fnExp (x.sub { m with fl := 0 })
    let sum := reduceSum Fv.add Fv.zero e
    e.map fun x => fvDiv x sum

namespace Work

/-- Row `r` of X. -/
def xRow (w : Work) (v : Vec) (r : Nat) : List Num × Work :=
  w.readElems v.x v.xf (r * v.cols) v.cols v.aux (r * cdiv v.cols 32) 0

/-- Row `r` of Y as COLS values. -/
def yRow (w : Work) (v : Vec) (r : Nat) : List Num × Work :=
  if v.row then w.readElems v.y v.yf 0 v.cols 0 0 0
  else if v.col then
    let e := w.readElems v.y v.yf r 1 0 0 0
    (List.replicate v.cols (e.1.headD Num.zero), e.2)
  else w.readElems v.y v.yf (r * v.cols) v.cols 0 0 0

/-- Writes row `r` of Z. -/
def zRow (w : Work) (v : Vec) (d : Desc) (r : Nat) (zs : List Fv) : Work :=
  w.writeElems v.z v.zf v.cvt (r * v.cols) (zs.map (toPack v)) (v.rows * v.cols) v.aux (r * cdiv v.cols 32) (State.toSerai d 0)

/-- ELEMENTWISE, row `r`. -/
def elementwiseRow (w : Work) (v : Vec) (d : Desc) (r : Nat) : Work :=
  let xs := w.xRow v r
  let ys := if v.usesY then xs.2.yRow v r
    else (List.replicate v.cols (if v.binary then decodeElem 0xC v.imm else Num.zero), xs.2)
  let int := isIntFmt (fmtCode v.xf) && !floatOnly v.fn && (!v.binary || (v.usesY && isIntFmt (fmtCode v.yf)))
  let yf := if v.usesY then v.yf else 0xC
  let zs := List.zipWith (fun x y =>
    if int then intOp v.fn x.toInt y.toInt else floatOp v.fn (fvOperand v.cvt v.xf x) (fvOperand v.cvt yf y)) xs.1 ys.1
  ys.2.zRow v d r zs

/-- NORM, row `r`. -/
def normaliseRow (w : Work) (v : Vec) (d : Desc) (r : Nat) : Work :=
  let xs := w.xRow v r
  let g := if v.aux = 0 then ([], xs.2) else xs.2.readElems v.aux v.xf 0 v.cols 0 0 0
  let b := if v.usesY then g.2.readElems v.y v.yf 0 v.cols 0 0 0 else ([], g.2)
  b.2.zRow v d r (normRow v (xs.1.map (fvOperand v.cvt v.xf)) (g.1.map (fvOperand v.cvt v.xf)) (b.1.map (fvOperand v.cvt v.yf)))

/-- SOFTMAX, row `r`. -/
def softmaxRow (w : Work) (v : Vec) (d : Desc) (r : Nat) : Work :=
  let xs := w.xRow v r
  xs.2.zRow v d r (Machine.softmaxRow v (xs.1.map (fvOperand v.cvt v.xf)))

/-- CONVERT, row `r`. -/
def convertRow (w : Work) (v : Vec) (d : Desc) (r : Nat) : Work :=
  let xs := w.xRow v r
  xs.2.zRow v d r (xs.1.map (unpacked v.xf))

/-- TOPK, row `r`; the positions past COLS hold the lowest value of Z_FMT, which no conversion touches (R95). -/
def topkRow (w : Work) (v : Vec) (d : Desc) (r : Nat) : Work :=
  let xs := w.xRow v r
  let t := topk v.imm2 xs.1
  let pad := v.imm2 - t.length
  let vals : List Fv := t.map fun p => { v := p.2 }
  let low := (convertElem (fmtCode v.zf) 0 (fmtLowest v.zf)).1
  let idx := t.map (·.1) ++ List.replicate pad 0xFFFFFFFF
  let w := xs.2.writeElems v.z v.zf v.cvt (r * v.imm2) (vals.map (toPack v)) (v.rows * v.imm2) 0 0 (State.toSerai d 0)
  let w := w.writeCodes v.z (fmtCode v.zf) (r * v.imm2 + t.length) (List.replicate pad low) (v.rows * v.imm2) (State.toSerai d 0)
  w.output v.aux (4 * r * v.imm2) (idx.flatMap (leBytes 4)) (State.toSerai d 1)

/-- GATHER, row `r`: an index outside X gives zeros (R97). -/
def gatherRow (w : Work) (v : Vec) (d : Desc) (r : Nat) : Work :=
  let i := w.read v.aux (4 * r) 4
  let k := leNat i.1
  let rowsX := 8 * w.s.tbytes v.x / (v.cols * fmtWidth (fmtCode v.xf))
  if k < rowsX ∧ k < 2147483648 then
    let xs := i.2.readElems v.x v.xf (k * v.cols) v.cols 0 0 0
    xs.2.zRow v d r (xs.1.map fun x => { v := x })
  else
    let w := i.2.zRow v d r (List.replicate v.cols { v := Num.zero })
    w.fail St.indexOutOfRange r

/-- REDUCE: one result per row; a block-scaled Z is one row across all of them (R95). -/
def reduceAll (w : Work) (v : Vec) (d : Desc) : Work :=
  if fmtBS v.zf then
    let dead := fun (i : Nat) => d.unwritten.any fun t =>
      decide ((rowsOfTile v.rows d.tiles t).1 ≤ i ∧ i < (rowsOfTile v.rows d.tiles t).1 + (rowsOfTile v.rows d.tiles t).2)
    let r := w.mapM (fun w i =>
      if dead i then (Fv.zero, w) else let xs := w.xRow v i; (reduceRow v xs.1, xs.2)) (List.range v.rows)
    if d.unwritten ≠ [] then r.2
    else { { r.2 with undef := r.2.undef || decide (d.undef ≠ []) }.writeElems v.z v.zf v.cvt 0 (r.1.map (toPack v)) v.rows v.aux 0 (State.toSerai d 0)
           with undef := false }
  else
    w.tiles d fun w t =>
      let p := rowsOfTile v.rows d.tiles t
      let r := w.mapM (fun w i => let xs := w.xRow v i; (reduceRow v xs.1, xs.2)) ((List.range p.2).map (p.1 + ·))
      r.2.writeElems v.z v.zf v.cvt p.1 (r.1.map (toPack v)) v.rows 0 0 (State.toSerai d 0)

/-- Runs a row function over every tile. -/
def rowWise (w : Work) (v : Vec) (d : Desc) (f : Work → Vec → Desc → Nat → Work) : Work :=
  let w := w.tiles d fun w t =>
    let p := rowsOfTile v.rows d.tiles t
    (List.range p.2).foldl (fun w i => f w v d (p.1 + i)) w
  let w := w.settleState v.z
  if v.auxOut then w.settleState v.aux else w

end Work

/-- ELEMENTWISE (R96). -/
def execElementwise (q n : Nat) (s : State) : Out :=
  .next (s.runDesc q n (· = 0x0400) fun w d => w.rowWise (vecOf 0x0400 d) d Work.elementwiseRow)

/-- REDUCE (R95, R96). -/
def execReduce (q n : Nat) (s : State) : Out :=
  .next (s.runDesc q n (· = 0x0401) fun w d =>
    let v := vecOf 0x0401 d
    let w := (w.reduceAll v d).settleState v.z
    if v.auxOut then w.settleState v.aux else w)

/-- NORM (R96). -/
def execNormalise (q n : Nat) (s : State) : Out :=
  .next (s.runDesc q n (· = 0x0402) fun w d => w.rowWise (vecOf 0x0402 d) d Work.normaliseRow)

/-- CONVERT (R75, R79, R96). -/
def execConvert (q n : Nat) (s : State) : Out :=
  .next (s.runDesc q n (· = 0x0403) fun w d => w.rowWise (vecOf 0x0403 d) d Work.convertRow)

/-- SOFTMAX (R96). -/
def execSoftmax (q n : Nat) (s : State) : Out :=
  .next (s.runDesc q n (· = 0x0404) fun w d => w.rowWise (vecOf 0x0404 d) d Work.softmaxRow)

/-- TOPK (R95, R96). -/
def execTopk (q n : Nat) (s : State) : Out :=
  .next (s.runDesc q n (· = 0x0405) fun w d => w.rowWise (vecOf 0x0405 d) d Work.topkRow)

/-- GATHER (R95, R97). -/
def execGather (q n : Nat) (s : State) : Out :=
  .next (s.runDesc q n (· = 0x0406) fun w d => w.rowWise (vecOf 0x0406 d) d Work.gatherRow)

end Sys2Proof.Machine
end

