-- ==== Sys2Proof/Machine/Movement.lean ====
section
/-! DEFINITION. The data-movement family, 0x0500 to 0x0504 (R98): COPY, FILL, TRANSPOSE, PREFETCH and EXPORT. -/

namespace Sys2Proof.Machine

open Sys2Proof

/-- The fields of Table TEN-11. -/
structure Move where
  op : Nat
  drop : Bool
  elem : Nat
  fill : Nat
  dstStride : Nat
  srcStride : Nat
  tier : Nat
  rowBytes : Nat
  rows : Nat
  dst : Nat
  src : Nat
deriving DecidableEq, Repr

def moveOf (op : Nat) (d : Desc) : Move :=
  { op := op, drop := d.w.getLsbD 292, elem := d.fld 291 288, fill := d.fld 287 256, dstStride := d.fld 255 224,
    srcStride := d.fld 223 192, tier := d.fld 183 180, rowBytes := d.fld 179 160, rows := d.fld 159 128,
    dst := d.fld 127 96, src := d.fld 95 64 }

/-- Checks of the data-movement family (Tables TEN-10 and TEN-11). -/
def moveInfo (op : Nat) (d : Desc) : OpInfo :=
  let m := moveOf op d
  let moves := decide (op ≤ 0x0502)
  let from_ : HKind := if op = 0x0500 ∨ op = 0x0504 then .tensorOrSeq else .tensor
  let src : HUse := { lo := 64, bytes := if moves then (m.rows - 1) * m.srcStride + m.rowBytes else 0, kind := from_ }
  let room := if op = 0x0502 then (m.rowBytes / m.elem - 1) * m.dstStride + m.rows * m.elem
    else (m.rows - 1) * m.dstStride + m.rowBytes
  let dst : HUse := { lo := 96, out := true, bytes := room }
  let uses := if op = 0x0501 then [dst] else if moves then [src, dst] else [src]
  { reserved := [(511, 293), (191, 184)],
    bad := badBits
      [(moves && decide (m.rowBytes = 0), 160), (moves && decide (m.rows = 0), 128),
       (decide (op = 0x0502 ∧ m.elem ≠ 1 ∧ m.elem ≠ 2 ∧ m.elem ≠ 4), 288),
       (decide (op = 0x0502 ∧ m.elem ≠ 0 ∧ m.rowBytes % m.elem ≠ 0), 160),
       (moves && decide (m.dstStride < if op = 0x0502 then m.rows * m.elem else m.rowBytes), 224),
       (decide ((op = 0x0500 ∨ op = 0x0502) ∧ m.srcStride < m.rowBytes), 192),
       (decide (op = 0x0503 ∧ m.tier ≠ 2 ∧ m.tier ≠ 3 ∧ m.tier ≠ 4), 180),
       (!moves && decide (m.dst ≠ 0), 96), (decide (op = 0x0501 ∧ m.src ≠ 0), 64)],
    clash := clashes d uses (fun _ _ => false),
    uses := uses }

namespace State

/-! ## Scratchpad copies of PREFETCH (R177) -/

/-- An engine's scratchpad holds the tensor. -/
def padHolds (s : State) (root : Nat) : Bool := s.plc.pads.any fun p => decide (p.1 % 1048576 = root)

/-- Bytes that PREFETCH has put in an engine's scratchpad. -/
def padUsed (s : State) (e : Nat) : Nat :=
  s.plc.pads.foldl (fun a p => if p.1 / 1048576 = e then a + (p.2.getD []).length else a) 0

/-- Tiles of descriptor `n` of queue `q` in an engine's steal queue. -/
def queuedTiles (s : State) (e q n : Nat) : Nat := ((s.engine e).queue.filter fun t => decide (t.q = q ∧ t.n = n)).length

/-- The engine whose steal queue holds the most tiles of the next accepted descriptor of the queue that reads the
tensor, once its tiles have been dealt (R177). -/
def prefetchEngine (s : State) (q n root : Nat) : Option Nat :=
  let later := (s.queue q).desc.filter fun p => match p.2 with
    | some d => decide (diff32 p.1 n < 2147483648 ∧ p.1 ≠ n) && d.inputs.contains root
    | none => false
  match later.head? with
  | some (k, some d) =>
    if d.phase ≠ .running ∨ d.tiles = 0 then none
    else (List.range 16).foldl (fun (a : Option Nat) e =>
      if s.queuedTiles e q k = 0 then a else match a with
        | none => some e
        | some b => if s.queuedTiles b q k < s.queuedTiles e q k then some e else a) none
  | _ => none

/-- The lowest tier with a current copy of the whole tensor (R98). -/
def tierOf (s : State) (root : Nat) : Nat :=
  if s.padHolds root then 2
  else if (NMap.get none s.plc.serai root).isSome then 3
  else if s.isFar root then 5 else 4

end State

namespace Work

/-- Bytes of the FILL pattern, repeated from the start of a row. -/
def fillRow (p n : Nat) : List Byte := (List.range n).map fun i => BitVec.ofNat 8 (p >>> (8 * (i % 4)))

/-- What COPY, FILL and TRANSPOSE do first where DST is a weight tensor: every on-chip copy goes (R173). -/
def openDst (w : Work) (h : Nat) : Work := if w.s.tclass h = 1 then w.dropCopy h else w

def copy (w : Work) (d : Desc) : Work :=
  let m := moveOf 0x0500 d
  let w := (w.openDst m.dst).tiles d fun w _ =>
    (List.range m.rows).foldl (fun w r =>
      let x := w.read m.src (r * m.srcStride) m.rowBytes
      x.2.output m.dst (r * m.dstStride) x.1 (State.toSerai d 0 && decide (w.s.tclass m.dst ≠ 1))) w
  w.settleState m.dst

def fill (w : Work) (d : Desc) : Work :=
  let m := moveOf 0x0501 d
  let w := (w.openDst m.dst).tiles d fun w _ =>
    (List.range m.rows).foldl (fun w r =>
      w.output m.dst (r * m.dstStride) (fillRow m.fill m.rowBytes) (State.toSerai d 0 && decide (w.s.tclass m.dst ≠ 1))) w
  w.settleState m.dst

/-- Rows of ELEM-byte elements, written as columns. -/
def transpose (w : Work) (d : Desc) : Work :=
  let m := moveOf 0x0502 d
  let w := (w.openDst m.dst).tiles d fun w _ =>
    let src := w.mapM (fun w r => w.read m.src (r * m.srcStride) m.rowBytes) (List.range m.rows)
    (List.range (m.rowBytes / m.elem)).foldl (fun w c =>
      w.output m.dst (c * m.dstStride) (src.1.flatMap fun row => slice row (c * m.elem) m.elem)
        (State.toSerai d 0 && decide (w.s.tclass m.dst ≠ 1))) src.2
  w.settleState m.dst

/-- Makes room in an engine's scratchpad for a tensor, evicting the slice's tensors of lower class rank in mode 2. -/
def padRoom (w : Work) (e bytes rank : Nat) : Bool × Work :=
  if w.s.padUsed e + bytes ≤ 6291456 then (true, w)
  else if w.policy.getD 0 0 ≠ 2 then (false, w)
  else
    let low := fun (p : Nat) => decide (p / 1048576 = e) && match w.s.tentry (p % 1048576) with
      | some t => decide (t.slice = w.sl ∧ State.classRank t.cls < rank)
      | none => false
    let s := { w.s with plc := { w.s.plc with pads := w.s.plc.pads.filter fun p => !low p.1 } }
    if s.padUsed e + bytes ≤ 6291456 then (true, { w with s := s }) else (false, w)

/-- Tries to bring a tensor to a tier (R98, R177). -/
def bring (w : Work) (tier root : Nat) (t : TEntry) : Work :=
  let mode := w.policy.getD 0 0
  if mode = 0 then w
  else if tier = 3 then
    if t.noSerai then w
    else (w.seraiPlace root fun r c => decide (mode = 2 ∧ c.slice = w.sl) && match w.s.tentry r with
      | some e => decide (State.classRank e.cls < State.classRank t.cls)
      | none => false).2
  else if tier = 2 then
    match w.s.prefetchEngine w.q w.n root with
    | none => w
    | some e =>
      let r := w.padRoom e t.bytes (State.classRank t.cls)
      if r.1 then
        let d := match NMap.get none r.2.s.plc.serai root with
          | some c => (c.data, (r.2.touch root).staged 7 t.bytes)
          | none =>
            let h := r.2.readHome root 0 t.bytes
            (h.1, h.2.staged 8 t.bytes)
        { d.2 with s := { d.2.s with plc := { d.2.s.plc with pads := NMap.set none d.2.s.plc.pads (e * 1048576 + root) (some d.1) } } }
      else r.2
  else w

def prefetch (w : Work) (d : Desc) : Work :=
  let m := moveOf 0x0503 d
  match w.s.tref m.src with
  | none => w
  | some r =>
    match w.s.tentry r.root with
    | none => w
    | some t =>
      let w := w.bring m.tier r.root t
      let inTier := if m.tier = 2 then w.s.padHolds r.root
        else if m.tier = 3 then (NMap.get none w.s.plc.serai r.root).isSome
        else (w.s.farHome t).isNone
      { w with s := w.s.bump 0x2607 (if inTier then 0x0B else 0x0C), det := if w.st = 0 then w.s.tierOf r.root else w.det }

/-- EXPORT: the home is made current; with DROP every copy goes, one of a tier 5 home once its write-backs are acknowledged, and
not where the home cannot be reached (R98, R165, R241). -/
def exportOut (w : Work) (d : Desc) : Work :=
  let m := moveOf 0x0504 d
  let w := w.flush m.src
  if !m.drop then w
  else match w.s.tref m.src with
    | none => w
    | some r =>
      match w.s.isFar r.root, NMap.get none w.s.plc.serai r.root with
      | true, some c => { w with s := (w.s.setCopy r.root (some { c with leaving := !c.dirty })).dropPads r.root |>.settleLeaving r.root }
      | _, _ => w.dropCopy m.src

end Work

/-- COPY (R98). -/
def execCopy (q n : Nat) (s : State) : Out := .next (s.runDesc q n (· = 0x0500) Work.copy)

/-- FILL (R98). -/
def execFill (q n : Nat) (s : State) : Out := .next (s.runDesc q n (· = 0x0501) Work.fill)

/-- TRANSPOSE (R98). -/
def execTranspose (q n : Nat) (s : State) : Out := .next (s.runDesc q n (· = 0x0502) Work.transpose)

/-- PREFETCH (R98, R177). -/
def execPrefetchTensor (q n : Nat) (s : State) : Out := .next (s.runDesc q n (· = 0x0503) Work.prefetch)

/-- EXPORT (R98, R165). -/
def execExportTensor (q n : Nat) (s : State) : Out := .next (s.runDesc q n (· = 0x0504) Work.exportOut)

end Sys2Proof.Machine
end

