-- ==== Sys2Proof/Machine/TimeBases.lean ====
section
/-! DEFINITION. The time bases TB0 to TB7 (16_time_bases.md). -/

namespace Sys2Proof.Machine

open Sys2Proof

/-- The nominal increment of 1 ns (R345). -/
def nominalIncr : Nat := 281474976710656

/-- A base's value wraps with its 64-bit seconds (R346). -/
def tbModulus : Nat := 18446744073709551616 * 1000000000 * 281474976710656

/-- The value that a 16-byte time spells (R346). -/
def timeOfBytes (b : List Byte) : Nat :=
  (field b 0 8 * 1000000000 + field b 8 4) * 281474976710656 + field b 12 2 * 4294967296

namespace State

def base (s : State) (n : Nat) : TimeBase := NMap.get {} s.time.bases n

def setBase (s : State) (n : Nat) (x : TimeBase) : State :=
  { s with time := { s.time with bases := NMap.set {} s.time.bases n x } }

/-- Seconds of a base. -/
def tbSeconds (s : State) (n : Nat) : Nat := (s.base n).value / 281474976710656 / 1000000000

/-- The sub-second part as Table TIM-3 lays it out. -/
def tbSubsec (s : State) (n : Nat) : Nat :=
  (s.base n).value / 281474976710656 % 1000000000 * 65536 + (s.base n).value / 4294967296 % 65536

/-- The 16 bytes that TIMESTAMP writes (R346). -/
def tbBytes (s : State) (n : Nat) : List Byte :=
  let v := (s.base n).value
  leBytes 8 (s.tbSeconds n) ++ leBytes 4 (v / 281474976710656 % 1000000000) ++ leBytes 2 (v / 4294967296 % 65536)
    ++ leBytes 2 0

/-- The gates that a list opens at TB0 time `t` in ns (R332): the entry in force in the cycle that began at the base
plus whole cycles; past the last entry its gates stay. -/
def gatesOf (g : GateList) (t : Nat) : Nat :=
  let rec at_ : List (Nat × Nat) → Nat → Nat → Nat
    | [], _, last => last
    | (m, ns) :: r, p, _ => if p < ns then m else at_ r (p - ns) m
  at_ g.entries (((t : Int) - (g.base : Int)) % (g.cycle : Int)).toNat 255

/-- The gates of an egress port now: all open without an operating list; held after a step of TB0 (R332, R353). -/
def gates (s : State) (p : Nat) : Nat :=
  match NMap.get none s.gtw.gcl p with
  | none => 255
  | some g =>
    let h := NMap.get 0 s.time.gateHold p
    if h = 0 then gatesOf g (s.tb 0) else h - 1

/-- A step of a base: disarmed, recorded with its signed amount; a step of TB0 makes every gate list hold (R352,
R353). -/
def stepBase (s : State) (n v : Nat) : State :=
  let old := (s.base n).value
  let amount : Int := ((v / 281474976710656 : Nat) : Int) - ((old / 281474976710656 : Nat) : Int)
  let held := if n = 0 then (List.range 22).foldl (fun h p => if (NMap.get none s.gtw.gcl p).isSome then
      NMap.set 0 h p (s.gates p + 1) else h) s.time.gateHold
    else s.time.gateHold
  let s := s.setBase n { s.base n with value := v % tbModulus, pendStep := none }
  let s := s.set (0x2210 + n) 0x0A 0
  let s := s.addRecord St.tbStepped 0x15 n (leBytes 1 n ++ leBytes 8 (ofSigned 64 amount))
  { s with time := { s.time with gateHold := held } }

/-- One tick of a base: a pending step is applied in place of the increment, and a pending increment is in force from
this tick (R345, R350, R351). -/
def tickBase (s : State) (n : Nat) : State :=
  let x := s.base n
  let s := match x.pendIncr with
    | some i => (s.setBase n { x with pendIncr := none }).set (0x2210 + n) 4 i
    | none => s
  match x.pendStep with
  | some v => s.stepBase n v
  | none =>
    let x := s.base n
    s.setBase n { x with value := (x.value + s.get (0x2210 + n) 4) % tbModulus }

def tickBases (s : State) : State := (List.range 8).foldl tickBase s

/-- Writes of TB_MODE (Table TIM-4): mode 0 takes the nominal increment. -/
def writeMode (s : State) (n v : Nat) : State :=
  let s := (s.set (0x2210 + n) 1 v).set (0x2210 + n) 8 0
  if v = 0 then s.setBase n { s.base n with pendIncr := some nominalIncr } else s

/-- Writes of the entries of base `n` (R350, R351). -/
def timeWrite (s : State) (idx sub : Nat) (v : DVal) : WRes :=
  if idx < 0x2210 then .ok (s.setVal idx sub v) else
  let n := idx - 0x2210
  let mode := s.get idx 1
  match v with
  | .num k =>
    if sub = 1 then .ok (s.writeMode n k)
    else if sub = 4 then
      if mode ≠ 2 then .abort (Ab.refusal St.tbModeConflict)
      else if 281756451687367 < k then .abort Ab.high
      else if k < 281193501733945 then .abort Ab.low
      else .ok (s.setBase n { s.base n with pendIncr := some k })
    else if sub = 6 then .ok (s.set idx 0x0A 1)
    else .ok (s.set idx sub k)
  | .oct b =>
    if sub = 5 then
      if mode = 1 then .abort (Ab.refusal St.tbModeConflict)
      else if mode = 0 then .abort (Ab.refusal St.tbModeConflict)
      else if s.get idx 0x0A = 0 then .abort (Ab.refusal St.tbStepSpent)
      else if 999999999 < field b 8 4 then .abort Ab.value
      else .ok ((s.setBase n { s.base n with pendStep := some (timeOfBytes b) }).set idx 0x0A 0)
    else .ok (s.setB idx sub b)

/-- A servo measurement of base `n` in mode 1: its offset from the target in ns, and the reference's rate as an
increment (R352). The correction below the limit is the implementation's: a free value within it. -/
def servo (s : State) (n : Nat) (off : Int) (rate : Nat) : State :=
  if s.get (0x2210 + n) 1 ≠ 1 then s else
  let idx := 0x2210 + n
  let s := s.set idx 9 (ofSigned 64 off)
  if s.get idx 0x0A = 1 then
    let v := (((s.base n).value : Int) - off * 281474976710656) % (tbModulus : Int)
    (s.stepBase n v.toNat).set idx 8 1
  else
    let lim := rate * s.get idx 7 / 1000000000
    let large := decide (1000000 < off ∨ off < -1000000)
    let s := if large then s.addRecord St.tbOffsetLarge 0x15 n (leBytes 1 n ++ leBytes 8 (ofSigned 64 off)) else s
    let f := s.fresh .choice
    let corr : Int := if large then (if 0 < off then -(lim : Int) else (lim : Int))
      else ((f.1 % (2 * lim + 1) : Nat) : Int) - (lim : Int)
    let g := f.2.fresh .choice
    let st := if large then 1 else if g.2.get idx 8 = 2 then 2 else 1 + g.1 % 2
    (g.2.set idx 4 ((rate : Int) + corr).toNat).set idx 8 st

/-- Loss of a base's reference: holdover with the last increment (R352). -/
def holdover (s : State) (n : Nat) : State := if s.get (0x2210 + n) 1 = 1 then s.set (0x2210 + n) 8 3 else s

/-- A requester whose reads are of the secure domain: a hart in M-mode or the security processor (28). -/
def secureReader (s : State) (r : Nat) : Bool := decide (r = 28) || (decide (r < 24) && decide ((s.hart r).mode = .m))

/-- Latches the sub-second part of a base for a requester (R348). -/
def snapSec (s : State) (r base : Nat) : State :=
  { s with time := { s.time with snap := NMap.set 0 s.time.snap (r * 8 + base) (s.tbSubsec base) } }

/-- Latches NOW_NS of all eight bases for a requester; TB3 as zero outside the secure domain (R349). -/
def jointSnap (s : State) (r : Nat) : State :=
  (List.range 8).foldl (fun s n =>
    let v := if n = 3 ∧ !s.secureReader r then 0 else s.tb n
    { s with time := { s.time with joint := NMap.set 0 s.time.joint (r * 8 + n) v } }) s

/-- A read of the 64-bit register that an offset of the time-base region lies in (Table TIM-2, R348, R349). -/
def readTimeReg (s : State) (r off : Nat) : Nat × State :=
  let page := off / 4096
  let reg := off % 4096 / 8
  if page < 8 then
    (match reg with
    | 0 => (s.tb page, s)
    | 1 => (s.tbSeconds page, s.snapSec r page)
    | 2 => (NMap.get 0 s.time.snap (r * 8 + page), s)
    | _ => (0, s))
  else if page = 8 then
    (if reg = 0 then (s.tb 1, s.jointSnap r)
    else if reg < 9 then (NMap.get 0 s.time.joint (r * 8 + (reg - 1)), s)
    else (0, s))
  else (0, s)

/-- A read of `n` bytes of the time-base region: its registers one after another. -/
def readTime (s : State) (r off n : Nat) : List Byte × State :=
  let a := (List.range ((off % 8 + n + 7) / 8)).foldl (fun (a : List Byte × State) i =>
    let v := a.2.readTimeReg r (off / 8 * 8 + 8 * i)
    (a.1 ++ leBytes 8 v.1, v.2)) ([], s)
  (slice a.1 (off % 8) n, a.2)

end State

/-- SNAP_SEC (R348): returns the seconds and latches the sub-second part for the requester; TB3's page is reachable from
the secure domain only. -/
def execSnapSec (r base : Nat) (s : State) : Out :=
  .next (if base = 3 ∧ !s.secureReader r then s.emit (.readData none)
    else (s.snapSec r base).emit (.readData (some (s.tbSeconds base))))

/-- JOINT_SNAPSHOT (R349): latches all eight bases for the requester and returns TB1; TB3 reads zero outside the
secure domain. -/
def execJointSnapshot (r : Nat) (s : State) : Out := .next ((s.jointSnap r).emit (.readData (some (s.tb 1))))

/-- SERVO_MEASUREMENT (R352, R353). -/
def execServoMeasurement (n : Nat) (offsetNs : Int) (refRate : Nat) (s : State) : Out := .next (s.servo n offsetNs refRate)

/-- TB0_SYNC_LOST (R354). -/
def execTb0SyncLost (s : State) : Out :=
  .next (((s.addRecord St.tb0SyncLost 0x15 0).bump 0x2200 5).holdover 0)

end Sys2Proof.Machine
end

