-- ==== Sys2Proof/Machine/Control.lean ====
section
/-! DEFINITION. The control family, 0x06xx (R99, R170 to R173): synchronisation, time stamps and tensor handles. -/

namespace Sys2Proof.Machine

open Sys2Proof

/-! ## Checks -/

/-- NOP, SIGNAL, WAIT and TIMESTAMP (Table TEN-13). -/
def syncInfo (op : Nat) : OpInfo :=
  { reserved := [(511, 259), (191, 161), (95, 72)],
    barWeights := true,
    uses := if op = 0x0603 then [{ lo := 224, out := true, bytes := 16 }] else [] }

/-- TENSOR_CREATE (Table PLC-4, R171, R357, R396). -/
def createInfo (s : State) (sl : Nat) (d : Desc) : OpInfo :=
  let va := d.fld 255 192
  let node := d.fld 191 184
  let backing := d.w.getLsbD 169
  let bytes := d.fld 127 64
  let bound := (s.activePartOf sl).isSome || (s.sliceEnclave sl).isSome
  { reserved := [(511, 256), (183, 172), (167, 128)],
    bad := badBits
      [(decide (bytes < 64 ∨ 34359738368 < bytes ∨ bytes % 64 ≠ 0), 64), (decide (d.fld 171 170 = 3), 170),
       (if backing then decide (va % 256 ≠ 0) else decide (va ≠ 0), 192),
       (decide (192 ≤ node ∧ node ≠ 0xFF), 184), (decide (node < 192) && !s.nodePresent node, 184),
       (backing && decide (node ≠ 0xFF), 169), (bound && backing, 169), (bound && decide (node ≠ 0xFF), 184)] }

/-- TENSOR_RELEASE (R172). -/
def releaseInfo (d : Desc) : OpInfo :=
  { reserved := [(511, 96)], bad := badBits [(decide (d.fld 95 92 ≠ 1 ∧ d.fld 95 92 ≠ 2), 64)], uses := [{ lo := 64 }] }

/-- TENSOR_VIEW (R172); its check 9. -/
def viewInfo (s : State) (d : Desc) : OpInfo :=
  let off := d.fld 159 96
  let bytes := d.fld 223 160
  { reserved := [(511, 224)], uses := [{ lo := 64, bytes := off + bytes }],
    more := if off % 64 ≠ 0 ∨ bytes % 64 ≠ 0 ∨ s.tbytes (d.fld 95 64) < off + bytes then some (St.handleBounds, d.fld 95 64) else none }

namespace State

/-! ## Sync counters (R99) -/

def syncCounter (s : State) (sl id : Nat) : Nat := NMap.get 0 (s.sliceX sl).sync id

/-- A WAIT's condition holds. -/
def waitMet (s : State) (sl : Nat) (d : Desc) : Bool :=
  let v := s.syncCounter sl (d.fld 71 64)
  if d.w.getLsbD 160 then decide (v = d.fld 159 96) else decide (d.fld 159 96 ≤ v)

/-- Queues of a slice with a WAIT that holds them, with its number. -/
def waitsOf (s : State) (sl : Nat) : List (Nat × Nat) :=
  s.que.queues.flatMap fun p =>
    if s.queueOwner p.1 = some sl then
      p.2.desc.filterMap fun e => match e.2 with
        | some d => if d.phase = .running ∧ d.opcode s.compat = 0x0602 then some (p.1, e.1) else none
        | none => none
    else []

/-- Completes the WAITs of a slice that the counters now satisfy; a spilled queue's context is brought on chip
(R208). -/
def releaseWaits (s : State) (sl : Nat) : State :=
  (s.waitsOf sl).foldl (fun s p => match s.desc p.1 p.2 with
    | some d => if s.waitMet sl d then (s.finish p.1 p.2 0 0 0).needContext p.1 false else s
    | none => s) s

/-- Sets a sync counter; every WAIT sees the value. -/
def setSync (s : State) (sl id v : Nat) : State :=
  let x := s.sliceX sl
  (s.setSlice sl { x with sync := NMap.set 0 x.sync id (v % 18446744073709551616) }).releaseWaits sl

def addSync (s : State) (sl id n : Nat) : State := s.setSync sl id (s.syncCounter sl id + n)

/-- A WAIT begins: it completes at once where its condition holds, else its limit runs on TB1. -/
def beginWait (s : State) (q n : Nat) : State :=
  match s.beginDirect q n (· = 0x0602) with
  | none => s
  | some (d, s) =>
    if s.waitMet (s.queueSlice q) d then s.finish q n 0 0 0
    else if d.fld 223 192 = 0 then s
    else s.setDesc q n { d with deadline := some (s.now + 1000 * d.fld 223 192), tDeal := s.now }

/-- A WAIT's limit has passed (R99). -/
def waitExpired (s : State) (q n : Nat) : State :=
  match s.desc q n with
  | none => s
  | some d =>
    match d.deadline with
    | none => s
    | some t =>
      if d.phase = .running ∧ d.opcode s.compat = 0x0602 ∧ t ≤ s.now then
        s.finish q n St.waitTimeout (s.syncCounter (s.queueSlice q) (d.fld 71 64) % 4294967296) 0
      else s

end State

namespace Work

/-- SIGNAL: mode 0 sets the counter, mode 1 adds. -/
def signal (w : Work) (d : Desc) : Work :=
  let id := d.fld 71 64
  let v := d.fld 159 96
  { w with s := if d.w.getLsbD 160 then w.s.addSync w.sl id v else w.s.setSync w.sl id v }

def timestamp (w : Work) (d : Desc) : Work :=
  (w.write (d.fld 255 224) 0 (w.s.tbBytes (d.fld 258 256)) (State.toSerai d 0)).settleState (d.fld 255 224)

/-- A home the module allocates: quota, space, zeroes (R171). -/
def allocHome (w : Work) (bytes : Nat) : Option (Nat × Work) × Work :=
  if w.s.overQuota w.sl bytes then (none, w.fail St.quotaExceeded 0)
  else match w.s.allocate w.sl bytes 1 with
    | none => (none, w.fail St.tensorNoSpace 0)
    | some (b, s) => (some (b, { w with s := (s.zeroMem b bytes).useMem w.sl bytes }), w)

/-- Enters a tensor and returns its handle in DETAIL. -/
def enter (w : Work) (e : TEntry) (otherwise : Work) : Work :=
  match w.s.newEntry e with
  | none => otherwise.fail St.handleTableFull 0
  | some (h, s) => { w with s := s, det := h }

/-- TENSOR_CREATE (R171). The room for a tier 5 home is another module's to grant: whether it has room, and where, is
free. -/
def tensorCreate (w : Work) (d : Desc) : Work :=
  let bytes := d.fld 127 64
  let node := d.fld 191 184
  let e : TEntry := { gen := 0, slice := w.sl, bytes := bytes, cls := d.fld 171 170, noSerai := d.w.getLsbD 168, node := node }
  if d.w.getLsbD 169 then w.enter { e with backing := 1, home := d.fld 255 192 } w
  else if node = 0xFF then
    match w.allocHome bytes with
    | (some (b, w'), w) => w'.enter { e with home := b } w
    | (none, w) => w
  else
    let room := w.freeVal .choice
    let addr := room.2.freeVal .address
    if room.1 % 2 = 0 then addr.2.fail St.tensorNoSpace 0 else addr.2.enter { e with home := addr.1 } addr.2

/-- TENSOR_RELEASE: the handle fails from now on; the storage goes with the last reference (R172). -/
def tensorRelease (w : Work) (d : Desc) : Work :=
  let h := d.fld 95 64
  match w.s.findHandle h with
  | none => w
  | some e => { w with s := w.s.setTentry (hIndex h) (some { e with released := true }) }

/-- TENSOR_VIEW: a view of a view names the underlying tensor (R172). -/
def tensorView (w : Work) (d : Desc) : Work :=
  match w.s.tref (d.fld 95 64) with
  | none => w
  | some r =>
    w.enter { view := true, gen := 0, slice := w.sl, bytes := d.fld 223 160, parent := r.root, offset := r.off + d.fld 159 96 } w

end Work

/-- NOP (R99): no effect. -/
def execNop (q n : Nat) (s : State) : Out := .next (s.runDirect q n (· = 0x0600) fun w _ => w)

/-- SIGNAL (R99). -/
def execSignal (q n : Nat) (s : State) : Out := .next (s.runDirect q n (· = 0x0601) Work.signal)

/-- WAIT (R99). -/
def execWait (q n : Nat) (s : State) : Out := .next (s.beginWait q n)

/-- WAIT_TIMEOUT (R99). -/
def execWaitTimeout (q n : Nat) (s : State) : Out := .next (s.waitExpired q n)

/-- TIMESTAMP (R99, R346). -/
def execTimestamp (q n : Nat) (s : State) : Out := .next (s.runDirect q n (· = 0x0603) Work.timestamp)

/-- TENSOR_CREATE (R171). -/
def execTensorCreate (q n : Nat) (s : State) : Out := .next (s.runDirect q n (· = 0x0604) Work.tensorCreate)

/-- TENSOR_RELEASE (R172). -/
def execTensorRelease (q n : Nat) (s : State) : Out := .next (s.runDirect q n (· = 0x0605) Work.tensorRelease)

/-- TENSOR_VIEW (R172). -/
def execTensorView (q n : Nat) (s : State) : Out := .next (s.runDirect q n (· = 0x0606) Work.tensorView)

end Sys2Proof.Machine
end

