-- ==== Sys2Proof/Machine/Convolution.lean ====
section
/-! DEFINITION. Convolution, 0x0200 (R114 to R126): acceptance, the mapping modes, tiles, and the arithmetic. -/

namespace Sys2Proof.Machine

open Sys2Proof

/-- The fields of Table CNV-2. -/
structure Conv where
  ys : Nat
  posPack : Bool
  inBlock : Nat
  yNchw : Bool
  oihw : Bool
  xLayout : Nat
  epi : Nat
  outScale : Nat
  cvt : Nat
  yf : Nat
  wf : Nat
  xf : Nat
  padR : Nat
  padB : Nat
  padL : Nat
  padT : Nat
  dilW : Nat
  dilH : Nat
  strW : Nat
  strH : Nat
  kw : Nat
  kh : Nat
  batch : Nat
  groups : Nat
  outC : Nat
  inC : Nat
  inW : Nat
  inH : Nat
  ws : Nat
  xs : Nat
  bias : Nat
  y : Nat
  w : Nat
  x : Nat
deriving DecidableEq, Repr

def convOf (d : Desc) : Conv :=
  { ys := d.fld 511 480, posPack := d.w.getLsbD 458, inBlock := d.fld 457 456, yNchw := d.w.getLsbD 455,
    oihw := d.w.getLsbD 454, xLayout := d.fld 453 452, epi := d.fld 451 448, outScale := d.fld 447 416,
    cvt := d.fld 415 408, yf := d.fld 407 400, wf := d.fld 399 392, xf := d.fld 391 384, padR := d.fld 383 380,
    padB := d.fld 379 376, padL := d.fld 375 372, padT := d.fld 371 368, dilW := d.fld 367 365, dilH := d.fld 364 362,
    strW := d.fld 361 359, strH := d.fld 358 356, kw := d.fld 355 352, kh := d.fld 351 348, batch := d.fld 343 336,
    groups := d.fld 335 320, outC := d.fld 319 304, inC := d.fld 303 288, inW := d.fld 287 272, inH := d.fld 271 256,
    ws := d.fld 255 224, xs := d.fld 223 192, bias := d.fld 191 160, y := d.fld 159 128, w := d.fld 127 96, x := d.fld 95 64 }

/-- Output extent of a window of `k` taps (R114); 0 where the formula gives less than 1. -/
def outExtent (n pad dil k stride : Nat) : Nat :=
  let span := dil * (k - 1) + 1
  if n + pad < span ∨ stride = 0 then 0 else (n + pad - span) / stride + 1

namespace Conv

def outH (c : Conv) : Nat := outExtent c.inH (c.padT + c.padB) c.dilH c.kh c.strH
def outW (c : Conv) : Nat := outExtent c.inW (c.padL + c.padR) c.dilW c.kw c.strW
def cgIn (c : Conv) : Nat := c.inC / c.groups
def cgOut (c : Conv) : Nat := c.outC / c.groups
def taps (c : Conv) : Nat := c.kh * c.kw
/-- Kg of R118. -/
def kg (c : Conv) : Nat := c.taps * c.cgIn
def positions (c : Conv) : Nat := c.batch * c.outH * c.outW
/-- b of R121. -/
def b (c : Conv) : Nat := if c.inBlock = 0 then 1 else 2 ^ c.inBlock
def bOut (c : Conv) : Nat := c.b / c.strH
/-- ⌊−pad / b⌋. -/
def k0 (c : Conv) (pad : Nat) : Int := -((cdiv pad c.b : Nat) : Int)
/-- KH′ and KW′ of R121. -/
def regKernel (c : Conv) (pad k : Nat) : Nat :=
  (((c.strH * (c.bOut - 1) + k : Nat) : Int) - (pad : Int) - 1 |> fun t => (t / (c.b : Int)) - c.k0 pad + 1).toNat
def regKh (c : Conv) : Nat := c.regKernel c.padT c.kh
def regKw (c : Conv) : Nat := c.regKernel c.padL c.kw

/-- Elements and bytes of the three tensors (R116). -/
def xElems (c : Conv) : Nat := c.batch * c.inH * c.inW * c.inC
def yElems (c : Conv) : Nat := c.positions * c.outC

/-- The conditions of R121 beyond their first: each with the lowest bit of its fields. -/
def blockBad (c : Conv) : List (Bool × Nat) :=
  let on := decide (c.inBlock ≠ 0)
  [(on && decide (c.groups ≠ 1), 320), (on && c.posPack, 456), (on && decide (c.xLayout ≠ 0), 452), (on && fmtBS c.xf, 384),
   (on && decide (c.dilH ≠ 1), 362), (on && decide (c.dilW ≠ 1), 365), (on && decide (c.strH ≠ c.strW), 356),
   (on && decide (c.strH ≠ 0 ∧ c.b % c.strH ≠ 0), 356), (on && decide (c.inH % c.b ≠ 0), 256), (on && decide (c.inW % c.b ≠ 0), 272),
   (on && decide (c.outH * c.strH ≠ c.inH), 256), (on && decide (c.outW * c.strW ≠ c.inW), 272)]

end Conv

/-- Checks of CONV (Table CNV-2, R115, R116, R121, R123). -/
def convInfo (d : Desc) : OpInfo :=
  let c := convOf d
  let sc := fun (f h : Nat) => fmtBS f != decide (h ≠ 0)
  let block := fun (f : Nat) => fmtBS f && decide (c.groups ≠ 0 ∧ c.cgIn % 32 ≠ 0)
  let uses : List HUse :=
    [{ lo := 64, bytes := fmtBytes (fmtCode c.xf) c.xElems },
     { lo := 96, bytes := fmtBytes (fmtCode c.wf) (c.kg * c.outC) },
     { lo := 128, out := true, bytes := fmtBytes (fmtCode c.yf) c.yElems },
     { lo := 160, bytes := 4 * c.outC, zeroOk := true },
     { lo := 192, bytes := c.batch * c.inH * c.inW * (c.inC / 32), zeroOk := true },
     { lo := 224, bytes := c.outC * cdiv c.kg 32, zeroOk := true },
     { lo := 480, out := true, bytes := c.positions * cdiv c.outC 32, zeroOk := true }]
  { reserved := [(479, 459), (347, 344), fmtReserved 384, fmtReserved 392, fmtReserved 400, cvtReserved 408],
    fmt := firstFail
      [fmtFail (fmtArray c.xf) 384, fmtFail (fmtArray c.wf) 392,
       (intClass (fmtCode c.xf) != intClass (fmtCode c.wf), St.formatPairInvalid, 392), fmtFail (fmtOut c.yf) 400],
    bad := badBits
      ([(decide (1 < c.xLayout), 452), (decide (5 < c.epi), 448), (decide (c.dilW = 0), 365), (decide (c.dilH = 0), 362),
        (decide (c.strW = 0), 359), (decide (c.strH = 0), 356), (decide (c.kw = 0), 352), (decide (c.kh = 0), 348),
        (decide (c.batch = 0), 336), (decide (c.groups = 0), 320), (decide (c.outC = 0), 304), (decide (c.inC = 0), 288),
        (decide (c.inW = 0), 272), (decide (c.inH = 0), 256),
        (decide (c.outH < 1 ∨ 65535 < c.outH), 256), (decide (c.outW < 1 ∨ 65535 < c.outW), 272),
        (decide (c.inC % c.groups ≠ 0 ∨ c.outC % c.groups ≠ 0), 288),
        (sc c.xf c.xs, 192), (sc c.wf c.ws, 224), (sc c.yf c.ys, 400),
        (block c.xf || block c.wf, 288), (fmtBS c.xf && decide (c.xLayout = 1), 384), (fmtBS c.wf && decide (c.xLayout = 1), 392),
        (fmtBS c.yf && c.yNchw, 400),
        (c.posPack && decide (c.groups ≠ 1), 320), (c.posPack && decide (c.inBlock ≠ 0), 456), (c.posPack && decide (256 < c.outC), 304)]
        ++ c.blockBad),
    barWeights := true,
    clash := clashes d uses (fun _ _ => false),
    uses := uses }

/-! ## Mapping modes and tiles (R93, R118) -/

namespace Conv

/-- w of R118. -/
def width (c : Conv) : Nat :=
  if 256 < c.cgOut then 512 else if 128 < c.cgOut then 256 else if 64 < c.cgOut then 128 else if 32 < c.cgOut then 64 else 32

def regrouped (c : Conv) : Bool := decide (c.inBlock ≠ 0)

/-- Packed mode of Table CNV-3. -/
def packed (c : Conv) : Bool := decide (1 < c.groups ∧ c.cgOut < 32 ∧ c.kg ≤ 128)

/-- Conv groups of one column tile. -/
def groupsPerTile (c : Conv) : Nat :=
  if c.packed then 16 * min (32 / c.cgOut) (128 / c.kg) else 512 / c.width

/-- Output positions that one step of a pass takes. -/
def posPerStep (c : Conv) : Nat := if c.posPack then 512 / c.width else 1

/-- The M of R93. -/
def mRows (c : Conv) : Nat :=
  if c.regrouped then c.batch * (c.outH / c.bOut) * (c.outW / c.bOut) else cdiv c.positions c.posPerStep

/-- Output columns in all, and in one column tile. -/
def colsAll (c : Conv) : Nat := if c.regrouped then c.bOut * c.bOut * c.outC else c.outC

def colsPerTile (c : Conv) : Nat := if 1 < c.groups then c.groupsPerTile * c.cgOut else 512

def colTiles (c : Conv) : Nat := cdiv c.colsAll c.colsPerTile

/-- Reduction length: Kg, or K′ of R121. -/
def kRed (c : Conv) : Nat := if c.regrouped then c.regKh * c.regKw * c.b * c.b * c.inC else c.kg

def mTile (c : Conv) (e : Nat) : Nat := if 4 * e ≤ cdiv c.mRows 256 * c.colTiles then 256 else 128

def outTiles (c : Conv) (e : Nat) : Nat := cdiv c.mRows (c.mTile e) * c.colTiles

def slices (c : Conv) (e : Nat) : Nat := kSplit (c.outTiles e) e (cdiv c.kRed 128) 20 1

/-- Tiles of the descriptor. -/
def tiles (c : Conv) (e : Nat) : Nat := c.outTiles e * c.slices e

/-- The steps of R92 as the matrix family has them. -/
def asGemm (c : Conv) : Gemm :=
  { acc := false, split := 0, transB := false, epi := c.epi, batch := 1, outScale := c.outScale, cvt := c.cvt, cf := c.yf,
    bf := c.wf, af := c.xf, ldc := 0, ldb := 0, lda := 0, k := c.kRed, n := 1, m := 1, bs := 0, as_ := 0, bias := 0, c := 0,
    b := 0, a := 0, cs := 0 }

/-! ## Windows (R114, R122) -/

/-- One output element: image, row, column, channel. -/
abbrev Out4 := Nat × Nat × Nat × Nat

/-- The input pixel that tap `t` of an output position reads, none in the padding. -/
def pixelAt (c : Conv) (n oh ow t : Nat) : Option Nat :=
  let ih : Int := (oh * c.strH + t / c.kw * c.dilH : Nat) - (c.padT : Int)
  let iw : Int := (ow * c.strW + t % c.kw * c.dilW : Nat) - (c.padL : Int)
  if 0 ≤ ih ∧ ih < c.inH ∧ 0 ≤ iw ∧ iw < c.inW then some ((n * c.inH + ih.toNat) * c.inW + iw.toNat) else none

/-- The input pixel of regrouped position (i, j), regrouped tap t and pixel offset p = u × b + v, none in the padding. -/
def regPixel (c : Conv) (n i j t p : Nat) : Option Nat :=
  let ih : Int := (c.b : Int) * (i + (t / c.regKw : Nat) + c.k0 c.padT) + (p / c.b : Nat)
  let iw : Int := (c.b : Int) * (j + (t % c.regKw : Nat) + c.k0 c.padL) + (p % c.b : Nat)
  if 0 ≤ ih ∧ ih < c.inH ∧ 0 ≤ iw ∧ iw < c.inW then some ((n * c.inH + ih.toNat) * c.inW + iw.toNat) else none

/-- The kernel tap that regrouped tap t and pixel offset p meet for output offset (a, cc), none outside the kernel
(R122). -/
def regTap (c : Conv) (t p a cc : Nat) : Option Nat :=
  let kh : Int := (c.b : Int) * ((t / c.regKw : Nat) + c.k0 c.padT) + (p / c.b : Nat) - (c.strH * a : Nat) + c.padT
  let kw : Int := (c.b : Int) * ((t % c.regKw : Nat) + c.k0 c.padL) + (p % c.b : Nat) - (c.strH * cc : Nat) + c.padL
  if 0 ≤ kh ∧ kh < c.kh ∧ 0 ≤ kw ∧ kw < c.kw then some (kh.toNat * c.kw + kw.toNat) else none

/-- The output elements of row `m` and column `col` of the mapped product. -/
def outsOf (c : Conv) (m col : Nat) : List Out4 :=
  if c.regrouped then
    let h := c.outH / c.bOut
    let w := c.outW / c.bOut
    let n := m / (h * w)
    let i := m / w % h
    let j := m % w
    let a := col / c.outC / c.bOut
    let cc := col / c.outC % c.bOut
    [(n, c.bOut * i + a, c.bOut * j + cc, col % c.outC)]
  else
    (List.range c.posPerStep).filterMap fun g =>
      let p := m * c.posPerStep + g
      if p < c.positions then some (p / (c.outH * c.outW), p / c.outW % c.outH, p % c.outW, col) else none

/-- The pixels an output element reads, in reduction order. -/
def pixelsOf (c : Conv) (o : Out4) : List (Option Nat) :=
  if c.regrouped then
    (List.range (c.regKh * c.regKw * c.b * c.b)).map fun r =>
      c.regPixel o.1 (o.2.1 / c.bOut) (o.2.2.1 / c.bOut) (r / (c.b * c.b)) (r % (c.b * c.b))
  else (List.range c.taps).map fun t => c.pixelAt o.1 o.2.1 o.2.2.1 t

/-- The kernel taps an output element multiplies with, in reduction order. -/
def tapsOf (c : Conv) (o : Out4) : List (Option Nat) :=
  if c.regrouped then
    (List.range (c.regKh * c.regKw * c.b * c.b)).map fun r =>
      c.regTap (r / (c.b * c.b)) (r % (c.b * c.b)) (o.2.1 % c.bOut) (o.2.2.1 % c.bOut)
  else (List.range c.taps).map some

/-- Index of an output element in Y (R116). -/
def yIndex (c : Conv) (o : Out4) : Nat :=
  if c.yNchw then ((o.1 * c.outC + o.2.2.2) * c.outH + o.2.1) * c.outW + o.2.2.1
  else ((o.1 * c.outH + o.2.1) * c.outW + o.2.2.1) * c.outC + o.2.2.2

end Conv

/-- A value of an output element, none where its tile's outputs are undefined. -/
abbrev CellOut := NMap (Option (Option Fv))

namespace Work

/-- Channels `c0 .. c0 + cc - 1` of each pixel of a list, read once: a table by pixel. -/
def gather (w : Work) (h fmt chans c0 cc sh : Nat) : List Nat → NMap (List Num) → NMap (List Num) × Work
  | [], m => (m, w)
  | p :: ps, m =>
    if (NMap.get [] m p) ≠ [] then w.gather h fmt chans c0 cc sh ps m
    else
      let r := w.readElems h fmt (p * chans + c0) cc sh (p * (chans / 32)) c0
      r.2.gather h fmt chans c0 cc sh ps (NMap.set [] m p r.1)

/-- The conversion of R125: the element codes of X in the order of NHWC, as bytes. -/
def nhwcBytes (w : Work) (c : Conv) : List Byte × Work :=
  let hw := c.inH * c.inW
  let wd := fmtWidth (fmtCode c.xf)
  let r := w.mapM (fun w i =>
    let p := i / c.inC
    w.readCodes c.x (fmtCode c.xf) ((p / hw * c.inC + i % c.inC) * hw + p % hw) 1) (List.range c.xElems)
  (leBytes (fmtBytes (fmtCode c.xf) c.xElems) (packCodes wd r.1.flatten), r.2)

/-- Channels of pixels of the NHWC copy at `base` (R125). -/
def gatherCopy (w : Work) (c : Conv) (base c0 cc : Nat) (ps : List Nat) : NMap (List Num) × Work :=
  let f := fmtCode c.xf
  let wd := fmtWidth f
  ps.foldl (fun (a : NMap (List Num) × Work) p =>
    if (NMap.get [] a.1 p) ≠ [] then a
    else
      let i := (p * c.inC + c0) * wd
      let r := a.2.readPhys (base + i / 8) (cdiv (i % 8 + cc * wd) 8)
      let v := leNat r.1 >>> (i % 8)
      (NMap.set [] a.1 p ((List.range cc).map fun k => decodeElem f ((v >>> (k * wd)) % 2 ^ wd)), r.2.staged 8 r.1.length)) ([], w)

/-- Applies the scales of W to the taps of an output channel (R117). -/
def scaleKernel (w : Work) (c : Conv) (co : Nat) (plain : List (List Num)) : List (List Num) × Work :=
  if fmtBS c.wf then
    let kb := cdiv c.kg 32
    let sc := w.read c.ws (co * kb) kb
    (plain.mapIdx fun t vs => vs.mapIdx fun ci v => scaledElem v ((sc.1.getD ((t * c.cgIn + ci) / 32) 0).toNat), sc.2)
  else (plain, w)

/-- The taps of one output channel: for each kernel tap its Cg_in weights (R116, R117). -/
def kernelOf (w : Work) (c : Conv) (co : Nat) : List (List Num) × Work :=
  if c.oihw then
    let r := w.readCodes c.w (fmtCode c.wf) (co * c.kg) c.kg
    let at_ := fun (t ci : Nat) => decodeElem (fmtCode c.wf) (r.1.getD (ci * c.taps + t) 0)
    let plain := (List.range c.taps).map fun t => (List.range c.cgIn).map fun ci => at_ t ci
    r.2.scaleKernel c co plain
  else
    let r := w.mapM (fun w k => w.readCodes c.w (fmtCode c.wf) (k * c.outC + co) 1) (List.range c.kg)
    let plain := (List.range c.taps).map fun t => (List.range c.cgIn).map fun ci =>
      decodeElem (fmtCode c.wf) ((r.1.getD (t * c.cgIn + ci) []).headD 0)
    r.2.scaleKernel c co plain

/-- The value of one output element from the pixels and kernel at hand; `c0` is the first channel gathered. -/
def convValue (c : Conv) (pair : Bool) (order : List Nat) (sl c0 : Nat) (px : NMap (List Num)) (kern : List (List Num))
    (bias : Option Num) (o : Conv.Out4) : Fv :=
  let g := c.asGemm
  let zeros := List.replicate c.cgIn Num.zero
  let off := o.2.2.2 / c.cgOut * c.cgIn - c0
  let xs := (c.pixelsOf o).flatMap fun p => match p with
    | some p => ((NMap.get [] px p).drop off).take c.cgIn
    | none => zeros
  let ys := (c.tapsOf o).flatMap fun t => match t with
    | some t => kern.getD t zeros
    | none => zeros
  g.finish (combine order ((List.range sl).map fun k => g.partOf pair 0 sl k xs ys)) bias none

/-- One output tile: rows `m0 ..` and columns `n0 ..` of the mapped product. -/
def convTile (w : Work) (c : Conv) (d : Desc) (sl m0 mc n0 nc : Nat) : List (Nat × Conv.Out4 × Fv) × Work :=
  let outs := (List.range mc).flatMap fun r => (List.range nc).flatMap fun j => (c.outsOf (m0 + r) (n0 + j))
  let chans := outs.map fun o => o.2.2.2
  let gLo := chans.foldl (fun a x => min a (x / c.cgOut)) c.groups
  let gHi := chans.foldl (fun a x => max a (x / c.cgOut)) 0
  let c0 := gLo * c.cgIn
  let cc := (gHi + 1 - gLo) * c.cgIn
  let ps := outs.flatMap fun o => (c.pixelsOf o).filterMap id
  let px := if c.xLayout = 1 then w.gatherCopy c ((d.conv.map (·.1)).getD 0) c0 cc ps else w.gather c.x c.xf c.inC c0 cc c.xs ps []
  let cos := chans.eraseDups
  let kern := px.2.mapM (fun w co => w.kernelOf c co) cos
  let bias := if c.bias = 0 then ([], kern.2)
    else kern.2.mapM (fun w co => w.readElems c.bias (if c.asGemm.int then 4 else 0xC) co 1 0 0 0) cos
  let ord := bias.2.arrival (decide (d.run ≠ 0)) (List.range sl)
  (outs.map fun o =>
    let i := cos.idxOf o.2.2.2
    (c.yIndex o, o, convValue c (decide (d.run ≠ 0)) ord.1 sl c0 px.1 (kern.1.getD i []) ((bias.1[i]?).bind List.head?) o), ord.2)

/-- Writes the blocks of 32 channels of one pixel of a block-scaled Y; a block with an undefined element is undefined, one
with an element never written is left. -/
def writeBlocked (w : Work) (c : Conv) (d : Desc) (m : CellOut) (pix : Nat) : Work :=
  (List.range (cdiv c.outC 32)).foldl (fun w k =>
    let n := min 32 (c.outC - 32 * k)
    let vs := (List.range n).map fun j => NMap.get none m (pix * c.outC + 32 * k + j)
    if vs.any (· = none) then w
    else
      let bad := vs.any (· = some none)
      let fs := vs.map fun v => (v.getD none).getD Fv.zero
      { { w with undef := bad }.writeElems c.y c.yf c.cvt (pix * c.outC + 32 * k) fs c.yElems c.ys (pix * cdiv c.outC 32 + k)
          (State.toSerai d 0) with undef := false }) w

/-- The whole descriptor, output tile by output tile. -/
def conv (w : Work) (d : Desc) : Work :=
  let c := convOf d
  let e := d.engineCount
  let sl := c.slices e
  let mt := c.mTile e
  let rows := cdiv c.mRows mt
  let r := (List.range (c.outTiles e)).foldl (fun (a : CellOut × Work) t =>
    let mine := (List.range sl).map fun k => t * sl + k
    let m0 := t % rows * mt
    let n0 := t / rows * c.colsPerTile
    a.2.groupM d mine a.1 fun w =>
      let x := w.convTile c d sl m0 (min mt (c.mRows - m0)) n0 (min c.colsPerTile (c.colsAll - n0))
      if fmtBS c.yf then
        (x.1.foldl (fun m p => NMap.set none m p.1 (some (if x.2.undef then none else some p.2.2))) a.1, x.2)
      else (a.1, x.1.foldl (fun w p => w.writeElems c.y c.yf c.cvt p.1 [p.2.2] c.yElems 0 0 (State.toSerai d 0)) x.2)) ([], w)
  let w := if fmtBS c.yf then (List.range c.positions).foldl (fun w p => w.writeBlocked c d r.1 p) r.2 else r.2
  (w.settleState c.y).settleState c.ys

end Work

namespace State

/-- The NHWC copy of an NCHW X is allocated when the conversion begins (R125): none where it cannot be, for quota or for
free memory. -/
def convBegin (s : State) (q n : Nat) (d : Desc) : Option State :=
  let c := convOf d
  if d.opcode s.compat ≠ 0x0200 ∨ c.xLayout ≠ 1 then some s
  else
    let bytes := cdiv (fmtBytes (fmtCode c.xf) c.xElems) 64 * 64
    let sl := s.queueSlice q
    if s.overQuota sl bytes then none
    else (s.allocate sl bytes 3).map fun p => (p.2.useMem sl bytes).setDesc q n { d with conv := some (p.1, bytes) }

/-- The conversion itself, once every byte of X is at hand: the copy is written, and a failure met while X is read leaves the
descriptor's outputs undefined. The copy is made once, and both runs of a pair read it (R125). -/
def convert (s : State) (q n : Nat) : State := match s.desc q n with
  | none => s
  | some d => match d.conv with
    | none => s
    | some p =>
      if s.fetching q n then s
      else
        let r := (s.startWork q n d).nhwcBytes (convOf d)
        let w := r.2.writePhys p.1 r.1
        match w.s.desc q n with
        | none => w.s
        | some d => if w.st = 0 then w.s else w.s.setDesc q n { d with status := w.st, detail := w.det, undef := List.range d.tiles }

/-- The conversion buffer of a descriptor that completes is returned. -/
def convEnd (s : State) (q n : Nat) : State :=
  match s.desc q n with
  | none => s
  | some d => match d.conv with
    | none => s
    | some p => ((s.deallocate p.1).freeMem (s.queueSlice q) p.2).setDesc q n { d with conv := none }

end State

/-- CONV (R114). -/
def execConv (q n : Nat) (s : State) : Out :=
  .next (match s.readyDesc q n (· = 0x0200) with
    | none => s
    | some _ => (s.runDesc q n (· = 0x0200) Work.conv).convEnd q n)

end Sys2Proof.Machine
end

