-- ==== Sys2Proof/Machine/Images.lean ====
section
/-! DEFINITION. The image operators POOL, RESIZE, CROP and REGROUP, 0x0201 to 0x0204 (R127 to R132). -/

namespace Sys2Proof.Machine

open Sys2Proof

/-- The fields of Table CNV-6. -/
structure Img where
  op : Nat
  cvt : Nat
  yf : Nat
  xf : Nat
  rois : Nat
  coord : Bool
  block : Nat
  padR : Nat
  padB : Nat
  padL : Nat
  padT : Nat
  strW : Nat
  strH : Nat
  kw : Nat
  kh : Nat
  fn : Nat
  batch : Nat
  outW : Nat
  outH : Nat
  c : Nat
  inW : Nat
  inH : Nat
  aux : Nat
  y : Nat
  x : Nat
deriving DecidableEq, Repr

def imgOf (op : Nat) (d : Desc) : Img :=
  { op := op, cvt := d.fld 343 336, yf := d.fld 335 328, xf := d.fld 327 320, rois := d.fld 319 304, coord := d.w.getLsbD 288,
    block := d.fld 287 286, padR := d.fld 285 282, padB := d.fld 281 278, padL := d.fld 277 274, padT := d.fld 273 270,
    strW := d.fld 269 267, strH := d.fld 266 264, kw := d.fld 263 260, kh := d.fld 259 256, fn := d.fld 255 248,
    batch := d.fld 247 240, outW := d.fld 239 224, outH := d.fld 223 208, c := d.fld 207 192, inW := d.fld 191 176,
    inH := d.fld 175 160, aux := d.fld 159 128, y := d.fld 127 96, x := d.fld 95 64 }

namespace Img

def b (g : Img) : Nat := 2 ^ g.block
def global (g : Img) : Bool := decide (3 ≤ g.fn)

/-- Output height and width of one image or region. -/
def oH (g : Img) : Nat :=
  if g.op = 0x0201 then (if g.global then 1 else outExtent g.inH (g.padT + g.padB) 1 g.kh g.strH)
  else if g.op = 0x0204 then (if g.fn = 0 then g.inH / g.b else g.inH * g.b)
  else g.outH
def oW (g : Img) : Nat :=
  if g.op = 0x0201 then (if g.global then 1 else outExtent g.inW (g.padL + g.padR) 1 g.kw g.strW)
  else if g.op = 0x0204 then (if g.fn = 0 then g.inW / g.b else g.inW * g.b)
  else g.outW
/-- Channels of Y. -/
def oC (g : Img) : Nat :=
  if g.op = 0x0204 then (if g.fn = 0 then g.c * g.b * g.b else g.c / (g.b * g.b)) else g.c
/-- Images or regions of Y. -/
def images (g : Img) : Nat := if g.op = 0x0203 then g.rois else g.batch
def yElems (g : Img) : Nat := g.images * g.oH * g.oW * g.oC

def opOk (g : Img) : Bool :=
  if g.op = 0x0201 then decide (g.fn ≤ 4) else if g.op = 0x0203 then decide (g.fn = 1) else decide (g.fn ≤ 1)

/-- Fields that Table CNV-7 requires to be zero, as (non-zero, lowest bit). -/
def mustBeZero (g : Img) : List (Bool × Nat) :=
  let pool := decide (g.op = 0x0201)
  let crop := decide (g.op = 0x0203)
  let regroup := decide (g.op = 0x0204)
  let window := !pool || g.global
  [(window && decide (g.kh ≠ 0), 256), (window && decide (g.kw ≠ 0), 260), (window && decide (g.strH ≠ 0), 264),
   (window && decide (g.strW ≠ 0), 267), (window && decide (g.padT ≠ 0), 270), (window && decide (g.padL ≠ 0), 274),
   (window && decide (g.padB ≠ 0), 278), (window && decide (g.padR ≠ 0), 282),
   ((pool || regroup) && decide (g.outH ≠ 0), 208), ((pool || regroup) && decide (g.outW ≠ 0), 224),
   (!crop && decide (g.rois ≠ 0), 304), ((pool || regroup) && g.coord, 288), (!regroup && decide (g.block ≠ 0), 286),
   (!crop && decide (g.aux ≠ 0), 128)]

/-- Ranges of Table CNV-6 for the operation, and the conditions of R131. -/
def outOfRange (g : Img) : List (Bool × Nat) :=
  let pool := decide (g.op = 0x0201) && !g.global
  let sized := decide (g.op = 0x0202 ∨ g.op = 0x0203)
  let regroup := decide (g.op = 0x0204)
  [(!g.opOk, 248), (decide (g.batch = 0), 240), (decide (g.c = 0), 192), (decide (g.inW = 0), 176), (decide (g.inH = 0), 160),
   (pool && decide (g.kh = 0), 256), (pool && decide (g.kw = 0), 260), (pool && decide (g.strH = 0), 264), (pool && decide (g.strW = 0), 267),
   (pool && decide (g.oH = 0), 160), (pool && decide (g.oW = 0), 176),
   (sized && decide (g.outH = 0), 208), (sized && decide (g.outW = 0), 224), (decide (g.op = 0x0203 ∧ g.rois = 0), 304),
   (regroup && decide (g.block = 0), 286), (regroup && decide (g.xf ≠ g.yf), 320),
   (regroup && decide (g.fn = 0 ∧ g.inH % g.b ≠ 0), 160), (regroup && decide (g.fn = 0 ∧ g.inW % g.b ≠ 0), 176),
   (regroup && decide (g.fn = 1 ∧ g.c % (g.b * g.b) ≠ 0), 192),
   (regroup && decide (fmtWidth (fmtCode g.xf) = 4 ∧ g.c % 2 ≠ 0), 192),
   (regroup && decide (fmtWidth (fmtCode g.xf) = 6 ∧ g.c % 4 ≠ 0), 192)]

end Img

/-- A format byte that the image operators admit (R127). -/
def imgFmt (f : Nat) : Bool := fmtOut f && !fmtBS f

/-- Checks of the image operators. -/
def imgInfo (op : Nat) (d : Desc) : OpInfo :=
  let g := imgOf op d
  let uses : List HUse :=
    [{ lo := 64, bytes := fmtBytes (fmtCode g.xf) (g.batch * g.inH * g.inW * g.c) },
     { lo := 96, out := true, bytes := fmtBytes (fmtCode g.yf) g.yElems }]
    ++ (if op = 0x0203 then [{ lo := 128, bytes := 24 * g.rois }] else [])
  { reserved := [(511, 344), (303, 289), fmtReserved 320, fmtReserved 328, cvtReserved 336],
    fmt := firstFail [fmtFail (imgFmt g.xf) 320, fmtFail (imgFmt g.yf) 328],
    bad := badBits (g.outOfRange ++ g.mustBeZero),
    barWeights := true,
    clash := clashes d uses (fun _ _ => false),
    uses := uses }

/-! ## Tiles (R132): whole output rows of one image or region -/

/-- Tiles of one image; the spec gives only that a tile holds whole rows of one image. -/
def Img.perImage (g : Img) (e : Nat) : Nat := rowTiles g.oH (cdiv e g.images)

def Img.tiles (g : Img) (e : Nat) : Nat := g.images * g.perImage e

/-! ## Arithmetic -/

/-- The exact quotient n / d as FP32, rounded to nearest even. -/
def ratFv (n d : Nat) : Fv :=
  let k := d.log2 + 60
  let q := n * 2 ^ k / d
  let sticky := if n * 2 ^ k % d = 0 then 0 else 1
  Fv.round { v := .fin false (2 * q + sticky) (-(k : Int) - 1) }

/-- A source coordinate as an exact fraction. -/
structure Coord where
  num : Int
  den : Nat
deriving DecidableEq, Repr

def Coord.floor (x : Coord) : Int := x.num / (x.den : Int)
/-- f of R129. -/
def Coord.frac (x : Coord) : Fv := ratFv (x.num % (x.den : Int)).toNat x.den

/-- A coordinate clamped to 0 .. n − 1 (R130). -/
def Coord.clamp (x : Coord) (n : Nat) : Coord :=
  if x.num ≤ 0 then { num := 0, den := 1 } else if ((n - 1 : Nat) : Int) * x.den ≤ x.num then { num := ((n - 1 : Nat) : Int), den := 1 } else x

def clampIdx (i : Int) (n : Nat) : Nat := if i < 0 then 0 else min i.toNat (n - 1)

/-- x of R129. -/
def resizeCoord (align : Bool) (d n out : Nat) : Coord :=
  if align then (if out ≤ 1 then { num := 0, den := 1 } else { num := (d * (n - 1) : Nat), den := out - 1 })
  else { num := ((2 * d + 1) * n : Nat) - (out : Int), den := 2 * out }

/-- The coordinate of a crop sample between `a` and `b` (R130), none where it is no number: an end is NaN, or infinities
meet. With COORD 1 and one output the spec's quotient has no value, and the coordinate is free. -/
def cropCoord (align : Bool) (a b : Num) (o n out : Nat) : Option Coord :=
  match a, b with
  | .fin sa ma ea, .fin sb mb eb =>
    let k := min (min ea eb) 0
    let A := Num.scaledInt sa ma ea k
    let B := Num.scaledInt sb mb eb k
    let D : Nat := 2 ^ (-k).toNat
    if align then
      if out ≤ 1 then some { num := (Config.fn 0x201 [f32Bits a, f32Bits b] % n : Nat), den := 1 }
      else some { num := A * (out - 1 : Nat) + (o : Int) * (B - A), den := D * (out - 1) }
    else some { num := A * (2 * out : Nat) + (2 * o + 1 : Nat) * (B - A) - (out * D : Nat), den := 2 * out * D }
  | .nan, _ => none
  | _, .nan => none
  | .inf _, _ => none
  | .fin _ _ _, .inf s => if align ∧ o = 0 then none else some { num := if s then -2 else (n : Int) + 2, den := 1 }

/-- Bilinear interpolation of four sources with FP32 weights (R129). The spec does not give the order of the
operations: which of three orders an implementation uses is a constant of Config. -/
def bilinear (p00 p01 p10 p11 fy fx : Fv) : Fv :=
  let one : Fv := { v := Num.ofInt 1 }
  let gy := one.sub fy
  let gx := one.sub fx
  let which := Config.fn 0x200 [] % 3
  if which = 0 then (((p00.mul gx).add (p01.mul fx)).mul gy).add (((p10.mul gx).add (p11.mul fx)).mul fy)
  else if which = 1 then (((p00.mul gy).add (p10.mul fy)).mul gx).add (((p01.mul gy).add (p11.mul fy)).mul fx)
  else (((p00.mul (gy.mul gx)).add (p01.mul (gy.mul fx))).add (p10.mul (fy.mul gx))).add (p11.mul (fy.mul fx))

/-- One POOL output from the values of its window inside the input, in ascending order (R128). -/
def poolValue (g : Img) (vs : List Num) : Fv :=
  match vs with
  | [] => Fv.zero
  | _ =>
    let count := if g.fn = 2 then g.kh * g.kw else vs.length
    let avg := fun (sum : Fv) => sum.mul (ratFv 1 count)
    if isIntFmt (fmtCode g.xf) then
      let is := vs.map Num.toInt
      if g.fn = 0 ∨ g.fn = 3 then { v := Num.ofInt (is.foldl max (is.headD 0)) }
      else
        let r := is.foldl (fun a i => addWrap a (i, 0)) (0, 0)
        avg (fvOfInt (g.cvt.testBit 0) r.1 r.2)
    else
      let fs : List Fv := vs.map fun v => Fv.round { v := v }
      match fs with
      | [] => Fv.zero
      | a :: as => if g.fn = 0 ∨ g.fn = 3 then as.foldl fvMax a else avg (as.foldl Fv.add a)

namespace Work

/-- Pixel indices of an image row range, for POOL: the window of an output position inside the input. -/
def windowOf (g : Img) (n oh ow : Nat) : List Nat :=
  if g.global then (List.range (g.inH * g.inW)).map fun i => n * g.inH * g.inW + i
  else (List.range (g.kh * g.kw)).filterMap fun t =>
    let ih : Int := (oh * g.strH + t / g.kw : Nat) - (g.padT : Int)
    let iw : Int := (ow * g.strW + t % g.kw : Nat) - (g.padL : Int)
    if 0 ≤ ih ∧ ih < g.inH ∧ 0 ≤ iw ∧ iw < g.inW then some ((n * g.inH + ih.toNat) * g.inW + iw.toNat) else none

/-- Reads all channels of pixels. -/
def pixels (w : Work) (g : Img) (ps : List Nat) : NMap (List Num) × Work := w.gather g.x g.xf g.c 0 g.c 0 ps []

/-- Writes the channels of one output pixel. -/
def putPixel (w : Work) (g : Img) (d : Desc) (pix : Nat) (vs : List Fv) : Work :=
  w.writeElems g.y g.yf g.cvt (pix * g.oC) vs g.yElems 0 0 (State.toSerai d 0)

/-- One output row of POOL. -/
def poolRow (w : Work) (g : Img) (d : Desc) (n oh : Nat) : Work :=
  (List.range g.oW).foldl (fun w ow =>
    let ps := windowOf g n oh ow
    let px := w.pixels g ps
    let vs := (List.range g.c).map fun ch => poolValue g (ps.map fun p => (NMap.get [] px.1 p).getD ch Num.zero)
    px.2.putPixel g d ((n * g.oH + oh) * g.oW + ow) vs) w

/-- The channels at a bilinear sample of image `n`. -/
def sample (w : Work) (g : Img) (n : Nat) (y x : Coord) : List Fv × Work :=
  let at_ := fun (dy dx : Int) => (n * g.inH + clampIdx (y.floor + dy) g.inH) * g.inW + clampIdx (x.floor + dx) g.inW
  let px := w.pixels g [at_ 0 0, at_ 0 1, at_ 1 0, at_ 1 1]
  let v := fun (p ch : Nat) => fvOperand g.cvt g.xf ((NMap.get [] px.1 p).getD ch Num.zero)
  ((List.range g.c).map fun ch => bilinear (v (at_ 0 0) ch) (v (at_ 0 1) ch) (v (at_ 1 0) ch) (v (at_ 1 1) ch) y.frac x.frac, px.2)

/-- One output row of RESIZE. -/
def resizeRow (w : Work) (g : Img) (d : Desc) (n oh : Nat) : Work :=
  let y := resizeCoord g.coord oh g.inH g.outH
  (List.range g.oW).foldl (fun w ow =>
    let x := resizeCoord g.coord ow g.inW g.outW
    let r : List Fv × Work :=
      if g.fn = 1 then w.sample g n y x
      else
        let near := fun (c : Coord) (k : Nat) => clampIdx ((2 * c.num + c.den) / (2 * c.den : Nat)) k
        let p := (n * g.inH + near y g.inH) * g.inW + near x g.inW
        let px := w.pixels g [p]
        ((NMap.get [] px.1 p).map fun v => if isIntFmt (fmtCode g.xf) then { v := v } else Fv.round { v := v }, px.2)
    r.2.putPixel g d ((n * g.oH + oh) * g.oW + ow) r.1) w

/-- One output row of CROP region `r` (R130). -/
def cropRow (w : Work) (g : Img) (d : Desc) (r oh : Nat) : Work :=
  let rec_ := w.read g.aux (24 * r) 24
  let w := rec_.2
  let n := field rec_.1 0 2
  let at_ := fun (o : Nat) => decodeElem 0xC (field rec_.1 o 4)
  let zeros : List Fv := List.replicate g.c Fv.zero
  let nan := [4, 8, 12, 16].any fun o => (at_ o).isNan
  let w := if g.batch ≤ n then w.fail St.indexOutOfRange r else if nan then w.flag flINV else w
  (List.range g.oW).foldl (fun w ow =>
    let pix := (r * g.oH + oh) * g.oW + ow
    if g.batch ≤ n ∨ nan then w.putPixel g d pix zeros
    else match cropCoord g.coord (at_ 4) (at_ 12) oh g.inH g.outH, cropCoord g.coord (at_ 8) (at_ 16) ow g.inW g.outW with
      | some y, some x =>
        let outside := fun (c : Coord) (k : Nat) => decide (c.num < -(c.den : Int) ∨ (k : Int) * c.den < c.num)
        if outside y g.inH || outside x g.inW then w.putPixel g d pix zeros
        else
          let v := w.sample g n (y.clamp g.inH) (x.clamp g.inW)
          v.2.putPixel g d pix v.1
      | _, _ => (w.flag flINV).putPixel g d pix zeros) w

/-- One output row of REGROUP: element codes move unchanged (R131). -/
def regroupRow (w : Work) (g : Img) (d : Desc) (n oh : Nat) : Work :=
  let b := g.b
  (List.range g.oW).foldl (fun w ow =>
    let out := ((n * g.oH + oh) * g.oW + ow) * g.oC
    if g.fn = 0 then
      (List.range (b * b)).foldl (fun w uv =>
        let src := ((n * g.inH + b * oh + uv / b) * g.inW + b * ow + uv % b) * g.c
        let r := w.readCodes g.x (fmtCode g.xf) src g.c
        r.2.writeCodes g.y (fmtCode g.yf) (out + uv * g.c) r.1 g.yElems (State.toSerai d 0)) w
    else
      let src := ((n * g.inH + oh / b) * g.inW + ow / b) * g.c + (oh % b * b + ow % b) * g.oC
      let r := w.readCodes g.x (fmtCode g.xf) src g.oC
      r.2.writeCodes g.y (fmtCode g.yf) out r.1 g.yElems (State.toSerai d 0)) w

/-- An image operator, tile by tile. -/
def image (op : Nat) (row : Work → Img → Desc → Nat → Nat → Work) (w : Work) (d : Desc) : Work :=
  let g := imgOf op d
  let k := g.perImage d.engineCount
  let w := w.tiles d fun w t =>
    let r := rowsOfTile g.oH k (t % k)
    (List.range r.2).foldl (fun w i => row w g d (t / k) (r.1 + i)) w
  w.settleState g.y

end Work

/-- POOL (R128). -/
def execPool (q n : Nat) (s : State) : Out := .next (s.runDesc q n (· = 0x0201) (Work.image 0x0201 Work.poolRow))

/-- RESIZE (R129). -/
def execResize (q n : Nat) (s : State) : Out := .next (s.runDesc q n (· = 0x0202) (Work.image 0x0202 Work.resizeRow))

/-- CROP (R130). -/
def execCrop (q n : Nat) (s : State) : Out := .next (s.runDesc q n (· = 0x0203) (Work.image 0x0203 Work.cropRow))

/-- REGROUP (R131). -/
def execRegroup (q n : Nat) (s : State) : Out := .next (s.runDesc q n (· = 0x0204) (Work.image 0x0204 Work.regroupRow))

end Sys2Proof.Machine
end

