-- ==== Sys2Proof/Machine/Planner.lean ====
section
/-! DEFINITION. The motion planner, 0x0900 to 0x0903 (R295 to R309): worlds, lattices, grants, search rounds, the final
phase and the response. -/

namespace Sys2Proof.Machine

open Sys2Proof

/-! ## REAL32 arithmetic -/

/-- A number rounded to FP32. -/
def r32 (x : Num) : Num := (Fv.round { v := x }).v

def fAdd (a b : Num) : Num := r32 (a.add b)
def fSub (a b : Num) : Num := r32 (a.sub b)
def fMul (a b : Num) : Num := r32 (a.mul b)

/-- The quotient rounded to FP32. -/
def fDiv : Num → Num → Num
  | .nan, _ => .nan
  | _, .nan => .nan
  | .inf _, .inf _ => .nan
  | .inf s, .fin t _ _ => .inf (s != t)
  | .fin _ _ _, .inf _ => Num.zero
  | .fin s m e, .fin t k j =>
    if k = 0 then (if m = 0 then .nan else .inf (s != t))
    else
      let b := k.log2 + 60
      let sticky := if m * 2 ^ b % k = 0 then 0 else 1
      r32 (.fin (s != t) (2 * (m * 2 ^ b / k) + sticky) (e - j - b - 1))

/-- The integer square root, bit by bit. -/
def isqrt (n : Nat) : Nat :=
  (List.range (n.log2 / 2 + 1)).foldr (fun i r =>
    let c := r + 2 ^ i
    if c * c ≤ n then c else r) 0

/-- The square root rounded to FP32. -/
def fSqrt : Num → Num
  | .fin false m e =>
    let k : Nat := 120 + (e % 2).toNat
    let n := m * 2 ^ k
    let q := isqrt n
    r32 (.fin false (2 * q + (if q * q = n then 0 else 1)) ((e - k) / 2 - 1))
  | .inf false => .inf false
  | .fin true 0 e => .fin true 0 e
  | _ => .nan

/-- The REAL32 at a byte offset. -/
def real (bs : List Byte) (o : Nat) : Num := decodeElem 0xC (field bs o 4)

def fMin (a b : Num) : Num := if b.lt a then b else a

/-- Cosine and sine: the spec gives the planner's functions no accuracy, so their values are constants of Config but at 0
(0x500, 0x501). -/
def fCos (x : Num) : Num := if x.isZero then Num.ofInt 1 else decodeElem 0xC (Config.fn 0x500 [f32Bits x] % 4294967296)
def fSin (x : Num) : Num := if x.isZero then Num.zero else decodeElem 0xC (Config.fn 0x501 [f32Bits x] % 4294967296)

/-- π in units of 10⁻⁴⁰. -/
def piUnits : Nat := 31415926535897932384626433832795028841972

/-- n × 2π / d as FP32. -/
def turn (n : Int) (d : Nat) : Num :=
  let v := (ratFv (n.natAbs * 2 * piUnits) (d * 10 ^ 40)).v
  if n < 0 then v.neg else v

/-- A finite number as an integer over 2^k, with `k` large enough for every FP32. -/
def fixed160 : Num → Int
  | .fin s m e => Num.scaledInt s m e (-160)
  | _ => 0

/-! ## The world (Table PLN-1, R296) -/

def worldW (wd : List Byte) : Nat := field wd 0 2
def worldH (wd : List Byte) : Nat := field wd 2 2
def worldSlices (wd : List Byte) : Nat := field wd 4 1
def worldDt (wd : List Byte) : Nat := field wd 6 2
def worldGen (wd : List Byte) : Nat := field wd 20 4

/-- Bytes of a layer, and of the whole world. -/
def layerBytes (wd : List Byte) : Nat := 2 * worldW wd * worldH wd
def worldBytes (wd : List Byte) : Nat := 64 + layerBytes wd * (1 + worldSlices wd)

/-- A value lies in a closed range whose ends are n / d, rounded to FP32. -/
def inRange (x : Num) (ln ld hn hd : Nat) : Bool :=
  !x.isNan && !x.lt (ratFv ln ld).v && !(ratFv hn hd).v.lt x

/-- A header inside the ranges of Table PLN-1, whose world fits a tensor. -/
def worldOk (wd : List Byte) (bytes : Nat) : Bool :=
  decide (16 ≤ worldW wd ∧ worldW wd ≤ 512 ∧ 16 ≤ worldH wd ∧ worldH wd ≤ 512 ∧ 1 ≤ worldSlices wd ∧ worldSlices wd ≤ 32
    ∧ 50 ≤ worldDt wd ∧ worldDt wd ≤ 500 ∧ worldBytes wd ≤ bytes) && inRange (real wd 8) 1 20 2 5

/-- A bilinear read of a layer at cell coordinates. -/
def layerRead (wd : List Byte) (k : Nat) (u v : Num) : Num :=
  let w := worldW wd
  let h := worldH wd
  let D : Nat := 2 ^ 160
  let cu : Coord := { num := fixed160 u, den := D }
  let cv : Coord := { num := fixed160 v, den := D }
  let at_ := fun (dy dx : Int) =>
    let i := clampIdx (cv.floor + dy) h * w + clampIdx (cu.floor + dx) w
    ({ v := Num.ofInt (toSigned 16 (field wd (64 + k * layerBytes wd + 2 * i) 2)) } : Fv)
  (bilinear (at_ 0 0) (at_ 0 1) (at_ 1 0) (at_ 1 1) cv.frac cu.frac).v

/-- The clearance of one disc. -/
def discClearance (wd req : List Byte) (i : Nat) (x y th : Num) (t : Nat) : Num :=
  let off := real req (96 + 8 * i)
  let cell := real wd 8
  let half := ratFv 1 2
  let u := fSub (fDiv (fSub (fAdd x (fMul off (fCos th))) (real wd 12)) cell) half.v
  let v := fSub (fDiv (fSub (fAdd y (fMul off (fSin th))) (real wd 16)) cell) half.v
  let inside := fun (c : Num) (n : Nat) => !c.isNan && !c.isNeg && !(Num.ofInt (n - 1 : Nat)).lt c
  if !(inside u (worldW wd) && inside v (worldH wd)) then .inf true
  else
    let k := min (t / worldDt wd + 1) (worldSlices wd)
    let scale := cell.scale (-8)
    fSub (fMin (fMul (layerRead wd 0 u v) scale) (fMul (layerRead wd k u v) scale)) (real req (100 + 8 * i))

/-- The vehicle's clearance at a pose and a time in ms (R296). -/
def clearanceAt (wd req : List Byte) (x y th : Num) (t : Nat) : Num :=
  (List.range (field req 45 1)).foldl (fun a i => fMin a (discClearance wd req i x y th t)) (.inf false)

/-! ## Requests (Table PLN-5, R299) -/

/-- Points that the horizon allows. -/
def maxPoints (req : List Byte) : Nat := if field req 46 2 = 0 then 0 else field req 48 2 / field req 46 2 + 1

/-- The offset of the first field outside its range. -/
def requestBad (req : List Byte) : Option Nat :=
  let pos := fun (o : Nat) => Num.zero.lt (real req o)
  let nonneg := fun (o : Nat) => !(real req o).isNan && !(real req o).isNeg
  let rad : Num := (ratFv piUnits (10 ^ 40)).v
  let checks : List (Bool × Nat) := [(inRange (real req 12) 0 1 70 1, 12), (inRange (real req 32) 1 20 50 1, 32), (nonneg 40 && !rad.lt (real req 40), 40),
    (decide (field req 44 1 ≠ 0), 44), (decide (1 ≤ field req 45 1 ∧ field req 45 1 ≤ 4), 45),
    (decide (10 ≤ field req 46 2 ∧ field req 46 2 ≤ 100 ∧ maxPoints req ≤ 128), 46),
    (decide (100 ≤ field req 48 2 ∧ field req 48 2 ≤ 10000), 48),
    (pos 52, 52), (pos 56, 56), (pos 60, 60), (pos 64, 64), (pos 68, 68),
    (nonneg 72, 72), (nonneg 76 && !(real req 76).lt (real req 72), 76), (inRange (real req 80) 1 100 1 2, 80),
    (nonneg 84, 84), (nonneg 88, 88), (inRange (real req 92) 1 1 10 1, 92)]
  let discs : List (Bool × Nat) :=
    (List.range (min 4 (field req 45 1))).map fun i => (inRange (real req (100 + 8 * i)) 1 20 5 1, 100 + 8 * i)
  ((checks ++ discs).find? fun c => !c.1).map (·.2)

namespace State

/-- PLN_LANES_RESERVED of a slice. -/
def lanesReserved (s : State) (sl : Nat) : Nat := s.get 0x2901 (sl + 1)

def lanesReservedSum (s : State) : Nat := (List.range 64).foldl (fun a k => a + s.lanesReserved k) 0

def lattice (s : State) (sl id : Nat) : Option (List Byte) := NMap.get none s.pln.lattices (sl * 8 + id)

def setLattice (s : State) (sl id : Nat) (v : Option (List Byte)) : State :=
  { s with pln := { s.pln with lattices := NMap.set none s.pln.lattices (sl * 8 + id) v } }

/-- Bytes of a tensor as they stand, read at acceptance. -/
def peekTensor (s : State) (sl h n : Nat) : List Byte :=
  ({ s := s, q := 0, n := 0, sl := sl, prio := 0, m := .planner sl } : Work).peek h 0 n

end State

/-! ## Checks -/

/-- PLN_PLAN (R295, R298, R299). -/
def planInfo (s : State) (sl : Nat) (d : Desc) : OpInfo :=
  let budget := d.fld 223 192
  let final := d.fld 239 224
  let lanes := d.fld 244 240
  let world := d.fld 159 128
  let req := s.peekTensor sl (d.fld 95 64) 128
  let wd := s.peekTensor sl world 64
  let uses : List HUse :=
    [{ lo := 64, bytes := 128 }, { lo := 96, out := true, bytes := 64 + 32 * maxPoints req }, { lo := 128 },
     { lo := 160, out := true }]
  { reserved := [(511, 256), (247, 245)],
    bad := badBits
      [(decide (budget < 100 ∨ 1000000 < budget), 192), (decide (final < 29), 224), (decide (budget < final), 192),
       (decide (lanes = 0 ∨ 16 < lanes + (s.lanesReservedSum - s.lanesReserved sl)), 240),
       (decide (d.fld 255 248 = 0 ∨ 4 < d.fld 255 248), 248)],
    barWeights := true,
    clash := clashes d uses (fun _ _ => false),
    uses := uses,
    more := match requestBad req with
      | some o => some (St.plnRequestInvalid, o)
      | none =>
        if !worldOk wd (s.tbytes world) then some (St.plnWorldInvalid, 0)
        else if s.lattice sl (d.fld 255 248) = none then some (St.plnLatticeUnknown, 0)
        else none,
    fixed := [leNat req] }

/-- PLN_LATTICE_LOAD. -/
def latticeLoadInfo (d : Desc) : OpInfo :=
  let n := d.fld 111 96
  { reserved := [(511, 112)], bad := badBits [(decide (n = 0 ∨ 16384 < n), 96)], uses := [{ lo := 64, bytes := 64 + 128 * n }] }

/-- PLN_LATTICE_FREE. -/
def latticeFreeInfo (d : Desc) : OpInfo :=
  { reserved := [(511, 72)], bad := badBits [(decide (d.fld 71 64 = 0 ∨ 4 < d.fld 71 64), 64)] }

/-- PLN_OCC_UPDATE. -/
def occInfo (s : State) (sl : Nat) (d : Desc) : OpInfo :=
  let wd := s.peekTensor sl (d.fld 95 64) 64
  let first := d.fld 133 128
  let count := d.fld 139 134
  let uses : List HUse :=
    [{ lo := 64, out := true, bytes := 64 + layerBytes wd * (first + count) }, { lo := 96, bytes := layerBytes wd * count }]
  { reserved := [(511, 140)], bad := badBits [(decide (1 + worldSlices wd < first + count), 128)],
    barWeights := true,
    clash := clashes d uses (fun _ _ => false), uses := uses }

namespace State

/-! ## Lattices (R298) -/

def latticeCount (b : List Byte) : Nat := (b.length - 64) / 128

/-- Records held over all lattices. -/
def latticeRecords (s : State) : Nat :=
  s.pln.lattices.foldl (fun a e => match e.2 with
    | some b => a + latticeCount b
    | none => a) 0

/-- An earlier plan of the slice that names the lattice has not completed. -/
def latticeBusy (s : State) (sl id order : Nat) : Bool :=
  s.que.queues.any fun p => decide (s.queueOwner p.1 = some sl) && p.2.desc.any fun e => match e.2 with
    | some d => decide (d.phase ≠ .done ∧ d.opcode s.compat = 0x0900 ∧ d.fld 255 248 = id ∧ d.order < order) && !d.rejected
    | none => false

end State

/-- The first record of a lattice whose heading bins or speed classes are out of range. -/
def latticeBad (b : List Byte) (n : Nat) : Option Nat :=
  (List.range n).find? fun i =>
    let v := fun (o : Nat) => field b (64 + 128 * i + o) 1
    decide (71 < v 0 ∨ 7 < v 1 ∨ 71 < v 2 ∨ 7 < v 3)

namespace Work

/-- PLN_LATTICE_LOAD. -/
def latticeLoad (w : Work) (d : Desc) : Work :=
  let n := d.fld 111 96
  let ids := [1, 2, 3, 4].filter fun i => decide (w.s.lattice w.sl i = none)
  if 16384 < w.s.latticeRecords + n ∨ ids = [] then w.fail St.plnLatticeFull 0
  else
    let r := w.read (d.fld 95 64) 0 (64 + 128 * n)
    if r.2.st ≠ 0 then r.2
    else match latticeBad r.1 n with
      | some i => r.2.fail St.plnLatticeInvalid i
      | none => match r.2.s.pick .handle ids with
        | (some id, s) => { r.2 with s := s.setLattice w.sl id (some r.1), det := id }
        | (none, s) => { r.2 with s := s }

/-- PLN_LATTICE_FREE. -/
def latticeFree (w : Work) (d : Desc) : Work :=
  let id := d.fld 71 64
  if w.s.lattice w.sl id = none then w.fail St.plnLatticeUnknown 0 else { w with s := w.s.setLattice w.sl id none }

/-- PLN_OCC_UPDATE (R297): layer by layer, GEN counted as each completes. -/
def occUpdate (w : Work) (d : Desc) : Work :=
  let world := d.fld 95 64
  let hd := w.read world 0 64
  let n := layerBytes hd.1
  let w := (List.range (d.fld 139 134)).foldl (fun w i =>
    let r := w.read (d.fld 127 96) (i * n) n
    let w := r.2.output world (64 + (d.fld 133 128 + i) * n) r.1
    let g := w.read world 20 4
    g.2.write world 20 (leBytes 4 ((leNat g.1 + 1) % 4294967296))) hd.2
  w.settleState world

end Work

/-! ## Search (R301 to R305) -/

namespace Plan

def hardMargin (p : Plan) : Num := real p.req 72

/-- The end of the search window, TB1. -/
def windowEnd (p : Plan) : Nat := p.start + 1000 * p.budgetUs - 1000 * p.finalUs

/-- Exact position of a place `d` (1/256 m) from the start. -/
def px (p : Plan) (d : Int) : Num := (real p.req 0).add ((Num.ofInt d).scale (-8))
def py (p : Plan) (d : Int) : Num := (real p.req 4).add ((Num.ofInt d).scale (-8))

/-- The nearest heading bin (R302). -/
def startBin (p : Plan) : Nat :=
  let th := fixed160 (real p.req 8)
  let u : Int := piUnits * 2 ^ 160
  (((2 * 36 * th * 10 ^ 40 + u) / (2 * u)) % 72).toNat

/-- The highest speed class not above START_SPEED; class 0 where every class is above it. -/
def startClass (p : Plan) (lat : List Byte) : Nat :=
  ((List.range 8).filter fun c => !(real p.req 12).lt (real lat (4 + 4 * c))).foldl max 0

/-- A coordinate rounded to RES; open where RES is no positive number (0x502). -/
def cellKey (lat : List Byte) (x : Num) : Int :=
  let res := real lat 0
  match x, res with
  | .fin s m e, .fin false k j =>
    if k = 0 then Config.fn 0x502 [f32Bits x]
    else
      let lo := min e j
      let a := Num.scaledInt s m e lo
      let b := Num.scaledInt false k j lo
      (2 * a + b) / (2 * b)
  | _, _ => Config.fn 0x502 [f32Bits x]

/-- The straight-line distance to the goal centre, squared and exact. -/
def goalDist2 (p : Plan) (dx dy : Int) : Num :=
  let a := (p.px dx).sub (real p.req 24)
  let b := (p.py dy).sub (real p.req 28)
  (a.mul a).add (b.mul b)

/-- The goal region (R304). -/
def inGoal (p : Plan) (dx dy : Int) (heading cls : Nat) : Bool :=
  let tol := real p.req 32
  let u : Int := 72 * piUnits * 2 ^ 160
  let a := (heading * piUnits * 2 ^ 160 - 36 * fixed160 (real p.req 36) * 10 ^ 40) % u
  !(tol.mul tol).lt (p.goalDist2 dx dy)
    && decide (min a (u - a) ≤ 36 * fixed160 (real p.req 40) * 10 ^ 40)
    && (field p.req 44 1).testBit cls

/-- H_WEIGHT × h (R303). -/
def weighted (p : Plan) (lat : List Byte) (dx dy : Int) : Num :=
  fMul (real p.req 92) (fDiv (fSqrt (p.goalDist2 dx dy)) (real lat 32))

def keyOf (p : Plan) (lat : List Byte) (dt : Nat) (dx dy : Int) (heading cls t : Nat) : List Int :=
  [cellKey lat (p.px dx), cellKey lat (p.py dy), heading, cls, (t / dt : Nat)]

/-- A state with its f and kind. -/
def node (p : Plan) (lat : List Byte) (dt : Nat) (dx dy : Int) (heading cls t : Nat) (g : Num) (parent prim : Nat) (start : Bool) : PNode :=
  let goal := !start && p.inGoal dx dy heading cls
  let f := if goal then g else fAdd g (p.weighted lat dx dy)
  { dx := dx, dy := dy, heading := heading, cls := cls, t := t, g := f32Bits g, f := f32Bits f, parent := parent, prim := prim,
    key := p.keyOf lat dt dx dy heading cls t,
    kind := if goal then 3 else if !start && decide (field p.req 48 2 ≤ t) then 4 else 0 }

/-- The start state of the search. -/
def root (p : Plan) (lat : List Byte) (dt : Nat) : PNode := p.node lat dt 0 0 p.startBin (p.startClass lat) 0 Num.zero 0 0 true

/-- The clearances of a primitive's 12 samples from a state. -/
def sampleClearances (p : Plan) (wd lat : List Byte) (x : PNode) (i : Nat) : List Num :=
  (List.range 12).map fun k =>
    let o := 64 + 128 * i + 32 + 8 * k
    let sx := toSigned 16 (field lat o 2)
    let sy := toSigned 16 (field lat (o + 2) 2)
    clearanceAt wd p.req (p.px (x.dx + sx)) (p.py (x.dy + sy)) (turn (toSigned 16 (field lat (o + 4) 2)) 65536)
      (x.t + field lat (o + 6) 2)

/-- The successor of state number `at_` by primitive `i`, none where the primitive collides. -/
def successor (p : Plan) (wd lat : List Byte) (x : PNode) (at_ i : Nat) : Option PNode :=
  let o := 64 + 128 * i
  let cs := p.sampleClearances wd lat x i
  if cs.any fun c => c.lt p.hardMargin then none
  else
    let dur := field lat (o + 8) 2
    let short := cs.foldl (fun a c => fAdd a (let m := fSub (real p.req 76) c; if Num.zero.lt m then m else Num.zero)) Num.zero
    let cost := fAdd (fAdd (real lat (o + 12)) (fDiv (fMul (real p.req 88) (Num.ofInt dur)) (Num.ofInt 1000)))
      (fMul (real p.req 84) short)
    some (p.node lat (worldDt wd) (x.dx + toSigned 16 (field lat (o + 4) 2)) (x.dy + toSigned 16 (field lat (o + 6) 2))
      (field lat (o + 2) 1) (field lat (o + 3) 1) (x.t + dur) (fAdd (decodeElem 0xC x.g) cost) (at_ + 1) i false)

def codeLt (a b : Nat) : Bool := (decodeElem 0xC a).lt (decodeElem 0xC b)

/-- States that occupy the scratch tensor. -/
def live (p : Plan) : Nat := (p.nodes.filter fun x => decide (x.kind ≠ 2)).length

/-- Merges a generated state (R302); a new one without room in scratch ends the search (R305). -/
def merge (p : Plan) (cap : Nat) (x : PNode) : Plan :=
  if p.stateFull then p
  else match p.nodes.findIdx? fun y => decide (y.kind ≠ 2 ∧ y.key = x.key) with
    | some j => match p.nodes[j]? with
      | some y => if codeLt x.g y.g then { p with nodes := p.nodes.set j { y with kind := 2 } ++ [x] } else p
      | none => p
    | none => if cap ≤ p.live then { p with stateFull := true, timeLimited := true } else { p with nodes := p.nodes ++ [x] }

/-- Insertion of a state number by f, then by generation. -/
def insertBy (before : Nat → Nat → Bool) (i : Nat) : List Nat → List Nat
  | [] => [i]
  | j :: js => if before i j then i :: j :: js else j :: insertBy before i js

def sortBy (before : Nat → Nat → Bool) (l : List Nat) : List Nat := l.foldl (fun a i => insertBy before i a) []

def nodeAt (p : Plan) (i : Nat) : PNode :=
  p.nodes.getD i { dx := 0, dy := 0, heading := 0, cls := 0, t := 0, g := 0, f := 0, key := [] }

def numbers (p : Plan) (ok : PNode → Bool) : List Nat := (List.range p.nodes.length).filter fun i => ok (p.nodeAt i)

/-- Open states by lowest f. -/
def openList (p : Plan) : List Nat :=
  sortBy (fun i j => codeLt (p.nodeAt i).f (p.nodeAt j).f) (p.numbers fun x => decide (x.kind = 0))

/-- The candidates kept, ranked 0 to 7 (R304). -/
def candidates (p : Plan) : List Nat :=
  (sortBy (fun i j =>
    let a := p.nodeAt i
    let b := p.nodeAt j
    decide (a.kind < b.kind) || (decide (a.kind = b.kind) && codeLt a.f b.f)) (p.numbers fun x => decide (x.kind = 3 ∨ x.kind = 4))).take 8

/-- The search is complete (R305). -/
def complete (p : Plan) : Bool :=
  match p.openList, p.candidates with
  | [], _ => true
  | i :: _, c :: _ => !codeLt (p.nodeAt i).f (p.nodeAt c).f
  | _, [] => false

/-- Primitives of the lattice that leave a state, in order. -/
def leaving (lat : List Byte) (x : PNode) : List Nat :=
  (List.range (State.latticeCount lat)).filter fun i =>
    decide (field lat (64 + 128 * i) 1 = x.heading ∧ field lat (64 + 128 * i + 1) 1 = x.cls)

/-- One round: each lane takes an open state; the successors merge in lane order, then primitive order (R303). -/
def round (p : Plan) (wd lat : List Byte) (cap : Nat) : Plan :=
  let taken := p.openList.take p.lanes
  let succ := taken.flatMap fun i => (leaving lat (p.nodeAt i)).filterMap fun k => p.successor wd lat (p.nodeAt i) i k
  let nodes := taken.foldl (fun ns i => ns.set i { p.nodeAt i with kind := 1 }) p.nodes
  let p := { p with nodes := nodes, rounds := p.rounds + 1, expansions := p.expansions + taken.length }
  let p : Plan := succ.foldl (fun p x => p.merge cap x) p
  if p.stateFull ∨ p.complete then { p with phase := 2 } else p

end Plan

namespace State

def plan (s : State) (q n : Nat) : Option Plan := s.pln.plans.find? fun p => decide (p.q = q ∧ p.n = n)

def setPlan (s : State) (p : Plan) : State :=
  { s with pln := { s.pln with plans := s.pln.plans.map fun x => if x.q = p.q ∧ x.n = p.n then p else x } }

def planWork (s : State) (p : Plan) : Work :=
  { s := s, q := p.q, n := p.n, sl := p.slice, prio := p.prio, m := .planner p.slice, st := p.status, det := p.detail }

/-- The world as it stands. -/
def planWorld (s : State) (p : Plan) : List Byte × Work :=
  let hd := (s.planWork p).peek p.world 0 64
  (s.planWork p).read p.world 0 (worldBytes hd)

/-- PLN_PLAN: the plan waits for its grant. -/
def planBegin (s : State) (q n : Nat) : State :=
  match s.readyDirect q n (· = 0x0900) with
  | (none, s) => s
  | (some d, s) =>
    if (s.plan q n).isSome then s
    else
      let p : Plan := { q := q, n := n, slice := s.queueSlice q, prio := (s.queue q).priority, order := d.order,
                        lanes := d.fld 244 240, lattice := d.fld 255 248, budgetUs := d.fld 223 192, finalUs := d.fld 239 224,
                        world := d.fld 159 128, resp := d.fld 127 96, scratch := d.fld 191 160, req := leBytes 128 (d.data.headD 0) }
      { s with pln := { s.pln with plans := s.pln.plans ++ [p] } }

/-! ## Grants (R300) -/

/-- Lanes that no plan holds and no self-test claims. -/
def lanesFree (s : State) : List Nat :=
  (List.range 16).filter fun l => !(s.pln.plans.any fun p => p.held.contains l) && !s.droneHolds (128 + l)

/-- Lanes that a slice's plans hold. -/
def lanesUsed (s : State) (sl : Nat) : Nat :=
  (s.pln.plans.filter fun p => decide (p.slice = sl)).foldl (fun a p => a + p.held.length) 0

/-- Lanes kept for the other slices' reservations. -/
def lanesKept (s : State) (sl : Nat) : Nat :=
  ((List.range 64).filter (· ≠ sl)).foldl (fun a k => a + (s.lanesReserved k - s.lanesUsed k)) 0

/-- The waiting plan that comes first: queue priority, then acceptance. -/
def nextPlan (s : State) : Option Plan :=
  (s.pln.plans.filter fun p => decide (p.phase = 0)).foldl (fun (a : Option Plan) p => match a with
    | none => some p
    | some b => if b.prio < p.prio ∨ (b.prio = p.prio ∧ p.order < b.order) then some p else some b) none

/-- The lowest clearance along the stop and its time: the start pose is known, what lies further along the stop needs
functions of no stated accuracy and is free. -/
def stopCheck (w : Work) (p : Plan) (wd : List Byte) : Plan × Work :=
  let c0 := clearanceAt wd p.req (real p.req 0) (real p.req 4) (real p.req 8) 0
  let v := w.freeVal .result
  let t := v.2.freeVal .result
  let c := decodeElem 0xC (v.1 % 4294967296)
  if c.lt c0 then ({ p with stopMin := v.1 % 4294967296, stopT := t.1 % 4294967296 }, t.2)
  else ({ p with stopMin := f32Bits c0, stopT := 0 }, t.2)

/-- Grants the next plan its lanes; START is now (R300, R301). -/
def planGrant (s : State) : State :=
  match s.nextPlan with
  | none => s
  | some p =>
    let free := s.lanesFree
    if free.length < p.lanes + s.lanesKept p.slice then s
    else
      let lat := (s.lattice p.slice p.lattice).getD []
      let w := s.planWorld p
      let p := { p with held := free.take p.lanes, start := s.now, phase := 1, genSearch := worldGen w.1, nodes := [p.root lat (worldDt w.1)] }
      let r := stopCheck w.2 p w.1
      r.2.s.setPlan { r.1 with status := r.2.st, detail := r.2.det }

/-- A search round of a plan whose window is open. -/
def searchRound (s : State) (q n : Nat) : State :=
  match s.plan q n with
  | none => s
  | some p =>
    if p.phase ≠ 1 ∨ p.windowEnd ≤ s.now then s
    else
      let w := (s.count 314 1 |>.countFree 313).planWorld p
      let lat := (s.lattice p.slice p.lattice).getD []
      let p := p.round w.1 lat (s.tbytes p.scratch / 32)
      w.2.s.setPlan { p with status := w.2.st, detail := w.2.det }

/-- The search window is over (R305). -/
def searchExpired (s : State) (q n : Nat) : State :=
  match s.plan q n with
  | none => s
  | some p => if p.phase = 1 ∧ p.windowEnd ≤ s.now then s.setPlan { p with phase := 2, timeLimited := true } else s

end State

/-! ## The final phase (R306 to R309) -/

/-- A point of a trajectory: T, X, Y, HEADING, SPEED, ACCEL, KAPPA as codes of REAL32. -/
abbrev TPoint := List Nat

/-- The point at time 0: the exact start state. -/
def Plan.startPoint (p : Plan) : TPoint :=
  [0, field p.req 0 4, field p.req 4 4, field p.req 8 4, field p.req 12 4, field p.req 16 4, field p.req 20 4]

/-- T of point i. -/
def Plan.pointT (p : Plan) (i : Nat) : Nat := f32Bits (ratFv (i * field p.req 46 2) 1000).v

/-- Points after the first whose values the spec does not state: `n` of them, with KAPPA fixed where it is given. -/
def freePoints (p : Plan) (kappa : Option Nat) : Nat → Nat → Work → List TPoint × Work
  | 0, _, w => ([], w)
  | k + 1, i, w =>
    let r := (List.range 6).foldl (fun (a : List Nat × Work) _ =>
      let v := a.2.freeVal .result
      (a.1 ++ [v.1 % 4294967296], v.2)) (([], w) : List Nat × Work)
    let vs := match kappa with
      | some x => r.1.take 5 ++ [x]
      | none => r.1
    let t := freePoints p kappa k (i + 1) r.2
    ((p.pointT i :: vs) :: t.1, t.2)

/-- A finite REAL32 code in units of 2⁻¹⁴⁹. -/
def finite32 (code : Nat) : Option Int := match decodeElem 0xC code with
  | .fin s m e => some (Num.scaledInt s m e (-149))
  | _ => none

/-- n / d in units of 2⁻¹⁴⁹ as a REAL32 code. -/
def code32 (n : Int) (d : Nat) : Nat :=
  let q := quotient n.natAbs (-149) d 0
  f32Bits (r32 (if n < 0 then q.neg else q))

/-- SPEED and ACCEL of the stop primitive `ms` milliseconds after the start (R301): acceleration goes from START_ACCEL to −D_MAX at
J_MAX and stays there, until the speed has reached 0. None where a number of the request is not finite. -/
def Plan.stopMotion (p : Plan) (ms : Nat) : Option (Nat × Nat) :=
  match finite32 (field p.req 12 4), finite32 (field p.req 16 4), finite32 (field p.req 56 4), finite32 (field p.req 64 4) with
  | some v0, some a0, some D, some J =>
    let n : Int := ms
    let gap := (-D - a0).natAbs
    let up : Int := if -D < a0 then -1 else 1
    -- the speed as a fraction, and the acceleration
    let r : Int × Int × Int × Nat := if J * n ≤ 1000 * gap
      then (2000000 * v0 + 2000 * a0 * n + up * J * n * n, 2000000, 1000 * a0 + up * J * n, 1000)
      else (1000 * (2 * J * v0 + 2 * a0 * gap + up * gap * gap + 2 * D * gap) - 2 * J * D * n, 2000 * J, -D, 1)
    if r.1 ≤ 0 ∧ 0 < ms then some (0, 0) else some (code32 r.1 r.2.1.toNat, code32 r.2.2.1 r.2.2.2)
  | _, _, _, _ => none

/-- The points of the stop after the first: SPEED and ACCEL by R301, KAPPA is START_KAPPA, and the place and heading, which need
functions of no stated accuracy, as they are. -/
def Plan.stopPoints (p : Plan) (ps : List TPoint) : List TPoint := ps.mapIdx fun i x =>
  match p.stopMotion ((i + 1) * field p.req 46 2) with
  | some m => x.take 4 ++ [m.1, m.2] ++ x.drop 6
  | none => x

/-- A number kept between two others; NaN becomes the lower one. -/
def kept (lo hi x : Num) : Num := if x.isNan ∨ x.lt lo then lo else if hi.lt x then hi else x

/-- The time-scaled points of a candidate after one whose ACCEL is `a` (R306): KAPPA as it is, SPEED at most √(A_LAT_MAX / |κ|),
ACCEL within −D_MAX to A_MAX, and within J_MAX of the point before where both can hold. -/
def Plan.timeScaled (p : Plan) : Num → List TPoint → List TPoint
  | _, [] => []
  | a, x :: xs =>
    let num := fun (k : Nat) => decodeElem 0xC (x.getD k 0)
    let step := fMul (real p.req 64) (ratFv (field p.req 46 2) 1000).v
    let lo := (real p.req 56).neg
    let hi := real p.req 52
    let top := fSqrt (fDiv (real p.req 60) (num 6).abs)
    let b := kept lo hi (kept (fSub a step) (fAdd a step) (num 5))
    let v := kept Num.zero (if top.isNan then .inf false else top) (num 4)
    (x.take 4 ++ [f32Bits v, f32Bits b] ++ x.drop 6) :: p.timeScaled b xs

/-- Lowest clearance over the samples of a trajectory, with its T. -/
def Plan.lowest (p : Plan) (wd : List Byte) (ps : List TPoint) : Num × Nat :=
  (ps.mapIdx fun i x =>
    let v := fun (k : Nat) => decodeElem 0xC (x.getD k 0)
    (clearanceAt wd p.req (v 1) (v 2) (v 3) (i * field p.req 46 2), x.headD 0)).foldl
      (fun a b => if b.1.lt a.1 then b else a) (.inf false, 0)

/-- What the final phase puts out. -/
structure Final where
  rank : Nat := 0xFF
  points : List TPoint := []
  cost : Nat := 0
  minC : Nat := 0
  minT : Nat := 0
  goal : Bool := false

/-- Tries the candidates in rank order. A try is smoothed and time-scaled: whether a blend meets SMOOTH_TOL, the points
after the first within the limits of R306 and the clearance between them are free; the check of the samples is R296 against the world as it
stands. `late` is the break of R306; after the first try the time already spent is free. -/
def tryCandidates (p : Plan) (wd : List Byte) (late : Bool) : List (Nat × Nat) → Work → Option Final × Work
  | [], w => (none, w)
  | (rank, i) :: cs, w =>
    let b := w.freeVal .choice
    if late ∨ (0 < rank ∧ b.1 % 2 = 1) then (none, b.2)
    else
      let x := p.nodeAt i
      let k := b.2.freeVal .result
      let ps := freePoints p none (k.1 % maxPoints p.req) 1 k.2
      let all := p.startPoint :: p.timeScaled (real p.req 16) ps.1
      let ok := ps.2.freeVal .choice
      let between := ok.2.freeVal .result
      let bt := between.2.freeVal .result
      let low := p.lowest wd all
      let c := decodeElem 0xC (between.1 % 4294967296)
      let m : Num × Nat := if c.lt low.1 then (c, bt.1 % 4294967296) else low
      if ok.1 % 2 = 0 ∧ !m.1.lt p.hardMargin then
        (some { rank := rank, points := all, cost := x.g, minC := f32Bits m.1, minT := m.2, goal := decide (x.kind = 3) }, bt.2)
      else tryCandidates p wd late cs bt.2

/-- The response record. -/
def response (p : Plan) (f : Final) (status flags genFinal : Nat) : List Byte :=
  leBytes 2 status ++ leBytes 2 flags ++ leBytes 2 f.points.length ++ leBytes 1 f.rank ++ leBytes 1 0
    ++ leBytes 4 p.rounds ++ leBytes 4 p.expansions ++ leBytes 4 f.cost ++ leBytes 4 f.minC ++ leBytes 4 f.minT
    ++ leBytes 4 p.genSearch ++ leBytes 4 genFinal ++ leBytes 4 0 ++ leBytes 8 p.start ++ leBytes 16 0
    ++ f.points.flatMap fun x => x.flatMap (leBytes 4) ++ leBytes 4 0

namespace State

/-- Writes the response and completes the plan, whose lanes are free again. What the search left in its scratch tensor is
its own and free. -/
def planEnd (w : Work) (p : Plan) (f : Final) (status flags genFinal : Nat) : State :=
  let flags := flags + (if p.timeLimited then 2 else 0) + (if p.stateFull then 64 else 0)
    + (if genFinal ≠ p.genSearch then 128 else 0)
  let dirty : List Byte × Work := w.freeBytes (min (w.s.tbytes p.scratch) (32 * p.nodes.length))
  let w : Work := { dirty.2.write p.scratch 0 dirty.1 with undef := decide (w.st ≠ 0) }
  let w : Work := (w.output p.resp 0 (response p f status flags genFinal)).settleState p.resp
  let s := { w.s with pln := { w.s.pln with plans := w.s.pln.plans.filter fun x => decide (x.q ≠ p.q ∨ x.n ≠ p.n) } }
  let s := s.bump 0x2900 1 1 (p.slice + 1)
  let s := if f.rank = 0xFF then s.bump 0x2900 2 1 (p.slice + 1) else s
  let s := if status = St.invalidated then s.bump 0x2900 3 1 (p.slice + 1) else s
  if w.st ≠ 0 then s.finish p.q p.n w.st w.det 0 else s.finish p.q p.n status (flags + f.rank * 65536) 0

/-- The final phase of a plan whose search has ended (R306, R308). -/
def finalPhase (s : State) (q n : Nat) : State :=
  match s.plan q n with
  | none => s
  | some p =>
    if p.phase ≠ 2 then s
    else
      let wd := s.planWorld p
      let gen := worldGen wd.1
      let late := decide (p.start + 1000 * p.budgetUs < s.now + 25000)
      let cs := p.candidates.mapIdx fun r i => (r, i)
      match tryCandidates p wd.1 late cs wd.2 with
      | (some f, w) =>
        planEnd w p f (if p.timeLimited then St.timeLimited else 0)
          ((if f.goal then 1 else 0) + (if 0 < f.rank then 32 else 0)) gen
      | (none, w) =>
        let r := if gen ≠ p.genSearch then stopCheck w p wd.1 else (p, w)
        let p := r.1
        let ps := freePoints p (some (field p.req 20 4)) (maxPoints p.req - 1) 1 r.2
        let f : Final := { points := p.startPoint :: p.stopPoints ps.1, minC := p.stopMin, minT := p.stopT }
        let none_ := decide (cs = [])
        let flag := if none_ then 4 else 16
        let hit := (decodeElem 0xC p.stopMin).lt p.hardMargin
        let status := if hit then St.collisionUnavoidable else if none_ then St.noFreePath else St.invalidated
        planEnd ps.2 p f status (flag + (if hit then 8 else 0)) gen

/-- A write of PLN_LANES_RESERVED. -/
def lanesWrite (s : State) (sub n : Nat) : WRes :=
  if 16 < s.lanesReservedSum - s.get 0x2901 sub + n then .abort (Ab.refusal St.plnLanesOvercommit) else .ok (s.set 0x2901 sub n)

/-- Runs a planner operation once its inputs are there. -/
def runPlanner (s : State) (q n op : Nat) (f : Work → Desc → Work) : State :=
  match s.readyDirect q n (· = op) with
  | (none, s) => s
  | (some d, s) =>
    let w := f { s.startWork q n d with m := .planner (s.queueSlice q) } d
    w.s.finish q n w.st w.det w.fl

end State

/-! ## Commands -/

/-- PLN_PLAN (R299, R300). -/
def execPlnPlan (q n : Nat) (s : State) : Out := .next (s.planBegin q n)

/-- PLAN_GRANT (R300, R301); not in thermal halt, when the lanes issue nothing (R51). -/
def execPlanGrant (s : State) : Out := .next (if s.gov.halt then s else s.planGrant)

/-- SEARCH_ROUND (R302 to R305). -/
def execSearchRound (q n : Nat) (s : State) : Out := .next (if s.gov.halt then s else s.searchRound q n)

/-- SEARCH_WINDOW_EXPIRED (R305). -/
def execSearchWindowExpired (q n : Nat) (s : State) : Out := .next (s.searchExpired q n)

/-- FINAL_PHASE (R306 to R309); held in thermal halt (R51). -/
def execFinalPhase (q n : Nat) (s : State) : Out := .next (if s.gov.halt then s else s.finalPhase q n)

/-- PLN_LATTICE_LOAD (R298). -/
def execPlnLatticeLoad (q n : Nat) (s : State) : Out := .next (s.runPlanner q n 0x0901 Work.latticeLoad)

/-- PLN_LATTICE_FREE (R298): waits for the plans that name the lattice. -/
def execPlnLatticeFree (q n : Nat) (s : State) : Out :=
  .next (match s.readyDirect q n (· = 0x0902) with
    | (none, s) => s
    | (some d, s) =>
      if s.latticeBusy (s.queueSlice q) (d.fld 71 64) d.order then s else s.runPlanner q n 0x0902 Work.latticeFree)

/-- PLN_OCC_UPDATE (R297, R307). -/
def execPlnOccUpdate (q n : Nat) (s : State) : Out := .next (s.runPlanner q n 0x0903 Work.occUpdate)

end Sys2Proof.Machine
end

