-- ==== Sys2Proof/Machine/Acoustic.lean ====
section
/-! DEFINITION. The acoustic engine (R310 to R324): TDM lanes and AAF intake, road-noise cancellation, voice frames,
playback and coefficient sets. -/

namespace Sys2Proof.Machine

open Sys2Proof

namespace State

/-! ## Owners and entries (R313) -/

/-- The owner of cancellation (1), voice separation (2) or playback (3), where it is a slice. -/
def acuOwner (s : State) (fn : Nat) : Option Nat :=
  let k := s.get 0x2A10 fn
  if k < 64 then some k else none

/-- An entry of the owner's occurrence of 0x2A00. -/
def acuGet (s : State) (fn sub : Nat) : Nat := match s.acuOwner fn with
  | some k => s.get 0x2A00 sub (k + 1)
  | none => 0

def setAcu (s : State) (fn sub v : Nat) : State := match s.acuOwner fn with
  | some k => s.set 0x2A00 sub v (k + 1)
  | none => s

def bumpAcu (s : State) (fn sub : Nat) : State := match s.acuOwner fn with
  | some k => s.bump 0x2A00 sub 1 (k + 1)
  | none => s

/-- ANC_STATE, and whether the controller runs (adapting or frozen). -/
def ancState (s : State) : Nat := s.acuGet 1 0x0B
def ancRuns (s : State) : Bool := decide (s.ancState = 1 ∨ s.ancState = 2)
def voiceRuns (s : State) : Bool := decide (s.acuGet 2 0x15 = 1)

/-- Playback has no start command: it runs while its owner's two entries name a ring. -/
def playRuns (s : State) : Bool := decide (s.acuGet 3 0x18 ≠ 0 ∧ s.acuGet 3 0x19 ≠ 0)

/-- Reference axes, error microphones, driven speakers, voice microphones, as channel or speaker numbers. -/
def ancRefs (s : State) : List Nat := (maskBits 16 (s.acuGet 1 1)).map (· + 32)
def ancErrs (s : State) : List Nat := maskBits 32 (s.acuGet 1 2)
def ancSpeakers (s : State) : List Nat := maskBits 24 (s.acuGet 1 3)
def voiceMics (s : State) : List Nat := maskBits 32 (s.acuGet 2 0x10)

/-- INPUT_SRC of a channel and OUTPUT_DST of a speaker. -/
def inputSrc (s : State) (ch : Nat) : Nat := s.get 0x2A11 (ch + 1)
def outputDst (s : State) (k : Nat) : Nat := s.get 0x2A12 (k + 1)

/-- TDM_STATE, and a lane that runs in a direction (1 input, 2 output). -/
def laneRuns (s : State) (lane dir : Nat) : Bool := decide (s.get (0x2A18 + lane) 4 = 1 ∧ s.get (0x2A18 + lane) 1 = dir)

/-- A running function uses the input channel. -/
def inputUsed (s : State) (ch : Nat) : Bool :=
  (s.ancRuns && (s.ancRefs.contains ch || s.ancErrs.contains ch)) || (s.voiceRuns && s.voiceMics.contains ch)

/-- A running function uses the speaker. -/
def outputUsed (s : State) (k : Nat) : Bool := (s.ancRuns && s.ancSpeakers.contains k) || s.playRuns

/-! ## Coefficient sets (R323, R324) -/

def coefSet (s : State) (sl kind : Nat) : Option CoefSet := NMap.get none s.acu.sets (sl * 4 + kind)

/-- The present dimensions of a kind. -/
def coefDims (s : State) (kind : Nat) : List Nat :=
  let S := s.ancSpeakers.length
  if kind = 0 then [S, s.ancErrs.length, s.acuGet 1 5]
  else if kind = 1 then [s.ancRefs.length, S, s.acuGet 1 4]
  else [s.voiceMics.length]

/-- Bytes of a set of the present dimensions. -/
def coefBytes (s : State) (kind : Nat) : Nat :=
  let d := s.coefDims kind
  if kind = 2 then 513 * 4 * d.headD 0 * 8 else d.foldl (· * ·) 4

/-- Bytes of all loaded sets but one. -/
def coefTotalBut (s : State) (key : Nat) : Nat :=
  s.acu.sets.foldl (fun a e => match e.2 with
    | some c => if e.1 = key then a else a + 4 * c.codes.length
    | none => a) 0

def setCoef (s : State) (key : Nat) (c : Option CoefSet) : State :=
  { s with acu := { s.acu with sets := NMap.set none s.acu.sets key c } }

def setShadow (s : State) (key : Nat) (c : Option CoefSet) : State :=
  { s with acu := { s.acu with shadow := NMap.set none s.acu.shadow key c } }

/-- A boundary swaps a waiting set in. -/
def swapCoef (s : State) (key : Nat) : State :=
  match NMap.get none s.acu.shadow key with
  | none => s
  | some c => (s.setCoef key (some c)).setShadow key none

/-- The set has the present dimensions. -/
def coefReady (s : State) (fn kind : Nat) : Bool := match s.acuOwner fn with
  | none => false
  | some k => match s.coefSet k kind with
    | some c => decide (c.dims = s.coefDims kind)
    | none => false

end State

/-- KIND of an ACU_COEF_LOAD, and the function it serves. -/
def Desc.coefKind (d : Desc) : Nat := d.fld 129 128
def coefFn (kind : Nat) : Nat := if kind = 2 then 2 else 1

/-- ACU_COEF_LOAD. -/
def coefInfo (s : State) (sl : Nat) (d : Desc) : OpInfo :=
  let kind := d.coefKind
  { reserved := [(511, 130)], bad := badBits [(decide (kind = 3), 128)], uses := [{ lo := 64, bytes := d.fld 127 96 }],
    more := if s.acuOwner (coefFn kind) = some sl then none else some (St.acuNotOwner, 0) }

/-- Writes the set where no running function uses the present one, else into a shadow copy. -/
def Work.coefLoad (w : Work) (d : Desc) : Work :=
  let kind := d.coefKind
  let key := w.sl * 4 + kind
  let n := d.fld 127 96
  if n ≠ w.s.coefBytes kind then w.fail St.acuCoefInvalid 0
  else if 1572864 < w.s.coefTotalBut key + n then w.fail St.acuLoadExceeded 0
  else
    let r := w.read (d.fld 95 64) 0 n
    let c : CoefSet := { dims := w.s.coefDims kind, codes := (chunks 4 r.1).map leNat }
    let late := (decide (kind = 0) && w.s.ancRuns) || (decide (kind = 2) && w.s.voiceRuns)
    { r.2 with s := if late then r.2.s.setShadow key (some c) else (r.2.s.setShadow key none).setCoef key (some c) }

/-! ## Samples -/

/-- The FP32 code of a two's complement sample of a width: −1 … 1. -/
def sampleIn (width : Nat) (v : Int) : Nat := f32Bits (r32 ((Num.ofInt v).scale (-((width : Int) - 1))))

/-- The sample of a width that an FP32 value becomes: nearest even, saturated; NaN is open. -/
def sampleOut (width : Nat) : Num → Int
  | .nan => toSigned width (Config.fn 0x602 [width] % 2 ^ width)
  | .inf s => if s then -(2 : Int) ^ (width - 1) else (2 : Int) ^ (width - 1) - 1
  | .fin s m e =>
    let k : Int := Num.roundInt false m (e + ((width : Int) - 1))
    if s then max (-(2 : Int) ^ (width - 1)) (-k) else min ((2 : Int) ^ (width - 1) - 1) k

/-- A fade's sample number k (R317): zero from the 480th on; before, a step of a linear ramp whose rounding the spec does
not state. -/
def faded (y k : Nat) : Nat :=
  if 480 ≤ k ∨ (decodeElem 0xC y).isZero then 0 else Config.fn 0x601 [y, k] % 4294967296

/-- One speaker's anti-noise: the sum of the products of taps and references (R315). The order of the FP32 sum is not
stated: with one product that is not zero its rounding is known, with more the sum is a constant of Config. -/
def filterOut (taps xs : List Nat) : Nat :=
  let ps := (taps.zip xs).filter fun p => !((decodeElem 0xC p.1).isZero || (decodeElem 0xC p.2).isZero)
  match ps with
  | [] => 0
  | [p] => f32Bits (fMul (decodeElem 0xC p.1) (decodeElem 0xC p.2))
  | _ => Config.fn 0x600 (taps ++ xs) % 4294967296

namespace State

/-- A new sample of a channel; counts what R319 watches. -/
def enterSample (s : State) (ch v : Nat) : State :=
  let a := s.acu
  let keep := decide (NMap.get 0 a.value ch = v)
  { s with acu := { a with
      value := NMap.set 0 a.value ch v
      same := NMap.set 0 a.same ch (if keep then NMap.get 0 a.same ch + 1 else 0)
      changed := if a.stuck.contains ch ∧ !keep then NMap.set 0 a.changed ch (NMap.get 0 a.changed ch + 1) else a.changed } }

/-- All channels' present codes. -/
def channelFrame (s : State) : ChannelFrame := (List.range 48).map fun ch => NMap.get 0 s.acu.value ch

/-- Block length B in force. -/
def ancBlockLen (s : State) : Nat := s.acuGet 1 6

/-- The controller still produces samples: it runs, or fades. -/
def ancLive (s : State) : Bool := s.ancRuns || decide (s.acu.fade.isSome)

/-- A block boundary of the frame clock (R316): the processed block goes out, and one that is not finished goes out as
zero and is counted; the captured block is up for processing. -/
def ancBoundary (s : State) : State :=
  let a := s.acu
  let zeros : List ChannelFrame := List.replicate s.ancBlockLen (List.replicate 24 0)
  let late := a.result.isNone && a.ready.isSome
  let s := { s with acu := { a with
    sending := a.result.getD zeros, result := none, ready := some a.capture, capture := [] } }
  if late && s.ancRuns then s.bumpAcu 1 0x0C else s

/-- One frame of the cancellation pipeline: the frame's inputs are captured and its anti-noise leaves. -/
def ancFrame (s : State) : ChannelFrame × State :=
  if !s.ancLive then (List.replicate 24 0, s)
  else
    let s := { s with acu := { s.acu with capture := s.acu.capture ++ [s.channelFrame] } }
    let out := s.acu.sending.headD (List.replicate 24 0)
    let s := { s with acu := { s.acu with sending := s.acu.sending.drop 1 } }
    (out, if s.ancBlockLen ≤ s.acu.capture.length then s.ancBoundary else s)

/-- A speaker's sample as its lane's slot carries it: playback plus anti-noise. -/
def speakerOut (s : State) (play anc : ChannelFrame) (k : Nat) : Option (Nat × Nat) :=
  let dst := s.outputDst k
  let lane := bits dst 10 8
  if dst = 0xFFFF ∨ !s.laneRuns lane 2 then none
  else
    let w := s.get (0x2A18 + lane) 3
    some (k, ofSigned w (sampleOut w (fAdd (decodeElem 0xC (play.getD k 0)) (decodeElem 0xC (anc.getD k 0)))))

/-- One TDM frame (R310, R322): inputs enter their channels, outputs leave as playback plus anti-noise. -/
def tdmFrame (s : State) (samples : List (Nat × Nat × Int)) : State :=
  let s := (List.range 48).foldl (fun s ch =>
    let src := s.inputSrc ch
    let lane := bits src 10 8
    if src < 0x8000 ∧ s.laneRuns lane 1 then
      match samples.find? fun p => decide (p.1 = lane ∧ p.2.1 = src % 16) with
      | some p => s.enterSample ch (sampleIn (s.get (0x2A18 + lane) 3) p.2.2)
      | none => s
    else s) s
  let s := if s.voiceRuns then
      let a := s.acu
      { s with acu := { a with
          voiceTimes := if a.voiceFrames % 480 = 0 then a.voiceTimes ++ [s.tb 2] else a.voiceTimes
          voiceFrames := a.voiceFrames + 1 } }
    else s
  let anc := s.ancFrame
  let s := anc.2
  let play := s.acu.play.headD []
  let s := { s with acu := { s.acu with play := s.acu.play.drop 1 } }
  let out := (List.range 24).filterMap (s.speakerOut play anc.1)
  if out = [] then s else s.emit (.audio out)

/-! ## AAF streams (R311) -/

/-- A stream's sample enters its channels: zero where late, else what the asynchronous rate converter makes of it, which is
free. -/
def aafSample (s : State) (stream ch : Nat) (late : Bool) : State :=
  if 15 < stream ∨ s.get 0x2A13 (stream + 1) = 0 ∨ s.acu.ignored.contains stream then s
  else
    let v := if late then (0, s.bump 0x2A10 6) else s.fresh .data
    ((List.range 48).filter fun c => decide (s.inputSrc c = 0x8000 + 16 * stream + ch)).foldl
      (fun s c => s.enterSample c (v.1 % 4294967296)) v.2

/-- The stream's rate is not 48 kHz, or its ratio to TB2 stays out of tolerance. -/
def aafFault (s : State) (stream : Nat) : State :=
  if 15 < stream ∨ s.acu.ignored.contains stream then s
  else ({ s with acu := { s.acu with ignored := s.acu.ignored ++ [stream] } }).addRecord St.acuStreamRate 0x07 (0x10 + stream)

/-! ## Cancellation (R315 to R318) -/

/-- The anti-noise of every driven speaker begins to fade. -/
def beginFade (s : State) (st : Nat) : State := ({ s with acu := { s.acu with fade := some 0 } }).setAcu 1 0x0B st

/-- ANC_CMD. -/
def ancCmd (s : State) (v : Nat) : WRes :=
  if v = 1 then
    let R := s.ancRefs.length
    let S := s.ancSpeakers.length
    let E := s.ancErrs.length
    let L := s.acuGet 1 4
    let P := s.acuGet 1 5
    let B := s.ancBlockLen
    let mapped := (s.ancRefs ++ s.ancErrs).all (fun c => decide (s.inputSrc c < 0x8000))
      && s.ancSpeakers.all fun k => decide (s.outputDst k ≠ 0xFFFF)
    if !mapped then .abort Ab.value
    else if !(s.coefReady 1 0 && s.coefReady 1 1) then .abort (Ab.refusal St.acuCoefInvalid)
    else if s.get 0x2A10 4 * 64 * (16666 * B - 2048) < (R * S * L + R * S * E * P + R * S * E * L) * B then
      .abort (Ab.refusal St.acuLoadExceeded)
    else
      let taps := match s.acuOwner 1 with
        | some k => ((s.coefSet k 1).map (·.codes)).getD []
        | none => []
      let s := { s with acu := { s.acu with
        taps := taps, cfg := [s.acuGet 1 7, s.acuGet 1 8, s.acuGet 1 9], capture := [], ready := none, result := none, sending := []
        seen := [], sent := [], fade := none } }
      .ok (s.setAcu 1 0x0B 1)
  else if v = 2 then .ok (if s.ancRuns then s.beginFade 0 else s.setAcu 1 0x0B 0)
  else if v = 3 then .ok (if s.ancRuns then s.setAcu 1 0x0B 2 else s)
  else .ok (if s.ancRuns then s.setAcu 1 0x0B 1 else s)

/-- One frame through the control filter: the anti-noise of the 24 outputs. -/
def filterFrame (s : State) : ChannelFrame :=
  let L := s.acuGet 1 4
  let refs := s.ancRefs
  let spk := s.ancSpeakers
  let hist := s.acu.seen
  (List.range 24).map fun k =>
    match spk.findIdx? (· = k) with
    | none => 0
    | some j =>
      let at_ := fun (r l : Nat) => s.acu.taps.getD ((r * spk.length + j) * L + l) 0
      let taps := (List.range refs.length).flatMap fun r => (List.range L).map (at_ r)
      let xs := refs.flatMap fun c => (List.range L).map fun l => (hist.getD l []).getD c 0
      filterOut taps xs

/-- A driven speaker's RMS over the last 480 samples is above the limit. -/
def overLimit (s : State) (k : Nat) : Bool :=
  let lim := decodeElem 0xC (s.acu.cfg.getD 2 0)
  let sq := s.acu.sent.foldl (fun a f => let v := decodeElem 0xC (f.getD k 0); a.add (v.mul v)) Num.zero
  (lim.mul lim).mul (Num.ofInt 480) |>.lt sq

/-- A tap is not finite. -/
def tapBad (c : Nat) : Bool := match decodeElem 0xC c with
  | .fin _ _ _ => false
  | _ => true

/-- The adaptation of R315 gives no formula for its steps: with ANC_MU above 0 the taps are free; at 0, and while frozen,
they stay. -/
def adapt (s : State) : State :=
  if s.ancState ≠ 1 ∨ (decodeElem 0xC (s.acu.cfg.headD 0)).isZero then s
  else
    let n := s.acu.taps.length
    { s with freeCount := s.freeCount + n
             acu := { s.acu with taps := (List.range n).map fun i => Config.free .result (s.freeCount + i) % 4294967296 } }

/-- One frame of a block. -/
def ancStep (s : State) (f : ChannelFrame) : ChannelFrame × State :=
  let s := { s with acu := { s.acu with seen := (f :: s.acu.seen).take 512 } }
  let y := s.filterFrame
  let out := match s.acu.fade with
    | none => y
    | some k => y.map fun v => faded v k
  let s := { s with acu := { s.acu with
    sent := (out :: s.acu.sent).take 480
    fade := s.acu.fade.map fun k => min (k + 1) 480 } }
  (out, s)

/-- Processes the captured block: boundary settings, filter, adaptation, divergence. -/
def ancBlock (s : State) : State :=
  match s.acu.ready with
  | none => s
  | some blk =>
    if s.acu.result.isSome ∨ !s.ancLive then s
    else
      let s := match s.acuOwner 1 with
        | some k => s.swapCoef (k * 4)
        | none => s
      let s := { s with acu := { s.acu with cfg := [s.acuGet 1 7, s.acuGet 1 8, s.acuGet 1 9], ready := none } }
      let r := blk.foldl (fun (a : List ChannelFrame × State) f =>
        let t := a.2.ancStep f
        (a.1 ++ [t.1], t.2)) (([], s) : List ChannelFrame × State)
      let s := r.2.adapt
      let s := { s with acu := { s.acu with result := some r.1 } }
      if s.ancRuns && (s.ancSpeakers.any s.overLimit || s.acu.taps.any tapBad) then
        ((s.beginFade 3).bumpAcu 1 0x0D).addRecord St.acuDiverged 0x07 0xFF
      else s

/-! ## Input and output faults (R319, R320) -/

def inputStuck (s : State) (ch : Nat) : State :=
  if 47 < ch ∨ !s.inputUsed ch ∨ s.acu.stuck.contains ch ∨ NMap.get 0 s.acu.same ch < 4800 then s
  else
    let s := { s with acu := { s.acu with stuck := s.acu.stuck ++ [ch], changed := NMap.set 0 s.acu.changed ch 0 } }
    let s := s.addRecord St.acuInputFault 0x07 (0x80 + ch) (leBytes 1 ch)
    if s.ancRuns && (s.ancRefs.contains ch || s.ancErrs.contains ch) then s.beginFade 4 else s

def inputRecovered (s : State) (ch : Nat) : State :=
  if s.acu.stuck.contains ch ∧ 480 ≤ NMap.get 0 s.acu.changed ch then
    { s with acu := { s.acu with stuck := s.acu.stuck.filter (· ≠ ch), changed := NMap.set 0 s.acu.changed ch 0 } }
  else s

def outputFault (s : State) (lane : Nat) : State :=
  if 7 < lane ∨ !s.laneRuns lane 2 then s
  else (s.set (0x2A18 + lane) 4 2).addRecord St.acuOutputFault 0x07 lane (leBytes 1 lane)

/-! ## Voice separation (R321) -/

/-- VOICE_CMD. -/
def voiceCmd (s : State) (v : Nat) : WRes :=
  if v = 1 then
    if s.get 0x2A10 5 < cdiv s.voiceMics.length 8 then .abort (Ab.refusal St.acuLoadExceeded)
    else if !s.coefReady 2 2 then .abort (Ab.refusal St.acuCoefInvalid)
    else
      let s := { s with acu := { s.acu with voiceFrames := 0, voiceTimes := [] } }
      .ok ((s.setAcu 2 0x15 1).setAcu 2 0x16 0)
  else .ok (s.setAcu 2 0x15 0)

/-- The MIC_FAULT word. -/
def micFault (s : State) : Nat := (s.voiceMics.filter s.acu.stuck.contains).foldl (fun a c => a + 2 ^ c) 0

/-- A voice frame is written, made visible and signalled. -/
def voiceFrame (s : State) : State :=
  match s.acuOwner 2 with
  | none => s
  | some k =>
    let seq := s.acuGet 2 0x16
    if !s.voiceRuns ∨ s.acu.voiceFrames < 480 * (seq + 1) then s
    else
      let s := s.swapCoef (k * 4 + 2)
      let h := s.acuGet 2 0x11
      let n := s.acuGet 2 0x12
      let w : Work := { s := s, q := 0, n := 0, sl := k, prio := 0, m := .acoustic k }
      let z := w.freeBytes 3840
      let frame := leBytes 8 seq ++ leBytes 8 (s.acu.voiceTimes.headD 0) ++ leBytes 4 s.micFault ++ leBytes 44 0 ++ z.1 ++ leBytes 192 0
      let off := if n = 0 then 0 else seq % n * 4096
      let w := if s.named k h ∧ off + 4096 ≤ s.tbytes h then z.2.write h off frame else z.2
      let s := { w.s with acu := { w.s.acu with voiceTimes := w.s.acu.voiceTimes.drop 1 } }
      (s.setAcu 2 0x16 (seq + 1)).addSync k (s.acuGet 2 0x13) 1

/-! ## Playback (R322) -/

/-- The 480 sample frames of a slot, as FP32 codes. -/
def playSamples (b : List Byte) : List ChannelFrame :=
  (List.range 480).map fun i => (List.range 24).map fun k => f32Bits (decodeElem 0xA (field b (64 + 2 * (24 * i + k)) 2))

/-- A 480-sample boundary of playback. -/
def playFrame (s : State) : State :=
  match s.acuOwner 3 with
  | none => s
  | some k =>
    if !s.playRuns ∨ s.acu.play ≠ [] then s
    else
      let h := s.acuGet 3 0x18
      let n := s.acuGet 3 0x19
      let off := s.acu.played % n * 23104
      let w : Work := { s := s, q := 0, n := 0, sl := k, prio := 0, m := .acoustic k }
      let r := if s.named k h ∧ off + 23104 ≤ s.tbytes h then w.read h off 23104 else (List.replicate 23104 0, w)
      let ok := decide (field r.1 0 8 = s.acu.played) && s.named k h && decide (off + 23104 ≤ s.tbytes h)
      let s := r.2.s
      let silence : List ChannelFrame := List.replicate 480 (List.replicate 24 0)
      let s := { s with acu := { s.acu with play := if ok then playSamples r.1 else silence, played := s.acu.played + 1 } }
      if ok then s else s.bumpAcu 3 0x1A

/-! ## Writes (R312 to R314) -/

/-- The function to which a subindex of 0x2A00 belongs. -/
def acuFn (sub : Nat) : Nat := if sub < 0x10 then 1 else if sub < 0x18 then 2 else 3

/-- A REAL32 code against a closed range with ends n / d. -/
def realRange (n ln ld hn hd : Nat) : Option Nat :=
  let x := decodeElem 0xC n
  if x.isNan then some Ab.value else if x.lt (ratFv ln ld).v then some Ab.low else if (ratFv hn hd).v.lt x then some Ab.high
  else none

/-- A write of the owner's entries. -/
def acuOwnWrite (s : State) (k sub n : Nat) : WRes :=
  let busy := (decide (sub ≤ 6) && s.ancRuns) || (decide (0x10 ≤ sub ∧ sub ≤ 0x13) && s.voiceRuns)
    || (decide (0x18 ≤ sub ∧ sub ≤ 0x19) && s.playRuns)
  if s.acuOwner (acuFn sub) ≠ some k then .abort (Ab.refusal St.acuNotOwner)
  else if busy then .abort (Ab.refusal St.acuBusy)
  else if sub = 0x0A then s.ancCmd n
  else if sub = 0x14 then s.voiceCmd n
  else
    let bad := if sub = 7 then realRange n 0 1 1 1 else if sub = 8 then realRange n 9 10 1 1 else none
    match bad with
    | some c => .abort c
    | none => .ok (s.set 0x2A00 sub (if sub = 3 then n % 16777216 else n) (k + 1))

/-- A map value is valid: unmapped, an AAF source, or a slot of a lane of the right direction. -/
def mapValid (s : State) (dir n : Nat) : Bool :=
  decide (n = 0xFFFF) || (decide (dir = 1 ∧ 0x8000 ≤ n ∧ n < 0x8100))
    || (decide (n < 0x800 ∧ bits n 7 4 = 0 ∧ n % 16 < s.get (0x2A18 + bits n 10 8) 2 ∧ s.get (0x2A18 + bits n 10 8) 1 = dir))

/-- A write of a line or ownership entry. -/
def acuLineWrite (s : State) (idx sub n : Nat) : WRes :=
  if idx = 0x2A10 then
    if ((sub = 1 ∨ sub = 4) ∧ s.ancRuns) ∨ ((sub = 2 ∨ sub = 5) ∧ s.voiceRuns) then .abort (Ab.refusal St.acuBusy)
    else if (sub = 4 ∧ 8 < n + s.get 0x2A10 5) ∨ (sub = 5 ∧ 8 < n + s.get 0x2A10 4) then .abort Ab.high
    else
      let s := s.set idx sub n
      .ok (if sub = 3 then { s with acu := { s.acu with play := [], played := 0 } } else s)
  else if idx = 0x2A11 then
    if s.inputUsed (sub - 1) then .abort (Ab.refusal St.acuBusy)
    else if s.mapValid 1 n then .ok (s.set idx sub n) else .abort Ab.value
  else if idx = 0x2A12 then
    if s.outputUsed (sub - 1) then .abort (Ab.refusal St.acuBusy)
    else if s.mapValid 2 n then .ok (s.set idx sub n) else .abort Ab.value
  else if idx = 0x2A13 then
    .ok (({ s with acu := { s.acu with ignored := s.acu.ignored.filter (· ≠ sub - 1) } }).set idx sub n)
  else if sub = 1 then .ok ((s.set idx 1 n).set idx 4 (if n = 0 then 0 else 1))
  else if s.get idx 1 ≠ 0 then .abort (Ab.refusal St.acuBusy)
  else .ok (s.set idx sub n)

/-- A write of an entry of this chapter. -/
def acuWrite (s : State) (d : Dom) (idx sub n : Nat) : WRes :=
  if idx = 0x2A00 then match d with
    | .slice p => match s.sliceOf p with
      | some k => s.acuOwnWrite k sub n
      | none => .abort Ab.noIndex
    | _ => .abort Ab.domain
  else s.acuLineWrite idx sub n

end State

/-! ## Commands -/

/-- TDM_FRAME (R310, R316, R322). -/
def execTdmFrame (samples : List (Nat × Nat × Int)) (s : State) : Out := .next (s.tdmFrame samples)

/-- AAF_SAMPLE_ARRIVAL (R311). -/
def execAafSampleArrival (stream ch : Nat) (_sample : W32) (late : Bool) (s : State) : Out := .next (s.aafSample stream ch late)

/-- AAF_RATE_FAULT (R311). -/
def execAafRateFault (stream : Nat) (s : State) : Out := .next (s.aafFault stream)

/-- ANC_BLOCK (R316, R317, R324). -/
def execAncBlock (s : State) : Out := .next s.ancBlock

/-- INPUT_STUCK (R319). -/
def execInputStuck (ch : Nat) (s : State) : Out := .next (s.inputStuck ch)

/-- INPUT_RECOVERED (R319). -/
def execInputRecovered (ch : Nat) (s : State) : Out := .next (s.inputRecovered ch)

/-- OUTPUT_READBACK_FAULT (R320). -/
def execOutputReadbackFault (lane : Nat) (s : State) : Out := .next (s.outputFault lane)

/-- VOICE_FRAME (R321). -/
def execVoiceFrame (s : State) : Out := .next s.voiceFrame

/-- PLAY_FRAME (R322). -/
def execPlayFrame (s : State) : Out := .next s.playFrame

/-- ACU_COEF_LOAD (R323, R324). -/
def execAcuCoefLoad (q n : Nat) (s : State) : Out :=
  .next (match s.readyDirect q n (· = 0x0A00) with
    | (none, s) => s
    | (some d, s) =>
      let w := Work.coefLoad { s.startWork q n d with m := .acoustic (s.queueSlice q) } d
      w.s.finish q n w.st w.det w.fl)

end Sys2Proof.Machine
end

