-- ==== Sys2Proof/Machine/Kernels.lean ====
section
/-! DEFINITION. The compute family, 0x07xx (R100, R101): acceptance of a SPIR-V module, kernel identifiers, and what a
dispatch may change. -/

namespace Sys2Proof.Machine

open Sys2Proof

/-! ## Checks (Table TEN-15) -/

/-- The binding handles that a DISPATCH carries. -/
def bindingLos : List Nat := (List.range 8).map fun i => 192 + 32 * i

/-- DISPATCH: a binding is read and may be written; 0 is unbound. -/
def dispatchInfo (d : Desc) : OpInfo :=
  { reserved := [(191, 176), (95, 80)],
    bad := badBits
      [(decide (d.fld 175 160 = 0), 160), (decide (d.fld 159 128 = 0), 128), (decide (d.fld 127 96 = 0), 96),
       (decide (d.fld 79 64 = 0 ∨ 4095 < d.fld 79 64), 64)],
    uses := bindingLos.map fun lo => { lo := lo, out := true, zeroOk := true } }

/-- KERNEL_LOAD. -/
def kernelLoadInfo (d : Desc) : OpInfo :=
  let n := d.fld 127 96
  { reserved := [(511, 128)], bad := badBits [(decide (n % 4 ≠ 0 ∨ 1048576 < n), 96)], uses := [{ lo := 64, bytes := n }] }

/-- KERNEL_FREE. -/
def kernelFreeInfo (d : Desc) : OpInfo :=
  { reserved := [(511, 80)], bad := badBits [(decide (d.fld 79 64 = 0 ∨ 4095 < d.fld 79 64), 64)] }

/-! ## SPIR-V (R100) -/

/-- The 32-bit words of a module. -/
def moduleWords (bs : List Byte) : List Nat := (chunks 4 bs).map leNat

/-- Cuts the words after the header into instructions, none where a word count does not fit. -/
def instrsOf : Nat → List Nat → Option (List (List Nat))
  | _, [] => some []
  | 0, _ => none
  | fuel + 1, w :: ws =>
    let n := w / 65536
    if n = 0 ∨ ws.length + 1 < n then none
    else (instrsOf fuel ((w :: ws).drop n)).map fun r => (w :: ws).take n :: r

/-- Capabilities that the module supports, exactly these (R100). -/
def spirvCaps : List Nat := [1, 9, 11, 22, 39, 61, 63, 64, 4433, 4448, 5345]

def opOf (i : List Nat) : Nat := i.headD 0 % 65536

def operand (i : List Nat) (k : Nat) : Nat := i.getD k 0

/-- The value of a constant, 0 where the module gives none. -/
def spirvConst (is : List (List Nat)) (id : Nat) : Nat :=
  match is.find? fun i => decide ((opOf i = 43 ∨ opOf i = 50) ∧ operand i 2 = id) with
  | some i => operand i 3
  | none => 0

/-- The first GLCompute entry point. -/
def entryPoint (is : List (List Nat)) : Option Nat :=
  (is.find? fun i => decide (opOf i = 15 ∧ operand i 1 = 5)).map fun i => operand i 2

/-- The opcodes whose operand 1 is a result type and operand 2 the result. -/
def yields (op : Nat) : Bool :=
  [(1, 1), (12, 12), (41, 46), (48, 52), (54, 55), (57, 57), (59, 61), (65, 70), (77, 84), (86, 106), (109, 124), (126, 152),
   (154, 191), (194, 215), (227, 227), (229, 242), (245, 245), (333, 366), (400, 401)].any fun r => decide (r.1 ≤ op ∧ op ≤ r.2)

/-- The type of a value. -/
def valueType (is : List (List Nat)) (id : Nat) : Nat :=
  match is.find? fun i => yields (opOf i) && decide (operand i 2 = id) with
  | some i => operand i 1
  | none => 0

/-- The instruction that declares a type. -/
def typeOf (is : List (List Nat)) (ty : Nat) : List Nat :=
  (is.find? fun i => decide (19 ≤ opOf i ∧ opOf i ≤ 33 ∧ operand i 1 = ty)).getD []

/-- The storage class of a pointer value: 4 is Workgroup, 12 StorageBuffer. -/
def pointerClass (is : List (List Nat)) (id : Nat) : Nat :=
  let p := typeOf is (valueType is id)
  if opOf p = 32 then operand p 2 else 0

/-- A decoration of a value or type (6 is ArrayStride), and the Offset of a structure's member. -/
def decoration (is : List (List Nat)) (id k : Nat) : Option Nat :=
  (is.find? fun i => decide (opOf i = 71 ∧ operand i 1 = id ∧ operand i 2 = k)).map fun i => operand i 3
def memberOffset (is : List (List Nat)) (ty m : Nat) : Option Nat :=
  (is.find? fun i => decide (opOf i = 72 ∧ operand i 1 = ty ∧ operand i 2 = m ∧ operand i 3 = 35)).map fun i => operand i 4

/-- Bytes of a type: by its stride and offsets where it has them, else without gaps; a Boolean is one word (log 153). -/
def typeBytes (is : List (List Nat)) : Nat → Nat → Nat
  | 0, _ => 0
  | fuel + 1, ty =>
    let i := typeOf is ty
    let op := opOf i
    if op = 20 then 4
    else if op = 21 ∨ op = 22 then operand i 2 / 8
    else if op = 23 ∨ op = 24 then typeBytes is fuel (operand i 2) * operand i 3
    else if op = 28 then
      (match decoration is ty 6 with
        | some stride => stride
        | none => typeBytes is fuel (operand i 2)) * spirvConst is (operand i 3)
    else if op = 30 then
      ((i.drop 2).foldl (fun (a : Nat × Nat × Nat) m =>
        let off := (memberOffset is ty a.1).getD a.2.1
        (a.1 + 1, off + typeBytes is fuel m, max a.2.2 (off + typeBytes is fuel m))) (0, 0, 0)).2.2
    else if op = 32 then 8
    else 0

/-- Bytes of workgroup memory up to and with the instructions given: the variables of storage class Workgroup. -/
def workgroupBytes (is upTo : List (List Nat)) : Nat :=
  (upTo.map fun i => if opOf i = 59 ∧ operand i 3 = 4 then typeBytes is is.length (operand (typeOf is (operand i 1)) 3) else 0).sum

/-- Decorates the constant that gives the built-in workgroup size. -/
def sizesGroup (i : List Nat) : Bool := decide (opOf i = 71 ∧ operand i 2 = 11 ∧ operand i 3 = 25)

/-- Invocations of a workgroup that an instruction fixes for the entry point, 0 where it fixes none: the constant decorated as
the built-in size, or, where no constant is, an execution mode (log 153). -/
def groupSize (is : List (List Nat)) (entry : Nat) (i : List Nat) : Nat :=
  let cs := spirvConst is
  if sizesGroup i then
    match is.find? fun k => decide ((opOf k = 44 ∨ opOf k = 51) ∧ operand k 2 = operand i 1) with
    | some k => cs (operand k 3) * cs (operand k 4) * cs (operand k 5)
    | none => 0
  else if operand i 1 ≠ entry ∨ is.any sizesGroup then 0
  else if opOf i = 16 ∧ operand i 2 = 17 then operand i 3 * operand i 4 * operand i 5
  else if opOf i = 331 ∧ operand i 2 = 38 then cs (operand i 3) * cs (operand i 4) * cs (operand i 5)
  else 0

/-- The type is an integer of 32 bits. -/
def isInt32 (is : List (List Nat)) (ty : Nat) : Bool := decide (opOf (typeOf is ty) = 21 ∧ operand (typeOf is ty) 2 = 32)

/-- An atomic on a storage buffer whose operand is no 32-bit integer. -/
def badAtomic (is : List (List Nat)) (i : List Nat) : Bool :=
  let op := opOf i
  if op = 228 then decide (pointerClass is (operand i 1) = 12) && !isInt32 is (valueType is (operand i 4))
  else decide (227 ≤ op ∧ op ≤ 242 ∧ pointerClass is (operand i 3) = 12) && !isInt32 is (operand i 1)

/-- What instruction number `k` offends with, none where it does not. -/
def spirvOffends (is : List (List Nat)) (entry k : Nat) : Option Nat :=
  let i := is.getD k []
  let op := opOf i
  if op = 17 ∧ !spirvCaps.contains (operand i 1) then some (operand i 1)
  else if 512 < groupSize is entry i then some op
  else if badAtomic is i then some op
  else if op = 59 ∧ operand i 3 = 4 ∧ 262144 < workgroupBytes is (is.take (k + 1)) then some op
  else if op = 71 ∧ operand i 2 = 33 ∧ 7 < operand i 3 then some op
  else if op = 71 ∧ operand i 2 = 34 ∧ operand i 3 ≠ 0 then some op
  else none

/-- The first thing in a module that offends. -/
def firstOffence (is : List (List Nat)) (entry : Nat) : Option Nat := (List.range is.length).findSome? (spirvOffends is entry)

/-- What KERNEL_LOAD makes of a module. -/
inductive Verdict where
  | accepted
  | rejected (detail : Nat)
  /-- Rejected with a DETAIL that the spec does not state. -/
  | malformed
deriving DecidableEq, Repr

def spirvCheck (bs : List Byte) : Verdict :=
  match moduleWords bs with
  | magic :: version :: _ :: _ :: _ :: body =>
    if magic ≠ 0x07230203 ∨ version ≠ 0x00010600 then .malformed
    else match instrsOf body.length body with
      | none => .malformed
      | some is =>
        match entryPoint is with
        | none => (match firstOffence is 0 with
          | some d => .rejected d
          | none => .malformed)
        | some e => match firstOffence is e with
          | some d => .rejected d
          | none => .accepted
  | _ => .malformed

namespace State

/-- The kernel a slice's ID names: the module's bytes as a number, plus one. -/
def kernel (s : State) (sl id : Nat) : Option Nat := NMap.get none s.plc.kernels (sl * 4096 + id)

def setKernel (s : State) (sl id : Nat) (v : Option Nat) : State :=
  { s with plc := { s.plc with kernels := NMap.set none s.plc.kernels (sl * 4096 + id) v } }

/-- An earlier dispatch of the kernel from a queue of the slice has not completed. -/
def kernelBusy (s : State) (sl id order : Nat) : Bool :=
  s.que.queues.any fun p => decide (s.queueOwner p.1 = some sl) && p.2.desc.any fun e => match e.2 with
    | some d => decide (d.phase ≠ .done ∧ d.opcode s.compat = 0x0700 ∧ d.fld 79 64 = id ∧ d.order < order) && !d.rejected
    | none => false

end State

namespace Work

/-- KERNEL_LOAD. -/
def kernelLoad (w : Work) (d : Desc) : Work :=
  let r := w.read (d.fld 95 64) 0 (d.fld 127 96)
  let w := r.2
  let v := w.freeVal .detail
  let load : Work :=
    let ids := (List.range 4095).filter fun i => decide (w.s.kernel w.sl (i + 1) = none)
    match w.s.pick .handle (ids.map (· + 1)) with
    | (none, s) => { w with s := s }.fail St.kernelRejected (v.1 % 4294967296)
    | (some id, s) => { w with s := s.setKernel w.sl id (some (leNat r.1 + 1)), det := id }
  match spirvCheck r.1 with
  | .rejected x => w.fail St.kernelRejected x
  | .malformed => v.2.fail St.kernelRejected (v.1 % 4294967296)
  | .accepted => load
/-- What a running kernel has done: the values each workgroup has read, latest first. -/
abbrev Ran := NMap (List Nat)

/-- One access of workgroup `g` to binding `i`: outside the bound buffer a read returns zero, a write is dropped and the
dispatch completes with KERNEL_BOUNDS and the binding number (R101). An unbound binding holds no byte. A weight tensor is not
written by the engines (R173). -/
def kernelAccess (w : Work) (d : Desc) (g : Nat) (m : Ran) : Config.Access → Ran × Work
  | .read i off n =>
    let h := d.fld (223 + 32 * i) (192 + 32 * i)
    if i < 8 ∧ h ≠ 0 ∧ off + n ≤ w.s.tbytes h then
      let r := w.read h off n
      (NMap.set [] m g (leNat r.1 :: NMap.get [] m g), r.2)
    else (NMap.set [] m g (0 :: NMap.get [] m g), w.fail St.kernelBounds (i % 8))
  | .write i off bs =>
    let h := d.fld (223 + 32 * i) (192 + 32 * i)
    if i < 8 ∧ h ≠ 0 ∧ off + bs.length ≤ w.s.tbytes h then (m, if w.s.tclass h = 1 then w else w.output h off bs)
    else (m, w.fail St.kernelBounds (i % 8))

/-- Runs a kernel for a number of accesses: before each one it is open which workgroup goes on (R101), and what that workgroup
accesses next follows from the module, the descriptor and what it has read. -/
def runKernel (d : Desc) (code : Nat) : Nat → Ran → Work → Work
  | 0, _, w => w
  | fuel + 1, m, w =>
    let c := w.freeVal .choice
    let g := c.1 % d.tiles
    let r := c.2.groupM d [g] m fun w => w.kernelAccess d g m (Config.access [code, d.w.toNat, g] (NMap.get [] m g))
    runKernel d code fuel r.1 r.2

/-- DISPATCH (R101). The spec gives no meaning to SPIR-V: the accesses of each workgroup and their number are open (log 57). -/
def dispatch (w : Work) (d : Desc) : Work :=
  match w.s.kernel w.sl (d.fld 79 64) with
  | none => w.fail St.kernelUnknown 0
  | some code =>
    let n := w.freeVal .choice
    let hs := (bindingLos.map fun lo => d.fld (lo + 31) lo).filter fun h => decide (h ≠ 0 ∧ w.s.tclass h ≠ 1)
    hs.foldl settleState (runKernel d code n.1 [] n.2)

/-- KERNEL_FREE: an ID that is not loaded gives KERNEL_UNKNOWN as for a DISPATCH, which the spec does not say (log 152). -/
def kernelFree (w : Work) (d : Desc) : Work :=
  let id := d.fld 79 64
  if w.s.kernel w.sl id = none then w.fail St.kernelUnknown 0 else { w with s := w.s.setKernel w.sl id none }

end Work

/-- DISPATCH (R100, R101). -/
def execDispatch (q n : Nat) (s : State) : Out := .next (s.runDesc q n (· = 0x0700) Work.dispatch)

/-- KERNEL_LOAD (R100). -/
def execKernelLoad (q n : Nat) (s : State) : Out := .next (s.runDesc q n (· = 0x0701) Work.kernelLoad)

/-- KERNEL_FREE (R100): waits for earlier dispatches of the kernel. -/
def execKernelFree (q n : Nat) (s : State) : Out :=
  .next (match s.readyDesc q n (· = 0x0702) with
    | none => s
    | some d =>
      if s.kernelBusy (s.queueSlice q) (d.fld 79 64) d.order then s else s.runDesc q n (· = 0x0702) Work.kernelFree)

end Sys2Proof.Machine
end

