-- ==== Sys2Proof/Machine/Cache.lean ====
section
/-! DEFINITION. KV pools, sequence regions, the prefix tree and KV_APPEND (R133 to R153). -/

namespace Sys2Proof.Machine

open Sys2Proof

/-! ## Layout (R135, R136) -/

/-- The layout of a pool: stored format, layers, heads, head dimension. -/
structure KvLayout where
  fmt : Nat
  layers : Nat
  heads : Nat
  dim : Nat
deriving DecidableEq, Repr

namespace KvLayout

def scaled (l : KvLayout) : Bool := decide (l.fmt ≠ 0x0B)
/-- Bytes of `n` stored elements. -/
def elems (l : KvLayout) (n : Nat) : Nat := n * fmtWidth l.fmt / 8
/-- U. -/
def unit (l : KvLayout) : Nat := l.elems (128 * l.dim) + if l.scaled then 8 * l.dim else 0
def chunk (l : KvLayout) : Nat := l.layers * l.heads * l.unit
def chunkPages (l : KvLayout) : Nat := cdiv l.chunk 65536
/-- S, the pending slot. -/
def slot (l : KvLayout) : Nat := l.chunk / 64
def headerPages (l : KvLayout) : Nat := cdiv (256 + l.slot) 65536
/-- Offset of a unit in its chunk. -/
def unitAt (l : KvLayout) (layer head : Nat) : Nat := (layer * l.heads + head) * l.unit
/-- Offset in a unit of the keys (0), values (1), key scales (2) or value scales (3) of a position, and their length. -/
def part (l : KvLayout) (pos which : Nat) : Nat × Nat :=
  let row := l.elems l.dim
  let sc := l.dim / 16
  if which < 2 then (which * 64 * row + pos * row, row)
  else (128 * row + (which - 2) * 64 * sc + pos * sc, sc)
/-- The same in the pending slot, for a layer and head. -/
def slotPart (l : KvLayout) (layer head which : Nat) : Nat × Nat :=
  let row := l.elems l.dim
  let sc := l.dim / 16
  let base := 256 + (layer * l.heads + head) * (l.unit / 64)
  if which < 2 then (base + which * row, row) else (base + 2 * row + (which - 2) * sc, sc)
/-- The parts a stored position has. -/
def parts (l : KvLayout) : List Nat := if l.scaled then [0, 1, 2, 3] else [0, 1]

end KvLayout

/-! ## Prefix hash (R141) -/

def prefixHash (h : Nat) (tokens : List Byte) : Nat :=
  tokens.foldl (fun x c => ((x ^^^ c.toNat) * 0x100000001B3) % 18446744073709551616) ((h ^^^ 0xCBF29CE484222325) % 18446744073709551616)

/-- The bytes of group `g` of 64 token identifiers. -/
def tokenGroup (bs : List Byte) (g : Nat) : List Byte := slice bs (256 * g) 256

/-- The object keys of sequences for references and hazards. -/
def seqKey (h : Nat) : Nat := 4294967296 + h

namespace State

/-! ## Pools -/

def poolIdx (key : Nat) : Nat := 0x2710 + key % 16
def poolInst (key : Nat) : Nat := key / 16 + 1

/-- An entry of a pool. -/
def poolGet (s : State) (key sub : Nat) : Nat := s.get (poolIdx key) sub (poolInst key)

def kvPool (s : State) (key : Nat) : KvPool := NMap.get {} s.kv.pools key

/-- Keeps a pool, and shows its pages in KV_PAGES_HELD and KV_PAGES_FREE. -/
def setPool (s : State) (key : Nat) (p : KvPool) : State :=
  let s := { s with kv := { s.kv with pools := NMap.set {} s.kv.pools key p } }
  (s.set (poolIdx key) 0x0D p.held (poolInst key)).set (poolIdx key) 0x0E p.free.length (poolInst key)

def poolActive (s : State) (key : Nat) : Bool := decide (s.poolGet key 0x0A = 1)

def poolLayout (s : State) (key : Nat) : KvLayout :=
  { fmt := s.poolGet key 4, layers := s.poolGet key 5, heads := s.poolGet key 6, dim := s.poolGet key 7 }

def poolCommitted (s : State) (key : Nat) : Bool := decide (s.poolGet key 2 = 0)

/-- The active pool of a slice that a handle names. -/
def poolOf (s : State) (sl h : Nat) : Option Nat :=
  ((List.range 16).map (sl * 16 + ·)).find? fun k => s.poolActive k && decide (h ≠ 0 ∧ s.poolGet k 0x0B = h)

/-- Sequences of a pool. -/
def poolSeqs (s : State) (key : Nat) : List (Nat × KvSeq) :=
  s.kv.seqs.filterMap fun e => match e.2 with
    | some q => if q.pool = key then some (e.1, q) else none
    | none => none

def seq (s : State) (h : Nat) : Option KvSeq := NMap.get none s.kv.seqs h

/-- A sequence handle of the slice that has not been closed. -/
def namedSeq (s : State) (sl h : Nat) : Bool := match s.seq h with
  | some q => decide (q.pool / 16 = sl) && !q.closed
  | none => false

/-- An object handle of another chapter: the module's own choice, of no tensor or view kind and not in use. -/
def objectHandle (s : State) (used : List Nat) : Nat × State :=
  let v := 805306368 + Config.free .handle s.freeCount % 3489660928
  let s := { s with freeCount := s.freeCount + 1 }
  (if used.contains v then ((List.range (used.length + 1)).find? fun i => !used.contains (805306368 + i)).getD 0 + 805306368 else v, s)

/-- Every object handle in use. -/
def objectsUsed (s : State) : List Nat :=
  s.kv.seqs.map (·.1) ++ ((List.range 1024).map fun k => s.poolGet k 0x0B)

/-! ## Pages (R137, R143) -/

/-- Takes `n` new pages from the module for a slice, all or none. -/
def newPages (s : State) (sl : Nat) : Nat → Option (List Nat × State)
  | 0 => some ([], s)
  | n + 1 => match s.allocate sl 65536 4 with
    | none => none
    | some (b, s) => (s.newPages sl n).map fun r => (b :: r.1, r.2)

/-- Returns pages to the module. -/
def dropPages (s : State) (sl : Nat) (ps : List Nat) : State :=
  ps.foldl (fun s b => (s.deallocate b).freeMem sl 65536) s

/-- References on a node: regions that map it. -/
def nodeRefs (s : State) (id : Nat) : Bool :=
  s.kv.seqs.any fun e => match e.2 with
    | some q => q.chunks.any fun c => match c.2 with
      | some k => decide (k.node = id)
      | none => false
    | none => false

def nodeHasChild (s : State) (id : Nat) : Bool := s.kv.nodes.any fun e => match e.2 with
  | some n => decide (n.parent = id)
  | none => false

/-- The least recently used reclaimable node of a pool. -/
def reclaimable (s : State) (key : Nat) : Option (Nat × KvNode) :=
  let ns := s.kv.nodes.filterMap fun e => match e.2 with
    | some n => if n.pool = key ∧ !s.nodeRefs e.1 ∧ !s.nodeHasChild e.1 then some (e.1, n) else none
    | none => none
  ns.foldl (fun (a : Option (Nat × KvNode)) n => match a with
    | none => some n
    | some b => if n.2.lastUse < b.2.lastUse then some n else some b) none

def setNode (s : State) (id : Nat) (n : Option KvNode) : State :=
  { s with kv := { s.kv with nodes := NMap.set none s.kv.nodes id n } }

/-- Deletes a node: its pages go to the pool's free list. -/
def deleteNode (s : State) (id : Nat) (n : KvNode) : State :=
  let p := s.kvPool n.pool
  let s := (s.setNode id none).setPool n.pool { p with free := p.free ++ n.pages }
  let sl := n.pool / 16
  s.set (0x4700 + sl) 2 (s.get (0x4700 + sl) 2 - 1)

/-- Reclaims one node of a pool. -/
def reclaimOne (s : State) (key : Nat) : Option State :=
  (s.reclaimable key).map fun n => (s.deleteNode n.1 n.2).bump (0x4700 + key / 16) 3

/-- The limit that denies `n` more pages to a pool: 1 KV_POOL_BYTES, 2 the quota, 3 module memory. -/
def denyReason (s : State) (key n : Nat) : Nat :=
  let need := n - (s.kvPool key).free.length
  if s.poolGet key 1 < 65536 * ((s.kvPool key).held + need) then 1
  else if s.overQuota (key / 16) (65536 * need) then 2 else 3

/-- One new page from the module on an elastic pool's free list, where every limit allows it (R137, source 2). -/
def growOne (s : State) (key : Nat) : Option State :=
  let p := s.kvPool key
  if s.poolCommitted key ∨ s.poolGet key 1 < 65536 * (p.held + 1) ∨ s.overQuota (key / 16) 65536 then none
  else (s.newPages (key / 16) 1).map fun r =>
    (r.2.useMem (key / 16) 65536).setPool key { p with free := p.free ++ r.1, held := p.held + 1 }

/-- Up to `n` new pages, one after another, as far as the limits allow. -/
def growPool (s : State) (key : Nat) : Nat → State
  | 0 => s
  | n + 1 => match s.growOne key with
    | some s => s.growPool key n
    | none => s

/-- The free pages of a pool that a region with `mine` pages reserved may take: all but the other regions' reservations
(R138). -/
def openTo (p : KvPool) (mine : Nat) : Nat := p.free.length - (p.reserved - mine)

/-- Takes `n` pages from a pool's free list, zeroed (R137). -/
def takeFree (s : State) (key n : Nat) : List Nat × State :=
  let p := s.kvPool key
  let ps := p.free.take n
  (ps, ps.foldl (fun s b => s.zeroMem b 65536) (s.setPool key { p with free := p.free.drop n }))

/-- `n` pages from the sources of R137 in their order: the free list, new pages, and nodes reclaimed one at a time. None,
with the state after the new pages and the reclaims, where they cannot be had. A region takes from its own reservation
even where a published chunk left the pool short of others' pages, so it never fails to back a chunk (R138; log 151). -/
def takePages (s : State) (key n mine : Nat) : Nat → Option (List Nat) × State
  | 0 => (none, s)
  | fuel + 1 =>
    let s := s.growPool key (n - openTo (s.kvPool key) mine)
    if n ≤ openTo (s.kvPool key) mine then ((s.takeFree key n).map some id)
    else match s.reclaimOne key with
      | some s => s.takePages key n mine fuel
      | none => if n ≤ mine ∧ n ≤ (s.kvPool key).free.length then ((s.takeFree key n).map some id) else (none, s)

def pagesFor (s : State) (key n mine : Nat) : Option (List Nat) × State :=
  s.takePages key n mine (s.kv.nodes.length + 1)

/-! ## Sequence regions (R136, Table ATT-4) -/

/-- The 256 header bytes. -/
def headerBytes (q : KvSeq) : List Byte :=
  leBytes 1 q.state ++ leBytes 1 ((if q.window then 1 else 0) + (if q.committed then 2 else 0)) ++ leBytes 2 q.prefixChunks
    ++ leBytes 2 q.maxChunks ++ leBytes 1 q.denied ++ leBytes 1 0 ++ leBytes 8 q.length
    ++ leBytes 8 (q.pendingPos.getD 18446744073709551615)
    ++ leBytes 4 (q.chunks.filter fun c => match c.2 with
        | some k => decide (k.node = 0)
        | none => false).length ++ leBytes 4 0 ++ leBytes 32 q.pendingLayers ++ List.replicate 192 0

def keepSeq (s : State) (h : Nat) (q : KvSeq) : State :=
  { s with kv := { s.kv with seqs := NMap.set none s.kv.seqs h (some q) } }

/-- Keeps a sequence and shows it in the header page and in KV_SEQS_OPEN. -/
def setSeq (s : State) (h : Nat) (q : KvSeq) : State :=
  let s := s.keepSeq h q
  let s := s.writeMem (q.header.headD 0) (headerBytes q)
  s.set (poolIdx q.pool) 0x10 (s.poolSeqs q.pool).length (poolInst q.pool)

/-- The chunk slot of chunk number `c` of a region. -/
def slotOf (q : KvSeq) (c : Nat) : Nat := if q.window then c % q.maxChunks else c

/-- The pages of a chunk slot's storage. -/
def chunkPages (s : State) (k : KvChunk) : List Nat :=
  if k.node = 0 then k.pages
  else match NMap.get none s.kv.nodes k.node with
    | some n => n.pages
    | none => []

/-- The pages that hold chunk `c` of a sequence now. -/
def pagesOf (s : State) (q : KvSeq) (c : Nat) : List Nat := match NMap.get none q.chunks (slotOf q c) with
  | some k => if k.abs = c then s.chunkPages k else []
  | none => []

/-- First position still stored (R153). -/
def firstStored (q : KvSeq) : Nat := if q.window then 64 * ((q.length - 1) / 64 + 1 - q.maxChunks) else 0

/-- The region of a sequence goes: references drop, own pages go to the free list, a reservation returns (R144). -/
def freeSeq (s : State) (h : Nat) (q : KvSeq) : State :=
  let own := q.header ++ q.chunks.flatMap fun c => match c.2 with
    | some k => k.pages
    | none => []
  let p := s.kvPool q.pool
  let s := { s with kv := { s.kv with seqs := NMap.set none s.kv.seqs h none } }
  let s := s.setPool q.pool { p with free := p.free ++ own, reserved := p.reserved - q.reserved }
  s.set (poolIdx q.pool) 0x10 (s.poolSeqs q.pool).length (poolInst q.pool)

/-- Frees the closed sequences that no accepted descriptor names any more. -/
def reapSeqs (s : State) : State :=
  s.kv.seqs.foldl (fun s e => match e.2 with
    | some q => if q.closed && !s.heldEntry (seqKey e.1) then s.freeSeq e.1 q else s
    | none => s) s

/-! ## Pool commands (R134) -/

def poolCreate (s : State) (key : Nat) : WRes :=
  let l := s.poolLayout key
  let sl := key / 16
  if s.poolActive key then .abort (Ab.refusal St.kvPoolBusy)
  else if 1024 < l.chunkPages then .abort Ab.high
  else
    let n := if s.poolCommitted key then s.poolGet key 1 / 65536 else 0
    if 0 < n ∧ s.overQuota sl (65536 * n) then .abort (Ab.refusal St.quotaExceeded)
    else match s.newPages sl n with
      | none => .abort (Ab.refusal St.kvNoSpace)
      | some (ps, s) =>
        let g := s.objectHandle s.objectsUsed
        let s := (g.2.useMem sl (65536 * n)).setPool key { free := ps, held := n }
        let at_ := fun (s : State) (sub v : Nat) => s.set (poolIdx key) sub v (poolInst key)
        .ok (at_ (at_ (at_ s 0x0A 1) 0x0B g.1) 0x0C l.chunkPages)

/-- Makes an active pool absent. -/
def poolRemove (s : State) (key : Nat) : State :=
  let s := s.kv.nodes.foldl (fun s e => match e.2 with
    | some n => if n.pool = key then s.deleteNode e.1 n else s
    | none => s) s
  let s := s.dropPages (key / 16) (s.kvPool key).free
  let s := s.setPool key {}
  [0x0A, 0x0B, 0x0C].foldl (fun s sub => s.clear (poolIdx key) sub (poolInst key)) s

def poolDestroy (s : State) (key : Nat) : WRes :=
  if s.poolSeqs key ≠ [] then .abort (Ab.refusal St.kvPoolBusy) else .ok (s.poolRemove key)

def poolTrim (s : State) (key : Nat) : State :=
  if s.poolCommitted key then s
  else
    let p := s.kvPool key
    (s.dropPages (key / 16) p.free).setPool key { p with free := [], held := p.held - p.free.length }

/-- Writes of the pool entries of a slice (R133, R134). -/
def poolWrite (s : State) (sl idx sub n : Nat) : WRes :=
  let key := sl * 16 + (idx - 0x2710)
  if sub = 9 then
    if n = 1 then s.poolCreate key else if n = 2 then s.poolDestroy key else .ok (s.poolTrim key)
  else if s.poolActive key then .abort (Ab.refusal St.kvPoolBusy)
  else if sub = 1 ∧ n % 65536 ≠ 0 then .abort Ab.value
  else if sub = 7 ∧ n % 32 ≠ 0 then .abort Ab.value
  else .ok (s.set idx sub n (sl + 1))

end State

/-! ## Sequence lists (R145) -/

/-- A record of Table ATT-6: sequence, position, count. -/
structure ListRec where
  seq : Nat
  pos : Nat
  count : Nat
deriving DecidableEq, Repr

/-- Records that the values fixed at acceptance hold. -/
def listRecs : List Nat → List ListRec
  | a :: b :: c :: r => { seq := a, pos := b, count := c } :: listRecs r
  | _ => []

/-- The values to fix: every record of a list's bytes. -/
def listData (bs : List Byte) (n : Nat) : List Nat :=
  (List.range n).flatMap fun i => [field bs (16 * i) 4, field bs (16 * i + 4) 4, field bs (16 * i + 8) 2]

/-- Rows of all records. -/
def listRows (rs : List ListRec) : Nat := rs.foldl (fun a r => a + r.count) 0

namespace State

/-- The list of a descriptor as memory holds it now. -/
def peekList (s : State) (h n : Nat) : List Nat :=
  listData ({ s := s, q := 0, n := 0, sl := 0, prio := 0, m := Requester.secProc : Work }.peek h 0 (16 * n)) n

/-- The pool of the first record. -/
def listPool (s : State) (rs : List ListRec) : Option Nat :=
  (rs.head?.bind fun r => s.seq r.seq).map KvSeq.pool

end State

/-! ## Checks -/

/-- KV_SEQ_OPEN (Table ATT-5). -/
def seqOpenInfo (d : Desc) : OpInfo :=
  let t := d.fld 148 128
  { reserved := [(511, 169), (151, 149)],
    bad := badBits [(decide (d.fld 167 152 = 0 ∨ 16384 < d.fld 167 152), 152), (decide (1048576 < t), 128),
      (decide (t = 0 ∧ d.fld 127 96 ≠ 0), 96)],
    uses := { lo := 64, kind := .pool } :: (if t = 0 then [] else [{ lo := 96, bytes := 4 * t }]) }

/-- KV_SEQ_CLOSE and KV_RESUME (R144, R152). -/
def seqOnlyInfo : OpInfo :=
  { reserved := [(511, 96)], uses := [{ lo := 64, kind := .seq }], alsoWrites := [64] }

/-- KV_PREFIX_PUBLISH (R142). -/
def publishInfo (d : Desc) : OpInfo :=
  let n := d.fld 143 128
  { reserved := [(511, 144)], bad := badBits [(decide (n = 0 ∨ 16384 < n), 128)],
    uses := [{ lo := 64, kind := .seq }, { lo := 96, bytes := 256 * n }], alsoWrites := [64] }

/-- KV_APPEND (Table ATT-7). -/
def appendInfo (s : State) (d : Desc) : OpInfo :=
  let n := d.fld 175 160
  let data := if 16 * n ≤ s.tbytes (d.fld 159 128) then s.peekList (d.fld 159 128) n else []
  let rs := listRecs data
  let l : Option KvLayout := (s.listPool rs).map s.poolLayout
  let f := d.fld 191 184
  let row := match l with
    | some l => l.heads * l.dim
    | none => 0
  let room := fmtBytes (fmtCode f) (listRows rs * row)
  { reserved := [(511, 192), fmtReserved 184],
    fmt := firstFail [fmtFail (decide (f = 0x08 ∨ f = 0x09 ∨ f = 0x0A ∨ f = 0x0B ∨ f = 0x0C)) 184],
    bad := badBits [(decide (d.fld 175 160 = 0), 160), (match l with
      | some l => decide (l.layers ≤ d.fld 183 176)
      | none => false, 176)],
    uses := [{ lo := 64, bytes := room }, { lo := 96, bytes := room }, { lo := 128, bytes := 16 * n }],
    alsoWrites := [128], seqs := rs.map ListRec.seq, seqOut := true, fixed := data }

/-! ## Quantisation (R147) -/

/-- Q of R147. -/
def kvQ (fmt : Nat) : Nat := if fmt = 0 then 7 else 127

/-- amax / Q as FP16, nearest even and saturating: code and flags. -/
def kvScale (amax : Num) (q : Nat) : Nat × Nat :=
  match amax with
  | .fin _ m e =>
    let n := m * 2 ^ (200 : Nat)
    convertElem 0xA 2 (.fin false (2 * (n / q) + if n % q = 0 then 0 else 1) (e - 201))
  | v => convertElem 0xA 2 v

/-- One block of 32 elements: scale code, element codes, flags. -/
def kvBlock (fmt : Nat) (vs : List Num) : Nat × List Nat × Nat :=
  if vs.any Num.isNan then (0x7E00, vs.map fun _ => 0, flINV)
  else
    let amax := vs.foldl (fun a v => if a.lt v.abs then v.abs else a) Num.zero
    if amax.isZero then (0, vs.map fun _ => 0, 0)
    else
      let q := kvQ fmt
      let sc := kvScale amax q
      let r := fnEval fnRecip { v := decodeElem 0xA sc.1 }
      let es := vs.map fun v =>
        let x := (Fv.mul { v := v } { r with fl := 0 })
        match x.v with
        | .nan => (0, flINV)
        | .inf s => (ofSigned (fmtWidth fmt) (if s then -(q : Int) else q), 0)
        | .fin s m e =>
          let i : Int := Num.roundInt false m e
          let i := if s then -i else i
          (ofSigned (fmtWidth fmt) (max (-(q : Int)) (min q i)), 0)
      (sc.1, es.map (·.1), es.foldl (fun a p => a ||| p.2) sc.2)

/-- One row of D elements in stored form: element bytes, scale bytes, flags. -/
def kvStore (l : KvLayout) (vs : List Num) : List Byte × List Byte × Nat :=
  if l.scaled then
    let bs := (chunks 32 vs).map (kvBlock l.fmt)
    (leBytes (l.elems l.dim) (Work.packCodes (fmtWidth l.fmt) (bs.flatMap fun b => b.2.1)), bs.flatMap fun b => leBytes 2 b.1,
      bs.foldl (fun a b => a ||| b.2.2) 0)
  else
    let es := vs.map (convertElem 0xB 2)
    (es.flatMap fun e => leBytes 2 e.1, [], es.foldl (fun a p => a ||| p.2) 0)

namespace Work

/-- Writes bytes of a run of pages. -/
def writePages (w : Work) (pages : List Nat) (off : Nat) (bs : List Byte) : Work :=
  w.writePieces (pagePieces pages off bs.length) bs

/-! ## Growth (R137, R138, R148, R149) -/

/-- Chunks of a record that need storage: unbacked ones, and in window mode those whose slot is mapped to a node or holds
older positions. -/
def chunksWanted (q : KvSeq) (c0 c1 : Nat) : List Nat :=
  ((List.range (c1 + 1 - c0)).map (c0 + ·)).filter fun c => match NMap.get none q.chunks (State.slotOf q c) with
    | none => true
    | some k => decide (k.abs < c ∧ k.node ≠ 0)

/-- Backs chunk `c` with pages. -/
def backChunk (q : KvSeq) (c : Nat) (pages : List Nat) : KvSeq :=
  { q with chunks := NMap.set none q.chunks (State.slotOf q c) (some { abs := c, pages := pages }), reserved := q.reserved - pages.length }

/-- The wanted chunks with the pages that the pool found for them (R137, R148). -/
def backWith (w : Work) (q : KvSeq) (cs : List Nat) (cp : Nat) : Option (List Nat) × State → Option KvSeq × Work
  | (none, s) => (none, { w with s := s })
  | (some ps, s) =>
    let q' := (List.range cs.length).foldl (fun q i => backChunk q (cs.getD i 0) ((ps.drop (cp * i)).take cp)) q
    let p := s.kvPool q.pool
    (some q', { w with s := s.setPool q.pool { p with reserved := p.reserved - (q.reserved - q'.reserved) } })

/-- A sequence without the mappings of the slots of chunks `cs`: its references on their nodes drop (R153). -/
def unmapped (q : KvSeq) (cs : List Nat) : KvSeq :=
  { q with chunks := cs.foldl (fun m c => NMap.set none m (State.slotOf q c) none) q.chunks }

/-- Backs every chunk of a run of wanted chunks of sequence `h`, or none of them: first the references of their slots drop, so
that a node nobody else maps can be reclaimed for them (R143, R153). -/
def backAll (w : Work) (h : Nat) (q : KvSeq) (cs : List Nat) : Option KvSeq × Work :=
  let cp := (w.s.poolLayout q.pool).chunkPages
  let q := unmapped q cs
  backWith w q cs cp ((w.s.keepSeq h q).pagesFor q.pool (cp * cs.length) q.reserved)

/-- A sequence as it was, but for mappings to nodes that are gone. -/
def stillMapped (w : Work) (q : KvSeq) : KvSeq :=
  { q with chunks := (q.chunks.filter fun c => match c.2 with
      | some k => decide (k.node = 0) || (NMap.get none w.s.kv.nodes k.node).isSome
      | none => true) }

/-- The slots of a run of chunks that hold older positions: they are discarded and read as zeros (R153, R137). -/
def turnOver (w : Work) (q : KvSeq) (c0 c1 : Nat) : KvSeq × Work :=
  ((List.range (c1 + 1 - c0)).map (c0 + ·)).foldl (fun (a : KvSeq × Work) c =>
    match NMap.get none a.1.chunks (State.slotOf a.1 c) with
    | some k =>
      if k.abs < c ∧ k.node = 0 then
        ({ a.1 with chunks := NMap.set none a.1.chunks (State.slotOf a.1 c) (some { k with abs := c }) },
         { a.2 with s := k.pages.foldl (fun s b => s.zeroMem b 65536) a.2.s })
      else a
    | none => a) (q, w)

/-- One position's quantised row in its chunk or in the pending slot. -/
def putRow (w : Work) (q : KvSeq) (layer head pos : Nat) (pend : Bool) (k v : List Byte × List Byte × Nat) : Work :=
  let l := w.s.poolLayout q.pool
  let data := fun (i : Nat) => if i = 0 then k.1 else if i = 1 then v.1 else if i = 2 then k.2.1 else v.2.1
  l.parts.foldl (fun w i =>
    if pend then w.writePages q.header (l.slotPart layer head i).1 (data i)
    else w.writePages (match NMap.get none q.chunks (State.slotOf q (pos / 64)) with
        | some c => w.s.chunkPages c
        | none => []) (l.unitAt layer head + (l.part (pos % 64) i).1) (data i)) w

/-- Writes the rows of one record, from row `row0` of K and V. -/
def putRows (w : Work) (d : Desc) (q : KvSeq) (r : ListRec) (row0 : Nat) (pend : Bool) : Work :=
  let l := w.s.poolLayout q.pool
  let f := d.fld 191 184
  (List.range r.count).foldl (fun w i =>
    (List.range l.heads).foldl (fun w h =>
      let e := ((row0 + i) * l.heads + h) * l.dim
      let k := w.readElems (d.fld 95 64) f e l.dim 0 0 0
      let v := k.2.readElems (d.fld 127 96) f e l.dim 0 0 0
      let ks := kvStore l k.1
      let vs := kvStore l v.1
      (v.2.flag (ks.2.2 ||| vs.2.2)).putRow q (d.fld 183 176) h (r.pos + i) pend ks vs) w) w

/-- A record's answer: status and the reason of R148. -/
abbrev RecRes := Nat × Nat

/-- The pending slot reads as zeros before a position is first written to it (R137). -/
def clearSlot (w : Work) (q : KvSeq) : Work :=
  (pagePieces q.header 256 (w.s.poolLayout q.pool).slot).foldl (fun w p => match p.1 with
    | some a => { w with s := w.s.zeroMem a p.2 }
    | none => w) w

/-- The pending position is written to the slot and the sequence freezes. -/
def freeze (w : Work) (d : Desc) (h : Nat) (q : KvSeq) (r : ListRec) (row0 state reason : Nat) : Work :=
  let q' := { q with
    state := state, denied := if reason = 0 then q.denied else reason, length := max q.length (r.pos + 1),
    pendingPos := some r.pos, pendingLayers := 2 ^ d.fld 183 176 }
  let w := (w.clearSlot q).putRows d q r row0 true
  { w with s := w.s.setSeq h q' }

def countDenied (w : Work) (key : Nat) : Work := { w with s := w.s.bump (State.poolIdx key) 0x0F 1 (State.poolInst key) }

/-- The end of one KV_APPEND record that wants chunks `cs` (R146, R148, R149): its pages were denied, or its rows land. A
denied record of several positions writes nothing, so its slots stay mapped where their nodes still stand (log 151). -/
def appendBacked (d : Desc) (pool : Nat) (r : ListRec) (row0 : Nat) (q : KvSeq) (cs : List Nat) :
    Option KvSeq × Work → RecRes × Work
  | (none, w) =>
    let why := w.s.denyReason pool ((w.s.poolLayout pool).chunkPages * cs.length)
    let w := w.countDenied pool
    if r.count = 1 then ((St.kvGrowDenied, why), w.freeze d r.seq (unmapped q cs) r row0 1 why)
    else ((St.kvGrowDenied, why), { w with s := w.s.setSeq r.seq { w.stillMapped q with denied := why } })
  | (some q, w) =>
    let t := w.turnOver q (r.pos / 64) ((r.pos + r.count - 1) / 64)
    let q := { t.1 with length := max t.1.length (r.pos + r.count) }
    let w := t.2.putRows d q r row0 false
    ((0, 0), { w with s := w.s.setSeq r.seq q })

/-- One record of KV_APPEND (R146 to R151). -/
def appendRec (w : Work) (d : Desc) (pool : Nat) (r : ListRec) (row0 : Nat) : RecRes × Work :=
  match w.s.seq r.seq with
  | none => ((St.handleUnknown, 0), w)
  | some q =>
    let last := r.pos + r.count - 1
    let layer := d.fld 183 176
    if q.pool ≠ pool then ((St.kvListInvalid, 0), w)
    else if r.count = 0 then ((0, 0), w)
    else if q.state ≠ 0 then
      if r.count = 1 ∧ q.pendingPos = some r.pos then
        let w := w.putRows d q r row0 true
        let w := { w with s := w.s.setSeq r.seq { q with pendingLayers := q.pendingLayers ||| 2 ^ layer } }
        if q.state = 1 then ((St.kvGrowDenied, q.denied), w.countDenied pool) else ((St.kvLengthExceeded, 0), w)
      else ((St.kvFrozen, 0), w)
    else if q.length < r.pos ∨ r.pos / 64 < q.prefixChunks ∨ (q.window ∧ 64 * (q.maxChunks - 1) < r.count) then
      ((St.kvPositionInvalid, 0), w)
    else if !q.window ∧ 64 * q.maxChunks ≤ last then
      if r.count = 1 then ((St.kvLengthExceeded, 0), w.freeze d r.seq q r row0 2 0) else ((St.kvLengthExceeded, 0), w)
    else
      let cs := chunksWanted q (r.pos / 64) (last / 64)
      appendBacked d pool r row0 q cs (w.backAll r.seq q cs)

/-- Writes the records' STATUS fields and completes with the first that is not OK, its index in DETAIL[15:0] and the reason
in DETAIL[23:16] (R145, R148). -/
def settleList (w : Work) (list : Nat) (rs : List RecRes) : Work :=
  let w := (List.range rs.length).foldl (fun w i => w.write list (16 * i + 10) (leBytes 2 (rs.getD i (0, 0)).1)) w
  match (rs.mapIdx fun i r => (i, r)).find? fun p => decide (p.2.1 ≠ 0) with
  | some (i, r) => w.fail r.1 (i + 65536 * r.2)
  | none => w

/-- KV_APPEND: a redundant pair that never matched writes nothing (R163). -/
def append (w : Work) (d : Desc) : Work :=
  let rs := listRecs d.data
  match w.s.listPool rs with
  | none => w
  | some pool =>
    if d.unwritten ≠ [] then w
    else
      let r := rs.foldl (fun (a : List RecRes × Nat × Work) x =>
        let y := a.2.2.appendRec d pool x a.2.1
        (a.1 ++ [y.1], a.2.1 + x.count, y.2)) ([], 0, { w with undef := false })
      r.2.2.settleList (d.fld 159 128) r.1

/-! ## Opening, closing, resuming, publishing -/

/-- Walks the prefix tree over groups of tokens; the accepted nodes in order (R140). -/
def walkPrefix (w : Work) (key : Nat) (bs : List Byte) : Nat → Nat → Nat → Nat → List Nat
  | 0, _, _, _ => []
  | fuel + 1, g, parent, h =>
    let t := tokenGroup bs g
    let hash := prefixHash h t
    match w.s.kv.nodes.find? fun e => match e.2 with
      | some n => decide (n.pool = key ∧ n.parent = parent ∧ n.hash = hash ∧ n.tokens = t)
      | none => false with
    | some e => e.1 :: w.walkPrefix key bs fuel (g + 1) e.1 hash
    | none => []

/-- Marks a node as the most recently matched or published. -/
def touchNode (w : Work) (id : Nat) : Work :=
  let s := { w.s with kv := { w.s.kv with useCount := w.s.kv.useCount + 1 } }
  match NMap.get none s.kv.nodes id with
  | some n => { w with s := s.setNode id (some { n with lastUse := s.kv.useCount }) }
  | none => { w with s := s }

/-- The header's pages and, in a committed pool, the reservation of R138. -/
def openPages (w : Work) (key maxChunks : Nat) : Option (List Nat × Nat) × Work :=
  let l := w.s.poolLayout key
  let p := w.s.kvPool key
  if w.s.poolCommitted key then
    let n := l.headerPages + maxChunks * l.chunkPages
    if p.free.length < p.reserved + n then (none, w)
    else
      let hs := p.free.take l.headerPages
      let s := hs.foldl (fun s b => s.zeroMem b 65536) w.s
      (some (hs, n - l.headerPages),
        { w with s := s.setPool key { p with free := p.free.drop l.headerPages, reserved := p.reserved + (n - l.headerPages) } })
  else match w.s.pagesFor key l.headerPages 0 with
    | (some ps, s) => (some (ps, 0), { w with s := s })
    | (none, s) => (none, { w with s := s })

/-- The end of KV_SEQ_OPEN (R140): no pages, so the entry is dropped again, or the sequence is open and its matched nodes are in use. -/
def opened (h : Nat) (q : KvSeq) (nodes : List Nat) : Option (List Nat × Nat) × Work → Work
  | (none, w) => { w with s := { w.s with kv := { w.s.kv with seqs := NMap.set none w.s.kv.seqs h none } } }.fail St.kvNoSpace 0
  | (some (ps, res), w) =>
    let w := { w with s := w.s.setSeq h { q with header := ps, reserved := res } }
    { nodes.foldl touchNode w with det := if w.st = 0 then h else w.det }

/-- KV_SEQ_OPEN (R138 to R140). -/
def seqOpen (w : Work) (d : Desc) : Work :=
  match w.s.poolOf w.sl (d.fld 95 64) with
  | none => w.fail St.handleUnknown (d.fld 95 64)
  | some key =>
    let maxC := d.fld 167 152
    let t := d.fld 148 128
    let r := w.read (d.fld 127 96) 0 (4 * t)
    let w := r.2
    let nodes := w.walkPrefix key r.1 (min (t / 64) maxC) 0 0 (w.s.poolGet key 8)
    if 65536 ≤ (w.s.poolSeqs key).length then w.fail St.kvNoSpace 0
    else
      let g := w.s.objectHandle w.s.objectsUsed
      let chunkMap : NMap (Option KvChunk) := (List.range nodes.length).foldl (fun m i =>
        NMap.set none m i (some { abs := i, node := nodes.getD i 0 })) []
      -- the accepted nodes carry their references before any reclaim can choose them (R143)
      let q : KvSeq := { pool := key, window := d.w.getLsbD 168, committed := w.s.poolCommitted key, maxChunks := maxC, header := [],
                         chunks := chunkMap, prefixChunks := nodes.length, length := 64 * nodes.length }
      let held := { w with s := g.2.keepSeq g.1 q }
      opened g.1 q nodes (held.openPages key maxC)

/-- KV_SEQ_CLOSE (R144). -/
def seqClose (w : Work) (d : Desc) : Work :=
  match w.s.seq (d.fld 95 64) with
  | none => w
  | some q => { w with s := w.s.keepSeq (d.fld 95 64) { q with closed := true } }

/-- Copies the held layers of the pending slot into the position's chunk. -/
def landPending (w : Work) (q : KvSeq) (pos : Nat) : Work :=
  let l := w.s.poolLayout q.pool
  ((List.range l.layers).filter q.pendingLayers.testBit).foldl (fun w layer =>
    (List.range l.heads).foldl (fun w h =>
      l.parts.foldl (fun w i =>
        let from_ := l.slotPart layer h i
        let r := w.readPieces (pagePieces q.header from_.1 from_.2)
        r.2.writePages (r.2.s.pagesOf q (pos / 64)) (l.unitAt layer h + (l.part (pos % 64) i).1) r.1) w) w) w

/-- The end of KV_RESUME (R152): the chunk was denied again, or the pending rows land. -/
def resumeBacked (h : Nat) (q : KvSeq) (pos : Nat) : Option KvSeq × Work → Work
  | (none, w) =>
    let why := w.s.denyReason q.pool (w.s.poolLayout q.pool).chunkPages
    { w with s := w.s.setSeq h { q with denied := why } }.fail St.kvGrowDenied (65536 * why)
  | (some q, w) =>
    let w := w.landPending q pos
    { w with s := w.s.setSeq h { q with state := 0, pendingPos := none, pendingLayers := 0 } }

/-- KV_RESUME (R152). -/
def resume (w : Work) (d : Desc) : Work :=
  let h := d.fld 95 64
  match w.s.seq h with
  | none => w
  | some q =>
    if q.state = 0 then w
    else if q.state = 2 then w.fail St.kvLengthExceeded 0
    else
      let pos := q.pendingPos.getD 0
      resumeBacked h q pos (w.backAll h q (chunksWanted q (pos / 64) (pos / 64)))

/-- Room for one more node under PREFIX_NODE_LIMIT: where the count meets the limit nodes are reclaimed, one at a time, until
it is under it or none is reclaimable; the reclaims stand either way. A limit of 0 disables publishing and reclaims nothing
(R143; log 151). -/
def nodeRoom (w : Work) (key : Nat) : Nat → Bool × Work
  | 0 => (false, w)
  | fuel + 1 =>
    let sl := 0x4700 + key / 16
    if w.s.get sl 2 < w.s.get sl 1 then (true, w)
    else if w.s.get sl 1 = 0 then (false, w)
    else match w.s.reclaimOne key with
      | some s => ({ w with s := s } : Work).nodeRoom key fuel
      | none => (false, w)

/-- A new node takes over the pages of chunk `c`, and the region maps it. A committed region's reservation holds for the chunk
again (R138, R142). -/
def makeNode (w : Work) (h c parent hash : Nat) (t : List Byte) (q : KvSeq) (k : KvChunk) : Work :=
  let id := w.s.kv.lastNode + 1
  let s := { w.s with kv := { w.s.kv with lastNode := id, useCount := w.s.kv.useCount + 1 } }
  let s := s.setNode id (some { pool := q.pool, parent := parent, hash := hash, tokens := t, pages := k.pages, lastUse := s.kv.useCount })
  let sl := q.pool / 16
  let s := s.set (0x4700 + sl) 2 (s.get (0x4700 + sl) 2 + 1)
  let cp := if q.committed then k.pages.length else 0
  let p := s.kvPool q.pool
  let s := s.setPool q.pool { p with reserved := p.reserved + cp }
  { w with s := s.setSeq h { q with chunks := NMap.set none q.chunks c (some { abs := k.abs, node := id }),
                                    prefixChunks := max q.prefixChunks (c + 1), reserved := q.reserved + cp } }

/-- Publishes chunk `c` under `parent`: the node it is then mapped to, with its hash; none where the walk stops. -/
def publishChunk (w : Work) (h c parent hash : Nat) (t : List Byte) : Option (Nat × Nat) × Work :=
  match w.s.seq h with
  | none => (none, w)
  | some q =>
    let hsh := prefixHash hash t
    let stop := decide (q.length < 64 * (c + 1)) || (match q.pendingPos with
      | some p => decide (p / 64 = c)
      | none => false) || (q.window && decide (64 * q.maxChunks < q.length))
    let same := w.s.kv.nodes.find? fun e => match e.2 with
      | some n => decide (n.pool = q.pool ∧ n.parent = parent ∧ n.hash = hsh ∧ n.tokens = t)
      | none => false
    match NMap.get none q.chunks c with
    | none => (none, w)
    | some k =>
      if stop then (none, w)
      else match same with
        | some e => if k.node = e.1 then (some (e.1, hsh), w.touchNode e.1) else (none, w)
        | none =>
          if k.node ≠ 0 then (none, w)
          else
            let r := w.nodeRoom q.pool (w.s.kv.nodes.length + 1)
            if r.1 then (some (r.2.s.kv.lastNode + 1, hsh), r.2.makeNode h c parent hsh t q k) else (none, r.2)

/-- Publishes chunks from `c` on; the number of leading chunks mapped when the walk ends. -/
def publishFrom (w : Work) (h : Nat) (bs : List Byte) : Nat → Nat → Nat → Nat → Nat × Work
  | 0, c, _, _ => (c, w)
  | fuel + 1, c, parent, hash => match w.publishChunk h c parent hash (tokenGroup bs c) with
    | (none, w) => (c, w)
    | (some (id, hsh), w) => w.publishFrom h bs fuel (c + 1) id hsh

/-- Leading chunks of a sequence that are mapped to nodes. -/
def leadingMapped (q : KvSeq) : Nat → Nat → Nat
  | 0, c => c
  | fuel + 1, c => match NMap.get none q.chunks c with
    | some k => if k.node ≠ 0 then leadingMapped q fuel (c + 1) else c
    | none => c

/-- KV_PREFIX_PUBLISH (R142). -/
def publish (w : Work) (d : Desc) : Work :=
  let h := d.fld 95 64
  let n := d.fld 143 128
  let r := w.read (d.fld 127 96) 0 (256 * n)
  match r.2.s.seq h with
  | none => r.2
  | some q =>
    let p := r.2.publishFrom h r.1 n 0 0 (r.2.s.poolGet q.pool 8)
    match p.2.s.seq h with
    | none => p.2
    | some q => { p.2 with det := if p.2.st = 0 then leadingMapped q (q.maxChunks + 1) 0 else p.2.det }

end Work

/-- KV_APPEND (R145 to R151). -/
def execKvAppend (q n : Nat) (s : State) : Out := .next (s.runDesc q n (· = 0x0301) Work.append)

/-- KV_SEQ_OPEN (R138 to R141). -/
def execKvSeqOpen (q n : Nat) (s : State) : Out := .next (s.runDesc q n (· = 0x0302) Work.seqOpen)

/-- KV_SEQ_CLOSE (R144). -/
def execKvSeqClose (q n : Nat) (s : State) : Out := .next (s.runDesc q n (· = 0x0303) Work.seqClose)

/-- KV_RESUME (R152). -/
def execKvResume (q n : Nat) (s : State) : Out := .next (s.runDesc q n (· = 0x0304) Work.resume)

/-- KV_PREFIX_PUBLISH (R142, R143). -/
def execKvPrefixPublish (q n : Nat) (s : State) : Out := .next (s.runDesc q n (· = 0x0305) Work.publish)

end Sys2Proof.Machine
end

