-- ==== Sys2Proof/Machine/Attention.lean ====
section
/-! DEFINITION. ATTENTION, ATTN_COMBINE and KV_BLOCK_EXPORT (R154 to R163). -/

namespace Sys2Proof.Machine

open Sys2Proof

/-- The fields of Table ATT-8. -/
structure Attn where
  block : Bool
  accum : Bool
  part : Bool
  causal : Bool
  cvt : Nat
  of_ : Nat
  qf : Nat
  hq : Nat
  layer : Nat
  qpos0 : Nat
  count : Nat
  window : Nat
  scale : Nat
  ml : Nat
  kv : Nat
  o : Nat
  q : Nat
deriving DecidableEq, Repr

def attnOf (d : Desc) : Attn :=
  { block := d.w.getLsbD 335, accum := d.w.getLsbD 334, part := d.w.getLsbD 333, causal := d.w.getLsbD 332, cvt := d.fld 331 324,
    of_ := d.fld 323 316, qf := d.fld 315 308, hq := d.fld 307 300, layer := d.fld 299 292, qpos0 := d.fld 291 272,
    count := d.fld 271 256, window := d.fld 243 224, scale := d.fld 223 192, ml := d.fld 191 160, kv := d.fld 159 128,
    o := d.fld 127 96, q := d.fld 95 64 }

/-- Output formats with no scale handle. -/
def plainOut (f : Nat) : Bool := fmtOut f && !fmtBS f

/-- Checks of ATTENTION. -/
def attnInfo (s : State) (d : Desc) : OpInfo :=
  let a := attnOf d
  let data := if a.block ∨ s.tbytes a.kv < 16 * a.count then [] else s.peekList a.kv a.count
  let rs := listRecs data
  let l : Option KvLayout := (s.listPool rs).map s.poolLayout
  let rows := listRows rs
  let dim := match l with
    | some l => l.dim
    | none => 0
  let uses : List HUse :=
    [{ lo := 64, bytes := fmtBytes (fmtCode a.qf) (rows * a.hq * dim) },
     { lo := 96, out := true, bytes := fmtBytes (fmtCode a.of_) (rows * a.hq * dim) },
     { lo := 128, bytes := if a.block then 64 else 16 * a.count },
     { lo := 160, out := true, bytes := if l = none then 0 else 8 * rows * a.hq, zeroOk := true }]
  { reserved := [(511, 336), (255, 244), cvtReserved 324, fmtReserved 308, fmtReserved 316],
    fmt := firstFail
      [fmtFail (decide (a.qf = 0x0A ∨ a.qf = 0x0B)) 308, fmtFail (plainOut a.of_ && (!a.part || decide (a.of_ = 0x0C))) 316],
    bad := badBits
      [(a.accum && !a.part, 333), (a.part != decide (a.ml ≠ 0), 160), (decide (a.hq = 0), 300),
       (match l with
         | some l => decide (a.hq % l.heads ≠ 0)
         | none => false, 300),
       (if a.block then decide (a.layer ≠ 0) else (match l with
         | some l => decide (l.layers ≤ a.layer)
         | none => false), 292),
       (!a.block && decide (a.qpos0 ≠ 0), 272), (decide (a.count = 0), 256)],
    barWeights := true,
    clash := clashes d uses (fun _ _ => false),
    uses := uses, alsoWrites := if a.block then [] else [128], alsoReads := if a.accum then [96, 160] else [], seqs := rs.map ListRec.seq, fixed := data }

/-- Checks of ATTN_COMBINE (Table ATT-9). -/
def combineInfo (d : Desc) : OpInfo :=
  let final := d.w.getLsbD 281
  let dim := d.fld 264 256
  let rows := d.fld 255 224
  let f := d.fld 272 265
  let part : Nat := 4 * rows * dim
  let uses : List HUse :=
    [{ lo := 64, bytes := part }, { lo := 96, bytes := 8 * rows }, { lo := 64, out := true, bytes := part },
     { lo := 96, out := true, bytes := 8 * rows }]
    ++ (if d.fld 159 128 = 0 then [] else [{ lo := 128, bytes := part }, { lo := 160, bytes := 8 * rows }])
    ++ (if final then [{ lo := 192, out := true, bytes := fmtBytes (fmtCode f) (rows * dim) }] else [])
  { reserved := [(511, 282), cvtReserved 273, fmtReserved 265],
    fmt := firstFail [fmtFail (!final || plainOut f) 265],
    bad := badBits
      [(decide (dim < 32 ∨ 256 < dim ∨ dim % 32 ≠ 0), 256), (decide (rows = 0), 224),
       (decide (d.fld 159 128 = 0) && !final, 128), (decide (d.fld 159 128 = 0 ∧ d.fld 191 160 ≠ 0), 160),
       (!final && decide (d.fld 223 192 ≠ 0), 192)],
    barWeights := true,
    clash := clashes d uses (fun o i => decide (o.lo = i.lo)),
    uses := uses }

/-- Checks of KV_BLOCK_EXPORT (R161). -/
def blockExportInfo (s : State) (d : Desc) : OpInfo :=
  let len := d.fld 160 148
  let l : Option KvLayout := (s.seq (d.fld 95 64)).map fun q => s.poolLayout q.pool
  { reserved := [(511, 169)],
    bad := badBits
      [(decide (d.fld 147 128 % 64 ≠ 0), 128), (decide (len < 64 ∨ 4096 < len ∨ len % 64 ≠ 0), 148),
       (match l with
         | some l => decide (l.layers ≤ d.fld 168 161)
         | none => false, 161)],
    uses := [{ lo := 64, kind := .seq }, { lo := 96, out := true, bytes := match l with
      | some l => 64 + len / 64 * (l.heads * l.unit)
      | none => 64 }],
    barWeights := true,
    clash := clashes d [{ lo := 96, out := true }] (fun _ _ => false) }

/-! ## Partials (R156 to R159) -/

/-- A row's running state: accumulator row, maximum, sum, flags, and whether a bad score was met. -/
structure RowPart where
  o : List Fv
  m : Num
  l : Fv
  fl : Nat := 0
  bad : Bool := false

/-- The start of R156. -/
def RowPart.start (dim : Nat) : RowPart := { o := List.replicate dim Fv.zero, m := .inf true, l := Fv.zero }

/-- exp(a − b), 0 where a is −∞. -/
def expDiff (a b : Num) : Fv := if a = .inf true then Fv.zero else fnEval fnExp (Fv.sub { v := a } { v := b })

/-- R159: of the products of a row's elements the first is rounded before the add; those of l, of which the rule says nothing, are
both FP32 operations. -/
def RowPart.combine (a b : RowPart) : RowPart :=
  let m := (fvMax { v := a.m } { v := b.m }).v
  let c1 := expDiff a.m m
  let c2 := expDiff b.m m
  { o := List.zipWith (fun x y => y.fma c2 (x.mul c1)) a.o b.o, m := m, l := (a.l.mul c1).add (b.l.mul c2),
    fl := a.fl ||| b.fl, bad := a.bad || b.bad }

/-- The row as it is written: bad rows are the canonical NaN with INV (R157). -/
def RowPart.settle (r : RowPart) : RowPart :=
  if r.bad then { r with o := r.o.map fun _ => { v := .nan }, m := .nan, l := { v := .nan }, fl := r.fl ||| flINV } else r

/-- O × reciprocal(l); l = 0 gives zeros. -/
def RowPart.normal (r : RowPart) : List Fv :=
  if r.l.v.isZero then r.o.map fun _ => Fv.zero
  else
    let k := fnEval fnRecip r.l
    r.o.map fun x => x.mul k

/-- A stored key or value row: elements, and one FP16 scale per 32 of them (none for BF16). -/
structure KvRow where
  els : List Num
  scales : List Num
deriving DecidableEq, Repr

/-- The scale of element block `b`. -/
def KvRow.scale (r : KvRow) (b : Nat) : Num := r.scales.getD b (Num.ofInt 1)

/-- The dot product d of R154. -/
def dotKey (q : List Num) (k : KvRow) : Fv :=
  let bs := (List.range (cdiv q.length 32)).map fun b =>
    let p := block8 ((q.drop (32 * b)).take 32) ((k.els.drop (32 * b)).take 32)
    if k.scales = [] then p else p.mul { v := k.scale b }
  tree Fv.add Fv.zero 3 bs

/-- Value row rounded to BF16, with the flags of its dequantisation (R76, R156). -/
def valueRow (v : KvRow) : List Num × Nat :=
  if v.scales = [] then (v.els, 0)
  else
    let xs := v.els.mapIdx fun i x =>
      let p := Fv.mul { v := x } { v := v.scale (i / 32) }
      let c := convertElem 0xB 0 p.v
      (decodeElem 0xB c.1, p.fl ||| c.2)
    (xs.map (·.1), xs.foldl (fun a p => a ||| p.2) 0)

/-- One block of up to 512 positions: scores of the visible positions (none for the others), and the value rows with their
flags. -/
def RowPart.block (r : RowPart) (scores : List (Option Fv)) (vals : List (List Num × Nat)) : RowPart :=
  let fl := scores.foldl (fun a s => match s with
    | some s => a ||| s.fl
    | none => a) r.fl
  let bad := scores.any fun s => match s with
    | some s => s.v.isNan || decide (s.v = .inf false)
    | none => false
  if bad then { r with bad := true, fl := fl }
  else
    let seen := scores.map fun s => match s with
      | some s => if s.v = .inf true then none else some s.v
      | none => none
    let mNew := seen.foldl (fun a s => match s with
      | some v => if a.lt v then v else a
      | none => a) r.m
    let c := expDiff r.m mNew
    let rise := r.m.lt mNew
    let o := if rise then r.o.map fun x => x.mul c else r.o
    let l := if rise then r.l.mul c else r.l
    let es := seen.map fun s => s.map fun v => expDiff v mNew
    let ps := es.map fun s => match s with
      | some p => decodeElem 0xB (convertElem 0xB 0 p.v).1
      | none => Num.zero
    let fl := es.foldl (fun a s => a ||| (s.map (·.fl)).getD 0) fl
    let fl := (List.zip seen vals).foldl (fun a p => if p.1.isSome then a ||| p.2.2 else a) fl
    let l := (List.zip seen ps).foldl (fun a p => if p.1.isSome then a.add { v := p.2 } else a) l
    let vs := List.zipWith (fun s v => if Option.isSome s then v.1 else []) seen vals
    let o := o.mapIdx fun e x =>
      (List.range (cdiv ps.length 128)).foldl (fun acc i =>
        passSum (block16 false) acc ((ps.drop (128 * i)).take 128) (((vs.drop (128 * i)).take 128).map fun v => v.getD e Num.zero)) x
    { r with o := o, m := mNew, l := l, fl := fl }

/-! ## Sources of keys and values -/

/-- Where keys and values come from: a sequence's layer, or a KV block tensor whose first position is `pos0`. -/
inductive KvSource where
  | seq (q : KvSeq) (layer : Nat)
  | block (h pos0 : Nat)

namespace Work

/-- The parts of a stored position: elements of keys (0) or values (1), with their scales. -/
def kvRow (w : Work) (l : KvLayout) (src : KvSource) (head pos which : Nat) : KvRow × Work :=
  let rd := fun (w : Work) (i : Nat) =>
    match src with
    | .seq q layer =>
      if q.pendingPos = some pos then
        let p := l.slotPart layer head i
        (w.staged 8 p.2).readPieces (pagePieces q.header p.1 p.2)
      else
        let p := l.part (pos % 64) i
        match w.s.pagesOf q (pos / 64) with
        | [] => (List.replicate p.2 0, w)
        | ps => (w.staged 8 p.2).readPieces (pagePieces ps (l.unitAt layer head + p.1) p.2)
    | .block h pos0 =>
      let p := l.part ((pos - pos0) % 64) i
      w.read h (64 + ((pos - pos0) / 64 * l.heads + head) * l.unit + p.1) p.2
  let e := rd w which
  let n := leNat e.1
  let wd := fmtWidth l.fmt
  let els := (List.range l.dim).map fun i => decodeElem l.fmt ((n >>> (i * wd)) % 2 ^ wd)
  if l.scaled then
    let sc := rd e.2 (which + 2)
    ({ els := els, scales := (List.range (l.dim / 32)).map fun b => decodeElem 0xA (field sc.1 (2 * b) 2) }, sc.2)
  else ({ els := els, scales := [] }, e.2)

end Work

/-- The positions `lo ≤ j < hi` that a row at its own position sees (R154). -/
def sees (a : Attn) (own last j : Nat) : Bool :=
  let top := if a.causal then own else last
  (!a.causal || decide (j ≤ own)) && decide (a.window = 0 ∨ top < j + a.window)

/-- One run of rows of a sequence: source, layout, first row of the tensors, number of rows, position of row 0, first
position available and one past the last. -/
structure AttnSeq where
  src : KvSource
  l : KvLayout
  row0 : Nat
  count : Nat
  pos0 : Nat
  lo : Nat
  hi : Nat

/-! ## Tiles (R160) -/

/-- Row chunks of 512 of one sequence and KV head. -/
def rowChunks (count gq : Nat) : Nat := cdiv (count * gq) 512

/-- Tiles before ranges: sequences as (rows, positions). -/
def attnBase (hq heads : Nat) (seqs : List (Nat × Nat)) : Nat :=
  seqs.foldl (fun a s => a + heads * rowChunks s.1 (hq / heads)) 0

/-- Ranges into which a sequence's positions are cut. -/
def rangesOf (cut : Bool) (positions : Nat) : Nat := if cut then max 1 (cdiv positions 8192) else 1

def attnTileCount (hq heads e : Nat) (seqs : List (Nat × Nat)) : Nat :=
  let cut := decide (attnBase hq heads seqs < e)
  seqs.foldl (fun a s => a + heads * rowChunks s.1 (hq / heads) * rangesOf cut s.2) 0

namespace State

/-- The layout in a KV block's header (Table ATT-10): layout, first position, positions; none for a header that R162
refuses. -/
def blockHeader (b : List Byte) (hq : Nat) : Option (KvLayout × Nat × Nat) :=
  let l : KvLayout := { fmt := field b 0 1, layers := 1, heads := field b 1 1, dim := field b 2 2 }
  if field b 5 3 ≠ 0 ∨ field b 14 50 ≠ 0 ∨ l.heads = 0 then none
  else if hq % l.heads ≠ 0 then none
  else if (l.fmt ≠ 0x0B ∧ l.fmt ≠ 1 ∧ l.fmt ≠ 0) ∨ l.dim < 32 ∨ 256 < l.dim ∨ l.dim % 32 ≠ 0 then none
  else some (l, field b 8 4, field b 12 2)

/-- Tiles of an ATTENTION descriptor for `e` engines. -/
def attnTiles (s : State) (d : Desc) (e : Nat) : Nat :=
  let a := attnOf d
  if a.block then
    match blockHeader ({ s := s, q := 0, n := 0, sl := 0, prio := 0, m := Requester.secProc : Work }.peek a.kv 0 64) a.hq with
    | some (l, _, len) => attnTileCount a.hq l.heads e [(a.count, len)]
    | none => 0
  else
    let rs := listRecs d.data
    match s.listPool rs with
    | some p => attnTileCount a.hq (s.poolLayout p).heads e (rs.map fun r => (r.count, r.pos))
    | none => 0

end State

namespace Work

/-- Keys and values of one head for the positions of a range, by position. -/
def fetchKv (w : Work) (x : AttnSeq) (head lo hi : Nat) (want : Nat → Bool) : NMap (Option (KvRow × List Num × Nat)) × Work :=
  (((List.range (hi - lo)).map (lo + ·)).filter want).foldl (fun (a : NMap (Option (KvRow × List Num × Nat)) × Work) j =>
    let k := a.2.kvRow x.l x.src head j 0
    let v := k.2.kvRow x.l x.src head j 1
    (NMap.insert a.1 j (some (k.1, valueRow v.1)), v.2)) ([], w)

/-- The partial of one row over a range of positions. -/
def rowOver (a : Attn) (x : AttnSeq) (kv : NMap (Option (KvRow × List Num × Nat))) (q : List Num) (own lo hi : Nat) (r : RowPart) : RowPart :=
  (List.range (cdiv (hi - lo) 512)).foldl (fun (r : RowPart) b =>
    let js := (List.range (min 512 (hi - lo - 512 * b))).map fun i => lo + 512 * b + i
    let rows := js.map fun j => if sees a own (x.hi - 1) j then NMap.get none kv j else none
    let scores := rows.map fun k => k.map fun k => Fv.mul { v := decodeElem 0xC a.scale } (dotKey q k.1)
    r.block scores (rows.map fun k => match k with
      | some k => k.2
      | none => ([], 0))) r

/-- One chunk of rows of a sequence and KV head: its partials over the ranges, combined in the order given. CVT converts O alone;
(m, l) are written as they are (R158). -/
def attnChunk (w : Work) (a : Attn) (d : Desc) (x : AttnSeq) (head c ranges : Nat) (total : Nat) : Work :=
  let gq := a.hq / x.l.heads
  let rows := (List.range (min 512 (x.count * gq - 512 * c))).map fun i => 512 * c + i
  let ord := w.arrival (decide (d.run ≠ 0)) (List.range ranges)
  let bounds := fun (k : Nat) => if ranges = 1 then (x.lo, x.hi) else (max x.lo (8192 * k), min x.hi (8192 * k + 8192))
  let want := fun (j : Nat) => rows.any fun r => sees a (x.pos0 + r / gq) (x.hi - 1) j
  let kv := ord.2.fetchKv x head x.lo x.hi want
  rows.foldl (fun w r =>
    let i := r / gq
    let h := head * gq + r % gq
    let at_ := (x.row0 + i) * a.hq + h
    let q := w.readElems a.q a.qf (at_ * x.l.dim) x.l.dim 0 0 0
    let old := if a.accum then q.2.readElems a.o 0xC (at_ * x.l.dim) x.l.dim 0 0 0 else ([], q.2)
    let ml := if a.accum then old.2.readElems a.ml 0xC (at_ * 2) 2 0 0 0 else ([], old.2)
    let init : RowPart := if a.accum then
        { o := old.1.map fun v => { v := v }, m := ml.1.getD 0 (.inf true), l := { v := ml.1.getD 1 Num.zero } }
      else RowPart.start x.l.dim
    let ps := (List.range ranges).map fun k =>
      rowOver a x kv.1 q.1 (x.pos0 + i) (bounds k).1 (bounds k).2 (if k = 0 then init else RowPart.start x.l.dim)
    let all := match ord.1.filterMap fun k => ps[k]? with
      | [] => init
      | p :: rest => rest.foldl RowPart.combine p
    let res := all.settle
    let w := ml.2.flag res.fl
    if a.part then
      (w.writeElems a.o 0xC a.cvt (at_ * x.l.dim) res.o total 0 0 (State.toSerai d 0)).writeElems a.ml 0xC 0 (at_ * 2)
        [{ v := res.m }, res.l] 0 0 0 (State.toSerai d 1)
    else w.writeElems a.o a.of_ a.cvt (at_ * x.l.dim) (if all.bad then res.o else res.normal) total 0 0 (State.toSerai d 0)) kv.2

/-- All rows of one sequence; `t0` is the number of its first tile. -/
def attnSeq (w : Work) (a : Attn) (d : Desc) (x : AttnSeq) (cut : Bool) (t0 total : Nat) : Work :=
  let chunks := rowChunks x.count (a.hq / x.l.heads)
  let ranges := rangesOf cut x.hi
  let ranges := if a.block then 1 else ranges
  (List.range (x.l.heads * chunks)).foldl (fun w g =>
    let mine := (List.range ranges).map fun k => t0 + g * ranges + k
    w.group d mine fun w => w.attnChunk a d x (g / chunks) (g % chunks) ranges total) w

/-- Why a pool-mode record fails, 0 where it does not (R151, R155). -/
def attnRecord (a : Attn) (q : KvSeq) (r : ListRec) : Nat :=
  if q.length < r.pos then (if q.state = 0 then St.kvPositionInvalid else St.kvFrozen)
  else if r.pos < r.count then St.kvPositionInvalid
  else
    let first := State.firstStored q
    let seen := (List.range r.count).any fun i =>
      (List.range (min first r.pos)).any fun j => sees a (r.pos - r.count + i) (r.pos - 1) j
    if seen then St.kvPositionInvalid else 0

/-- ATTENTION over a sequence list. -/
def attnPool (w : Work) (a : Attn) (d : Desc) : Work :=
  let rs := listRecs d.data
  match w.s.listPool rs with
  | none => w
  | some pool =>
    let l := w.s.poolLayout pool
    let cut := decide (attnBase a.hq l.heads (rs.map fun r => (r.count, r.pos)) < d.engineCount)
    let total := listRows rs * a.hq * l.dim
    let r := rs.foldl (fun (z : List RecRes × Nat × Nat × Work) r =>
      let w := z.2.2.2
      let n := l.heads * rowChunks r.count (a.hq / l.heads) * rangesOf cut r.pos
      let next := fun (st : Nat) (w : Work) => (z.1 ++ [(st, 0)], z.2.1 + r.count, z.2.2.1 + n, w)
      match w.s.seq r.seq with
      | none => next St.handleUnknown w
      | some q =>
        if q.pool ≠ pool then next St.kvListInvalid w
        else
          let st := attnRecord a q r
          if st ≠ 0 ∨ r.count = 0 then next st w
          else
            let x : AttnSeq := { src := .seq q a.layer, l := l, row0 := z.2.1, count := r.count, pos0 := r.pos - r.count,
                                 lo := 0, hi := r.pos }
            next 0 (w.attnSeq a d x cut z.2.2.1 total)) ([], 0, 0, w)
    r.2.2.2.settleList a.kv r.1

/-- ATTENTION over one KV block (R162). -/
def attnBlock (w : Work) (a : Attn) (d : Desc) : Work :=
  let h := w.read a.kv 0 64
  let w := h.2
  match State.blockHeader h.1 a.hq with
  | none => w.fail St.kvListInvalid 0
  | some (l, pos0, len) =>
    let n := a.count * a.hq * l.dim
    if w.s.tbytes a.kv < 64 + cdiv len 64 * (l.heads * l.unit) then w.fail St.handleBounds a.kv
    else if w.s.tbytes a.q < fmtBytes (fmtCode a.qf) n then w.fail St.handleBounds a.q
    else if w.s.tbytes a.o < fmtBytes (fmtCode a.of_) n then w.fail St.handleBounds a.o
    else if a.part ∧ w.s.tbytes a.ml < 8 * a.count * a.hq then w.fail St.handleBounds a.ml
    else
      let x : AttnSeq := { src := .block a.kv pos0, l := l, row0 := 0, count := a.count, pos0 := a.qpos0, lo := pos0, hi := pos0 + len }
      w.attnSeq a d x false 0 n

def attention (w : Work) (d : Desc) : Work :=
  let a := attnOf d
  let w := if a.block then w.attnBlock a d else w.attnPool a d
  (w.settleState a.o).settleState a.ml

/-- ATTN_COMBINE (R159). -/
def attnCombine (w : Work) (d : Desc) : Work :=
  let final := d.w.getLsbD 281
  let cvt := d.fld 280 273
  let dim := d.fld 264 256
  let rows := d.fld 255 224
  let oa := d.fld 95 64
  let mla := d.fld 127 96
  let ob := d.fld 159 128
  let out := d.fld 223 192
  let get := fun (w : Work) (o ml r : Nat) =>
    let x := w.readElems o 0xC (r * dim) dim 0 0 0
    let y := x.2.readElems ml 0xC (2 * r) 2 0 0 0
    (({ o := x.1.map fun v => { v := v }, m := y.1.getD 0 (.inf true), l := { v := y.1.getD 1 Num.zero } } : RowPart), y.2)
  let w := w.tiles d fun w t =>
    let span := rowsOfTile rows d.tiles t
    (List.range span.2).foldl (fun w i =>
      let r := span.1 + i
      let p := get w oa mla r
      let c : RowPart × Work := if ob = 0 then p else
        let b := get p.2 ob (d.fld 191 160) r
        (p.1.combine b.1, b.2)
      let w := (c.2.writeElems oa 0xC 0 (r * dim) c.1.o (rows * dim) 0 0 (State.toSerai d 0)).writeElems mla 0xC 0 (2 * r)
        [{ v := c.1.m }, c.1.l] 0 0 0 (State.toSerai d 1)
      if final then w.writeElems out (d.fld 272 265) cvt (r * dim) c.1.normal (rows * dim) 0 0 (State.toSerai d 2) else w) w
  ((w.settleState oa).settleState mla).settleState out

/-- The 64 bytes of a KV block header (Table ATT-10). -/
def blockHead (l : KvLayout) (layer pos0 len : Nat) : List Byte :=
  leBytes 1 l.fmt ++ leBytes 1 l.heads ++ leBytes 2 l.dim ++ leBytes 1 layer ++ leBytes 3 0 ++ leBytes 4 pos0 ++ leBytes 2 len
    ++ List.replicate 50 0

/-- KV_BLOCK_EXPORT (R161). -/
def blockExport (w : Work) (d : Desc) : Work :=
  let pos0 := d.fld 147 128
  let len := d.fld 160 148
  let layer := d.fld 168 161
  let dst := d.fld 127 96
  match w.s.seq (d.fld 95 64) with
  | none => w
  | some q =>
    let l := w.s.poolLayout q.pool
    let pend := match q.pendingPos with
      | some p => decide (pos0 ≤ p ∧ p < pos0 + len)
      | none => false
    if pend then w.fail St.kvFrozen 0
    else if q.length < pos0 + len ∨ pos0 < State.firstStored q then w.fail St.kvPositionInvalid 0
    else
      let w := w.write dst 0 (blockHead l layer pos0 len) (State.toSerai d 0)
      let w := (List.range (len / 64)).foldl (fun w i =>
        let r := (w.staged 8 (l.heads * l.unit)).readPieces (pagePieces (w.s.pagesOf q (pos0 / 64 + i)) (l.unitAt layer 0) (l.heads * l.unit))
        { r.2.output dst (64 + i * (l.heads * l.unit)) r.1 (State.toSerai d 0) with undef := false }) w
      w.settleState dst

end Work

/-- ATTENTION (R154 to R162). -/
def execAttention (q n : Nat) (s : State) : Out := .next (s.runDesc q n (· = 0x0300) Work.attention)

/-- ATTN_COMBINE (R159). -/
def execAttnCombine (q n : Nat) (s : State) : Out := .next (s.runDesc q n (· = 0x0307) Work.attnCombine)

/-- KV_BLOCK_EXPORT (R161). -/
def execKvBlockExport (q n : Nat) (s : State) : Out := .next (s.runDesc q n (· = 0x0306) Work.blockExport)

end Sys2Proof.Machine
end

