-- ==== Sys2Proof/Machine/Switch.lean ====
section
/-! DEFINITION. The Ethernet ports, the TSN switch and its gate control lists (15_vehicle_gateway.md, R331 to R334). -/

namespace Sys2Proof.Machine

open Sys2Proof

/-- A big-endian number. -/
def beNat (bs : List Byte) : Nat := bs.foldl (fun a b => a * 256 + b.toNat) 0

/-- `n` big-endian bytes. -/
def beBytes (n v : Nat) : List Byte := (leBytes n v).reverse

/-- The records of a table of fixed-size records. -/
def records (k : Nat) (b : List Byte) : List (List Byte) := if b = [] then [] else chunks k b

namespace State

/-! ## Ethernet ports -/

def ethGet (s : State) (p sub : Nat) : Nat := s.get (0x2B40 + p) sub

/-- A switch port that carries frames now: an external port with its link up, or P20 or P21. -/
def portUp (s : State) (p : Nat) : Bool := decide (p = 20 ∨ p = 21 ∨ (p < 20 ∧ s.ethGet p 1 = 1 ∧ s.ethGet p 5 = 1))

/-- HARNESS_REVERSED, at most once per pin until module reset (R453). -/
def harnessReversed (s : State) (block unit connector pin : Nat) : State :=
  let key := connector * 256 + pin
  if s.gtw.reversed.contains key then s
  else ({ s with gtw := { s.gtw with reversed := s.gtw.reversed ++ [key] } }).addRecord St.harnessReversed block unit
    (leBytes 1 connector ++ leBytes 1 pin)

/-- Stores a cable test's result, and records what it found (R331). -/
def cableResult (s : State) (p result : Nat) : State :=
  let s := s.set (0x2B40 + p) 7 (result % 4294967296)
  let kind := bits result 31 24
  if kind = 1 ∨ kind = 2 then s.addRecord St.ethCableFault 0x0A p (leBytes 1 p ++ leBytes 4 result) else s

/-- The link of an enabled port goes down (R331). -/
def ethDown (s : State) (p result : Nat) : State :=
  if 19 < p ∨ s.ethGet p 1 = 0 ∨ s.ethGet p 5 = 0 then s
  else ((s.set (0x2B40 + p) 5 0).addRecord St.ethLinkDown 0x0A p (leBytes 1 p ++ leBytes 4 result)).cableResult p result

/-- The link comes up; a polarity that the PHY corrects is reported (R331, R453). -/
def ethUp (s : State) (p sqi : Nat) (swapped : Bool) : State :=
  if 19 < p ∨ s.ethGet p 1 = 0 ∨ s.ethGet p 5 = 1 then s
  else
    let s := (s.set (0x2B40 + p) 5 1).set (0x2B40 + p) 8 (min sqi 7)
    if swapped then s.harnessReversed 0x0A p 3 (2 * p + 1) else s

/-- CABLE_DIAG: the PHY of an enabled port takes a link that is up down, tests and retrains. -/
def cableDiag (s : State) (p result : Nat) : State :=
  if s.ethGet p 1 = 0 then s else (s.set (0x2B40 + p) 5 0).cableResult p result

/-- Writes of a port's entries (Table GTW-5, R331). -/
def ethWrite (s : State) (p sub n : Nat) : WRes :=
  let idx := 0x2B40 + p
  if sub = 1 then
    .ok (if n = 0 then
      ((List.range 8).foldl (fun s c => { s with gtw := { s.gtw with queues := NMap.set [] s.gtw.queues (p * 8 + c) [] } }) s).set
        idx 1 0 |>.set idx 5 0
    else s.set idx 1 n)
  else if sub = 6 then
    let f := s.fresh .result
    .ok (f.2.cableDiag p (f.1 % 4 * 16777216 + f.1 / 4 % 65536))
  else if s.ethGet p 1 ≠ 0 then .abort (Ab.refusal St.gtwPortBusy)
  else if sub = 2 ∧ (if p < 16 then 1 else 7) < n then .abort Ab.value
  else if sub = 3 ∧ (if p < 4 then 2 else 0) < n then .abort Ab.value
  else .ok (s.set idx sub n)

/-! ## The switch's tables (Tables GTW-6 and GTW-7) -/

/-- The ports that are members of a VLAN: none without a record. -/
def vlanMembers (s : State) (vid : Nat) : Nat :=
  match (records 8 (s.getB 0x2B60 1)).find? fun r => decide (field r 0 2 = vid) with
  | some r => field r 4 4
  | none => 0

/-- The static ports of an address. -/
def staticPorts (s : State) (mac vid : Nat) : Option Nat :=
  ((records 16 (s.getB 0x2B60 2)).find? fun r => decide (beNat (r.take 6) = mac ∧ field r 6 2 = vid)).map fun r => field r 8 4

/-- Frames of a VID leave a port untagged. -/
def untags (s : State) (p vid : Nat) : Bool := ((s.getB 0x2B60 6).getD (512 * p + vid / 8) 0).getLsbD (vid % 8)

/-- A switch table's records are well-formed and fit Table GTW-6. -/
def switchTableOk (sub : Nat) (b : List Byte) : Bool :=
  let sizes := match sub with
    | 1 => (8, 4094) | 2 => (16, 1024) | 3 => (32, 2048) | 4 => (32, 256) | 5 => (8, 44) | _ => (11264, 1)
  let rs := records sizes.1 b
  decide (b.length % sizes.1 = 0 ∧ rs.length ≤ sizes.2) && (match sub with
    | 1 => rs.all fun r => decide (1 ≤ field r 0 2 ∧ field r 0 2 ≤ 4094 ∧ field r 2 2 = 0 ∧ field r 4 4 < 2 ^ 22)
    | 2 => rs.all fun r => decide (1 ≤ field r 6 2 ∧ field r 6 2 ≤ 4094 ∧ field r 8 4 < 2 ^ 22 ∧ field r 12 4 = 0)
    | 3 => rs.all (fun r => decide (field r 0 1 ≤ 2))
        && decide ((rs.filter fun r => decide (field r 0 1 = 0)).length ≤ 1024
          ∧ (rs.filter fun r => decide (field r 0 1 = 1)).length ≤ 512
          ∧ (rs.filter fun r => decide (field r 0 1 = 2)).length ≤ 512)
    | 5 => rs.all fun r => decide (field r 4 1 ≤ 21 ∧ (field r 5 1 = 5 ∨ field r 5 1 = 6) ∧ field r 6 2 = 0)
    | _ => true)

/-- Every shaper begins with a credit of 0. -/
def startShapers (s : State) (b : List Byte) : State :=
  { s with gtw := { s.gtw with credit := (records 8 b).foldl (fun c r =>
      NMap.set ((0 : Int), 0) c (field r 4 1 * 8 + field r 5 1) ((0 : Int), s.now)) [] } }

/-- Writes of the switch's tables. -/
def switchWrite (s : State) (sub : Nat) (b : List Byte) : WRes :=
  if switchTableOk sub b then .ok ((if sub = 5 then s.startShapers b else s).setB 0x2B60 sub b)
  else .abort (Ab.refusal St.tsnConfigInvalid)

/-! ## Gates (Table GTW-6) -/

def gclOk (b : List Byte) : Bool :=
  decide (b.length % 8 = 0 ∧ b.length ≤ 2048) && (records 8 b).all fun r => decide (field r 1 3 = 0)

/-- GCL_COMMIT: the admin list, from the first cycle start at or after the base time. -/
def gclCommit (s : State) (p : Nat) : WRes :=
  let idx := 0x2B80 + p
  let b := s.getB idx 1
  let cycle := s.get idx 3
  let base := s.get idx 2
  if b = [] ∨ cycle = 0 then .abort (Ab.refusal St.tsnConfigInvalid)
  else
    let now := s.tb 0
    let start := if now ≤ base then base else base + cdiv (now - base) cycle * cycle
    let g : GateList := { entries := (records 8 b).map fun r => (field r 0 1, field r 4 4), base := start, cycle := cycle }
    .ok ({ s with gtw := { s.gtw with gclPend := NMap.set none s.gtw.gclPend p (some g) } }.set idx 5 1)

/-- Writes of the gate entries of an egress port. -/
def gclWrite (s : State) (idx sub : Nat) (v : DVal) : WRes :=
  match v with
  | .oct b => if gclOk b then .ok (s.setB idx sub b) else .abort (Ab.refusal St.tsnConfigInvalid)
  | .num n => if sub = 4 then s.gclCommit (idx - 0x2B80) else .ok (s.set idx sub n)

/-! ## Frames through the switch (R332, R333) -/

def gateOpen (s : State) (p cls : Nat) : Bool := (s.gates p).testBit cls

/-- The class of a frame at an egress port: the per-port table from PCP to class is not given. -/
def classAt (p pcp : Nat) : Nat := Config.fn 0x702 [p, pcp] % 8

def egress (s : State) (key : Nat) : List EthFrame := NMap.get [] s.gtw.queues key

def setEgress (s : State) (key : Nat) (q : List EthFrame) : State :=
  { s with gtw := { s.gtw with queues := NMap.set [] s.gtw.queues key q } }

/-- The idle slope in kbit/s of the credit-based shaper of an egress queue, if it has one (Table GTW-7). -/
def slope (s : State) (p cls : Nat) : Option Nat :=
  ((records 8 (s.getB 0x2B60 5)).find? fun r => decide (field r 4 1 = p ∧ field r 5 1 = cls)).map fun r => field r 0 4

/-- Brings a shaper's credit up to date: it rises at the idle slope, on an empty queue to 0 at most. -/
def settleCredit (s : State) (p cls idle : Nat) : State :=
  let c := NMap.get ((0 : Int), 0) s.gtw.credit (p * 8 + cls)
  let v := c.1 + ((idle * (s.now - c.2) : Nat) : Int)
  let v := if s.egress (p * 8 + cls) = [] then min 0 v else v
  { s with gtw := { s.gtw with credit := NMap.set ((0 : Int), 0) s.gtw.credit (p * 8 + cls) (v, s.now) } }

/-- How many frames of a queue leave with a credit, and what credit is left: one leaves while the credit is not negative
and costs its bits. -/
def shaped : List EthFrame → Int → Nat × Int
  | [], c => (0, c)
  | f :: fs, c =>
    if c < 0 then (0, c) else
    let r := shaped fs (c - ((8000000 * f.len : Nat) : Int))
    (r.1 + 1, r.2)

/-- The first `k` frames of an egress queue leave. -/
def sendEgress (s : State) (p cls k : Nat) : State :=
  let q := s.egress (p * 8 + cls)
  (q.take k).foldl (fun s f => s.emit (.eth p f)) (s.setEgress (p * 8 + cls) (q.drop k))

/-- A queue whose gate is open sends what it holds, a shaped one as far as its credit goes; serialisation time is left
out. -/
def drainEgress (s : State) (p cls : Nat) : State :=
  if s.gateOpen p cls then
    let q := s.egress (p * 8 + cls)
    match s.slope p cls with
    | none => s.sendEgress p cls q.length
    | some idle =>
      let s := s.settleCredit p cls idle
      let r := shaped q (NMap.get ((0 : Int), 0) s.gtw.credit (p * 8 + cls)).1
      ({ s with gtw := { s.gtw with credit := NMap.set ((0 : Int), 0) s.gtw.credit (p * 8 + cls) (r.2, s.now) } }).sendEgress
        p cls r.1
  else s

/-- Serves every queue that holds frames, as time goes on. -/
def serveEgress (s : State) : State := s.gtw.queues.foldl (fun s e => s.drainEgress (e.1 / 8) (e.1 % 8)) s

def drainPort (s : State) (p : Nat) : State := (List.range 8).foldl (fun s c => s.drainEgress p c) s

/-- One byte of a buffered frame is written once and read once, at an address in the firmware range that the module
chooses (R333). The access ends IDLE (R418). -/
def bufferFrame (s : State) (len : Nat) : State :=
  let f := s.leaveIdle.fresh .address
  let a := f.1 % 0x05FF000000
  (f.2.chargeRange .gateway a len).chargeRange .gateway a len

/-- QUEUE_DROPS of a port and class. -/
def countDrop (s : State) (p cls : Nat) : State :=
  let b := s.getB 0x2B62 (p + 1)
  s.setB 0x2B62 (p + 1) (overlay b (4 * cls) (leBytes 4 (min 4294967295 (field b (4 * cls) 4 + 1))))

/-- A frame joins an egress queue, or is dropped at its limits. -/
def enqueueAt (s : State) (f : EthFrame) (vid p : Nat) : State :=
  let cls := classAt p f.pcp
  let q := s.egress (p * 8 + cls)
  if 1023 < q.length ∨ 524288 < q.foldl (fun a g => a + g.len) f.len then s.countDrop p cls
  else
    let g := { f with vlan := if s.untags p vid then none else some vid }
    let s := match s.slope p cls with
      | some idle => s.settleCredit p cls idle
      | none => s
    ((s.bufferFrame f.len).setEgress (p * 8 + cls) (q ++ [g])).drainEgress p cls

/-- Learns the source address of a frame. -/
def learn (s : State) (mac vid p : Nat) : State :=
  let rest := s.gtw.fdb.filter fun e => decide (¬ (e.1 = mac ∧ e.2.1 = vid))
  if mac.testBit 40 ∨ (rest.length = s.gtw.fdb.length ∧ 8192 ≤ rest.length) then s
  else { s with gtw := { s.gtw with fdb := (mac, vid, p) :: rest } }

/-- The ports toward an address: static, then learned, else all. -/
def portsToward (s : State) (mac vid : Nat) : Nat :=
  match s.staticPorts mac vid with
  | some m => m
  | none =>
    match s.gtw.fdb.find? fun e => decide (e.1 = mac ∧ e.2.1 = vid) with
    | some e => 2 ^ e.2.2
    | none => 2 ^ 22 - 1

/-- Forwards a frame that entered at port `p`. Stream filters, gates, meters and sequence recovery have records whose
layout the spec leaves to the standards: with any of them set, whether the frame passes is free. -/
def switchIngress (s : State) (p : Nat) (f : EthFrame) : State :=
  if 21 < p ∨ !s.portUp p then s else
  let vid := match f.vlan with
    | some v => if v = 0 then 1 else v
    | none => 1
  let s := s.learn f.srcMac vid p
  let policed := decide (s.getB 0x2B60 3 ≠ [] ∨ s.getB 0x2B60 4 ≠ [])
  let d := if policed then s.fresh .choice else (0, s)
  let s := d.2
  if d.1 % 2 = 1 then s
  else
    let outs := s.portsToward f.dstMac vid &&& s.vlanMembers vid
    ((maskBits 22 outs).filter fun e => decide (e ≠ p) && s.portUp e).foldl (fun s e => s.enqueueAt f vid e) s

/-- A gate control cycle begins: a pending list whose start has come operates, held gates go on, and the port's queues
are served (R332, R353). -/
def gclCycle (s : State) (p : Nat) : State :=
  if 21 < p then s else
  let s := { s with time := { s.time with gateHold := NMap.set 0 s.time.gateHold p 0 } }
  let s := match NMap.get none s.gtw.gclPend p with
    | none => s
    | some g => if g.base ≤ s.tb 0 then
        let t := { s.gtw with gcl := NMap.set none s.gtw.gcl p (some g), gclPend := NMap.set none s.gtw.gclPend p none }
        ({ s with gtw := t }).set (0x2B80 + p) 5 2
      else s
  s.drainPort p

end State

/-! ## The commands -/

/-- ETH_LINK_DOWN (R331). -/
def execEthLinkDown (port result : Nat) (s : State) : Out := .next (s.ethDown port result)

/-- ETH_LINK_UP (R331, R453). -/
def execEthLinkUp (port sqi : Nat) (swapped : Bool) (s : State) : Out := .next (s.ethUp port sqi swapped)

/-- SWITCH_FRAME_INGRESS (R332 to R334): from P20 it is a frame of the host's network device. -/
def execSwitchFrameIngress (port : Nat) (f : EthFrame) (s : State) : Out := .next (s.switchIngress port f)

/-- GCL_CYCLE_START (R332). -/
def execGclCycleStart (port : Nat) (s : State) : Out := .next (s.gclCycle port)

end Sys2Proof.Machine
end

