-- ==== Sys2Proof/Machine/Counters.lean ====
section
/-! DEFINITION. Performance counters, their dumps and tags, and the tick of the count reference
(20_startup_firmware_and_debug.md, R441 to R445; R345). -/

namespace Sys2Proof.Machine

open Sys2Proof

namespace State

/-- Clears every counter (R441). -/
def clearCounters (s : State) : State := { s with ctr := { s.ctr with counts := [] } }

/-- A requester that the counter page answers: a hart in HS- or M-mode, or the debug module in a session with NORMAL (R442). -/
def readsCounters (s : State) (r : Nat) : Bool :=
  if r < 29 then decide ((s.hart r).mode = .hs ∨ (s.hart r).mode = .m) else s.sec.scope.testBit 0

/-- Latches all counters for a requester (R442). -/
def snapshot (s : State) (r : Nat) : State :=
  let l := (List.range 328).foldl (fun l i => NMap.set 0 l (r * 512 + i) (NMap.get 0 s.ctr.counts i)) s.ctr.latch
  { s with ctr := { s.ctr with latch := NMap.set 0 l (r * 512 + 511) s.now } }

/-! ## Rings (R444, R445) -/

/-- A ring of records: slots, written and consumed counts; true where another record would overfill it. -/
def ringFull (log2 written consumed : Nat) : Bool :=
  decide (2 ^ log2 ≤ (written + 4294967296 - consumed) % 4294967296)

/-- Writes a record of a counter ring at master 0x04's class; a refusal stops the ring (R445). -/
def ringWrite (s : State) (idx baseSub writtenSub unit slotBytes log2 dumps : Nat) (rec_ : List Byte) : State :=
  let a := s.get idx baseSub + slotBytes * (s.get idx writtenSub % 2 ^ log2)
  if s.refuses .firmware a rec_.length then
    ((s.noteRefusal .firmware a).set idx baseSub 0).addRecord St.pmuRingFault 0x1B unit
  else
    ((((s.chargeRange .firmware a rec_.length).writeMem a rec_).bump32 idx writtenSub).count 327 dumps)

/-- A dump record: the header with TB1, then counters 0 to 503. -/
def dumpBytes (s : State) : List Byte :=
  let body := (List.range 504).flatMap fun i => leBytes 8 (NMap.get 0 s.ctr.counts i)
  slice (leBytes 8 s.now ++ leBytes 56 0 ++ body) 0 4096

/-- COUNTER_DUMP. -/
def counterDump (s : State) : State :=
  let per := s.get 0x2F02 3
  if s.get 0x2F02 1 = 0 ∨ per = 0 ∨ s.now < s.ctr.lastDump + 1000 * per then s
  else
    let s := { s with ctr := { s.ctr with lastDump := s.now } }
    let log2 := s.get 0x2F02 2
    if ringFull log2 (s.get 0x2F02 4) (s.get 0x2F02 5) then s.bump 0x2F02 6
    else s.ringWrite 0x2F02 1 4 0 4096 log2 1 s.dumpBytes

/-- The random draw of R444: the N-th descriptor fetched from here is tagged. -/
def drawTag (s : State) : State :=
  let k := s.get 0x2F03 1
  let f := s.fresh .random
  { f.2 with ctr := { f.2.ctr with tagNext := if k = 0 then 0 else 2 ^ k + f.1 % 2 ^ k } }

/-- Writes of the rings' entries: a base is a physical address in general HBM. -/
def counterWrite (s : State) (idx sub n : Nat) : WRes :=
  if idx = 0x2F01 then .ok s.clearCounters
  else if idx = 0x2F02 then
    if sub = 1 ∧ n ≠ 0 ∧ (n % 4096 ≠ 0 ∨ n < s.sec.watermark ∨ generalEnd ≤ n) then .abort Ab.value
    else
      let s := s.set idx sub n
      .ok (if sub = 1 ∨ sub = 2 then
          let s := (s.set idx 4 0).set idx 5 0
          { s with ctr := { s.ctr with lastDump := s.now } }
        else s)
  else
    if sub = 2 ∧ n ≠ 0 ∧ (n % 64 ≠ 0 ∨ n < s.sec.watermark ∨ generalEnd ≤ n) then .abort Ab.value
    else
      let s := s.set idx sub n
      .ok (if sub = 2 then (s.set idx 4 0).set idx 5 0 else if sub = 1 then s.drawTag else s)

/-- Counts a descriptor fetched; the answer says whether it is tagged (R444). -/
def countFetch (s : State) : Bool × State :=
  let s := s.count 323 1
  if s.get 0x2F03 1 = 0 then (false, s)
  else if s.ctr.tagNext ≤ 1 then (true, (s.drawTag).count 326 1)
  else (false, { s with ctr := { s.ctr with tagNext := s.ctr.tagNext - 1 } })

/-- Writes a descriptor's tag record of 64 B; one that would overfill the ring is dropped. -/
def tagRecord (s : State) (q op status tag : Nat) (times slots : List Nat) : State :=
  if s.get 0x2F03 2 = 0 ∨ ringFull (s.get 0x2F03 3) (s.get 0x2F03 4) (s.get 0x2F03 5) then s
  else
    let r := leBytes 4 q ++ leBytes 2 op ++ leBytes 2 status ++ leBytes 4 tag ++ times.flatMap (leBytes 8 ·)
      ++ slots.flatMap (leBytes 4 ·)
    s.ringWrite 0x2F03 2 4 1 64 (s.get 0x2F03 3) 0 (slice r 0 64)

/-! ## The tick of the count reference (R345, R443) -/

/-- What one tick adds for an engine: none while it is off or quarantined; one that is being enabled, or disabled without a
tile, is back-starved (R443). -/
def engineTick (s : State) (t : EngineTick) : State :=
  let e := t.engine
  if 15 < e ∨ (s.engine e).state = .off ∨ (s.engine e).quarantined then s
  else if (s.engine e).state ≠ .on ∧ (s.engine e).running.isNone then s.count (16 * e + 3) 1
  else
    let left := s.get 0x2111 2 - NMap.get 0 s.gov.used e
    let n := min (min 2 t.steps) left
    let s := s.count (16 * e + 4) n
    let s := if t.ceiling ∨ n < min 2 t.steps then s.count (16 * e + 5) 1 else s
    let s := { s with gov := { s.gov with used := NMap.set 0 s.gov.used e (NMap.get 0 s.gov.used e + n) } }
    match (s.engine e).running with
    | some tile =>
      let k := s.queueSlice tile.q
      let x := s.sliceX k
      let s := s.setSlice k { x with windowNs := x.windowNs + 1 }
      let s := s.bump (0x2540 + k) 0x10 n
      if 0 < n then { s with ctr := { s.ctr with heldTicks := NMap.set 0 s.ctr.heldTicks e (NMap.get 0 s.ctr.heldTicks e + 1) } }
      else
        let s := match s.desc tile.q tile.n with
          | some d => s.setDesc tile.q tile.n { d with starved := d.starved + 1 }
          | none => s
        s.count (16 * e + 3) 1
    | none =>
      if (NMap.get ({} : DroneUnit) s.saf.drone e).running then s.count (16 * e + 1) 1
      else if (s.engine e).selftest.isNone ∧ ((s.takeWork e).engine e).running.isNone then s.count (16 * e + 2) 1
      else s.count (16 * e + 3) 1

/-- One tick of 1 ns: the time bases (not in OFF, nor without the always-on rail), the Rearguard's own time, the slot
counters of every engine, the ticks of pseudo-channels under feedback, and the switch's queues that wait for a gate or
for credit. -/
def refTick (s : State) (issue : List EngineTick) : State :=
  let s := { s with rg := { s.rg with time := s.rg.time + 1 } }
  if s.gov.dark ∨ s.get 0x2120 3 = 4 then s
  else
    let s := s.tickBases
    if s.pwr.inReset then s else
    let s := (List.range 16).foldl (fun s e =>
      s.engineTick ((issue.find? fun t => decide (t.engine = e)).getD { engine := e, steps := 0, ceiling := false })) s
    (s.mem.feedback.foldl (fun s pc => s.count (272 + pc) 1) s).serveEgress.noteBusy

end State

/-! ## The commands -/

/-- PMU_SNAPSHOT (R442): latches all counters for the requester and returns TB1; any other requester takes a fault. -/
def execPmuSnapshot (r : Nat) (s : State) : Out :=
  .next (if s.readsCounters r then (s.snapshot r).emit (.readData (some s.now)) else s.emit (.readData none))

/-- COUNTER_DUMP (R445). -/
def execCounterDump (s : State) : Out := .next s.counterDump

/-- COUNT_REFERENCE_TICK (R345, R443). -/
def execCountReferenceTick (issue : List EngineTick) (s : State) : Out := .next (s.refTick issue)

end Sys2Proof.Machine
end

