-- ==== Sys2Proof/Machine/Debug.lean ====
section
/-! DEFINITION. The debug port: the test access port, the debug module, hart control and system bus accesses
(20_startup_firmware_and_debug.md, R437 to R440). Register layouts and CSR numbers are those of RISC-V External Debug Support
1.0 (PRESUMED, log 45). -/

namespace Sys2Proof.Machine

open Sys2Proof

namespace State

def setDbg (s : State) (d : DebugState) : State := { s with dbg := d }

/-- The hart exists (Table STD-6). -/
def isHart (h : Nat) : Bool := decide (h < 29)

/-- The hart is within the granted scopes (R439, Table SEC-12). -/
def hartScope (s : State) (h : Nat) : Bool :=
  if h < 24 then s.sec.scope.testBit 0 else if h < 28 then s.sec.scope.testBit 1 else s.sec.scope.testBit 3

/-- cmderr, which keeps its first value until it is cleared. -/
def setCmderr (s : State) (e : Nat) : State := if s.dbg.cmderr = 0 then s.setDbg { s.dbg with cmderr := e } else s

/-! ## Hart control (R439) -/

/-- A halt request: held for an application hart in M-mode without SECURE. -/
def dmHalt (s : State) (h : Nat) : State :=
  if !isHart h then s
  else if !s.hartScope h then s.setCmderr 2
  else
    let x := s.hart h
    if h < 24 ∧ x.mode = .m ∧ !s.sec.scope.testBit 3 then s.setHart h { x with haltPending := true }
    else
      let s := s.setHart h { x with halted := true, haltPending := false, resumeAck := false }
      if h = 28 ∧ s.sec.swdPaused = none ∧ s.sec.swdStart.isSome then { s with sec := { s.sec with swdPaused := some s.now } } else s

/-- A resume request of a halted hart. -/
def dmResume (s : State) (h : Nat) : State :=
  if !isHart h then s
  else if !s.hartScope h then s.setCmderr 2
  else if (s.hart h).halted then
    let s := s.resumeHart h
    s.setHart h { s.hart h with resumeAck := true }
  else s

/-- A CSR of a hart: dpc is its pc. -/
def csrGet (x : Hart) (n : Nat) : BitVec 64 := if n = 0x7B1 then x.pc else NMap.get 0 x.csr n

def csrPut (x : Hart) (n : Nat) (v : BitVec 64) : Hart :=
  if n = 0x7B1 then { x with pc := v } else { x with csr := NMap.set 0 x.csr n v }

/-- An M-mode CSR, which an application hart's debugger reaches with SECURE only; the debug and trigger CSRs are not among
them. -/
def secureCsr (n : Nat) : Bool := decide (n / 256 % 4 = 3) && !decide (0x7A0 ≤ n ∧ n ≤ 0x7BF)

/-- Access Register: the value read, and the next state with cmderr. -/
def accessRegister (s : State) (h : Nat) (write : Bool) (regno : Nat) (v : BitVec 64) : Option (BitVec 64) × State :=
  let x := s.hart h
  let secure := s.sec.scope.testBit 3
  if !isHart h ∨ !s.hartScope h then (none, s.setCmderr 2)
  else if !x.halted then (none, s.setCmderr 4)
  else if regno < 0x1000 then
    if h < 24 ∧ secureCsr regno ∧ !secure then (none, s.setCmderr 2)
    else if write then
      let v := if regno = 0x7B0 ∧ h < 24 ∧ !secure then
          (if (csrGet x regno).getLsbD 15 then v ||| 0x8000 else v &&& ~~~0x8000#64) else v
      (none, s.setHart h (csrPut x regno v))
    else (some (csrGet x regno), s)
  else if regno < 0x1020 then
    let r := regno - 0x1000
    if write then (none, if r = 0 then s else s.setHart h { x with x := NMap.set 0 x.x r v })
    else (some (if r = 0 then 0 else NMap.get 0 x.x r), s)
  else if regno < 0x1040 then
    if write then (none, s.setHart h { x with f := NMap.set 0 x.f (regno - 0x1020) v })
    else (some (NMap.get 0 x.f (regno - 0x1020)), s)
  else (none, s.setCmderr 3)

/-- A single step of a halted hart whose dcsr.step is 1: what the instruction did, and the hart halts again; an M-mode handler
it traps into has run through. -/
def dmStep (s : State) (h : Nat) (e : StepEffect) : State :=
  let x := s.hart h
  if !isHart h then s
  else if !s.hartScope h then s.setCmderr 2
  else if x.halted && (csrGet x 0x7B0).getLsbD 2 then
    let regs := e.writesX.foldl (fun m w => if w.1 = 0 ∨ 31 < w.1 then m else NMap.set 0 m w.1 w.2) x.x
    let d := (csrGet x 0x7B0 &&& ~~~0x1C0#64) ||| 0x100
    s.setHart h (csrPut { x with x := regs, pc := e.nextPc } 0x7B0 d)
  else s

/-! ## System bus (R440) -/

/-- The tag that DBG_SBA_TAG selects is covered by the scopes. -/
def sbaCovered (s : State) (tag : Nat) : Bool :=
  if tag = 0xFFFF then s.sec.scope.testBit 0
  else if tag = 0xFFFE then s.sec.scope.testBit 3
  else decide (tag < 256) && s.sec.scope.testBit 2

/-- A write of DBG_SBA_TAG. -/
def sbaTagWrite (s : State) (n : Nat) : WRes :=
  if s.sbaCovered n then .ok (s.set 0x2E02 1 n) else .abort Ab.domain

def setSberror (s : State) (e : Nat) : State := if s.dbg.sberror = 0 then s.setDbg { s.dbg with sberror := e } else s

/-- The counter page, which a session with NORMAL reads (R442): the snapshot, latched and live counters. -/
def counterPage (s : State) (off : Nat) : Nat :=
  if off = 0 then s.now
  else if 0x1000 ≤ off ∧ off < 0x1000 + 8 * 504 then NMap.get 0 s.ctr.latch (29 * 512 + (off - 0x1000) / 8)
  else if 0x4000 ≤ off ∧ off < 0x4000 + 8 * 504 then NMap.get 0 s.ctr.counts ((off - 0x4000) / 8)
  else 0

/-- One system bus access: the value read, and the next state with sberror. Outside HBM and the counter page the spec gives
the debug module nothing. -/
def systemBus (s : State) (write : Bool) (size addr : Nat) (v : BitVec 64) : Option Nat × State :=
  if s.sec.scope = 0 ∨ !s.sbaCovered (s.get 0x2E02 1) then (none, s.setSberror 7)
  else if !(([1, 2, 4, 8] : List Nat).contains size) then (none, s.setSberror 4)
  else if addr % size ≠ 0 then (none, s.setSberror 3)
  else if 0x1003000000 ≤ addr ∧ addr < 0x1003010000 then
    if !s.sec.scope.testBit 0 then (none, s.setSberror 7)
    else if write then (none, s)
    else
      let n := s.counterPage (addr - 0x1003000000)
      let s := if addr = 0x1003000000 then
          let l := (List.range 504).foldl (fun l i => NMap.set 0 l (29 * 512 + i) (NMap.get 0 s.ctr.counts i)) s.ctr.latch
          { s with ctr := { s.ctr with latch := NMap.set 0 l (29 * 512 + 511) s.now } }
        else s
      (some n, s)
  else if !inHbm (addr + size - 1) then (none, s.setSberror 2)
  else if s.refuses .debug addr size then (none, (s.noteRefusal .debug addr).setSberror 7)
  else if write then
    (none, s.request { m := .debug, write := true, addr := addr, len := size, data := leBytes size v.toNat, report := .ok, pc := none })
  else
    let bad := (granulesOf addr size).any fun g => s.mem.poisoned.contains g
    (if bad then none else some (leNat (s.readMem addr size)),
      s.request { m := .debug, write := false, addr := addr, len := size, data := [], report := .ok, pc := none })

/-! ## The debug module's registers -/

/-- The harts that dmcontrol selects: hartsel, and with hasel those of the hart array mask. -/
def selected (s : State) : List Nat :=
  (List.range 29).filter fun h => decide (h = s.dbg.hartsel) || (s.dbg.hasel && s.dbg.hawindow.testBit h)

/-- dmstatus. -/
def dmstatus (s : State) : Nat :=
  let hs := s.selected
  let pair := fun (p : Nat → Bool) (i : Nat) =>
    (if hs.any p then 2 ^ i else 0) + (if hs ≠ [] ∧ hs.all p then 2 ^ (i + 1) else 0)
  3 + 32 + 128 + 2 ^ 22 + pair (fun h => (s.hart h).halted) 8 + pair (fun h => !(s.hart h).halted) 10
    + (if hs = [] then 3 * 2 ^ 14 else 0) + pair (fun h => (s.hart h).resumeAck) 16 + pair (fun h => (s.hart h).haveReset) 18

/-- sbcs. -/
def sbcs (s : State) : Nat :=
  let d := s.dbg
  2 ^ 29 + (if d.sbreadonaddr then 2 ^ 20 else 0) + d.sbaccess * 2 ^ 17 + (if d.sbautoinc then 2 ^ 16 else 0)
    + (if d.sbreadondata then 2 ^ 15 else 0) + d.sberror * 2 ^ 12 + 40 * 32 + 15

/-- DBG_HALTED. -/
def haltedWord (s : State) : Nat := (List.range 29).foldl (fun a h => if (s.hart h).halted then a + 2 ^ h else a) 0

/-- Runs the abstract command last written: Access Register of the hart that hartsel names. A program buffer's run is the
hart's own, of which the block does not know more than whether it raised an exception, which is free. -/
def runCommand (s : State) : State :=
  let c := s.dbg.command
  if s.dbg.cmderr ≠ 0 then s
  else if bits c 31 24 ≠ 0 then s.setCmderr 2
  else
    let v := BitVec.ofNat 64 (NMap.get 0 s.dbg.data 0 + 4294967296 * NMap.get 0 s.dbg.data 1)
    let s := if c.testBit 17 then
        let r := s.accessRegister s.dbg.hartsel (c.testBit 16) (bits c 15 0) v
        match r.1 with
        | some x => r.2.setDbg { r.2.dbg with
            data := NMap.set 0 (NMap.set 0 r.2.dbg.data 0 (x.toNat % 4294967296)) 1 (x.toNat / 4294967296) }
        | none => r.2
      else s
    if c.testBit 18 ∧ s.dbg.cmderr = 0 then
      let f := s.fresh .choice
      if f.1 % 2 = 1 then f.2.setCmderr 3 else f.2
    else s

/-- A bus access that the registers ask for, with autoincrement. -/
def sbRun (s : State) (write : Bool) : State :=
  let d := s.dbg
  if d.sberror ≠ 0 then s
  else
    let size := 2 ^ d.sbaccess
    let r := s.systemBus write size (d.sbaddress % 2 ^ 40) (BitVec.ofNat 64 d.sbdata)
    let s := match r.1 with
      | some v => r.2.setDbg { r.2.dbg with sbdata := v }
      | none => r.2
    if d.sbautoinc ∧ s.dbg.sberror = 0 then s.setDbg { s.dbg with sbaddress := d.sbaddress + size } else s

/-- A write of dmcontrol. -/
def dmcontrol (s : State) (v : Nat) : State :=
  if !v.testBit 0 then s.setDbg { ir := s.dbg.ir }
  else
    let s := s.setDbg { s.dbg with dmactive := true, hasel := v.testBit 26, hartsel := bits v 25 16 + 1024 * bits v 15 6 }
    let s := s.selected.foldl (fun s h =>
      let x := s.hart h
      let keep := if v.testBit 3 then true else if v.testBit 2 then false else x.resetHalt
      if s.hartScope h then
        s.setHart h { x with haveReset := x.haveReset && !v.testBit 28, resetHalt := keep }
      else s) s
    if v.testBit 31 then s.selected.foldl dmHalt s
    else if v.testBit 30 then s.selected.foldl dmResume s
    else s

/-- Autoexec of data and program buffer registers. -/
def autoexec (s : State) (bit : Nat) : State := if s.dbg.abstractauto.testBit bit then s.runCommand else s

def dmWrite (s : State) (a v : Nat) : State :=
  let d := s.dbg
  if a = 0x10 then s.dmcontrol v
  else if a = 4 ∨ a = 5 then (s.setDbg { d with data := NMap.set 0 d.data (a - 4) v }).autoexec (a - 4)
  else if 0x20 ≤ a ∧ a < 0x28 then
    (s.setDbg { d with progbuf := NMap.set 0 d.progbuf (a - 0x20) v }).autoexec (a - 0x20 + 16)
  else if a = 0x14 then s.setDbg { d with hawindowsel := v }
  else if a = 0x15 then if d.hawindowsel = 0 then s.setDbg { d with hawindow := v } else s
  else if a = 0x16 then s.setDbg { d with cmderr := d.cmderr - (d.cmderr &&& bits v 10 8) }
  else if a = 0x17 then if d.cmderr = 0 then (s.setDbg { d with command := v }).runCommand else s
  else if a = 0x18 then s.setDbg { d with abstractauto := v &&& 0x00FF0003 }
  else if a = 0x38 then
    s.setDbg { d with
      sbreadonaddr := v.testBit 20, sbaccess := bits v 19 17, sbautoinc := v.testBit 16, sbreadondata := v.testBit 15
      sberror := d.sberror - (d.sberror &&& bits v 14 12) }
  else if a = 0x39 then
    let s := s.setDbg { d with sbaddress := d.sbaddress / 4294967296 * 4294967296 + v }
    if d.sbreadonaddr then s.sbRun false else s
  else if a = 0x3A then s.setDbg { d with sbaddress := v * 4294967296 + d.sbaddress % 4294967296 }
  else if a = 0x3C then (s.setDbg { d with sbdata := d.sbdata / 4294967296 * 4294967296 + v }).sbRun true
  else if a = 0x3D then s.setDbg { d with sbdata := v * 4294967296 + d.sbdata % 4294967296 }
  else s

def dmRead (s : State) (a : Nat) : Nat × State :=
  let d := s.dbg
  if a = 0x10 then ((if d.dmactive then 1 else 0) + (if d.hasel then 2 ^ 26 else 0) + d.hartsel % 1024 * 65536, s)
  else if a = 0x11 then (s.dmstatus, s)
  else if a = 4 ∨ a = 5 then (NMap.get 0 d.data (a - 4), s.autoexec (a - 4))
  else if 0x20 ≤ a ∧ a < 0x28 then (NMap.get 0 d.progbuf (a - 0x20), s.autoexec (a - 0x20 + 16))
  else if a = 0x14 then (d.hawindowsel, s)
  else if a = 0x15 then (if d.hawindowsel = 0 then d.hawindow else 0, s)
  else if a = 0x16 then (8 * 2 ^ 24 + d.cmderr * 256 + 2, s)
  else if a = 0x18 then (d.abstractauto, s)
  else if a = 0x38 then (s.sbcs, s)
  else if a = 0x39 then (d.sbaddress % 4294967296, s)
  else if a = 0x3A then (d.sbaddress / 4294967296, s)
  else if a = 0x3C then (d.sbdata % 4294967296, if d.sbreadondata then s.sbRun false else s)
  else if a = 0x3D then (d.sbdata / 4294967296, s)
  else if a = 0x40 then (s.haltedWord, s)
  else (0, s)

/-- A DMI access; without a session the port reports a failed operation (Table SEC-10, R438). -/
def dmi (s : State) (write : Bool) (a v : Nat) : State :=
  let s := s.setDbg { s.dbg with ir := 0x11, dmiAddr := a }
  if s.sec.scope = 0 then s.setDbg { s.dbg with dmistat := 2 }
  else if write then s.dmWrite a v
  else
    let r := s.dmRead a
    (r.2.setDbg { r.2.dbg with dmiData := r.1 }).emit (.readData (some r.1))

/-- An instruction of the TAP selects its register; the register's value is what a shift shows first. -/
def tapSelect (s : State) (code value : Nat) : State := (s.setDbg { s.dbg with ir := code }).emit (.readData (some value))

/-- Writes of the debug range, but for the session entries. -/
def debugWrite (s : State) (sub n : Nat) : WRes := if sub = 1 then s.sbaTagWrite n else .ok s

end State

/-! ## The commands -/

/-- IDCODE (R437, Table STD-5). -/
def execIdcode (s : State) : Out := .next (s.tapSelect 1 0x39600A79)

/-- DTMCS (R437): version 1.0, seven address bits, the DMI's status. -/
def execDtmcs (s : State) : Out := .next (s.tapSelect 0x10 (1 + 7 * 16 + s.dbg.dmistat * 1024))

/-- BYPASS, and every instruction not in Table STD-5 (R437). -/
def execBypass (code : Nat) (s : State) : Out :=
  .next (if code % 32 = 1 ∨ code % 32 = 0x10 ∨ code % 32 = 0x11 then s else s.tapSelect 0x1F 0)

/-- DMI (R438). -/
def execDmi (write : Bool) (addr : Nat) (v : W32) (s : State) : Out := .next (s.dmi write (addr % 128) v.toNat)

/-- DM_HALT (R439). -/
def execDmHalt (hart : Nat) (s : State) : Out := .next (s.dmHalt hart)

/-- DM_RESUME (R439). -/
def execDmResume (hart : Nat) (s : State) : Out := .next (s.dmResume hart)

/-- DM_SINGLE_STEP (R439). -/
def execDmSingleStep (hart : Nat) (e : StepEffect) (s : State) : Out := .next (s.dmStep hart e)

/-- ACCESS_REGISTER (R438, R439). -/
def execAccessRegister (hart : Nat) (write : Bool) (regno : Nat) (v : BitVec 64) (s : State) : Out :=
  .next (let r := s.accessRegister hart write regno v
    if write then r.2 else r.2.emit (.readData (r.1.map (·.toNat))))

/-- SYSTEM_BUS_ACCESS (R440). -/
def execSystemBusAccess (write : Bool) (size addr : Nat) (v : BitVec 64) (s : State) : Out :=
  .next (let r := s.systemBus write size addr v
    if write then r.2 else r.2.emit (.readData r.1))

end Sys2Proof.Machine
end

