-- ==== Sys2Proof/Machine/Raster.lean ====
section
/-! DEFINITION. What a raster pipe does with the samples of one tile (R276, R277, R283, R284): tile memory, pixel formats, the
depth and stencil tests, blending and the resolve. What a shader computes is an open function; the order in which its results
take effect is not. -/

namespace Sys2Proof.Machine

open Sys2Proof

/-! ## Colours (R273, R277) -/

/-- Bytes of a pixel: RGBA8, RGB10A2, RGBA16F. -/
def bpp (fmt : Nat) : Nat := if fmt = 2 then 8 else 4

/-- Row pitch of a colour image (R273). -/
def pitch (width fmt : Nat) : Nat := cdiv (width * bpp fmt) 256 * 256

/-- A component converted to an unsigned normalised code of a largest value; the code of NaN is open. -/
def unormCode (top : Nat) : Num → Nat
  | .nan => Config.fn 0x300 [top] % (top + 1)
  | .inf s => if s then 0 else top
  | .fin s m e => if s then 0 else min top (Num.roundInt false (m * top) e)

/-- The bytes of a colour in a format. -/
def pixelBytes (fmt : Nat) (c : List Num) : List Byte :=
  let k := fun (i : Nat) => c.getD i Num.zero
  if fmt = 0 then (List.range 4).map fun i => BitVec.ofNat 8 (unormCode 255 (k i))
  else if fmt = 1 then
    leBytes 4 (unormCode 1023 (k 0) + 1024 * unormCode 1023 (k 1) + 1048576 * unormCode 1023 (k 2) + 1073741824 * unormCode 3 (k 3))
  else (List.range 4).flatMap fun i => leBytes 2 (convertElem 0xA 0 (k i)).1

/-- The components R, G, B, A of a pixel at byte `off` of an image. -/
def pixelAt (fmt : Nat) (img : List Byte) (off : Nat) : List Fv :=
  let v := field img off 4
  if fmt = 0 then (List.range 4).map fun i => ratFv (field img (off + i) 1) 255
  else if fmt = 1 then [ratFv (bits v 9 0) 1023, ratFv (bits v 19 10) 1023, ratFv (bits v 29 20) 1023, ratFv (bits v 31 30) 3]
  else (List.range 4).map fun i => { v := decodeElem 0xA (field img (off + 2 * i) 2) }

/-! ## The pass as a tile sees it (Table GFX-3) -/

namespace Desc

def gW (d : Desc) : Nat := d.fld 303 288
def gH (d : Desc) : Nat := d.fld 319 304
def gColour (d : Desc) (i : Nat) : Nat := d.fld (159 + 32 * i) (128 + 32 * i)
def gFmt (d : Desc) (i : Nat) : Nat := d.fld (334 + 2 * i) (333 + 2 * i)
def gLoad (d : Desc) (i : Nat) : Bool := d.w.getLsbD (325 + i)
def gStore (d : Desc) (i : Nat) : Bool := d.w.getLsbD (329 + i)
def gClear (d : Desc) : Nat := d.fld 287 256
def gDepth (d : Desc) : Bool := d.w.getLsbD 324
/-- The depth attachment is D32F, which has no stencil. -/
def gD32 (d : Desc) : Bool := d.w.getLsbD 323
def gSamples (d : Desc) : Nat := 2 ^ d.fld 322 320

/-- Tile columns and rows of the image. -/
def gCols (d : Desc) : Nat := cdiv d.gW 32
def gRows (d : Desc) : Nat := cdiv d.gH 32

/-- The colour attachments that the pass has, by number. -/
def gColours (d : Desc) : List Nat := (List.range 4).filter fun i => decide (d.gColour i ≠ 0)

/-- The attachment handles. -/
def gAttachments (d : Desc) : List Nat := d.gColours.map d.gColour

/-- A pass's tile footprint in bytes (R276). -/
def gFootprint (d : Desc) : Nat :=
  1024 * d.gSamples * ((d.gColours.map fun i => bpp (d.gFmt i)).sum + if d.gDepth then 4 else 0)

end Desc

/-- Tiles of a pass that a pipe's 2 MiB of tile memory hold at once (R276). -/
def tilesHeld (d : Desc) : Nat := 2097152 / d.gFootprint

/-- A byte of the payload of a BIND_PIPELINE, by its place in Table GFX-4. -/
def GfxDraw.state (g : GfxDraw) (i : Nat) : Nat := g.pipeline / 256 ^ i % 256

namespace GfxDraw

def depthFunc (g : GfxDraw) : Nat := g.state 7
def depthWrite (g : GfxDraw) : Bool := decide (g.state 8 = 1)
def blend (g : GfxDraw) (i : Nat) : Nat := g.state (9 + i)
def stencilFunc (g : GfxDraw) : Nat := g.state 14
def stencilRef (g : GfxDraw) : Nat := g.state 15
def stencilOp (g : GfxDraw) : Nat := g.state 16

end GfxDraw

/-! ## Depth and stencil (R277, R284) -/

/-- One sample of tile memory: depth, stencil and the bytes of each attachment. -/
structure Sample where
  depth : Num
  stencil : Nat
  colour : List (List Byte)
deriving DecidableEq, Repr

/-- The eight comparisons of Table GFX-4, of a new value against the stored one. -/
def compareBy (f : Nat) (less greater nan : Bool) : Bool :=
  let eq := !less && !greater && !nan
  if f = 0 then false else if f = 1 then less else if f = 2 then eq else if f = 3 then less || eq
  else if f = 4 then greater else if f = 5 then !eq else if f = 6 then greater || eq else true

/-- A depth as the attachment holds it: 24 bits of the unit interval, or FP32. -/
def depthOf (d : Desc) (code : Nat) : Num :=
  if d.gD32 then decodeElem 0xC code else Num.ofInt (unormCode 16777215 (decodeElem 0xC code) : Nat)

/-- The depth test; without a depth attachment it passes every fragment. -/
def depthPasses (d : Desc) (g : GfxDraw) (z : Num) (s : Sample) : Bool :=
  !d.gDepth || compareBy g.depthFunc (z.lt s.depth) (s.depth.lt z) (z.isNan || s.depth.isNan)

/-- The pass has a stencil: with D24S8 alone. -/
def hasStencil (d : Desc) : Bool := d.gDepth && !d.gD32

/-- The stencil test compares STENCIL_REF with the stored value. -/
def stencilPasses (d : Desc) (g : GfxDraw) (s : Sample) : Bool :=
  !hasStencil d || compareBy g.stencilFunc (decide (g.stencilRef < s.stencil)) (decide (s.stencil < g.stencilRef)) false

/-- STENCIL_OP on a fragment that passes both tests (log 154): keep, replace, increment and stop at 255. -/
def stencilAfter (d : Desc) (g : GfxDraw) (old : Nat) : Nat :=
  if !hasStencil d then old
  else if g.stencilOp = 1 then g.stencilRef else if g.stencilOp = 2 then min 255 (old + 1) else old

/-! ## Blending (R283, log 154) -/

/-- A colour over the stored one, in FP32: off, source-over by the source's alpha, or additive. -/
def blendOver (mode : Nat) (src dst : List Fv) : List Fv :=
  let at_ := fun (l : List Fv) (i : Nat) => l.getD i Fv.zero
  if mode = 0 then src
  else if mode = 2 then (List.range 4).map fun i => (at_ src i).add (at_ dst i)
  else
    let a := at_ src 3
    let b := ({ v := Num.ofInt 1 } : Fv).sub a
    ((List.range 3).map fun i => (a.mul (at_ src i)).add (b.mul (at_ dst i))) ++ [a.add (b.mul (at_ dst 3))]

/-- Colour output `i` of a fragment. -/
def outputColour (f : Config.Fragment) (i : Nat) : List Fv :=
  (List.range 4).map fun c => { v := decodeElem 0xC (f.colours.getD (4 * i + c) 0 % 4294967296) }

/-- A fragment retires at a sample (R283, R284): it is killed, fails a test, or writes depth, stencil and every attachment.
`z` is its depth there. Tested at rasterising or at retirement, this is the result of testing in submission order. -/
def retire (d : Desc) (g : GfxDraw) (f : Config.Fragment) (z : Num) (s : Sample) : Sample :=
  if f.kill || !(stencilPasses d g s && depthPasses d g z s) then s
  else
    { depth := if d.gDepth && g.depthWrite then z else s.depth
      stencil := stencilAfter d g s.stencil
      colour := (List.range 4).map fun i =>
        let old := s.colour.getD i []
        if d.gColour i = 0 then old
        else pixelBytes (d.gFmt i) ((blendOver (g.blend i) (outputColour f i) (pixelAt (d.gFmt i) old 0)).map (·.v)) }

/-! ## Shader modules of a draw -/

/-- The instructions of a module. -/
def moduleInstrs (bs : List Byte) : List (List Nat) := (instrsOf (moduleWords bs).length ((moduleWords bs).drop 5)).getD []

/-- A module as State keeps it, as its bytes. -/
def moduleBytes (code : Nat) : List Byte := leBytes (code.log2 / 8 + 4) code

/-- The module writes FragDepth, may kill a fragment, or runs once for each sample. -/
def writesDepth (is : List (List Nat)) : Bool := is.any fun i => decide (opOf i = 71 ∧ operand i 2 = 11 ∧ operand i 3 = 22)
def mayKill (is : List (List Nat)) : Bool := is.any fun i => decide (opOf i = 252 ∨ opOf i = 4416)
def perSample (is : List (List Nat)) : Bool := is.any fun i => decide (opOf i = 17 ∧ operand i 1 = 35)

/-- The module writes storage buffers: a store, copy or atomic through a StorageBuffer pointer. -/
def writesBuffer (is : List (List Nat)) (i : List Nat) : Bool :=
  let op := opOf i
  if op = 62 ∨ op = 63 ∨ op = 64 ∨ op = 228 then decide (pointerClass is (operand i 1) = 12)
  else decide (229 ≤ op ∧ op ≤ 242 ∧ pointerClass is (operand i 3) = 12)

/-- A draw with the code of its shaders, what they have read in the tile, and what of the fragment shader the tests ask for. -/
structure TileDraw where
  g : GfxDraw
  /-- Code, state and operands of the draw, which name its results. -/
  key : List Nat
  seen : List Nat
  ownDepth : Bool
  kills : Bool
  bySample : Bool

/-- Primitive `k` of a draw at a sample of a pixel: where the primitive covers the sample, its fragment retires. -/
def drawPrim (d : Desc) (t : TileDraw) (x y smp : Nat) (s : Sample) (k : Nat) : Sample :=
  let b := t.g.box
  if x < b.1 ∨ y < b.2.1 ∨ b.2.2.1 ≤ x ∨ b.2.2.2 ≤ y then s
  else match Config.covers (t.key ++ [k, x, y, smp]) t.seen with
    | none => s
    | some z =>
      let f := Config.shades (t.key ++ [k, x, y, if t.bySample then smp else 0]) t.seen
      retire d t.g { f with kill := t.kills && f.kill } (depthOf d ((if t.ownDepth then f.depth else z) % 4294967296)) s

/-- The draws of a tile at one sample, in submission order: by draw, then primitive (R283). `keep` is the number of primitives
of the pass that the tile's list kept (R280). -/
def drawSample (d : Desc) (x y smp : Nat) (keep : Option Nat) : List TileDraw → Nat → Sample → Sample
  | [], _, s => s
  | t :: ts, before, s =>
    let n := match keep with
      | some m => min t.g.prims (m - before)
      | none => t.g.prims
    drawSample d x y smp keep ts (before + t.g.prims) ((List.range n).foldl (drawPrim d t x y smp) s)

/-- An attachment's pixel: the mean of its samples in FP32, in the attachment's format (R277). -/
def resolve (d : Desc) (i : Nat) (ss : List Sample) : List Byte :=
  let px := ss.map fun s => pixelAt (d.gFmt i) (s.colour.getD i []) 0
  pixelBytes (d.gFmt i) ((List.range 4).map fun c =>
    (((px.map fun p => p.getD c Fv.zero).foldl Fv.add Fv.zero).mul { v := (Num.ofInt 1).scale (-(d.fld 322 320 : Nat)) }).v)

/-- A tile's first column and row and its width and height in pixels: edge tiles are partial. -/
def tileBox (d : Desc) (t : Nat) : Nat × Nat × Nat × Nat :=
  (t % d.gCols * 32, t / d.gCols * 32, min 32 (d.gW - t % d.gCols * 32), min 32 (d.gH - t / d.gCols * 32))

namespace Work

/-- The rows of the attachments that a tile loads, one list for each attachment (R277). -/
def loadTile (w : Work) (d : Desc) (t : Nat) : List (List Byte) × Work :=
  let b := tileBox d t
  (List.range 4).foldl (fun (a : List (List Byte) × Work) i =>
    if d.gLoad i && decide (d.gColour i ≠ 0) then
      let f := d.gFmt i
      let r := (List.range b.2.2.2).foldl (fun (a : List Byte × Work) y =>
        let r := a.2.read (d.gColour i) ((b.2.1 + y) * pitch d.gW f + b.1 * bpp f) (b.2.2.1 * bpp f)
        (a.1 ++ r.1, r.2)) ([], a.2)
      (a.1 ++ [r.1], r.2)
    else (a.1 ++ [[]], a.2)) ([], w)

/-- The samples of a tile's pixel before the first draw: loaded or clear colour, clear depth and stencil. -/
def firstSample (d : Desc) (clear : List Byte) (loads : List (List Byte)) (i : Nat) : Sample :=
  { depth := depthOf d (if d.gClear = 0 then 1065353216 else field clear 64 4)
    stencil := if d.gClear = 0 then 0 else field clear 68 4 % 256
    colour := (List.range 4).map fun c =>
      if d.gLoad c then slice (loads.getD c []) (i * bpp (d.gFmt c)) (bpp (d.gFmt c))
      else pixelBytes (d.gFmt c) ((List.range 4).map fun k => decodeElem 0xC (field clear (16 * c + 4 * k) 4)) }

/-- Bytes of the buffer or texture in a slot of a draw, and its handle; 0 where the slice names none. -/
def slotBound (w : Work) (g : GfxDraw) (b : Nat) : Nat × Nat :=
  let h := if b < 8 then NMap.get 0 g.bufs b else NMap.get 0 g.texs (b % 16)
  if w.s.named w.sl h then (h, w.s.tbytes h) else (0, 0)

/-- One access of a draw's shaders to slot `b`, buffers 0 to 7 and then textures: outside what is bound a read returns zero, a
write is dropped, and the pass completes with GFX_BOUNDS and the slot (R275). -/
def shaderAccess (w : Work) (g : GfxDraw) (writes : Bool) (seen : List Nat) : Config.Access → List Nat × Work
  | .read b off n =>
    let r := w.slotBound g b
    if off + n ≤ r.2 then
      let x := w.read r.1 off n
      (leNat x.1 :: seen, x.2)
    else (0 :: seen, w.fail St.gfxBounds (if b < 8 then b else b % 16))
  | .write b off bs =>
    let r := w.slotBound g b
    if !writes ∨ 8 ≤ b then (seen, w)
    else if off + bs.length ≤ r.2 then (seen, if w.s.tclass r.1 = 1 then w else w.output r.1 off bs)
    else (seen, w.fail St.gfxBounds b)

def shaderAccesses (g : GfxDraw) (writes : Bool) (key : List Nat) : Nat → List Nat → Work → List Nat × Work
  | 0, seen, w => (seen, w)
  | n + 1, seen, w =>
    let r := w.shaderAccess g writes seen (Config.access key seen)
    shaderAccesses g writes key n r.1 r.2

/-- The indices of a DRAW_INDEXED: one beyond the index buffer reads zero and the pass completes with GFX_BOUNDS; no slot names
the index buffer, so DETAIL is free (R275, log 154). -/
def drawIndices (w : Work) (g : GfxDraw) : List Nat × Work :=
  match g.indexed with
  | none => ([], w)
  | some (h, size, first, count) =>
    let h := if w.s.named w.sl h then h else 0
    let there := min count ((if h = 0 then 0 else w.s.tbytes h) / size - first)
    let r := if there = 0 then ([], w) else w.read h (first * size) (there * size)
    let v := r.2.freeVal .detail
    ((chunks size r.1).map leNat ++ List.replicate (count - there) 0,
      if there < count then v.2.fail St.gfxBounds (v.1 % 4294967296) else r.2)

/-- The draws of a pass as tile `t` sees them, once their shaders have made their accesses: a free number of them (log 59). -/
def tileDraws (w : Work) (t : Nat) (gs : List GfxDraw) : List TileDraw × Work :=
  gs.foldl (fun (a : List TileDraw × Work) g =>
    let code := fun (id : Nat) => ((NMap.get none a.2.s.gfx.shaders (a.2.sl * 4096 + id)).map (·.1)).getD 0
    let is := moduleInstrs (moduleBytes (code g.fs))
    let key := [code g.vs, code g.fs, g.pipeline, g.view, g.push, g.call]
    let ix := a.2.drawIndices g
    let n := ix.2.freeVal .choice
    let r := shaderAccesses g (is.any (writesBuffer is)) (key ++ [t]) n.1 ix.1 n.2
    (a.1 ++ [{ g := g, key := key, seen := r.1, ownDepth := writesDepth is, kills := mayKill is, bySample := perSample is }], r.2))
    ([], w)

/-- Draws and stores a tile (R277, R283): every sample takes its fragments in submission order, and each stored attachment's
pixels are resolved; a tile whose load failed stores undefined pixels. -/
def storeTile (w : Work) (d : Desc) (ds : List TileDraw) (keep : Option Nat) (loads : List (List Byte)) (t : Nat) : Work :=
  let b := tileBox d t
  let clear := if d.gClear = 0 then (List.replicate 72 0, w) else w.read d.gClear 0 72
  (d.gColours.filter d.gStore).foldl (fun w i =>
    (List.range b.2.2.2).foldl (fun w y =>
      w.output (d.gColour i) ((b.2.1 + y) * pitch d.gW (d.gFmt i) + b.1 * bpp (d.gFmt i))
        ((List.range b.2.2.1).flatMap fun x =>
          resolve d i ((List.range d.gSamples).map fun k =>
            drawSample d (b.1 + x) (b.2.1 + y) k keep ds 0 (firstSample d clear.1 loads (y * b.2.2.1 + x))))) w) clear.2

end Work

end Sys2Proof.Machine
end

