-- ==== Sys2Proof/Machine/Graphics.lean ====
section
/-! DEFINITION. Raster graphics, 0x0800 to 0x0802 (R270 to R285): shader modules, the command list of a pass, bands in the
parameter buffer, tiles and raster pipes. -/

namespace Sys2Proof.Machine

open Sys2Proof

/-! ## Checks (Tables GFX-2 and GFX-3) -/

/-- GFX_PASS. -/
def passInfo (d : Desc) : OpInfo :=
  let n := d.fld 127 96
  let four := List.range 4
  let uses : List HUse :=
    [{ lo := 64, bytes := n }, { lo := 256, bytes := 72, zeroOk := true }]
    ++ four.map fun i => { lo := 128 + 32 * i, out := true, bytes := pitch d.gW (d.gFmt i) * d.gH, zeroOk := true }
  let twice := four.filter fun i => decide (d.gColour i ≠ 0) && four.any fun j => decide (j ≠ i ∧ d.gColour j = d.gColour i)
  { reserved := [(511, 341)],
    bad := badBits
      [(decide (n < 8 ∨ 16777216 < n ∨ n % 8 ≠ 0), 96), (decide (d.gW = 0 ∨ 4096 < d.gW), 288),
       (decide (d.gH = 0 ∨ 4096 < d.gH), 304), (decide (2 < d.fld 322 320), 320), (four.any fun i => decide (d.gFmt i = 3), 333),
       (four.any fun i => d.gLoad i && decide (d.gColour i = 0), 325), (four.any fun i => d.gStore i && decide (d.gColour i = 0), 329),
       (decide (d.gAttachments = []) && !d.w.getLsbD 324, 324)],
    barWeights := true,
    clash := clashes d uses (fun _ _ => false) ++ twice.map fun i => 128 + 32 * i,
    uses := uses ++ ((four.filter fun i => d.gLoad i).map fun i => { lo := 128 + 32 * i, zeroOk := true }) }

/-- GFX_SHADER_LOAD. -/
def shaderLoadInfo (d : Desc) : OpInfo :=
  let n := d.fld 127 96
  { reserved := [(511, 129)], bad := badBits [(decide (n % 4 ≠ 0 ∨ 1048576 < n), 96)], uses := [{ lo := 64, bytes := n }] }

/-- GFX_SHADER_FREE. -/
def shaderFreeInfo (d : Desc) : OpInfo :=
  { reserved := [(511, 80)], bad := badBits [(decide (d.fld 79 64 = 0 ∨ 4095 < d.fld 79 64), 64)] }

/-! ## Shader modules (R271) -/

/-- Capabilities of R271. -/
def shaderCaps : List Nat := [0, 1, 9, 22, 35, 39, 51, 4433, 4448, 5345]

/-- The storage class of a variable. -/
def variableClass (is : List (List Nat)) (id : Nat) : Option Nat :=
  (is.find? fun i => decide (opOf i = 59 ∧ operand i 2 = id)).map fun i => operand i 3

/-- What an instruction of a shader of a stage (0 vertex, 1 fragment) offends with. -/
def shaderOffends (is : List (List Nat)) (stage : Nat) (i : List Nat) : Option Nat :=
  let op := opOf i
  let loc := decide (op = 71 ∧ operand i 2 = 30)
  let cls := variableClass is (operand i 1)
  if op = 17 ∧ !shaderCaps.contains (operand i 1) then some (operand i 1)
  else if op = 15 ∧ (operand i 1 ≠ 4 * stage ∨ (is.find? fun j => decide (opOf j = 15)) ≠ some i) then some op
  else if op = 71 ∧ operand i 2 = 33 ∧ ((7 < operand i 3 ∧ operand i 3 < 16) ∨ 31 < operand i 3) then some op
  else if op = 71 ∧ operand i 2 = 34 ∧ operand i 3 ≠ 0 then some op
  else if loc ∧ cls = some 1 ∧ stage = 0 then some op
  else if loc ∧ cls = some 3 ∧ (if stage = 0 then 7 else 3) < operand i 3 then some op
  else if stage = 0 ∧ writesBuffer is i then some op
  else if badAtomic is i then some op
  else if op = 59 ∧ operand i 3 = 9 ∧ 64 < typeBytes is is.length (operand (typeOf is (operand i 1)) 3) then some op
  else none

/-- What GFX_SHADER_LOAD makes of a module. -/
def shaderCheck (stage : Nat) (bs : List Byte) : Verdict :=
  match moduleWords bs with
  | magic :: version :: _ :: _ :: _ :: body =>
    if magic ≠ 0x07230203 ∨ version ≠ 0x00010600 then .malformed
    else match instrsOf body.length body with
      | none => .malformed
      | some is => match is.findSome? (shaderOffends is stage) with
        | some d => .rejected d
        | none =>
          if (is.filter fun i => decide (opOf i = 15)).length ≠ 1 then .malformed
          else .accepted
  | _ => .malformed

namespace State

/-- A loaded shader: its bytes as a number, and its stage. -/
def shader (s : State) (sl id : Nat) : Option (Nat × Nat) := NMap.get none s.gfx.shaders (sl * 4096 + id)

def setShader (s : State) (sl id : Nat) (v : Option (Nat × Nat)) : State :=
  { s with gfx := { s.gfx with shaders := NMap.set none s.gfx.shaders (sl * 4096 + id) v } }

/-- An earlier pass of the slice, accepted and not completed, that names the shader. A pass names its shaders in its
command list: one whose list has not been walked yet counts. -/
def shaderBusy (s : State) (sl id order : Nat) : Bool :=
  (s.que.queues.any fun p => decide (s.queueOwner p.1 = some sl) && p.2.desc.any fun e => match e.2 with
    | some d => decide (d.phase ≠ .done ∧ d.opcode s.compat = 0x0800 ∧ d.order < order) && !d.rejected
        && !(s.gfx.passes.any fun g => decide (g.q = p.1 ∧ g.n = e.1))
    | none => false)
  || s.gfx.passes.any fun g => decide (g.slice = sl ∧ g.order < order) && g.shaders.contains id

end State

namespace Work

/-- GFX_SHADER_LOAD. -/
def shaderLoad (w : Work) (d : Desc) : Work :=
  let stage := d.fld 128 128
  let r := w.read (d.fld 95 64) 0 (d.fld 127 96)
  let v := r.2.freeVal .detail
  let w := v.2
  let load : Work :=
    let ids := ((List.range 4095).map (· + 1)).filter fun i => decide (w.s.shader w.sl i = none)
    match w.s.pick .handle ids with
    | (none, s) => { w with s := s }.fail St.shaderRejected (v.1 % 4294967296)
    | (some id, s) => { w with s := s.setShader w.sl id (some (leNat r.1, stage)), det := id }
  match shaderCheck stage r.1 with
  | .rejected x => w.fail St.shaderRejected x
  | .malformed => w.fail St.shaderRejected (v.1 % 4294967296)
  | .accepted => load

/-- GFX_SHADER_FREE. -/
def shaderFree (w : Work) (d : Desc) : Work :=
  let id := d.fld 79 64
  if w.s.shader w.sl id = none then w.fail St.shaderUnknown 0 else { w with s := w.s.setShader w.sl id none }

end Work

/-! ## The command list (Table GFX-4, R274) -/

/-- A pixel box: x0, y0, x1, y1, upper ends excluded. -/
abbrev Box := Nat × Nat × Nat × Nat

def Box.meet (a b : Box) : Box := (max a.1 b.1, max a.2.1 b.2.1, min a.2.2.1 b.2.2.1, min a.2.2.2 b.2.2.2)

def Box.has (b : Box) (x y : Nat) : Bool := decide (b.1 ≤ x ∧ b.2.1 ≤ y ∧ x < b.2.2.1 ∧ y < b.2.2.2)

/-- What the walk of a command list carries: the bound state, the draws so far, and what they ask for. -/
structure Walk where
  bound : Bool := false
  vs : Nat := 0
  fs : Nat := 0
  pipeline : Nat := 0
  viewport : Nat := 0
  push : Nat := 0
  bufs : NMap Nat := []
  texs : NMap Nat := []
  view : Box
  scissor : Box
  draws : List GfxDraw := []
  prims : Nat := 0
  recBytes : Nat := 0
  shaders : List Nat := []
  used : List Nat := []

/-- Length of a packet by its OP; none for an unknown OP. -/
def packetLen (op : Nat) : Option Nat :=
  if op = 0 then none else [32, 16, 24, 32, 16, 72, 24, 32][op - 1]?

/-- A field of a packet is outside Table GFX-4. -/
def packetBad (op : Nat) (b : List Byte) : Bool :=
  let beyond := fun (o m : Nat) => decide (m < field b o 1)
  if op = 1 then [(12, 1), (13, 2), (14, 1), (15, 7), (16, 1), (17, 2), (18, 2), (19, 2), (20, 2), (21, 8), (22, 7), (24, 2)].any
    fun p => beyond p.1 p.2
  else if op = 2 then beyond 8 7
  else if op = 3 then beyond 8 15 || beyond 9 3 || beyond 10 1 || beyond 11 1
  else if op = 8 then beyond 12 1
  else false

/-- The handle that a packet carries. -/
def packetHandle (op : Nat) (b : List Byte) : Nat :=
  if op = 2 then field b 12 4 else if op = 3 then field b 16 4 else if op = 8 then field b 8 4 else 0

/-- One end of a viewport in pixels, rounded down or up, inside 0 .. n; a value that is no number gives `other`. -/
def viewEnd (up : Bool) (x : Num) (n other : Nat) : Nat :=
  match x with
  | .fin s m e =>
    let i := Num.scaledInt s m e (min e 0)
    let q : Int := 2 ^ (-(min e 0)).toNat
    let v : Int := if up then -((-i) / q) else i / q
    min v.toNat n
  | _ => other

/-- The pixels inside a viewport; the whole image where its numbers bound nothing. -/
def viewBox (w h : Nat) (b : List Byte) : Box :=
  let f := fun (o : Nat) => decodeElem 0xC (field b o 4)
  let ok := fun (o : Nat) => !(f o).signBit && !(f o).isNan
  if ok 16 && ok 20 then
    (viewEnd false (f 8) w 0, viewEnd false (f 12) h 0, viewEnd true ((f 8).add (f 16)) w w, viewEnd true ((f 12).add (f 20)) h h)
  else (0, 0, w, h)

/-- Notes a draw of `n` vertices, instanced `k` times, with its packet. -/
def Walk.draw (g : Walk) (n k : Nat) (b : List Byte) (indexed : Option (Nat × Nat × Nat × Nat)) : Walk :=
  let x : GfxDraw :=
    { vs := g.vs, fs := g.fs, pipeline := g.pipeline, view := g.viewport, push := g.push, call := leNat b, box := g.view.meet g.scissor,
      prims := 0, bufs := g.bufs, texs := g.texs, indexed := indexed }
  let prims := k * (if x.state 4 = 1 then n - 2 else n / 3)
  if n * k = 0 then g
  else { g with draws := g.draws ++ [{ x with prims := prims }], prims := g.prims + prims,
                recBytes := g.recBytes + prims * (64 + 48 * x.state 13), used := g.used ++ g.bufs.map (·.2) }

/-- One packet. -/
def Walk.packet (g : Walk) (w h op : Nat) (b : List Byte) : Walk :=
  if op = 1 then { g with bound := true, vs := field b 8 2, fs := field b 10 2, pipeline := field b 8 24,
                          shaders := g.shaders ++ [field b 8 2, field b 10 2] }
  else if op = 2 then { g with bufs := NMap.set 0 g.bufs (field b 8 1) (field b 12 4) }
  else if op = 3 then { g with texs := NMap.set 0 g.texs (field b 8 1) (field b 16 4) }
  else if op = 4 then { g with view := viewBox w h b, viewport := leNat b }
  else if op = 5 then
    { g with scissor := (field b 8 2, field b 10 2, min w (field b 8 2 + field b 12 2), min h (field b 10 2 + field b 14 2)) }
  else if op = 6 then { g with push := leNat b }
  else if op = 7 then g.draw (field b 8 4) (field b 12 4) b none
  else if op = 8 then
    g.draw (field b 16 4) (field b 20 4) b (some (field b 8 4, if field b 12 1 = 0 then 2 else 4, field b 28 4, field b 16 4))
  else g

/-- The shaders that a BIND_PIPELINE names are loaded, each for its stage. -/
def State.pipelineKnown (s : State) (sl : Nat) (b : List Byte) : Bool :=
  ((s.shader sl (field b 8 2)).map (·.2)) == some 0 && ((s.shader sl (field b 10 2)).map (·.2)) == some 1

/-- Walks the list from byte `off`: the end of the walk, or the status and DETAIL with which the pass ends. -/
def walkList (s : State) (sl : Nat) (d : Desc) (total : Nat) : Nat → Nat → List Byte → Walk → Except (Nat × Nat) Walk
  | 0, _, _, g => .ok g
  | fuel + 1, off, bs, g =>
    if total ≤ off then .ok g
    else
      let op := field bs 0 2
      let bad : Except (Nat × Nat) Walk := .error (St.passInvalid, off)
      match packetLen op with
      | none => bad
      | some n =>
        let b := bs.take n
        let h := packetHandle op b
        if field bs 2 2 ≠ n ∨ total < off + n ∨ packetBad op b ∨ (h ≠ 0 ∧ d.gAttachments.contains h)
          ∨ ((op = 7 ∨ op = 8) ∧ !g.bound) then bad
        else if op = 1 ∧ !s.pipelineKnown sl b then .error (St.shaderUnknown, 0)
        else walkList s sl d total fuel (off + n) (bs.drop n) (g.packet d.gW d.gH op b)

namespace State

def pass (s : State) (q n : Nat) : Option GfxPass := s.gfx.passes.find? fun g => decide (g.q = q ∧ g.n = n)

def setPass (s : State) (p : GfxPass) : State :=
  { s with gfx := { s.gfx with passes := s.gfx.passes.map fun g => if g.q = p.q ∧ g.n = p.n then p else g } }

def pipe (s : State) (r : Nat) : GfxPipe := NMap.get {} s.gfx.pipes r

def setPipe (s : State) (r : Nat) (x : GfxPipe) : State :=
  { s with gfx := { s.gfx with pipes := NMap.set {} s.gfx.pipes r x } }

/-! ## The parameter buffer (R278) -/

def paramBuffer (s : State) (sl : Nat) : Option (Nat × Nat) := NMap.get none s.gfx.params sl

/-- Gives back a slice's parameter buffer. -/
def dropParams (s : State) (sl : Nat) : State :=
  match s.paramBuffer sl with
  | none => s
  | some b =>
    let s := s.deallocate b.1
    { s with gfx := { s.gfx with params := NMap.set none s.gfx.params sl none } }

/-- Allocates a slice's parameter buffer where it has none. -/
def takeParams (s : State) (sl : Nat) : State :=
  if (s.paramBuffer sl).isSome then s
  else
    let n := s.get 0x2800 1 (sl + 1)
    match s.allocate sl n 5 with
    | none => { s with freeCount := s.freeCount + 1 }
    | some (a, s) => { s with gfx := { s.gfx with params := NMap.set none s.gfx.params sl (some (a, n)) } }

/-- The buffer's size is not PARAM_BUFFER_BYTES, and the pass was accepted after the change. -/
def paramsStale (s : State) (sl order : Nat) : Bool :=
  match s.paramBuffer sl with
  | none => false
  | some b => decide (b.2 ≠ s.get 0x2800 1 (sl + 1) ∧ NMap.get 0 s.gfx.paramOrder sl ≤ order)

/-- A pass of the slice accepted before the change of PARAM_BUFFER_BYTES has not completed. -/
def paramsHeld (s : State) (sl : Nat) : Bool :=
  s.que.queues.any fun p => decide (s.queueOwner p.1 = some sl) && p.2.desc.any fun e => match e.2 with
    | some d => decide (d.phase ≠ .done ∧ d.opcode s.compat = 0x0800 ∧ d.order < NMap.get 0 s.gfx.paramOrder sl) && !d.rejected
    | none => false

/-- A write of PARAM_BUFFER_BYTES. -/
def writeParams (s : State) (sl n : Nat) : WRes :=
  if n % 1048576 ≠ 0 then .abort Ab.value
  else
    let s := s.set 0x2800 1 n (sl + 1)
    .ok { s with gfx := { s.gfx with paramOrder := NMap.set 0 s.gfx.paramOrder sl s.que.acceptCount } }

/-! ## Bands (R279, R280) -/

/-- Whether lists over `tiles` tiles fit `cap` bytes: certain where even the most they can take fits, else free, since
what a primitive touches is the shaders' result. -/
def listsFit (s : State) (p : GfxPass) (tiles cap : Nat) : Bool × State :=
  if p.recBytes + 8 * p.prims * tiles ≤ cap then (true, s)
  else
    let v := s.fresh .choice
    (v.1 % 2 = 0, v.2)

/-- Notes one walk of the geometry. -/
def noteWalk (s : State) (p : GfxPass) : GfxPass × State :=
  ({ p with walked := true }, if p.walked then s.bump 0x2800 3 1 (p.slice + 1) else s)

/-- Deals the tiles of a band in four contiguous runs, longer runs first (R281). -/
def dealRuns (ts : List Nat) : List (List Nat) :=
  (List.range 4).map fun i =>
    let start := fun (j : Nat) => j * (ts.length / 4) + min j (ts.length % 4)
    (ts.drop (start i)).take (start (i + 1) - start i)

/-- Bins the band at the pass's place, halving it while it does not fit; a single row that does not fit is drawn tile by
tile, and a tile that does not fit drops primitives. -/
def binBand (s : State) (p : GfxPass) (cols rows cap : Nat) : Nat → GfxPass × State
  | 0 => (p, s)
  | fuel + 1 =>
    let w := s.noteWalk p
    match p.col with
    | some c =>
      let p := { w.1 with runs := dealRuns [p.top * cols + c], left := 1, keep := none }
      let f := w.2.listsFit p 1 cap
      if f.1 then (p, f.2)
      else
        -- the first primitives in submission order are kept; which one does not fit is the lists' size, and so is how many of
        -- those after it the tile lists
        let k := f.2.fresh .choice
        let v := k.2.fresh .choice
        let keep := k.1 % p.prims
        let p := { p with keep := some keep }
        (if p.status = 0 then { p with status := St.geometryOverflow, detail := p.top * 65536 + c } else p,
          v.2.bump 0x2800 4 (1 + v.1 % (p.prims - keep)) (p.slice + 1))
    | none =>
      let h := min p.height (rows - p.top)
      let f := w.2.listsFit w.1 (h * cols) cap
      if f.1 then
        ({ w.1 with height := h, keep := none, runs := dealRuns ((List.range (h * cols)).map (p.top * cols + ·)), left := h * cols }, f.2)
      else if h = 1 then f.2.binBand { w.1 with height := 1, col := some 0 } cols rows cap fuel
      else f.2.binBand { w.1 with height := cdiv h 2 } cols rows cap fuel

/-- What binning leaves in the parameter buffer is the module's own: free bytes over as much as it can have written. -/
def dirtyParams (s : State) (p : GfxPass) (tiles : Nat) : State :=
  match s.paramBuffer p.slice with
  | none => s
  | some b =>
    let n := min b.2 (p.recBytes + 8 * p.prims * tiles)
    let d := (List.range n).map fun i => BitVec.ofNat 8 (Config.free .data (s.freeCount + i))
    { s with freeCount := s.freeCount + n }.store (.raster p.slice) b.1 d

/-- Bins a band and puts its tiles up for drawing. -/
def startBand (s : State) (p : GfxPass) (d : Desc) : State :=
  let cap := ((s.paramBuffer p.slice).map (·.2)).getD 0
  let r := s.binBand p d.gCols d.gRows cap 16
  (r.2.dirtyParams r.1 (d.gCols * d.gRows)).setPass r.1

/-! ## The end of a pass -/

/-- The work record of a pass. -/
def passWork (s : State) (p : GfxPass) : Work :=
  { s := s, q := p.q, n := p.n, sl := p.slice, prio := p.prio, m := .raster p.slice, st := p.status, det := p.detail }

/-- Every tile of the pass is stored or abandoned: stores to tensors of class state settle (R173), and the record is written. -/
def endPass (s : State) (p : GfxPass) (d : Desc) : State :=
  let s := { s with gfx := { s.gfx with passes := s.gfx.passes.filter fun g => decide (g.q ≠ p.q ∨ g.n ≠ p.n) } }
  let w := s.passWork p
  let hs := (d.gColours.filter d.gStore).map d.gColour ++ p.bufs.filter fun h => s.named p.slice h && decide (s.tclass h ≠ 1)
  let w := hs.foldl Work.settleState w
  w.s.finish p.q p.n w.st w.det 0

/-- The band is drawn: the next one starts, or the pass ends. -/
def bandDone (s : State) (p : GfxPass) (d : Desc) : State :=
  match p.col with
  | some c =>
    if c + 1 < d.gCols then s.startBand { p with col := some (c + 1) } d
    else if p.top + 1 < d.gRows then s.startBand { p with col := none, top := p.top + 1, height := 1 } d
    else s.endPass p d
  | none =>
    if p.top + p.height < d.gRows then s.startBand { p with top := p.top + p.height } d else s.endPass p d

/-! ## Raster pipes (R281, R282, R285) -/

/-- The tiles of a pass that pipe `r` has not begun: those its tile memory holds ahead, then its run. -/
def undrawnOf (s : State) (p : GfxPass) (r : Nat) : List Nat :=
  ((s.pipe r).ahead.filter fun a => decide (a.q = p.q ∧ a.n = p.n)).map (·.tile) ++ p.runs.getD r []

def undrawn (s : State) (p : GfxPass) : Nat := ((List.range 4).map fun r => (s.undrawnOf p r).length).sum

/-- The pass whose tile a pipe takes next: highest queue priority, then acceptance order, among those with tiles
ready. -/
def nextPass (s : State) : Option GfxPass :=
  (s.gfx.passes.filter fun p => decide (0 < s.undrawn p)).foldl (fun (a : Option GfxPass) p => match a with
    | none => some p
    | some b => if b.prio < p.prio ∨ (b.prio = p.prio ∧ p.order < b.order) then some p else some b) none

/-- The pipe with the most undrawn tiles of the pass, lower number first. -/
def busiestPipe (s : State) (p : GfxPass) : Nat :=
  (List.range 4).foldl (fun a i => if (s.undrawnOf p a).length < (s.undrawnOf p i).length then i else a) 0

/-- Bytes of a pipe's tile memory that its tiles fill (R276). -/
def tileMemory (s : State) (r : Nat) : Nat :=
  let x := s.pipe r
  ((x.pass.toList ++ x.ahead.map fun a => (a.q, a.n)).map fun k => ((s.desc k.1 k.2).map (·.gFootprint)).getD 0).sum

/-- A pipe loads a tile of a pass. -/
def loadFor (s : State) (p : GfxPass) (t : Nat) : GfxAhead × State :=
  match s.desc p.q p.n with
  | none => ({ q := p.q, n := p.n, tile := t, loads := [], undef := false }, s)
  | some d =>
    let w := s.passWork p
    let r := w.loadTile d t
    let p := ((r.2.s.pass p.q p.n).map fun p => { p with status := r.2.st, detail := r.2.det }).getD p
    ({ q := p.q, n := p.n, tile := t, loads := r.1, undef := r.2.undef }, r.2.s.setPass p)

/-- A pipe's tile memory is filled with tiles of its own run of a pass, so that loads and drawing overlap (R276). -/
def fillPipe (s : State) (r q n f : Nat) : Nat → State
  | 0 => s
  | fuel + 1 => match s.pass q n with
    | none => s
    | some p => match p.runs.getD r [] with
      | [] => s
      | t :: ts =>
        if 2097152 < s.tileMemory r + f then s
        else
          let a := (s.setPass { p with runs := p.runs.set r ts }).loadFor { p with runs := p.runs.set r ts } t
          (a.2.setPipe r { a.2.pipe r with ahead := (a.2.pipe r).ahead ++ [a.1] }).fillPipe r q n f fuel

/-- The tiles that a pipe holds ahead for other passes go back to the heads of their runs; their loads are lost. -/
def dropAhead (s : State) (r q n : Nat) : State :=
  let gone := (s.pipe r).ahead.filter fun a => decide (a.q ≠ q ∨ a.n ≠ n)
  let s := s.setPipe r { s.pipe r with ahead := (s.pipe r).ahead.filter fun a => decide (a.q = q ∧ a.n = n) }
  gone.reverse.foldl (fun s a => match s.pass a.q a.n with
    | some p => s.setPass { p with runs := p.runs.set r (a.tile :: p.runs.getD r []) }
    | none => s) s

/-- Takes the tail tile of pipe `v` out of a pass's undrawn tiles. -/
def stealTail (s : State) (p : GfxPass) (v t : Nat) : State :=
  match p.runs.getD v [] with
  | [] => s.setPipe v { s.pipe v with ahead := (s.pipe v).ahead.filter fun a => decide (a.q ≠ p.q ∨ a.n ≠ p.n ∨ a.tile ≠ t) }
  | run => s.setPass { p with runs := p.runs.set v run.dropLast }

/-- A pipe begins a tile, and its tile memory fills with those that follow. -/
def beginTile (s : State) (r : Nat) (a : GfxAhead) : State :=
  let s := s.setPipe r { s.pipe r with pass := some (a.q, a.n), tile := a.tile, began := s.now, loads := a.loads, undef := a.undef }
  match s.desc a.q a.n with
  | some d => s.fillPipe r a.q a.n d.gFootprint (tilesHeld d)
  | none => s

/-- An idle pipe takes its next tile: the first of its own, loaded ahead or not, else the tail of the busiest pipe's. -/
def pipeTake (s : State) (r : Nat) : State :=
  if (s.pipe r).pass.isSome ∨ s.droneHolds (96 + r) then s
  else match s.nextPass with
    | none => s
    | some p =>
      let s := s.dropAhead r p.q p.n
      match (s.pipe r).ahead, p.runs.getD r [] with
      | a :: as, _ => (s.setPipe r { s.pipe r with ahead := as }).beginTile r a
      | [], t :: ts =>
        let l := (s.setPass { p with runs := p.runs.set r ts }).loadFor { p with runs := p.runs.set r ts } t
        l.2.beginTile r l.1
      | [], [] =>
        let v := s.busiestPipe p
        match (s.undrawnOf p v).getLast? with
        | none => s
        | some t =>
          let s := (s.stealTail p v t).bump 0x2800 5 1 (p.slice + 1)
          let l := s.loadFor ((s.pass p.q p.n).getD p) t
          l.2.beginTile r l.1

def allPipesTake (s : State) : State := (List.range 4).foldl pipeTake s

end State

namespace State

/-- A pipe lets its tile go, stored or abandoned; the band, the pass and idle pipes go on. -/
def pipeDone (s : State) (r : Nat) (timeout : Bool) : State :=
  match (s.pipe r).pass with
  | none => s
  | some (q, n) =>
    if s.workHeld q then s.noteWait q n else
    let x := s.pipe r
    let t := x.tile
    let s := (((s.setPipe r { ahead := x.ahead }).countFree (304 + r)).countFree (308 + r)).countFree 312
    match s.pass q n, s.desc q n with
    | some p, some d =>
      let ds := (s.passWork p).tileDraws t p.draws
      let w := if timeout then ds.2.fail St.shaderTimeout (t / d.gCols * 65536 + t % d.gCols)
        else ({ ds.2 with undef := x.undef } : Work).storeTile d ds.1 p.keep x.loads t
      let p := { p with status := w.st, detail := w.det, left := p.left - 1 }
      let s := w.s.setPass p
      (if p.left = 0 then s.bandDone p d else s).allPipesTake
    | _, _ => s

/-- The pass's tile has lasted TILE_TIMEOUT_US (R285). -/
def pipeLate (s : State) (r : Nat) : Bool :=
  match (s.pipe r).pass with
  | none => false
  | some (q, n) => match s.pass q n with
    | none => false
    | some p => decide ((s.pipe r).began + 1000 * s.get 0x2800 2 (p.slice + 1) ≤ s.now)

/-- Starts a pass whose inputs are there: buffer, command list, first band. -/
def startPass (s : State) (q n : Nat) (d : Desc) : State :=
  let sl := s.queueSlice q
  let s := if s.paramsStale sl d.order then (s.dropParams sl).takeParams sl else s
  let p : GfxPass := { q := q, n := n, slice := sl, prio := (s.queue q).priority, order := d.order, height := d.gRows }
  if s.paramBuffer sl = none then s.finish q n St.paramNoSpace 0 0
  else
    let total := d.fld 127 96
    let r := (s.passWork p).read (d.fld 95 64) 0 total
    let whole : Box := (0, 0, d.gW, d.gH)
    if r.2.st ≠ 0 then r.2.s.finish q n r.2.st r.2.det 0
    else match walkList r.2.s sl d total (total / 8 + 1) 0 r.1 { view := whole, scissor := whole } with
      | .error e => r.2.s.finish q n e.1 e.2 0
      | .ok g =>
        let p := { p with draws := g.draws, prims := g.prims, recBytes := g.recBytes, shaders := g.shaders,
                          bufs := (g.used.filter (· ≠ 0)).eraseDups }
        let s := r.2.s
        (({ s with gfx := { s.gfx with passes := s.gfx.passes ++ [p] } }).startBand p d).allPipesTake

/-- GFX_PASS: begins the pass, once its inputs and its slice's parameter buffer allow. -/
def gfxPass (s : State) (q n : Nat) : State :=
  match s.readyDirect q n (· = 0x0800) with
  | (none, s) => s
  | (some d, s) =>
    let sl := s.queueSlice q
    if (s.pass q n).isSome ∨ (s.paramsStale sl d.order ∧ s.paramsHeld sl) then s else s.startPass q n d

end State

/-! ## Commands -/

/-- GFX_PASS (R270 to R284). -/
def execGfxPass (q n : Nat) (s : State) : Out := .next (if s.gov.halt then s else s.gfxPass q n)

/-- Runs a shader operation once its module is there. -/
def State.runShader (s : State) (q n op : Nat) (f : Work → Desc → Work) : State :=
  (s.readyDirect q n (· = op)).2.runDesc q n (· = op) f

/-- GFX_SHADER_LOAD (R272). -/
def execGfxShaderLoad (q n : Nat) (s : State) : Out := .next (s.runShader q n 0x0801 Work.shaderLoad)

/-- GFX_SHADER_FREE (R272): waits for earlier passes that use the shader. -/
def execGfxShaderFree (q n : Nat) (s : State) : Out :=
  .next (match s.readyDirect q n (· = 0x0802) with
    | (none, s) => s
    | (some d, s) =>
      if s.shaderBusy (s.queueSlice q) (d.fld 79 64) d.order then s else s.runDesc q n (· = 0x0802) Work.shaderFree)

/-- GFX_TILE_DONE (R277, R281 to R285). In thermal halt the shader cores issue nothing, and the tile is held (R51). -/
def execGfxTileDone (pipe : Nat) (s : State) : Out := .next (if s.gov.halt then s else s.pipeDone pipe false)

/-- TILE_TIMEOUT (R285); a thermal halt holds the tile and discards nothing (R51). -/
def execTileTimeout (pipe : Nat) (s : State) : Out :=
  .next (if !s.gov.halt && s.pipeLate pipe then s.pipeDone pipe true else s)

end Sys2Proof.Machine
end

