-- ==== Sys2Proof/Machine/Display.lean ====
section
/-! DEFINITION. Display outputs, layers, presents and late re-projection (R286 to R294). -/

namespace Sys2Proof.Machine

open Sys2Proof

namespace State

def layer (s : State) (o k : Nat) : Layer := NMap.get {} s.dsp.layers (4 * o + k)

def setLayer (s : State) (o k : Nat) (x : Layer) : State :=
  { s with dsp := { s.dsp with layers := NMap.set {} s.dsp.layers (4 * o + k) x } }

/-- The layer's entries as they stand now: subindexes 1 to 10. -/
def layerEntries (s : State) (o k : Nat) : List Nat := (List.range 10).map fun i => s.get (0x2890 + 4 * o + k) (i + 1)

end State

/-- LAYER_W, LAYER_H and LAYER_FMT in force. -/
def Layer.w (l : Layer) : Nat := l.cfg.getD 3 0
def Layer.h (l : Layer) : Nat := l.cfg.getD 4 0
def Layer.fmt (l : Layer) : Nat := l.cfg.getD 5 0

/-! ## Presents (R289) -/

/-- OUTPUT and LAYER of a GFX_PRESENT. -/
def Desc.pOut (d : Desc) : Nat := d.fld 99 98
def Desc.pLayer (d : Desc) : Nat := d.fld 101 100

/-- GFX_PRESENT. -/
def presentInfo (s : State) (d : Desc) : OpInfo :=
  let l := s.layer d.pOut d.pLayer
  { reserved := [(511, 288), (159, 104), (97, 96)], bad := badBits [(decide (d.fld 103 102 = 3), 102)],
    uses := [{ lo := 64, bytes := pitch l.w l.fmt * l.h }] }

namespace State

/-- GFX_PRESENT: the image becomes ready for its layer. -/
def present (s : State) (q n : Nat) : State :=
  match s.beginDirect q n (· = 0x0803) with
  | none => s
  | some (d, s) =>
    let l := s.layer d.pOut d.pLayer
    if l.cfg.headD 0xFF ≠ s.queueSlice q then s.finish q n St.layerInvalid 0 0
    else
      let h := d.fld 95 64
      let root := ((s.tref h).map (·.root)).getD 0
      let p : Present := { q := q, n := n, image := h, root := root, reproj := d.fld 103 102,
                           pose := [d.fld 191 160, d.fld 223 192, d.fld 255 224, d.fld 287 256] }
      s.setLayer d.pOut d.pLayer { l with ready := l.ready ++ [p] }

/-- A present that was never shown completes (R289): DETAIL[31] is 1, its other bits are not stated. -/
def supersede (s : State) (p : Present) : State :=
  let v := s.fresh .detail
  v.2.finish p.q p.n 0 (2147483648 + v.1 % 2147483648) 0

/-! ## Poses (R293) -/

/-- Reads the pose ring: the valid pose record of greatest TIME, its four REAL32 codes; none where no record is valid. -/
def latestPose (s : State) : Option (List Nat) × State :=
  let sl := s.get 0x28A0 1
  if 64 ≤ sl then (none, s)
  else
    let h := s.get 0x28A0 2 (sl + 1)
    if !s.named sl h ∨ s.tbytes h < 512 then (none, s)
    else
      let w := ({ s := s, q := 0, n := 0, sl := sl, prio := 0, m := .display, quiet := true } : Work).read h 0 512
      let r := w.1
      let recs : List (Nat × List Nat) := (List.range 16).filterMap fun i =>
        if field r (32 * i) 4 = field r (32 * i + 4) 4 then
          some (field r (32 * i + 8) 8, (List.range 4).map fun j => field r (32 * i + 16 + 4 * j) 4)
        else none
      ((recs.foldl (fun (a : Option (Nat × List Nat)) x => match a with
        | none => some x
        | some b => if b.1 < x.1 then some x else some b) none).map (·.2), w.2.s)

/-! ## The latch point (R287, R290) -/

/-- What an enabled layer without a new present shows. -/
def missLayer (s : State) (o k : Nat) (l : Layer) (p : Present) : State :=
  let again := fun (s : State) => (s.setLayer o k { l with mode := 2 }).bump (0x2880 + o) 0x0A
  if p.reproj = 0 then again s
  else if p.reproj = 2 then s.setLayer o k { l with mode := 0 }
  else match s.latestPose with
    | (none, s) => again s
    | (some pose, s) =>
      if (decodeElem 0xC (l.cfg.getD 7 0)).isZero then again s
      else (s.setLayer o k { l with mode := 3, latest := pose }).bump (0x2880 + o) 0x0B

/-- A layer at its output's latch point. -/
def latchLayer (s : State) (o k : Nat) : State :=
  let l := { s.layer o k with cfg := s.layerEntries o k }
  if l.cfg.headD 0xFF = 0xFF then s.setLayer o k { l with mode := 0 }
  else match l.ready.getLast?, l.latched with
    | some p, old =>
      let s := l.ready.dropLast.foldl supersede s
      let s := match old with
        | some x => s.supersede x
        | none => s
      (s.setLayer o k { l with ready := [], latched := some p, mode := 1 }).reap
    | none, some _ => s.setLayer o k { l with mode := 1 }
    | none, none => match l.shown with
      | none => s.setLayer o k { l with mode := 0 }
      | some p => s.missLayer o k l p

/-- A latch point; at one of DO0 the Rearguard's overlay comes or goes (R380, R384). -/
def latchPoint (s : State) (o : Nat) : State :=
  if 3 < o ∨ s.get (0x2880 + o) 1 = 0 then s
  else
    let s := if o = 0 then { s with rg := { s.rg with overlay := decide (1 ≤ s.rg.state ∧ s.rg.state ≤ 3) } } else s
    (List.range 4).foldl (fun s k => s.latchLayer o k) s

end State

/-! ## Composition (R288) and re-projection (R294) -/

/-- A finite REAL32 code in units of 2⁻¹⁴⁹. -/
def fixedOf (code : Nat) : Option Int := match decodeElem 0xC code with
  | .fin s m e => some (Num.scaledInt s m e (-149))
  | _ => none

/-- A vector of three components. -/
abbrev Vec3 := Int × Int × Int

/-- The rotation R(q) applied to a vector, times |q|², which no dehomogenised result depends on: q is normalised by the
display. -/
def rotate (q : List Int) (a : Vec3) : Vec3 :=
  let w := q.getD 0 0
  let x := q.getD 1 0
  let y := q.getD 2 0
  let z := q.getD 3 0
  ((w * w + x * x - y * y - z * z) * a.1 + 2 * (x * y - w * z) * a.2.1 + 2 * (x * z + w * y) * a.2.2,
   2 * (x * y + w * z) * a.1 + (w * w - x * x + y * y - z * z) * a.2.1 + 2 * (y * z - w * x) * a.2.2,
   2 * (x * z - w * y) * a.1 + 2 * (y * z + w * x) * a.2.1 + (w * w - x * x - y * y + z * z) * a.2.2)

/-- The inverse rotation. -/
def unrotate (q : List Int) (a : Vec3) : Vec3 :=
  rotate (match q with
    | [w, x, y, z] => [w, -x, -y, -z]
    | _ => []) a

/-- A rational coordinate less one half: pixel centres lie at + 0.5. -/
def centred (num den : Int) : Coord :=
  let n := if den < 0 then -num else num
  { num := 2 * n - den.natAbs, den := 2 * den.natAbs }

/-- The place in the previous image that output pixel (u, v) of the layer samples, for finite numbers: s = K M RΔ Mᵀ K⁻¹ p,
dehomogenised, exactly (R294); none where its third component is not positive. `f`, `cx` and `cy` are in units of 2⁻¹⁴⁹. -/
def warpExact (f cx cy : Int) (render latest : List Int) (u v : Nat) : Option (Coord × Coord) :=
  let dx := (2 * (u : Int) + 1) * 2 ^ 148 - cx
  let dy := (2 * (v : Int) + 1) * 2 ^ 148 - cy
  let e := unrotate render (rotate latest (f, -dx, -dy))
  -- M times that: the components of t, all of them times F
  let t : Vec3 := (-e.2.1, -e.2.2, e.1)
  if t.2.2 * f ≤ 0 then none
  else
    let den := 2 ^ 149 * t.2.2
    some (centred (f * t.1 + cx * t.2.2) den, centred (f * t.2.1 + cy * t.2.2) den)

/-- The place that a pixel samples. Where a number of the map is infinite or NaN the spec states no result, and the place is
open: a constant of Config applied to the numbers of the map, which may be none. -/
def warpPlace (l : Layer) (p : Present) (u v : Nat) : Option (Coord × Coord) :=
  let a := l.cfg.drop 7 ++ p.pose ++ l.latest ++ [u, v]
  match fixedOf (l.cfg.getD 7 0), fixedOf (l.cfg.getD 8 0), fixedOf (l.cfg.getD 9 0), p.pose.mapM fixedOf, l.latest.mapM fixedOf with
  | some f, some cx, some cy, some r, some q => warpExact f cx cy r q u v
  | _, _, _, _, _ =>
    if Config.fn 0x402 a % 2 = 0 then none
    else some (centred (Config.fn 0x400 a % 4294967296) 65536, centred (Config.fn 0x401 a % 4294967296) 65536)

/-- Components of a warped pixel, none where the sample is transparent: a third component that is not positive, or a
place outside the image. -/
def warpPixel (l : Layer) (p : Present) (img : List Byte) (u v : Nat) : Option (List Fv) :=
  match warpPlace l p u v with
  | none => none
  | some (cx, cy) =>
    let out := fun (c : Coord) (n : Nat) => decide (2 * c.num + c.den < 0 ∨ (2 * n * c.den : Nat) ≤ 2 * c.num + c.den)
    if out cx l.w || out cy l.h then none
    else
      let at_ := fun (dy dx : Int) =>
        pixelAt l.fmt img (clampIdx (cy.floor + dy) l.h * pitch l.w l.fmt + clampIdx (cx.floor + dx) l.w * bpp l.fmt)
      some ((List.range 4).map fun i =>
        let c := fun (q : List Fv) => q.getD i Fv.zero
        bilinear (c (at_ 0 0)) (c (at_ 0 1)) (c (at_ 1 0)) (c (at_ 1 1)) cy.frac cx.frac)

/-- One layer over the colour beneath, in FP32. -/
def composeLayer (l : Layer) (img : List Byte) (x y : Nat) (c : List Fv) : List Fv :=
  let X := l.cfg.getD 1 0
  let Y := l.cfg.getD 2 0
  let p := if l.mode = 1 then l.latched else l.shown
  if l.mode = 0 ∨ x < X ∨ y < Y ∨ X + l.w ≤ x ∨ Y + l.h ≤ y then c
  else match p with
    | none => c
    | some p =>
      let u := x - X
      let v := y - Y
      let px := if l.mode = 3 then warpPixel l p img u v else some (pixelAt l.fmt img (v * pitch l.w l.fmt + u * bpp l.fmt))
      match px with
      | none => c
      | some px =>
        let a := ((px.getD 3 Fv.zero).mul { v := Num.ofInt (l.cfg.getD 6 255 : Nat) }).mul (ratFv 1 255)
        let b := ({ v := Num.ofInt 1 } : Fv).sub a
        (List.range 3).map fun i => (a.mul (px.getD i Fv.zero)).add (b.mul (c.getD i Fv.zero))

/-- The pixel as sent: 8 bits per component. -/
def sentPixel (c : List Fv) : Nat :=
  let k := fun (i : Nat) => unormCode 255 (c.getD i Fv.zero).v
  k 0 + 256 * k 1 + 65536 * k 2

/-- One line of an output: composed up to the pixels that have arrived, the last one repeated after them (R292). With
none arrived, the repeated pixel is open. -/
def sentLine (ls : List (Layer × List Byte)) (bg : List Fv) (overlay : Bool) (active y : Nat) (arrived : Option Nat) : List Nat :=
  let at_ := fun (x : Nat) =>
    let c := sentPixel (ls.foldl (fun c l => composeLayer l.1 l.2 x y c) bg)
    if overlay then Config.fn 0x403 [x, y, c] % 16777216 else c
  match arrived with
  | none => (List.range active).map at_
  | some 0 => List.replicate active (Config.fn 0x404 [y] % 16777216)
  | some n => (List.range active).map fun x => at_ (min x (n - 1))

namespace State

/-- The image a layer shows in the next frame, read by the display (class of Table MEM-3). -/
def layerImage (s : State) (l : Layer) : List Byte × State :=
  let p := if l.mode = 1 then l.latched else if l.mode = 0 then none else l.shown
  match p with
  | none => ([], s)
  | some p =>
    let r := ({ s := s, q := p.q, n := p.n, sl := s.queueSlice p.q, prio := 0, m := .display } : Work).read p.image 0 (pitch l.w l.fmt * l.h)
    (r.1, r.2.s)

/-- A layer's present is shown: it completes with the low bits of FRAMES, and the image it replaces is let go
(R289, R291). -/
def showLayer (s : State) (o k : Nat) : State :=
  let l := s.layer o k
  match l.latched with
  | none => s
  | some p =>
    if l.mode ≠ 1 then s
    else ((s.setLayer o k { l with latched := none, shown := some p }).finish p.q p.n 0 (s.get (0x2880 + o) 9 % 2147483648) 0).reap

/-- The first active line of a frame goes out, and with it the whole frame; `late` names the lines that were not complete
when due, with the pixels that had arrived. -/
def scanOut (s : State) (o : Nat) (late : List (Nat × Nat)) : State :=
  if 3 < o ∨ s.get (0x2880 + o) 1 = 0 then s
  else
    let idx := 0x2880 + o
    let s := s.bump idx 9
    let imgs := (List.range 4).foldl (fun (a : List (Layer × List Byte) × State) k =>
      let l := a.2.layer o k
      let r := a.2.layerImage l
      (a.1 ++ [(l, r.1)], r.2)) (([], s) : List (Layer × List Byte) × State)
    let s := imgs.2
    let bg := pixelAt 0 (leBytes 4 (s.get idx 8)) 0
    let rows := (List.range (s.get idx 3)).flatMap fun y =>
      sentLine imgs.1 bg (decide (o = 0) && s.rg.overlay) (s.get idx 2) y ((late.find? fun p => decide (p.1 = y)).map (·.2))
    let s := if s.get idx 0x0D = 1 then s.emit (.scan o (s.get idx 9) rows) else s
    let s := if late = [] then s else (s.bump idx 0x0C late.length).addRecord St.displayUnderflow 0x05 o
    (List.range 4).foldl (fun s k => s.showLayer o k) s

/-! ## Writes (R286, R287, R293) -/

/-- A write of an output, layer or pose entry. -/
def displayWrite (s : State) (d : Dom) (idx sub n : Nat) : WRes :=
  if 0x2880 ≤ idx ∧ idx < 0x2884 then
    if 2 ≤ sub ∧ sub ≤ 7 ∧ s.get idx 1 = 1 then .abort (Ab.refusal St.outputBusy)
    else if sub = 1 ∧ n = 1 ∧ (s.get idx 4 < s.get idx 2 + 32 ∨ s.get idx 5 < s.get idx 3 + 8) then .abort Ab.value
    else .ok (s.set idx sub n)
  else if idx = 0x28A0 ∧ sub = 2 then match d with
    | .slice p => match s.sliceOf p with
      | some k => if s.get 0x28A0 1 = k then .ok (s.set idx sub n (k + 1)) else .abort Ab.domain
      | none => .abort Ab.domain
    | _ => .abort Ab.domain
  else .ok (s.set idx sub n)

/-- An A-PHY link is lost or comes up. -/
def displayLink (s : State) (o : Nat) (up : Bool) : State :=
  if 3 < o then s
  else if up then s.set (0x2880 + o) 0x0D 1
  else if s.get (0x2880 + o) 0x0D = 0 then s
  else (s.set (0x2880 + o) 0x0D 0).addRecord St.displayLinkDown 0x05 o

end State

/-! ## Commands -/

/-- GFX_PRESENT (R289). -/
def execGfxPresent (q n : Nat) (s : State) : Out := .next (s.present q n)

/-- LATCH_POINT (R287, R290, R293). -/
def execLatchPoint (out : Nat) (s : State) : Out := .next (s.latchPoint out)

/-- SCAN_OUT_START (R288, R289, R291, R292, R294). -/
def execScanOutStart (out : Nat) (late : List (Nat × Nat)) (s : State) : Out := .next (s.scanOut out late)

/-- DISPLAY_LINK_DOWN (R292). -/
def execDisplayLinkDown (out : Nat) (s : State) : Out := .next (s.displayLink out false)

/-- DISPLAY_LINK_UP (R292). -/
def execDisplayLinkUp (out : Nat) (s : State) : Out := .next (s.displayLink out true)

end Sys2Proof.Machine
end

