-- ==== Sys2Proof/Machine/Reset.lean ====
section
/-! DEFINITION. Reset of the main side and its start (R21, R25, R60, R403, R404, R406, R428, R434). -/

namespace Sys2Proof.Machine

open Sys2Proof

namespace State

/-- Entries that a main-side reset leaves: what the always-on governor presents, and its record of the lowest rail
(log 40), the level of the COMPAT pin, and FENCE_STATE. -/
def keptEntries : List (Nat × Nat) :=
  [(0x2111, 1), (0x2111, 2), (0x2111, 3), (0x2111, 4), (0x2111, 5), (0x2111, 6), (0x2112, 1), (0x2002, 2), (0x2BB0, 1)]

/-- The contents of the stack become undefined (R413, R428). -/
def loseHbm (s : State) : State :=
  { s with mem := { s.mem with cells := [], zeroed := [], poisoned := [], epoch := s.mem.epoch + 1 } }

/-- Ranges that hardware zeroes before the security processor image starts (R404). -/
def zeroRanges (s : State) : List (Nat × Nat) :=
  [(0, s.sec.watermark), (generalEnd, 0x05D5000000 - generalEnd)]
    ++ (s.sec.granules.map fun g => (g.1 * 2097152, 2097152))

/-- The time bases through a main-side reset: they run on, with the default increment and no step to come (R347). -/
def keepTime (t : TimeState) : TimeState :=
  { bases := t.bases.map fun b => (b.1, { b.2 with pendStep := none, pendIncr := none }) }

/-- The main side enters reset. The Rearguard with its own state, the always-on governor, the time bases, the fuses and UFS
stand (R16, R403); every entry takes its default; the memory ranges of R404 are zeroed, and the rest of HBM is undefined. -/
def resetMain (s : State) (cold : Bool) : State :=
  let zs := s.zeroRanges
  let fuses : SecState := { slots := s.sec.slots, floors := s.sec.floors, debugFuse := s.sec.debugFuse, epoch := s.sec.epoch }
  let epoch : MemState := { epoch := s.mem.epoch }
  let kept := keptEntries.foldl (fun d e => NMap.set none d (entryKey 0 e.1 e.2)
    (NMap.get none s.dict (entryKey 0 e.1 e.2))) ([] : NMap (Option DVal))
  let r : State :=
    { pending := s.pending, freeCount := s.freeCount, out := s.out, dict := kept, time := keepTime s.time
      rg := { s.rg with resetSeen := s.rg.resetSeen || !s.pwr.controlled }
      gov := s.gov, sec := fuses, mem := epoch
      dic := { ufsComm := s.dic.ufsComm, restorePending := s.dic.restorePending }
      fw := { nodes := s.fw.nodes }
      pwr := { cold := cold, bootRecords := s.pwr.bootRecords, controlled := s.pwr.controlled } }
  let r := zs.foldl (fun r z => r.zeroMem z.1 z.2) r.loseHbm
  (r.set 0x2002 1 (r.get 0x2002 2)).aim.renewChallenge

/-- Loads the stored communication entries, or drops them where RESTORE_COMM has been written (R25). -/
def loadComm (s : State) : State :=
  if s.dic.restorePending then { s with dic := { s.dic with ufsComm := none, restorePending := false } }
  else match s.dic.ufsComm with
    | none => s
    | some m => m.foldl (fun s e => { s with dict := NMap.set none s.dict e.1 e.2 }) s

/-- The image of a kind that runs now. -/
def setRunning (s : State) (kind v : Nat) : State :=
  { s with sec := { s.sec with running := NMap.set 0 s.sec.running kind v } }

/-- Application harts leave reset in M-mode. -/
def startHarts (s : State) : State := (List.range 24).foldl (fun s h => s.setHart h { mode := .m }) s

/-- Kinds 2 and 5: the secure monitor, then the hypervisor, whose first mret takes hart 0 to HS-mode; a kind of which both
copies fail leaves the application cores in reset and is recorded (R406). -/
def startHypervisor (s : State) (k : BootImages) : State :=
  match s.verifyCopies 2 k.kind2 with
  | none => s.addRecord St.bootVerifyFailed 0x0E 0xFF (leBytes 1 2)
  | some v =>
    let s := s.setRunning 2 v
    match s.verifyCopies 5 k.kind5 with
    | none => s.addRecord St.bootVerifyFailed 0x0E 0xFF (leBytes 1 5)
    | some w => (s.startHarts.setRunning 5 w).setHart 0 { mode := .hs }

/-- The main-side start of Table STD-1, with the core rail above 0.40 V (R60); islands that a collapse left gated are
released. With both copies of kind 1 bad the main side stays in reset and the Rearguard sees
MAIN_RESET (R406). -/
def mainStart (s : State) (k : BootImages) : State :=
  if !s.pwr.inReset ∨ s.presentMv ≤ 400 then s else
  let s := if s.gov.gated then s.releaseIslands else s
  let s := if s.pwr.cold then (s.set 0x2002 2 (k.compatPin % 2)).set 0x2002 1 (k.compatPin % 2) else s
  match s.verifyCopies 1 k.kind1 with
  | none => { s with rg := { s.rg with resetSeen := true } }
  | some v =>
    let rs := s.pwr.bootRecords
    let s := s.loadComm.setRunning 1 v
    let s := { s with
      sec := { s.sec with swdStart := some s.now }
      pwr := { s.pwr with inReset := false, cold := false, controlled := false, bootRecords := [], busyAt := s.now } }
    let s := testUnits.foldl droneEnter s
    (rs.foldl (fun r st => r.addRecord st (if st = St.secureWatchdog then 0x0E else 0x1A) 0xFF) s).startHypervisor k

end State

/-! ## The commands -/

/-- CORE_RAIL_POWER_ON_RESET (R60): below 0.40 V the main side is held in reset; its recovery is a MAIN_SIDE_START. -/
def execCoreRailPowerOnReset (rail : Nat) (s : State) : Out :=
  .next (if rail < 400 then (s.resetMain true).railAt rail else s)

/-- MAIN_SIDE_START (R428, R21, R25, R38, R404 to R406, R448). -/
def execMainSideStart (k : BootImages) (s : State) : Out := .next (s.mainStart k)

/-- SECURE_WATCHDOG (R403): the timer has expired. -/
def execSecureWatchdog (s : State) : Out :=
  .next (match s.sec.swdStart with
    | none => s
    | some t => if s.sec.swdPaused.isSome ∨ s.now < t + 1000000 * s.get 0x2D20 1 then s
      else
        let s := { s with pwr := { s.pwr with bootRecords := s.pwr.bootRecords ++ [St.secureWatchdog] } }
        s.resetMain false)

end Sys2Proof.Machine
end

