-- ==== Sys2Proof/Machine/Firmware.lean ====
section
/-! DEFINITION. Loading, updating and losing the firmware (20_startup_firmware_and_debug.md, R429 to R436). -/

namespace Sys2Proof.Machine

open Sys2Proof

/-- SBI error codes (R430). -/
def sbiInvalid : Int := -3
def sbiDenied : Int := -4
def sbiAvailable : Int := -6
def sbiStarted : Int := -7
def sbiStopped : Int := -8

/-- Image slots 0 and 1 (Table STD-2). -/
def imageSlot (k : Nat) : Nat := if k = 0 then 0x05E6000000 else 0x05EA000000

namespace State

/-- The node number names this module. -/
def isHere (s : State) (node : Nat) : Bool := decide (node = 0xFF) || (decide (node = s.nodeId) && s.nodePresent node)

/-- The node may be named: this module, or on node 0 one of NODES_PRESENT (R430). -/
def nodeOk (s : State) (node : Nat) : Bool :=
  decide (node = 0xFF) || (decide (s.nodeId = 0 ∧ node < 192) && s.nodePresent node)

def setFw (s : State) (f : FwState) : State := { s with fw := f }

/-- The image's address is page-aligned in general HBM, and its length is 512 B more than a multiple of 4,096, at most
64 MiB + 512 B (R431). -/
def imageOk (s : State) (addr len : Nat) : Bool :=
  decide (addr % 4096 = 0 ∧ s.sec.watermark ≤ addr ∧ 512 ≤ len ∧ (len - 512) % 4096 = 0 ∧ len ≤ 67109376 ∧ addr + len ≤ generalEnd)

/-- STATE and ABORT of a node's firmware. How the manager learns a worker's is not given: they are free, but for a transfer
that a link failure has ended (R432). -/
def fwOf (s : State) (node : Nat) : (Nat × Nat) × State :=
  let known := NMap.get (0, 0) s.fw.nodes node
  if s.isHere node then ((s.fw.state, s.fw.abort), s)
  else if known.1 = 0 ∧ known.2 ≠ 0 then (known, s)
  else
    let a := s.fresh .result
    let b := a.2.fresh .result
    ((a.1 % 5, b.1 % 4294967296), b.2)

/-- The transfer of an image to a node ends with a link failure (R432). -/
def nodeLost (s : State) (node : Nat) : State :=
  s.setFw { s.fw with nodes := NMap.set (0, 0) s.fw.nodes node (0, Ab.refusal St.linkDown) }

/-- The manager sends an image to a worker's security processor in MESSAGE frames (R432). -/
def sendImage (s : State) (node addr len : Nat) : State :=
  let img := s.readMem addr len
  let s := (List.range (cdiv len 4064)).foldl (fun s i =>
    s.sendFrame { dst := node, src := 0, kind := kMessage, cls := 2, payload := (img.drop (4064 * i)).take 4064 }) s
  if s.reaches node then s.setFw { s.fw with nodes := NMap.set (0, 0) s.fw.nodes node (1, 0) } else s.nodeLost node

/-- Copies an image into a slot and verifies the copy as kind 4; LOAD_ADDR must be 0 (R431). -/
def copyImage (s : State) (slot : Nat) (img : List Byte) : Option Nat × State :=
  let s := s.writeMem (imageSlot slot) img
  (match s.verifyImage 4 img with
    | some v => if field img 16 8 = 0 then some v else none
    | none => none, s)

/-- A load on this module: STATE 1, and the cores start from slot 0; a failed check leaves STATE 0 (R431, R406). -/
def loadHere (s : State) (img : List Byte) : State :=
  let s := s.setFw { s.fw with state := 1, coresRun := false, slot := 0 }
  match s.copyImage 0 img with
  | (some v, s) => s.setFw { s.fw with coresRun := true, nextVersion := v }
  | (none, s) => s.setFw { s.fw with state := 0, abort := Ab.refusal St.bootVerifyFailed }

/-- An update on this module: the copy in the other slot is verified while the running firmware serves (R435). -/
def updateHere (s : State) (img : List Byte) : State :=
  let s := s.setFw { s.fw with state := 3, verified := false }
  match s.copyImage (1 - s.fw.slot) img with
  | (some v, s) => s.setFw { s.fw with verified := true, nextVersion := v }
  | (none, s) => s.setFw { s.fw with state := 2, abort := Ab.refusal St.bootVerifyFailed }

/-- SKEOT_LOAD and SKEOT_UPDATE: the checks of R430 in order; `ret` is what the firmware's state answers, 0 to go on. -/
def skeot (s : State) (mode : HartMode) (addr len node : Nat) (ret : Nat → Int) (run : State → State) : State :=
  if mode ≠ .hs then s.emit (.sbi sbiDenied 0)
  else if !s.nodeOk node then s.emit (.sbi sbiInvalid 0)
  else
    let f := s.fwOf node
    let r := ret f.1.1
    let s := f.2
    if r ≠ 0 then s.emit (.sbi r 0)
    else if !s.imageOk addr len then s.emit (.sbi sbiInvalid 0)
    else (if s.isHere node then run s else s.sendImage node addr len).emit (.sbi 0 0)

/-- SKEOT_STATUS: STATE in [7:0], ABORT in [63:32]. -/
def skeotStatus (s : State) (mode : HartMode) (node : Nat) : State :=
  if mode ≠ .hs then s.emit (.sbi sbiDenied 0)
  else if !s.nodeOk node then s.emit (.sbi sbiInvalid 0)
  else (s.fwOf node).2.emit (.sbi 0 ((s.fwOf node).1.1 + 4294967296 * (s.fwOf node).1.2))

/-- A whole image from the manager: the worker's security processor proceeds under R431, or under R435 while its firmware
runs. -/
def imageArrived (s : State) (img : List Byte) : State :=
  let s := s.setFw { s.fw with incoming := [] }
  if s.fw.state = 2 then s.updateHere img
  else if s.fw.coresRun ∨ s.fw.state = 3 then s
  else s.loadHere img

/-- A MESSAGE with bytes of an image: it begins with the image's header, whose body length says where it ends. A load sets
STATE 1 at its start (R431). -/
def imageBytes (s : State) (b : List Byte) : State :=
  let first := decide (s.fw.incoming = [])
  let s := if first && decide (s.fw.state = 0 ∨ s.fw.state = 4) then s.setFw { s.fw with state := 1, coresRun := false } else s
  let s := s.setFw { s.fw with incoming := s.fw.incoming ++ b }
  if field s.fw.incoming 12 4 + 512 ≤ s.fw.incoming.length then s.imageArrived s.fw.incoming else s

/-- A link failure ends the load of an image under way (R432). -/
def imageLost (s : State) : State :=
  if s.fw.incoming = [] then s
  else
    let s := s.setFw { s.fw with incoming := [] }
    if s.fw.state = 1 ∧ !s.fw.coresRun then s.setFw { s.fw with state := 0, abort := Ab.refusal St.linkDown } else s

/-- MODULE_RESET (R434); a worker's is forwarded in a MESSAGE, whose layout the spec does not give. -/
def moduleReset (s : State) (mode : HartMode) (node : Nat) : State :=
  if mode ≠ .hs then s.emit (.sbi sbiDenied 0)
  else if !s.nodeOk node then s.emit (.sbi sbiInvalid 0)
  else if s.isHere node then (s.emit (.sbi 0 0)).resetMain false
  else
    let f := s.fresh .detail
    (f.2.sendFrame { dst := node, src := 0, kind := kMessage, cls := 2, payload := leBytes 8 f.1 }).emit (.sbi 0 0)

/-- A heartbeat of firmware (R378, R436). -/
def beat (s : State) : State :=
  let present : Bool := match s.saf.lastBeat with
    | some t => !s.saf.beatLost && decide (s.now ≤ t + 1000000 * s.get 0x2350 7)
    | none => false
  { s with
    saf := { s.saf with lastBeat := some s.now, beatLost := false }
    rg := { s.rg with beatSince := if present && s.rg.beatSince.isSome then s.rg.beatSince else some s.now } }

/-- The firmware cores have started and firmware has its tables (R431, R433): built afresh, or, in a load after a fault,
those left, which are checked. -/
def firmwareStart (s : State) (tablesOk : Bool) : State :=
  if s.fw.state ≠ 1 ∨ !s.fw.coresRun then s
  else
    let resumed := s.fw.tables
    let s := s.setFw { s.fw with
      state := 2, abort := 0, paused := false, version := s.fw.nextVersion, tables := true
      tablesLost := s.fw.tablesLost || (resumed && !tablesOk) }
    let s := ((s.setRunning 4 s.fw.version).set 0x2005 1 s.fw.version).bump 0x2005 2
    let s := s.flushRecords
    let s := if resumed && !tablesOk then s.addRecord St.fwTablesLost 0x1C 0xFF else s
    s.railSag

/-- The pause begins (R435): the old firmware writes a heartbeat and its hand-off, and the cores restart from the new slot. -/
def pauseBegin (s : State) : State :=
  if s.fw.state ≠ 3 ∨ !s.fw.verified ∨ s.fw.paused then s
  else
    let s := s.beat
    s.setFw { s.fw with paused := true, handoff := true, pauseBegan := s.now, slot := 1 - s.fw.slot }

/-- Times that exclude the pause: those of pieced transfers (R435). -/
def skipPause (s : State) : State :=
  let d := s.now - s.fw.pauseBegan
  { s with dic := { s.dic with
      pieced := s.dic.pieced.map fun e => (e.1, e.2.map fun p => { p with last := p.last + d }) } }

/-- The new firmware checks the hand-off: it serves from here, or the old one does, restarted from its slot (R435, R436). -/
def handoffCheck (s : State) (accepts : Bool) (pauseUs : Nat) : State :=
  if s.fw.state ≠ 3 ∨ !s.fw.paused then s
  else
    let s := s.skipPause
    let f := { s.fw with state := 2, paused := false, handoff := false, verified := false }
    let s := s.setFw (if accepts then { f with version := f.nextVersion, abort := 0 }
      else { f with slot := 1 - f.slot, abort := Ab.refusal St.fwHandoffRejected })
    let s := if accepts then ((s.setRunning 4 s.fw.version).set 0x2005 1 s.fw.version).bump 0x2005 3 else s
    let s := (s.set 0x2005 4 (min pauseUs 4294967295)).set 0x2005 5 (max (s.get 0x2005 5) (min pauseUs 4294967295))
    let s := s.flushRecords
    let s := if accepts then s else s.addRecord St.fwHandoffRejected 0x1C 0xFF
    s.beat.railSag

/-- A fault of the firmware cores while they run (R433). -/
def fwFault (s : State) : State :=
  if !s.fw.coresRun ∨ s.fw.state = 0 ∨ s.fw.state = 4 then s
  else
    (s.setFw { s.fw with state := 4, coresRun := false, paused := false, verified := false, handoff := false }).addRecord
      St.fwFault 0x0D 0xFF

end State

/-! ## The commands -/

/-- SKEOT_LOAD (R430 to R432, R405, R406). -/
def execSkeotLoad (mode : HartMode) (addr len node : Nat) (s : State) : Out :=
  .next (s.skeot mode addr len node
    (fun st => if st = 2 then sbiAvailable else if st = 1 ∨ st = 3 then sbiStarted else 0) (fun s => s.loadHere (s.readMem addr len)))

/-- SKEOT_UPDATE (R430, R435). -/
def execSkeotUpdate (mode : HartMode) (addr len node : Nat) (s : State) : Out :=
  .next (s.skeot mode addr len node
    (fun st => if st = 1 ∨ st = 3 then sbiStarted else if st = 2 then 0 else sbiStopped) (fun s => s.updateHere (s.readMem addr len)))

/-- SKEOT_STATUS (R430). -/
def execSkeotStatus (mode : HartMode) (node : Nat) (s : State) : Out := .next (s.skeotStatus mode node)

/-- MODULE_RESET (R434). -/
def execModuleReset (mode : HartMode) (node : Nat) (s : State) : Out := .next (s.moduleReset mode node)

/-- FIRMWARE_START (R431, R433, R436, R58). -/
def execFirmwareStart (tablesOk : Bool) (s : State) : Out := .next (s.firmwareStart tablesOk)

/-- UPDATE_PAUSE_BEGIN (R435). -/
def execUpdatePauseBegin (s : State) : Out := .next s.pauseBegin

/-- HANDOFF_CHECK (R435, R436). -/
def execHandoffCheck (accepts : Bool) (pauseUs : Nat) (s : State) : Out := .next (s.handoffCheck accepts pauseUs)

end Sys2Proof.Machine
end

