-- ==== Sys2Proof/Machine/Fmp.lean ====
section
/-! DEFINITION. The frames of the Foldilen Management Protocol (R27, R28): requests and replies as bytes, and the replies
kept for repeats. -/

namespace Sys2Proof.Machine

open Sys2Proof

structure FmpRec where
  idx : Nat
  sub : Nat
  more : Bool
  off : Nat
  len : Nat
  data : List Byte
deriving DecidableEq, Repr

/-- `n` records that fill the bytes exactly, with DATA or without (Table DIC-5). -/
def fmpRecords (write : Bool) : Nat → List Byte → Option (List FmpRec)
  | 0, bs => if bs = [] then some [] else none
  | n + 1, bs =>
    let len := field bs 8 2
    let size := if write then 12 + 4 * cdiv len 4 else 12
    if bs.length < size then none
    else
      let r : FmpRec := { idx := field bs 0 2, sub := field bs 2 1, more := (field bs 3 1 % 2 = 1), off := field bs 4 4, len := len,
                          data := if write then slice bs 12 len else [] }
      (fmpRecords write n (bs.drop size)).map (r :: ·)

structure FmpReq where
  type : Nat
  seq : Nat
  tagged : Bool
  fresh : Nat
  target : Nat
  recs : List FmpRec
  /-- Header and records, over which the tag goes. -/
  body : List Byte
  tag : List Byte
deriving DecidableEq, Repr

/-- A well-formed request (R27). Of a TYPE that does not exist the records are those that fit. -/
def fmpParse (b : List Byte) : Option FmpReq :=
  let tagged := field b 7 1 % 2 = 1
  let n := field b 6 1
  let body := if tagged then b.take (b.length - 16) else b
  let recs := body.drop 16
  let t := field b 3 1
  let rs := if t = 1 then fmpRecords false n recs
    else if t = 2 ∨ t = 3 then fmpRecords true n recs
    else match fmpRecords false n recs with
      | some r => some r
      | none => fmpRecords true n recs
  if b.length < (if tagged then 32 else 16) ∨ 1472 < b.length ∨ field b 0 2 ≠ 0xF960 ∨ field b 2 1 ≠ 1 ∨ n = 0 ∨ 32 < n then none
  else rs.map fun r =>
    { type := t, seq := field b 4 2, tagged := tagged, fresh := field b 8 4, target := field b 12 1, recs := r, body := body
      tag := b.drop (b.length - 16) }

/-- A reply record: 16 bytes, and DATA padded to a multiple of 4. -/
def fmpReplyRecord (r : FmpRec) (len type abort : Nat) (data : List Byte) : List Byte :=
  leBytes 2 r.idx ++ leBytes 1 r.sub ++ leBytes 1 0 ++ leBytes 4 r.off ++ leBytes 2 len ++ leBytes 2 type ++ leBytes 4 abort
    ++ data ++ List.replicate (4 * cdiv data.length 4 - data.length) 0

def fmpReplyHead (q : FmpReq) : List Byte :=
  leBytes 2 0xF960 ++ leBytes 1 1 ++ leBytes 1 (0x80 ||| q.type) ++ leBytes 2 q.seq ++ leBytes 1 q.recs.length
    ++ leBytes 1 (if q.tagged then 1 else 0) ++ leBytes 4 q.fresh ++ leBytes 1 q.target ++ leBytes 3 0

namespace State

/-- Keeps what answers a request, for repeats: 16 per source (R28). -/
def cacheReply (s : State) (r : FmpReply) : State :=
  let mine := r :: s.dic.fmpCache.filter fun e => decide (e.src = r.src ∧ ¬ (e.seq = r.seq ∧ e.waiting))
  let rest := s.dic.fmpCache.filter fun e => decide (e.src ≠ r.src)
  { s with dic := { s.dic with fmpCache := mine.take 16 ++ rest } }

/-- The reply with its tag goes out, and is kept for repeats from the time of its request on. -/
def fmpReply (s : State) (d : Datagram) (q : FmpReq) (body : List Byte) : State :=
  let tag := if q.tagged then Crypto.cmac (s.sec.fmpKey.getD []) body else []
  let t := match s.dic.fmpCache.find? fun e => decide (e.src = d.src ∧ e.seq = q.seq) && e.waiting with
    | some e => e.time
    | none => s.now
  (s.cacheReply { src := d.src, seq := q.seq, time := t, reply := body ++ tag }).emit (.udp d.src d.srcPort (body ++ tag))

/-- A reply in which every record carries one abort code. -/
def fmpRefuse (s : State) (d : Datagram) (q : FmpReq) (code : Nat) : State :=
  s.fmpReply d q (fmpReplyHead q ++ q.recs.flatMap fun r => fmpReplyRecord r 0 0 code [])

end State

end Sys2Proof.Machine
end

