-- ==== Sys2Proof/Machine/Links.lean ====
section
/-! DEFINITION. The tree of modules, outbound windows, lanes, activation batches and the time-outs of requests across
links (10_multi_module_systems.md). -/

namespace Sys2Proof.Machine

open Sys2Proof

/-! ## Bit strings of nodes -/

/-- NODES_PRESENT as a number, and the other way round. -/
def nodeBits (b : List Byte) : Nat := leNat b

/-- Numbers of the functions of frames and payloads whose layout the spec does not give, in `Config.fn`. -/
def fnAssign : Nat := 0x300
def fnAssignBytes : Nat := 0x301
def fnCreditLane : Nat := 0x310
def fnCreditCount : Nat := 0x311
def fnRemoteLane : Nat := 0x312
def fnHomeOf : Nat := 0x320

/-- A frame as a list of numbers, for the functions above. -/
def frameNumbers (f : Frame) : List Nat :=
  [f.dst, f.src, f.kind, f.cls, f.tag, f.addr, f.status, f.seq] ++ f.payload.map (·.toNat)

/-! ## Enumeration (R225, R226) -/

/-- The cabled modules by their place in a cabling list: (module, port) pairs below a module, in the order of its ports. -/
def childrenOf (cabling : List (Nat × Nat)) (ports : List Nat) (m : Nat) : List (Nat × Nat) :=
  ports.filterMap fun p =>
    (cabling.findIdx? fun c => decide (c.1 = m ∧ c.2 = p)).map fun i => (i + 1, p)

/-- A node of the tree: the cabled module, its parent's node ID, the parent's port, its level. -/
structure TreeNode where
  module_ : Nat
  parent : Nat
  port : Nat
  level : Nat
deriving DecidableEq, Repr

/-- The next level of the tree: the children of the nodes of the present level, on `ports` of the manager and on ports B, C, D of
every other. -/
def nextLevel (cabling : List (Nat × Nat)) (ports : List Nat) (nodes : List TreeNode) (level : Nat) : List TreeNode :=
  (List.range nodes.length).flatMap fun id => match nodes[id]? with
    | some n => if n.level = level then
        (childrenOf cabling (if id = 0 then ports else [1, 2, 3]) n.module_).map fun c =>
          { module_ := c.1, parent := id, port := c.2, level := level + 1 }
      else []
    | none => []

/-- Levels 0 to 5, breadth first, at most 192 nodes. -/
def buildTree (cabling : List (Nat × Nat)) (ports : List Nat) : Nat → Nat → List TreeNode → List TreeNode × Bool
  | 0, level, nodes => (nodes, decide (nextLevel cabling ports nodes level ≠ []))
  | fuel + 1, level, nodes =>
    let more := nextLevel cabling ports nodes level
    let all := nodes ++ more
    if 192 < all.length then (all.take 192, true) else buildTree cabling ports fuel (level + 1) all

/-- The port of `node` toward descendant `n`: the port of the ancestor of `n` that is a child of `node`; A otherwise. -/
def portToward (nodes : List TreeNode) (node : Nat) : Nat → Nat → Nat
  | 0, _ => 0
  | fuel + 1, n => match nodes[n]? with
    | none => 0
    | some t => if n = 0 then 0 else if t.parent = node then t.port else portToward nodes node fuel t.parent

/-- The 48 bytes of a node's ROUTE_TABLE. -/
def routeBytes (nodes : List TreeNode) (node : Nat) : List Byte :=
  (List.range 48).map fun i => BitVec.ofNat 8 ((List.range 4).foldl (fun a k =>
    let n := 4 * i + k
    a + (if n < nodes.length ∧ n ≠ node then portToward nodes node 8 n else 0) * 4 ^ k) 0)

namespace State

def setPresent (s : State) (bits : Nat) : State := s.setB 0x2C00 5 (leBytes 24 bits)

/-- Sends a HELLO on a port. -/
def hello (s : State) (p : Nat) : State :=
  let f : Frame := { dst := 0xFF, src := s.nodeId, kind := kHello, cls := 3 }
  s.putFrame p { f with crc := frameCheck f }

/-- The ports on which a module looks for children: B, C, D, and on the manager A where it is a root port. -/
def rootPorts (s : State) : List Nat := if s.get 0x2C01 1 = 1 ∧ s.nodeId = 0 then [1, 2, 3, 0] else [1, 2, 3]

def helloAll (s : State) : State := s.rootPorts.foldl hello s

/-- The payload of an ASSIGN frame: what it carries is given, its layout is not, and the bytes are a free function of it. -/
def assignBytes (node level present : Nat) (route : List Byte) : List Byte :=
  leBytes 74 (Config.fn fnAssignBytes (node :: level :: present :: route.map (·.toNat)))

/-- The assignment of a node's ID, level, NODES_PRESENT and ROUTE_TABLE (R226, R227). -/
def assign (s : State) (nodes : List TreeNode) (n : Nat) : State :=
  let level := match nodes[n]? with
    | some t => t.level
    | none => 0
  s.sendFrame { dst := n, src := 0, kind := kAssign, cls := 3,
                payload := assignBytes n level (2 ^ nodes.length - 1) (routeBytes nodes n) }

/-- Enumeration from this module (R225, R226, R227); a port that is not up has no child. -/
def enumerate (s : State) (cabling : List (Nat × Nat)) : State :=
  let s := s.set 0x2C00 1 0
  let root : TreeNode := { module_ := 0, parent := 0, port := 0, level := 0 }
  let r := buildTree cabling (s.rootPorts.filter fun p => decide (s.portState p = 2)) 5 0 [root]
  let n := r.1.length
  let s := (s.set 0x2C00 2 1).set 0x2C00 3 0
  let s := (s.setPresent (2 ^ n - 1)).setB 0x2C00 6 (routeBytes r.1 0)
  let s := { s with lnk := { s.lnk with known := 2 ^ n - 1 } }
  let s := s.helloAll
  let s := (List.range (n - 1)).foldl (fun s i => s.assign r.1 (i + 1)) s
  if r.2 then s.addRecord St.topologyLimit 0x14 0xFF else s

/-- A write of TOPOLOGY_CMD. -/
def topologyCmd (s : State) (cabling : List (Nat × Nat)) : WRes :=
  if s.nodeId ≠ 0 ∧ s.nodeId ≠ 0xFF then .abort (Ab.refusal St.roleConflict) else .ok (s.enumerate cabling)

/-- A port begins training; port A takes COMPAT_MODE as it stands now (R222). -/
def retrain (s : State) (p : Nat) : State :=
  let s := s.set 0x2C01 (2 + p) 1
  if p = 0 then { s with lnk := { s.lnk with narrow := s.compat } } else s

/-- A write of PORT_A_ROLE (R222). -/
def portARole (s : State) (v : Nat) : WRes :=
  if v = 1 ∧ s.nodeId ≠ 0 ∧ s.nodeId ≠ 0xFF then .abort (Ab.refusal St.roleConflict)
  else if v = s.get 0x2C01 1 then .ok s
  else .ok ((s.set 0x2C01 1 v).retrain 0)

/-- Nodes behind a port: those whose route names it. -/
def behind (s : State) (p : Nat) : List Nat := (List.range 192).filter fun n => decide (n ≠ s.nodeId ∧ s.routeTo n = p)

/-- The child on a port: the lowest node behind it. -/
def childOn (s : State) (p : Nat) : Option Nat := if s.portState p = 2 ∧ (p ≠ 0 ∨ s.get 0x2C01 1 = 1) then
  ((s.behind p).filter s.nodePresent).head? else none

/-- The node at the other end of a port: the parent on port A, else the child. -/
def neighbour (s : State) (p : Nat) : Option Nat :=
  if p = 0 ∧ s.get 0x2C01 1 = 0 then (if s.portState 0 = 2 then s.lnk.parent else none) else s.childOn p

/-- Tells the neighbours which nodes are present now, all but the one on a port (R249). How bridges tell one another is not
stated: an ASSIGN frame from neighbour to neighbour (DESIGN CHOICE, log 158). -/
def tellNeighbours (s : State) (but : Option Nat) : State :=
  (List.range 4).foldl (fun s p => match s.neighbour p with
    | none => s
    | some n => if but = some p then s
      else
        let f : Frame := { dst := n, src := s.nodeId, kind := kAssign, cls := 3,
                           payload := assignBytes n (s.get 0x2C00 3) (nodeBits (s.getB 0x2C00 5)) [] }
        s.putFrame p { f with crc := frameCheck f }) s

/-- The width a port trains at for a partner of a width: the largest that both support (Tables MMS-1 and MMS-2). Port A supports x2
in place of x4 only where its training began with COMPAT_MODE 1. -/
def portWidth (s : State) (p w : Nat) : Nat :=
  if p ≠ 0 then w else if s.lnk.narrow then min w 2 else if w = 2 then 1 else w

/-- A link has trained at a width and speed of Table MMS-2; with HELLO it carries traffic, and the nodes behind it are present
again (R222, R223, R250). A training that nothing began before begins here. -/
def linkTrained (s : State) (p width gen : Nat) (ok : Bool) : State :=
  if (width ≠ 1 ∧ width ≠ 2 ∧ width ≠ 4) ∨ gen = 0 ∨ 4 < gen then s
  else
    let s := if s.portState p = 1 then s else s.retrain p
    let s := s.set 0x2C01 (2 + p) (s.portWidth p width * 256 + gen * 16 + if ok then 2 else 1)
    if !ok ∨ s.nodeId = 0xFF then s
    else
      let back := (s.behind p).foldl (fun a n => if s.lnk.known.testBit n then a ||| 2 ^ n else a) 0
      (s.setPresent (nodeBits (s.getB 0x2C00 5) ||| back)).tellNeighbours none

/-- What port A presents as an endpoint: Device ID, Vendor ID, class code, and the BARs with number, size and whether they are
prefetchable (R224). -/
def endpointIds (s : State) : Option (Nat × Nat × Nat × List (Nat × Nat × Bool)) :=
  if s.get 0x2C01 1 = 1 then none
  else some (0x0960, 0x1F96, 0x120000, [(0, 65536, false), (2, 2097152, false), (4, 268435456, true)])

/-! ## Outbound windows (R236) -/

/-- A write of OUTBOUND_WINDOW; reserved bytes are ignored and read zero (R8). -/
def writeOutWin (s : State) (w : Nat) (b : List Byte) : WRes :=
  let x := outWinOf b
  let unit : Nat := 2097152
  let hits := x.on && (List.range 64).any fun v =>
    let y := s.outWin v
    decide (v ≠ w ∧ x.base < y.base + y.size ∧ y.base < x.base + x.size) && y.on
  if x.base % unit ≠ 0 ∨ x.size % unit ≠ 0 ∨ x.target % unit ≠ 0 ∨ hits then .abort Ab.value
  else if x.on ∧ (x.size = 0 ∨ apertureSize < x.base + x.size) then .abort Ab.value
  else if 191 < x.node ∨ 1 < x.mode ∨ 3 < x.cls then .abort Ab.value
  else .ok (s.setB 0x2C03 (w + 1) (slice b 0 27 ++ [if x.on then 1 else 0, 0, 0, 0, 0]))

/-! ## Ends of requests (R238 to R241) -/

/-- The status stands on a descriptor whose outputs are then undefined. -/
def spoil (s : State) (q n status : Nat) : State :=
  match s.desc q n with
  | none => s
  | some d =>
    let d := { d with undef := List.range d.tiles }
    s.setDesc q n (if d.status = 0 then { d with status := status } else d)

/-- A descriptor has no tile to lose: it completes at once with the status. -/
def endsNow (s : State) (q n status : Nat) : State :=
  match s.desc q n with
  | none => s
  | some d => if d.phase = .running ∧ d.tiles = 0 then s.finish q n status 0 0 else s

/-- Once every tier 5 byte of a descriptor has landed, or is given up, its conversion runs and its tiles may begin (R125, R164,
R168). -/
def landed (s : State) (q n : Nat) : State := if s.fetching q n then s else (s.convert q n).serveAll

/-- A bulk read ends badly: its descriptor completes with the status, its other reads are dropped. -/
def bulkFails (s : State) (b : BulkTag) (status : Nat) : State :=
  let s := { s with
    lnk := { s.lnk with
      bulk := s.lnk.bulk.filter (fun e => match e.2 with
        | some t => decide (t.q ≠ b.q ∨ t.n ≠ b.n)
        | none => false)
      fetches := s.lnk.fetches.filter fun f => decide (f.q ≠ b.q ∨ f.n ≠ b.n) } }
  (((s.spoil b.q b.n status).endsNow b.q b.n status).pumpBulk).landed b.q b.n

/-- A read by a requester ends without data. -/
def readerFails (s : State) (r : Reader) (status : Nat) : State :=
  match r with
  | .hart _ => s.emit (.loadData none)
  | .slice _ | .engine _ | .firmware => s.emit (.answer .link (Ab.refusal status) [])

/-- A small read ends without its completion; a word of signals is asked for again at the next poll (R243). -/
def smallFails (s : State) (tag : Nat) (t : SmallTag) (status : Nat) : State :=
  let s := { s with lnk := { s.lnk with small := NMap.set none s.lnk.small tag none } }
  match t.what with
  | .reader r => s.readerFails r status
  | .fmp d => match fmpParse d.bytes with
    | none => s
    | some q => s.fmpRefuse d q (Ab.refusal status)
  | .slot q _ => s.slotLost q St.ringFault
  | .word _ => { s with lnk := { s.lnk with pendingBits := s.lnk.pendingBits ||| 2 ^ t.node } }
  | .bitmap => s

/-- A write-back failed: the copy stays, dirty. -/
def backFails (s : State) (root : Nat) : State := match NMap.get none s.plc.serai root with
  | some c => s.setCopy root (some { c with leaving := false, dirty := true })
  | none => s

/-- Takes the waiting frames that a condition names out of every buffer. -/
def dropFrames (s : State) (no : QFrame → Bool) : State :=
  { s with lnk := { s.lnk with queued := (s.lnk.queued.map fun e => (e.1, e.2.filter fun q => !no q)).filter fun e => decide (e.2 ≠ []) } }

/-- Frames of a batch of this module that wait here. -/
def ofBatch (s : State) (tag : Nat) (q : QFrame) : Bool :=
  decide (q.came = none ∧ q.frame.kind = kCaravan ∧ q.frame.src = s.nodeId ∧ q.frame.tag = tag)

/-- An event record that did not reach its ring (R221). -/
def eventLost (s : State) (k : Nat) : State :=
  (s.setSlice k { s.sliceX k with overflow := true }).bump (0x2540 + k) 0x0F

/-- A confirmed write failed: recorded with its node and, for a store, its address (R238). -/
def noteFailed (s : State) (node : Nat) (more : List Byte := []) : State :=
  s.addRecord St.remoteWriteFailed 0x14 0xFF (leBytes 1 node ++ more)

/-- What an ACK, or its absence, does to what waited for it. -/
def ackEnds (s : State) (tag : Nat) (t : WriteTag) (status : Nat) : State :=
  let s := { s with lnk := { s.lnk with writes := NMap.set none s.lnk.writes tag none } }
  match t.what with
  | .store _ addr => if status = 0 then s else (s.noteFailed t.node (leBytes 8 addr)).emit (.loadData none)
  | .writeBack q n root =>
    if status = 0 then s.settleLeaving root
    else
      let s := (s.noteFailed t.node).backFails root
      match s.desc q n with
      | none => s
      | some d => if d.status = 0 then s.setDesc q n { d with status := status } else s
  | .evict root => if status = 0 then s.settleLeaving root else s.backFails root
  | .batch q n seq => if status = 0 then s.finish q n 0 seq 0 else (s.dropFrames (s.ofBatch tag)).finish q n status 0 0
  | .record q dtag => if status = 0 then s else (s.noteFailed t.node).recordLost q dtag
  | .event k => if status = 0 then s else (s.noteFailed t.node).eventLost k

/-! ## Batches (R244 to R248) -/

/-- The lane of another node as its owner laid it out: where it begins in that node's buffer, slot bytes, slots. The
sender's source of these is not given, and they are free. -/
def remoteLane (node lane : Nat) : Nat × Nat × Nat :=
  (Config.fn fnRemoteLane [node, lane, 0], Config.fn fnRemoteLane [node, lane, 1], 1 + Config.fn fnRemoteLane [node, lane, 2] % 1024)

def sendLane (s : State) (node lane : Nat) : SendLane := NMap.get {} s.lnk.send (node * 64 + lane)

def setSendLane (s : State) (node lane : Nat) (x : SendLane) : State :=
  { s with lnk := { s.lnk with send := NMap.set {} s.lnk.send (node * 64 + lane) x } }

/-- Sends of batches whose ACK has not arrived. -/
def batchesRunning (s : State) : Nat := (s.lnk.writes.filter fun e => match e.2 with
  | some t => (match t.what with
    | .batch _ _ _ => true
    | _ => false)
  | none => false).length

end State

/-- The fields of Table MMS-12. -/
structure Send where
  rowBytes : Nat
  groups : Nat
  lane : Nat
  node : Nat
  rows : Nat
  group : Nat
  index : Nat
  src : Nat
deriving DecidableEq, Repr

def sendOf (d : Desc) : Send :=
  { rowBytes := d.fld 335 320, groups := d.fld 319 312, lane := d.fld 311 304, node := d.fld 303 296, rows := d.fld 271 256,
    group := d.fld 191 160, index := d.fld 159 128, src := d.fld 95 64 }

/-- Checks of CARAVAN_SEND. -/
def sendInfo (s : State) (d : Desc) : OpInfo :=
  let x := sendOf d
  { reserved := [(511, 336), (295, 272), (255, 192), (127, 96)],
    bad := badBits
      [(decide (x.rowBytes < 64 ∨ 65472 < x.rowBytes ∨ x.rowBytes % 64 ≠ 0), 320), (decide (x.groups = 0 ∨ 16 < x.groups), 312),
       (decide (63 < x.lane), 304), (decide (191 < x.node ∨ x.node = s.nodeId), 296), (decide (x.rows = 0), 256)],
    uses := [{ lo := 64, bytes := if x.index = 0 then x.rows * x.rowBytes else 0 }, { lo := 128, bytes := 4 * x.rows, zeroOk := true },
      { lo := 160, bytes := 4 * x.groups }] }

/-- Checks of CARAVAN_RELEASE. -/
def releaseLaneInfo (d : Desc) : OpInfo :=
  { reserved := [(511, 96), (79, 72)],
    bad := badBits [(decide (63 < d.fld 71 64), 64), (decide (d.fld 95 80 = 0 ∨ 1024 < d.fld 95 80), 80)] }

namespace Work

/-- The batch of a send: header, then its rows; a row index outside SRC sends zeros. -/
def batchBytes (w : Work) (x : Send) (seq : Nat) : List Byte × Work :=
  let g := w.read x.group 0 (4 * x.groups)
  let have_ := g.2.s.tbytes x.src / x.rowBytes
  let ix := if x.index = 0 then ((List.range x.rows), g.2)
    else
      let r := g.2.read x.index 0 (4 * x.rows)
      ((List.range x.rows).map fun i => field r.1 (4 * i) 4, r.2)
  let rows := ix.2.mapM (fun w i => if i < have_ then w.read x.src (i * x.rowBytes) x.rowBytes
    else (List.replicate x.rowBytes 0, w)) ix.1
  let w := match ix.1.findIdx? fun i => decide (have_ ≤ i) with
    | some r => rows.2.fail St.indexOutOfRange r
    | none => rows.2
  (leBytes 4 seq ++ leBytes 1 w.s.nodeId ++ leBytes 1 x.groups ++ leBytes 2 x.rows ++ leBytes 2 x.rowBytes ++ List.replicate 22 0
    ++ slice g.1 0 64 ++ List.replicate 32 0 ++ rows.1.flatten, w)

/-- The frames of a batch, all with the batch's tag. -/
def sendBatch (w : Work) (x : Send) : Work :=
  let l := w.s.sendLane x.node x.lane
  let r := State.remoteLane x.node x.lane
  let b := w.batchBytes x l.nextSeq
  let s := b.2.s.setSendLane x.node x.lane { free := l.free - 1, nextSeq := (l.nextSeq + 1) % 4294967296 }
  match s.writeTag { what := .batch w.q w.n l.nextSeq, node := x.node, time := s.now } with
  | (tag, s) =>
    let at_ := r.1 + l.nextSeq % r.2.2 * r.2.1
    { b.2 with s := (List.range (cdiv b.1.length 4064)).foldl (fun s i =>
        s.sendFrame { dst := x.node, src := 0, kind := kCaravan, cls := w.prio, tag := tag, addr := at_ + 4064 * i,
                      seq := l.nextSeq, payload := (b.1.drop (4064 * i)).take 4064 }) s }

end Work

namespace State

/-- Starts one waiting send, keeping on its descriptor what it will complete with. -/
def startSend (s : State) (q n : Nat) : State :=
  match s.desc q n with
  | none => s
  | some d =>
    let w := (s.startWork q n d).sendBatch (sendOf d)
    match w.s.desc q n with
    | none => w.s
    | some d => w.s.setDesc q n { d with status := w.st, detail := w.det }

/-- The first waiting send that may start: its lane has a free slot and no earlier send to it waits (R246). -/
def nextSend (s : State) : List (Nat × Nat × Nat) → List (Nat × Nat) → Option (Nat × Nat)
  | [], _ => none
  | (q, n, _) :: r, seen => match s.desc q n with
    | none => s.nextSend r seen
    | some d =>
      let x := sendOf d
      if seen.contains (x.node, x.lane) ∨ (s.sendLane x.node x.lane).free = 0 then s.nextSend r ((x.node, x.lane) :: seen)
      else some (q, n)

/-- Starts waiting sends while 64 are not running. -/
def pumpSends : Nat → State → State
  | 0, s => s
  | fuel + 1, s =>
    if 64 ≤ s.batchesRunning then s
    else match s.nextSend s.lnk.waiting [] with
      | none => s
      | some (q, n) =>
        let s := { s with lnk := { s.lnk with waiting := s.lnk.waiting.filter fun e => decide (e.1 ≠ q ∨ e.2.1 ≠ n) } }
        pumpSends fuel (s.startSend q n)

def runSends (s : State) : State := pumpSends (s.lnk.waiting.length + 1) s

/-- Sum of the groups' rows as the group entries stand. -/
def groupRows (s : State) (x : Send) (w : Work) : Nat :=
  let b := { w with s := s }.peek x.group 0 (4 * x.groups)
  (List.range x.groups).foldl (fun a i => a + field b (4 * i + 2) 2) 0

/-- The checks of R245 that the sender makes, in order: status and DETAIL of the first failure. Whether the lane takes the batch
it learns from the ACK. -/
def sendFails (s : State) (q n : Nat) (d : Desc) : Option (Nat × Nat) :=
  let x := sendOf d
  if s.groupRows x (s.startWork q n d) ≠ x.rows then some (St.descFieldRange, 160)
  else if !s.nodePresent x.node then some (St.nodeUnreachable, 0)
  else none

/-- A send takes its place among those that wait, in acceptance order. -/
def insertSend (s : State) (q n : Nat) (d : Desc) : List (Nat × Nat × Nat) → List (Nat × Nat × Nat)
  | [] => [(q, n, d.tFetch)]
  | e :: r =>
    let before := match s.desc e.1 e.2.1 with
      | some b => decide (b.order ≤ d.order)
      | none => true
    if before then e :: s.insertSend q n d r else (q, n, d.tFetch) :: e :: r

/-- The send is checked, then waits for a slot (R246). -/
def queueSend (s : State) (q n : Nat) (d : Desc) : State :=
  match s.sendFails q n d with
  | some f => s.finish q n f.1 f.2 0
  | none => ({ s with lnk := { s.lnk with waiting := s.insertSend q n d s.lnk.waiting } }).runSends

/-- The group entries can be read before anything is fetched from another module. -/
def groupHere (s : State) (d : Desc) : Bool := match s.tref (sendOf d).group with
  | some r => !s.isFar r.root || (NMap.get none s.plc.serai r.root).isSome
  | none => true

/-- CARAVAN_SEND begins: the checks that can be made come first, then rows with homes in other modules are fetched, and the send
waits for its slot. -/
def beginSend (s : State) (q n : Nat) : State :=
  match s.desc q n with
  | none => s
  | some d =>
    if d.opcode s.compat ≠ 0x0505 ∨ d.rejected then s
    else if d.phase = .running then
      if s.fetching q n ∨ s.lnk.waiting.any (fun e => decide (e.1 = q ∧ e.2.1 = n))
          ∨ s.lnk.writes.any (fun e => match e.2 with
            | some t => (match t.what with
              | .batch a b _ => decide (a = q ∧ b = n)
              | _ => false)
            | none => false) then s
      else s.queueSend q n d
    else match s.beginDirect q n (· = 0x0505) with
      | none => s
      | some (d, s) => match (if s.groupHere d then s.sendFails q n d else none) with
        | some f => s.finish q n f.1 f.2 0
        | none => match s.fetchInputs q n d with
          | none => s.finish q n St.nodeUnreachable 0 0
          | some s => if s.fetching q n then s else s.queueSend q n d

/-- The lane of a waiting send. -/
def laneOfSend (s : State) (q n : Nat) : Option (Nat × Nat) := (s.desc q n).map fun d => ((sendOf d).node, (sendOf d).lane)

/-- No slot of its lane is free for a waiting send: those there are go to the sends to that lane that wait before it. -/
def noSlot (s : State) (q n : Nat) : Bool := match s.laneOfSend q n with
  | none => false
  | some l =>
    let before := (s.lnk.waiting.takeWhile fun e => decide (e.1 ≠ q ∨ e.2.1 ≠ n)).filter fun e =>
      decide (s.laneOfSend e.1 e.2.1 = some l)
    decide ((s.sendLane l.1 l.2).free ≤ before.length)

/-- CARAVAN_WAIT_US has passed since a send that waits for a slot was accepted (R246). -/
def sendExpired (s : State) (q n : Nat) : State :=
  match s.lnk.waiting.find? fun e => decide (e.1 = q ∧ e.2.1 = n) with
  | none => s
  | some e =>
    if s.get 0x2C02 5 = 0 ∨ s.now < e.2.2 + 1000 * s.get 0x2C02 5 ∨ !s.noSlot q n then s
    else (({ s with lnk := { s.lnk with waiting := s.lnk.waiting.filter fun e => decide (e.1 ≠ q ∨ e.2.1 ≠ n) } }).finish q n
      St.waystationFull 0 0).runSends

/-- Slot size, slots, landing area and state of a lane of this module. -/
def laneSlotBytes (s : State) (l : Nat) : Nat := s.get (0x2C40 + l) 3
def laneSlots (s : State) (l : Nat) : Nat := s.get (0x2C40 + l) 4
def laneOpenState (s : State) (l : Nat) : Bool := decide (s.get (0x2C40 + l) 7 = 1)
def lane (s : State) (l : Nat) : Lane := NMap.get {} s.lnk.lanes l

/-- The receive staging buffer (Table MEM-1). -/
def staging : Nat := 0x05D6000000

/-- Parts of the staging buffer in use: homes of lane handles not yet freed. -/
def stagingParts (s : State) : List (Nat × Nat) := s.plc.table.filterMap fun e => match e.2 with
  | some t => if t.backing = 2 ∧ !t.view then some (t.home - staging, t.bytes) else none
  | none => none

/-- A free part of the staging buffer: the module's own choice where it is free, else the lowest that is. -/
def stagingFit (s : State) (bytes : Nat) : Option Nat × State :=
  let parts := s.stagingParts
  let ok := fun (b : Nat) => decide (b + bytes ≤ 268435456 ∧ b % 65536 = 0) && parts.all fun p => decide (b + bytes ≤ p.1 ∨ p.1 + p.2 ≤ b)
  let v := Config.free .address s.freeCount
  (if ok v then some v else (0 :: parts.map fun p => p.1 + p.2).find? ok, { s with freeCount := s.freeCount + 1 })

/-- A CREDIT to a lane's source. Where the frame carries the lane and the count is not given: its fields are free. -/
def sendCredit (s : State) (l : Nat) : State :=
  let a := s.fresh .detail
  let t := a.2.fresh .detail
  t.2.sendFrame { dst := s.get (0x2C40 + l) 2, src := 0, kind := kCredit, cls := 3, tag := t.1 % 65536, addr := a.1 % 18446744073709551616 }

/-- LANE_CMD 1 (R244). -/
def laneOpen (s : State) (l : Nat) : WRes :=
  let idx := 0x2C40 + l
  let sl := s.get idx 1
  let need := s.laneSlotBytes l * s.laneSlots l
  let open_ := (List.range 64).foldl (fun a k => if s.laneOpenState k ∧ k ≠ l then a + s.laneSlotBytes k * s.laneSlots k else a) 0
  if s.laneOpenState l then .abort (Ab.refusal St.laneInvalid)
  else if 268435456 < open_ + need then .abort (Ab.refusal St.waystationOvercommit)
  else if 63 < sl ∨ s.sliceState sl ≠ 1 then .abort Ab.value
  else if !s.nodePresent (s.get idx 2) then .abort (Ab.refusal St.nodeUnreachable)
  else match s.stagingFit need with
    | (none, _) => .abort (Ab.refusal St.waystationOvercommit)
    | (some b, s) => match s.newEntry { gen := 0, slice := sl, bytes := need, backing := 2, home := staging + b } with
      | none => .abort (Ab.refusal St.handleTableFull)
      | some (h, s) =>
        let s := { s with lnk := { s.lnk with lanes := NMap.set {} s.lnk.lanes l { base := b } } }
        .ok (((((s.set idx 7 1).set idx 8 h).set idx 9 0).set idx 0x0A 0).sendCredit l)

/-- LANE_CMD 2: later batches are refused; the storage goes with the handle's last reference. -/
def laneClose (s : State) (l : Nat) : State :=
  let idx := 0x2C40 + l
  if !s.laneOpenState l then s
  else
    let h := s.get idx 8
    let s := match s.tentry (hIndex h) with
      | some e => s.setTentry (hIndex h) (some { e with released := true })
      | none => s
    ((s.set idx 7 0).set idx 8 0).reap

/-- A write of REMOTE_HOME_BYTES: an area of general HBM is set aside for tier 5 homes of other modules, and what was set aside
before is returned (R228, R235). Without a free range that large the write is refused (DESIGN CHOICE, log 159). -/
def lend (s : State) (n : Nat) : WRes :=
  if n % 2097152 ≠ 0 then .abort Ab.value
  else if n = s.get 0x2C02 4 then .ok s
  else
    let t := match s.lnk.lent with
      | some l => s.deallocate l.1
      | none => s
    if n = 0 then .ok { t.set 0x2C02 4 0 with lnk := { t.lnk with lent := none } }
    else match t.allocate 64 n 6 with
      | none => .abort (Ab.refusal St.tensorNoSpace)
      | some (b, t) => .ok { t.set 0x2C02 4 n with lnk := { t.lnk with lent := some (b, n) } }

/-- Writes of the multi-module entries. -/
def linkWrite (s : State) (idx sub : Nat) (v : DVal) : WRes :=
  match v with
  | .oct b => if idx = 0x2C03 then s.writeOutWin (sub - 1) b else .ok (s.setB idx sub b)
  | .num n =>
    if idx = 0x2C00 then s.topologyCmd Config.cabling
    else if idx = 0x2C01 then s.portARole n
    else if idx = 0x2C02 ∧ sub = 4 then s.lend n
    else if 0x2C40 ≤ idx then
      if sub = 6 then (if n = 1 then s.laneOpen (idx - 0x2C40) else .ok (s.laneClose (idx - 0x2C40)))
      else if s.laneOpenState (idx - 0x2C40) then .abort (Ab.refusal St.laneInvalid)
      else if sub = 3 ∧ n % 65536 ≠ 0 then .abort Ab.value
      else .ok (s.set idx sub n)
    else .ok (s.set idx sub n)

end State

namespace Work

/-- CARAVAN_RELEASE (R248). -/
def releaseLane (w : Work) (d : Desc) : Work :=
  let l := d.fld 71 64
  let n := d.fld 95 80
  let idx := 0x2C40 + l
  if !w.s.laneOpenState l ∨ w.s.get idx 1 ≠ w.sl then w.fail St.laneInvalid 0
  else if diff32 (w.s.get idx 9) (w.s.get idx 0x0A) < n then w.fail St.descFieldRange 80
  else { w with s := (w.s.set idx 0x0A ((w.s.get idx 0x0A + n) % 4294967296)).sendCredit l }

end Work

namespace State

/-! ## Link down (R249) -/

/-- A port's link goes down. -/
def linkDown (s : State) (p : Nat) : State :=
  if s.portState p = 0 then s
  else
    let gone := s.behind p
    let s := (s.set 0x2C01 (2 + p) 0).dropPort p
    let s := (s.bump 0x2C08 5).addRecord St.linkDown 0x14 p (leBytes 1 p)
    let s := s.setPresent (gone.foldl (fun a n => if a.testBit n then a - 2 ^ n else a) (nodeBits (s.getB 0x2C00 5)))
    let s := s.tellNeighbours none
    let s := s.fw.nodes.foldl (fun s e => if gone.contains e.1 ∧ e.2 = (1, 0) then s.nodeLost e.1 else s) s
    let s := if p = 0 then s.imageLost else s
    let s := s.lnk.small.foldl (fun s e => match e.2 with
      | some t => if gone.contains t.node then s.smallFails e.1 t St.linkDown else s
      | none => s) s
    let s := s.lnk.writes.foldl (fun s e => match e.2 with
      | some t => if gone.contains t.node then s.ackEnds e.1 t St.linkDown else s
      | none => s) s
    let s := s.lnk.bulk.foldl (fun s e => match e.2 with
      | some t => if gone.contains t.node then s.bulkFails t St.linkDown else s
      | none => s) s
    let lost := s.lnk.waiting.filter fun e => match s.desc e.1 e.2.1 with
      | some d => gone.contains (sendOf d).node
      | none => false
    let s := lost.foldl (fun s e => s.finish e.1 e.2.1 St.nodeUnreachable 0 0) s
    ({ s with lnk := { s.lnk with waiting := s.lnk.waiting.filter fun e => !lost.contains e } }).runSends

/-! ## Polling (R243) -/

/-- A free tag of the 1,024 for small reads. -/
def smallTag (s : State) (t : SmallTag) : Option Nat × State :=
  match s.freshTag 0 1024 (s.lnk.small.map (·.1)) with
  | (none, s) => (none, s)
  | (some tag, s) => (some tag, { s with lnk := { s.lnk with small := NMap.set none s.lnk.small tag (some t) } })

/-- Asks a node to read and clear a signal word, or its pending bitmap (whose address is not given and is free). -/
def signalRc (s : State) (node : Nat) (what : SmallFor) : State :=
  match s.smallTag { what := what, node := node, time := s.now } with
  | (none, s) => s
  | (some tag, s) =>
    let a := match what with
      | .word k => (signalPage + 8 * k, s)
      | _ => (s.fresh .address)
    a.2.sendFrame { dst := node, src := 0, kind := kSignalRc, cls := 3, tag := tag, addr := a.1 % 18446744073709551616, len := 8 }

/-- The manager delivers the bits of a signal word of node `n` (R243). -/
def deliverWord (s : State) (n k v : Nat) : State :=
  let r := slice (s.getB 0x2C05 1) ((64 * n + k) * 16) 16
  (maskBits 64 v).foldl (fun s b => s.msi 0 (field r 0 8) ((field r 8 4 + b) % 4294967296)) s

/-- The manager serves one node's pending bit: its own words at once, another node's by 64 small reads. The bit stays where the
tags for them are not free, or the node is not present. -/
def serveNode (s : State) (n : Nat) : State :=
  let clear := fun (s : State) => ({ s with lnk := { s.lnk with pendingBits := s.lnk.pendingBits ^^^ 2 ^ n } } : State)
  if n = 0 then s.lnk.words.foldl (fun s e => s.deliverWord 0 e.1 e.2) (clear { s with lnk := { s.lnk with words := [] } })
  else if !s.reaches n ∨ 1024 < s.lnk.small.length + 64 then s
  else (List.range 64).foldl (fun s k => s.signalRc n (.word k)) (clear s)

/-- The manager serves the pending bits it has. -/
def servePending (s : State) : State :=
  if s.nodeId ≠ 0 then s else (maskBits 192 s.lnk.pendingBits).foldl serveNode s

def signalPoll (s : State) : State :=
  let s := ([0, 1, 2, 3].filterMap s.childOn).foldl (fun s n => s.signalRc n .bitmap) s
  s.servePending

/-! ## Discarded completions (R240) -/

/-- A completion of a small read, which has one of the 1,024 tags of small reads, that has waited READ_DISCARD_US in a buffer of
a port. -/
def staleCompletion (s : State) (p : Nat) (k : Nat) (f : Frame) (q : QFrame) : Bool :=
  decide (q.frame = f ∧ f.kind = kCompletion ∧ f.tag < 1024 ∧ f.payload.length ≤ 64 ∧ (k / 12 = p ∨ q.came = some p)
    ∧ q.time + 1000 * s.get 0x2C02 1 ≤ s.now)

/-- It is discarded there and counted. -/
def discardStale (s : State) (p : Nat) (f : Frame) : State :=
  match s.lnk.queued.find? fun e => e.2.any (s.staleCompletion p e.1 f) with
  | none => s
  | some (k, b) => (s.setBuffer k (b.eraseP (s.staleCompletion p k f))).bump 0x2C08 4

end State

/-! ## The commands -/

/-- LINK_TRAINED (R222, R250). -/
def execLinkTrained (port width gen : Nat) (hello : Bool) (s : State) : Out :=
  .next (if port < 4 then s.linkTrained port width gen hello else s)

/-- LINK_DOWN (R249). -/
def execLinkDown (port : Nat) (s : State) : Out := .next (if port < 4 then s.linkDown port else s)

/-- CARAVAN_SEND (R245, R246). -/
def execCaravanSend (q n : Nat) (s : State) : Out := .next (s.beginSend q n)

/-- CARAVAN_WAIT_TIMEOUT (R246). -/
def execCaravanWaitTimeout (q n : Nat) (s : State) : Out := .next (s.sendExpired q n)

/-- CARAVAN_RELEASE (R248). -/
def execCaravanRelease (q n : Nat) (s : State) : Out := .next (s.runDirect q n (· = 0x0506) Work.releaseLane)

/-- CONFIRMED_WRITE_TIMEOUT (R238): LINK_TIMEOUT_US has passed without an ACK. -/
def execConfirmedWriteTimeout (tag : Nat) (s : State) : Out :=
  .next (match NMap.get none s.lnk.writes tag with
    | none => s
    | some t => if s.now < t.time + 1000 * s.get 0x2C02 3 then s else (s.ackEnds tag t St.nodeUnreachable).runSends)

/-- READ_DISCARD_TIMEOUT (R239). -/
def execReadDiscardTimeout (tag : Nat) (s : State) : Out :=
  .next (match NMap.get none s.lnk.small tag with
    | none => s
    | some t => if s.now < t.time + 1000 * s.get 0x2C02 1 then s else (s.smallFails tag t St.readDiscarded).bump 0x2C08 4)

/-- BULK_READ_TIMEOUT (R241). -/
def execBulkReadTimeout (tag : Nat) (s : State) : Out :=
  .next (match NMap.get none s.lnk.bulk tag with
    | none => s
    | some t => if s.now < t.time + 1000 * s.get 0x2C02 3 then s else s.bulkFails t St.nodeUnreachable)

/-- BUFFERED_COMPLETION_DISCARD (R240): a small-read completion whose path onward stayed blocked. -/
def execBufferedCompletionDiscard (port : Nat) (f : Frame) (s : State) : Out := .next (s.discardStale port f)

/-- SIGNAL_PAGE_WRITE (R242). -/
def execSignalPageWrite (off data : Nat) (s : State) : Out := .next (s.signalWrite off data)

/-- SIGNAL_POLL (R243). -/
def execSignalPoll (s : State) : Out := .next s.signalPoll

end Sys2Proof.Machine
end

