-- ==== Sys2Proof/Machine/Power.lean ====
section
/-! DEFINITION. Power states, wake sources and function shut-downs (19_power_states.md). -/

namespace Sys2Proof.Machine

open Sys2Proof

namespace State

/-! ## Choosing a state (R409, R410) -/

/-- A display output enabled, a camera receiving, a TDM lane not off, or an acoustic function running. -/
def mediaBusy (s : State) : Bool :=
  ((List.range 4).any fun o => decide (s.get (0x2880 + o) 1 = 1)) || !s.hw.receiving.isEmpty
    || ((List.range 8).any fun l => decide (s.get (0x2A18 + l) 4 ≠ 0)) || s.ancLive || s.voiceRuns || s.playRuns

/-- Bits of SECURE_HOLD_MASK whose blocks a state stops: IDLE the islands on the core rail (PCIe and display), SLEEP and
deeper states every block. -/
def holdsState (s : State) (k : Nat) : Bool :=
  if k = 4 then false
  else if k = 1 then (List.range 128).any fun b => s.heldBlock b && decide ((19 ≤ b ∧ b ≤ 22) ∨ (75 ≤ b ∧ b ≤ 78))
  else (List.range 80).any s.heldBlock

/-- A partition is active. -/
def anyPartition (s : State) : Bool := (List.range 8).any s.partActive

/-- The reasons of Table PWR-3 that block a state, as bits. -/
def blocks (s : State) (k : Nat) : Nat :=
  let b := fun (c : Bool) (i : Nat) => if c then 2 ^ i else 0
  let deep := decide (2 ≤ k)
  let recent : Bool := match NMap.get none s.pwr.abandoned k with
    | some t => decide (s.now < t + 100000000)
    | none => false
  b (!s.quiescent) 0 + b s.mediaBusy 1 + b (deep && s.anyPartition) 2 + b (deep && decide (s.rg.state ≠ 0)) 3
    + b (s.holdsState k) 4 + b (deep && !s.pwr.dwell) 5 + b (deep && decide (s.fw.state = 3)) 6
    + b (decide (3 ≤ k) && s.anySlice) 7 + b recent 8

/-- Exit latencies of Table PWR-1 in µs. -/
def exitLatency : Nat → Nat
  | 0 => 0 | 1 => 2 | 2 => 150 | 3 => 40000 | _ => 1500000

/-- The deepest state that LATENCY_TOL_US permits. -/
def permitted (s : State) : Nat :=
  ([4, 3, 2, 1].find? fun k => decide (exitLatency k ≤ s.get 0x2120 1)).getD 0

/-- DEEPEST_ALLOWED (R409). -/
def deepest (s : State) : Nat := ([4, 3, 2, 1].find? fun k => decide (k ≤ s.permitted) && decide (s.blocks k = 0)).getD 0

/-- BLOCK_REASON. -/
def blockReason (s : State) : Nat := if s.permitted = 0 then 0 else s.blocks s.permitted

/-- The fabric has been quiescent for DWELL_US. -/
def dwellOver (s : State) : State :=
  if s.quiescent ∧ s.pwr.busyAt + 1000 * s.get 0x2120 2 ≤ s.now then s.setPwr { s.pwr with dwell := true } else s

/-! ## Stuck sources and wakes (R420 to R425) -/

/-- A discrete source's filtered level is its active one. -/
def sourceActive (s : State) (src : Nat) : Bool :=
  (s.get 0x2BA0 0x0B).testBit src == (s.get 0x2140 2).testBit src

/-- A wake source is enabled: bit 0 always; a CAN or LIN channel also has to be on (R344). -/
def sourceEnabled (s : State) (src : Nat) : Bool :=
  (decide (src = 0) || (s.get 0x2140 1).testBit src)
    && (if 10 ≤ src ∧ src ≤ 25 then decide (s.get (0x2B10 + (src - 10)) 1 ≠ 0)
        else if 26 ≤ src ∧ src ≤ 33 then decide (s.get (0x2B30 + (src - 26)) 1 ≠ 0) else true)

/-- The states a source wakes from (Table PWR-6). -/
def wakesFrom (src k : Nat) : Bool :=
  if src = 0 then decide (1 ≤ k) else if src ≤ 9 then decide (1 ≤ k ∧ k ≤ 3)
  else if src ≤ 33 then decide (k = 2 ∨ k = 3) else if src ≤ 37 then decide (k = 2) else decide (src = 38 ∧ (k = 2 ∨ k = 3))

/-- Records the stuck sources at an entry (R424). -/
def noteStuck (s : State) : State :=
  let st := (List.range 10).filter fun i => s.sourceEnabled i && s.sourceActive i && (NMap.get none s.pwr.held i).isNone
  let s := s.set 0x2140 6 (st.foldl (fun a i => a + 2 ^ i) 0)
  let s := s.setPwr { s.pwr with stuck := st }
  st.foldl (fun s i => s.addRecord St.wakeStuck 0x1A i (leBytes 1 i)) s

/-- Firmware cores and security processor resume: queued records are entered, the heartbeat check waits HEARTBEAT_MS, and
the secure watchdog restarts its timer (R412, R416, R436). -/
def resumeCores (s : State) : State :=
  let s := s.setPwr { s.pwr with stopped := false, dwell := false, busyAt := s.now }
  let s := { s with
    saf := { s.saf with beatSuspended := some (s.now + 1000000 * s.get 0x2350 7) }
    sec := { s.sec with swdPaused := none, swdStart := s.sec.swdStart.map fun _ => s.now } }
  if s.fwRunning then s.flushRecords.railSag else s

/-- Firmware cores and security processor stop with their state kept. -/
def stopCores (s : State) : State :=
  let s := s.setPwr { s.pwr with stopped := true }
  { s with
    saf := { s.saf with beatSuspended := some 0 }
    sec := { s.sec with swdPaused := if s.sec.swdStart.isSome then some s.now else s.sec.swdPaused } }

/-- Ethernet links go down with their PHYs, and TB0 holds over (R411, R416). -/
def parkPhys (s : State) : State := ((List.range 20).foldl (fun s p => s.set (0x2B40 + p) 5 0) s).holdover 0

/-- An entry is abandoned at an abort point: what was done is undone, and the module is in RUN (R411). -/
def abandonEntry (s : State) (k : Nat) : State :=
  let s := if s.get 0x2D30 4 = 1 ∨ s.get 0x2D30 4 = 2 then
      (({ s with sec := { s.sec with noticeStart := none } }).set 0x2D30 4 0).emit .secInterrupt
    else s
  let s := s.setPwr { s.pwr with
    entering := none, wake := none, resumeCopy := false, controlled := false
    abandoned := NMap.set none s.pwr.abandoned k (some s.now) }
  let s := if s.pwr.stopped then s.resumeCores else s
  (s.set 0x2120 3 0).bump 0x2120 6

/-- A wake is accepted: it is written to LAST_WAKE unless it ends IDLE, and kept for the exit, or for the entry's next abort
point; in the notice window it abandons the transition at once. The earliest raw edge is the one recorded (R420). -/
def acceptWake (s : State) (src edge : Nat) : State :=
  let s := s.setPwr { s.pwr with
    lastWake := NMap.set none s.pwr.lastWake src (some s.now), held := NMap.set none s.pwr.held src none }
  if s.pwr.entering.isNone ∧ s.pwrState = 1 then s.leaveIdle
  else
    let first : Bool := match s.pwr.wake with
      | none => true
      | some w => decide (edge < w.2 ∨ (edge = w.2 ∧ src < w.1))
    let during := if s.pwr.entering.isSome then 1 else 0
    let s := if first then
        (s.setB 0x2140 4 (lastWakeBytes src s.wakeState during (if s.wakeState = 4 then 0 else edge))).setPwr
          { s.pwr with wake := some (src, edge) }
      else s
    match s.pwr.entering with
    | some (k, 1) => s.abandonEntry k
    | _ => s

/-- WAKE_SUPPRESSED of a source. -/
def countSuppressed (s : State) (src : Nat) : State :=
  let b := s.getB 0x2140 5
  s.setB 0x2140 5 (overlay b (4 * src) (leBytes 4 (min 4294967295 (field b (4 * src) 4 + 1))))

/-- An edge or pattern of a wake source; the edge of a discrete input leads to its active level (R421, R424, R425). -/
def wakeEdge (s : State) (src edge : Nat) : State :=
  if 38 < src ∨ !s.sourceEnabled src ∨ !wakesFrom src s.wakeState ∨ s.pwr.stuck.contains src
      ∨ (src ≤ 9 ∧ !s.sourceActive src) then s
  else
    let recent : Bool := match NMap.get none s.pwr.lastWake src with
      | some t => decide (s.now < t + 100000000)
      | none => false
    if recent then (s.countSuppressed src).setPwr { s.pwr with held := NMap.set none s.pwr.held src (some edge) }
    else s.acceptWake src edge

/-- The timer wake (Table PWR-6, bit 38). -/
def wakeTimer (s : State) : State :=
  let at_ := s.get 0x2140 3
  if at_ = 0 ∨ s.now < at_ ∨ at_ = s.pwr.timerDone then s
  else (s.setPwr { s.pwr with timerDone := at_ }).wakeEdge 38 at_

/-- The 100 ms of a source end: a held-back wake is delivered once if its level is still active and the module is below RUN,
else it is discarded (R425). -/
def suppressionEnd (s : State) (src : Nat) : State :=
  match NMap.get none s.pwr.held src, NMap.get none s.pwr.lastWake src with
  | some edge, some t =>
    if s.now < t + 100000000 then s
    else
      let s := s.setPwr { s.pwr with held := NMap.set none s.pwr.held src none }
      if src ≤ 9 ∧ s.sourceActive src ∧ s.wakeState ≠ 0 ∧ wakesFrom src s.wakeState then s.acceptWake src edge else s
  | _, _ => s

/-- A filtered level settles (R343, R422): a stuck source that goes inactive may wake again. -/
def settleInput (s : State) (line : Nat) (level : Bool) : State :=
  if 9 < line then s else
  let v := s.get 0x2BA0 0x0B
  let s := s.set 0x2BA0 0x0B (if level then v ||| 2 ^ line else if v.testBit line then v - 2 ^ line else v)
  if s.sourceActive line then s else s.setPwr { s.pwr with stuck := s.pwr.stuck.filter (· ≠ line) }

/-! ## Entries (R411, Table PWR-4) -/

/-- A state may be entered now: chosen under R409 in RUN or IDLE, with no entry under way. -/
def mayEnter (s : State) (k : Nat) : Bool :=
  !s.pwr.inReset && s.pwr.entering.isNone && decide (s.pwrState ≤ 1 ∧ s.pwrState ≠ k) && decide (s.deepest = k)

def enterIdle (s : State) : State := if s.mayEnter 1 then s.gateIslands.set 0x2120 3 1 else s

/-- SLEEP. The first step records stuck sources, passes P1, stops the cores and parks the PHYs; the second stands at P2,
where a wake that came abandons the entry; the third completes it with the rail at retention. -/
def enterSleep (s : State) : State :=
  match s.pwr.entering with
  | some (2, 2) => if s.pwr.wake.isSome then s.abandonEntry 2 else s.setPwr { s.pwr with entering := some (2, 3) }
  | some (2, _) => ((s.setPwr { s.pwr with entering := none }).gateIslands.setTarget 550).set 0x2120 3 2
  | some _ => s
  | none =>
    if s.mayEnter 2 then
      let s := (s.leaveIdle.noteStuck).stopCores.parkPhys
      s.setPwr { s.pwr with entering := some (2, 2) }
    else s

/-- The notice window opens (R402): the security processor is interrupted, and without a wait the window is over at once. -/
def openNotice (s : State) (k : Nat) : State :=
  let s := (s.leaveIdle.noteStuck).emit .secInterrupt
  let s := { s with sec := { s.sec with noticeStart := some s.now }, pwr := { s.pwr with entering := some (k, 1) } }
  s.set 0x2D30 4 (if s.get 0x2D30 2 = 0 then 2 else 1)

/-- On-chip memory that DEEP SLEEP does not retain is lost, and the PCIe links go down (R417, R419). -/
def loseOnChip (s : State) : State :=
  let s := (List.range 4).foldl linkDown s
  let pln := if (s.get 0x2121 2).testBit 0 then s.pln else {}
  let acu := if (s.get 0x2121 2).testBit 1 then s.acu else {}
  { s with pln := pln, acu := acu, harts := [], plc := { s.plc with serai := [], pads := [], slots := [], kernels := [] } }

/-- DEEP SLEEP, step by step: the notice window; the resume copy to UFS, up to P1; the signal to the Rearguard and the way
to P2; past P2, the rails off. -/
def enterDeep (s : State) : State :=
  match s.pwr.entering with
  | none => if s.mayEnter 3 then s.openNotice 3 else s
  | some (3, 1) =>
    if s.get 0x2D30 4 = 2 then
      let s := s.stopCores
      s.setPwr { s.pwr with entering := some (3, 2), resumeCopy := true }
    else s
  | some (3, 2) =>
    if s.pwr.wake.isSome then s.abandonEntry 3 else s.setPwr { s.pwr with entering := some (3, 3), controlled := true }
  | some (3, 3) => if s.pwr.wake.isSome then s.abandonEntry 3 else s.setPwr { s.pwr with entering := some (3, 4) }
  | some (3, _) =>
    let s := ((s.parkPhys.loseOnChip).loseHbm).set 0x2D30 4 0
    (s.gateIslands.setPwr { s.gateIslands.pwr with entering := none }).set 0x2120 3 3
  | some _ => s

/-- OFF: the notice window; the Rearguard told and in standby, up to P1; past it, all rails but the keep-alive domain off and
the links down (R417). -/
def enterOff (s : State) : State :=
  match s.pwr.entering with
  | none => if s.mayEnter 4 then s.openNotice 4 else s
  | some (4, 1) =>
    if s.get 0x2D30 4 = 2 then
      let s := s.stopCores
      s.setPwr { s.pwr with entering := some (4, 2), controlled := true }
    else s
  | some (4, 2) => if s.pwr.wake.isSome then s.abandonEntry 4 else s.setPwr { s.pwr with entering := some (4, 3) }
  | some (4, _) =>
    let s := ((List.range 4).foldl linkDown s).parkPhys.loseHbm.set 0x2D30 4 0
    (s.setPwr { s.pwr with entering := none }).set 0x2120 3 4
  | some _ => s

/-! ## Exits (R412 to R415, R418) -/

/-- LAST_WAKE of a wake by a work source or interrupt, where no source's edge has been recorded. -/
def noteWorkWake (s : State) : State :=
  if s.pwr.wake.isSome then s else s.setB 0x2140 4 (lastWakeBytes 0xFE s.pwrState 0 s.now)

/-- SLEEP ends: the rail rises to the governor's target, the regulator settles, the islands are released and the cores
resume (Table PWR-5). -/
def exitSleep (s : State) : State :=
  if s.pwrState ≠ 2 then s else
  let s := s.noteWorkWake
  let s := s.setTarget (if s.govFixed then s.get 0x2110 5 else s.voltageFor s.ceiling)
  let s := s.regulatorSettled.releaseIslands
  (s.setPwr { s.pwr with wake := none }).resumeCores.set 0x2120 3 0

/-- DEEP SLEEP ends (R413): firmware resumes from the resume copy, the secure monitor and the hypervisor are started; or,
where the restored firmware fails its check, the module starts as from power-on (R414). -/
def exitDeep (s : State) (intact : Bool) : State :=
  if s.pwrState ≠ 3 ∨ s.pwr.wake.isNone then s
  else if intact then
    let s := s.setTarget (if s.govFixed then s.get 0x2110 5 else s.voltageFor s.ceiling)
    let s := s.regulatorSettled.releaseIslands
    let s := s.setPwr { s.pwr with wake := none, resumeCopy := false, controlled := false }
    let s := s.startHarts.setHart 0 { mode := .hs }
    s.resumeCores.set 0x2120 3 0
  else
    let s := s.setPwr { s.pwr with bootRecords := s.pwr.bootRecords ++ [St.deepRestoreFailed] }
    s.resetMain true

/-- OFF ends with a power-on start (R415): the time bases restart at zero, and LAST_WAKE names the WAKE pin. -/
def exitOff (s : State) : State :=
  if s.pwrState ≠ 4 ∨ s.pwr.wake.isNone then s
  else
    let s := { s.resetMain true with time := {} }
    s.setB 0x2140 4 (lastWakeBytes 0 4 0 0)

/-! ## Functions (R426, R427) -/

/-- The function on or off in FUNC_STATE. -/
def setFunc (s : State) (f : Nat) (on shutting : Bool) : State :=
  let v := s.get 0x2130 4
  let put := fun (v i : Nat) (b : Bool) => if b then v ||| 2 ^ i else if v.testBit i then v - 2 ^ i else v
  s.set 0x2130 4 (put (put v f on) (f + 8) shutting)

/-- A write that leaves a function off or on (R426). Turning it on while it shuts down abandons the shut-down, or, past the
last abort point, is done when it ends; how far it has come is the module's matter, so which of the two is free. -/
def driveFunc (s : State) (f : Nat) (on : Bool) : State :=
  let isOn := (s.get 0x2130 4).testBit f
  let down := s.pwr.shutting.contains f
  if on then
    if down then
      let c := s.fresh .choice
      let s := c.2
      if c.1 % 2 = 0 then
        ((s.setPwr { s.pwr with shutting := s.pwr.shutting.filter (· ≠ f) }).setFunc f true false).bump 0x2120 6
      else s.setPwr { s.pwr with reenable := f :: s.pwr.reenable.filter (· ≠ f) }
    else s.setFunc f true false
  else if down then s.setPwr { s.pwr with reenable := s.pwr.reenable.filter (· ≠ f) }
  else if isOn then (s.setPwr { s.pwr with shutting := s.pwr.shutting ++ [f] }).setFunc f true true
  else s

/-- The functions that an entry's bits name. -/
def funcsOf (sub : Nat) : List Nat := if sub = 1 then [0, 1, 2] else if sub = 2 then [3, 4, 5, 6] else [7]

/-- A write of CLUSTER_ENABLE, PCIE_ENABLE or UFS_ENABLE; `stopped` are the harts in the hart-stopped state. -/
def funcWrite (s : State) (sub v stopped : Nat) : WRes :=
  let fs := funcsOf sub
  let old := s.get 0x2130 sub
  let base := fs.headD 0
  let busy := if sub = 1 then
      (List.range 3).any fun c => old.testBit c && !v.testBit c && (List.range 8).any fun h => !stopped.testBit (8 * c + h)
    else decide (sub = 3 ∧ v = 0) && (decide (s.fw.state = 1 ∨ s.fw.state = 3) || (match s.pwr.entering with
      | some (3, _) => true
      | _ => false))
  if busy then .abort (Ab.refusal St.pwrBusy)
  else .ok (fs.foldl (fun s f => s.driveFunc f (v.testBit (f - base))) (s.set 0x2130 sub v))

/-- A shut-down ends: the function is off; a port's partner sees the link go down; a re-enable that waited follows. -/
def funcDone (s : State) (f : Nat) : State :=
  if !s.pwr.shutting.contains f then s else
  let again := s.pwr.reenable.contains f
  let s := s.setPwr { s.pwr with
    shutting := s.pwr.shutting.filter (· ≠ f), reenable := s.pwr.reenable.filter (· ≠ f) }
  let s := s.setFunc f false false
  let s := if f < 3 then (List.range 8).foldl (fun s h => s.setHart (8 * f + h) {}) s
    else if f < 7 then s.linkDown (f - 3) else s
  if again then s.setFunc f true false else s

/-- Writes of the power-state entries. -/
def powerWrite (s : State) (idx sub n stopped : Nat) : WRes :=
  if idx = 0x2130 then s.funcWrite sub n stopped
  else if idx = 0x2140 ∧ sub = 1 then .ok (s.set idx sub (n ||| 1))
  else .ok (s.set idx sub n)

end State

/-! ## The commands -/

/-- DOORBELL_WRITE (R199, R200, R208, R209, R418). -/
def execDoorbellWrite (off : Nat) (wide : Bool) (v : BitVec 64) (s : State) : Out :=
  .next (if off < 2097152 then s.workArrives.doorbell off wide v else s)

/-- DWELL_EXPIRY (R409). -/
def execDwellExpiry (s : State) : Out := .next s.dwellOver

/-- IDLE_ENTRY (R409). -/
def execIdleEntry (s : State) : Out := .next s.enterIdle

/-- SLEEP_ENTRY (R411, R424, R55). -/
def execSleepEntry (s : State) : Out := .next s.enterSleep

/-- DEEP_SLEEP_ENTRY (R411, R402, R378, R419). -/
def execDeepSleepEntry (s : State) : Out := .next s.enterDeep

/-- OFF_ENTRY (R411, R402, R378). -/
def execOffEntry (s : State) : Out := .next s.enterOff

/-- WAKE_SOURCE_EDGE (R420, R421, R424, R425). -/
def execWakeSourceEdge (src edgeNs : Nat) (s : State) : Out := .next (s.wakeEdge src edgeNs)

/-- WAKE_TIMER (R420). -/
def execWakeTimer (s : State) : Out := .next s.wakeTimer

/-- WAKE_SUPPRESSION_END (R425). -/
def execWakeSuppressionEnd (src : Nat) (s : State) : Out := .next (s.suppressionEnd src)

/-- IDLE_EXIT (R418). -/
def execIdleExit (s : State) : Out := .next s.leaveIdle

/-- SLEEP_EXIT (R412). -/
def execSleepExit (s : State) : Out := .next s.exitSleep

/-- DEEP_SLEEP_EXIT (R413, R414). -/
def execDeepSleepExit (intact : Bool) (s : State) : Out := .next (s.exitDeep intact)

/-- OFF_EXIT (R415). -/
def execOffExit (s : State) : Out := .next s.exitOff

/-- FUNCTION_SHUTDOWN_DONE (R426). -/
def execFunctionShutdownDone (f : Nat) (s : State) : Out := .next (s.funcDone f)

/-- INPUT_FILTER_SETTLE (R343, R422). -/
def execInputFilterSettle (line : Nat) (level : Bool) (s : State) : Out := .next (s.settleInput line level)

end Sys2Proof.Machine
end

