-- ==== Sys2Proof/Machine/Frontend.lean ====
section
/-! DEFINITION. The queue front end: fetching and acceptance (R88, R198), dealing (R178, R218), and completion records
(R102 to R107). -/

namespace Sys2Proof.Machine

open Sys2Proof

namespace State

/-! ## The opcodes -/

/-- What the checks need of a descriptor of slice `sl`; none where its opcode is not defined. -/
def opInfo (s : State) (sl : Nat) (d : Desc) : Option OpInfo :=
  let op := d.opcode s.compat
  let k := op % 256
  match op / 256 with
  | 1 => if k ≤ 2 then some (gemmInfo op d) else none
  | 2 => if k = 0 then some (convInfo d) else if k ≤ 4 then some (imgInfo op d) else none
  | 3 => (match k with
    | 0 => some (attnInfo s d)
    | 1 => some (appendInfo s d)
    | 2 => some (seqOpenInfo d)
    | 3 => some seqOnlyInfo
    | 4 => some seqOnlyInfo
    | 5 => some (publishInfo d)
    | 6 => some (blockExportInfo s d)
    | 7 => some (combineInfo d)
    | _ => none)
  | 4 => if k ≤ 6 then some (vecInfo op d) else none
  | 5 => if k ≤ 4 then some (moveInfo op d)
    else if k = 5 then some (sendInfo s d) else if k = 6 then some (releaseLaneInfo d) else none
  | 6 => if k ≤ 3 then some (syncInfo op)
    else if k = 4 then some (createInfo s sl d) else if k = 5 then some (releaseInfo d)
    else if k = 6 then some (viewInfo s d) else none
  | 7 => if k = 0 then some (dispatchInfo d) else if k = 1 then some (kernelLoadInfo d)
    else if k = 2 then some (kernelFreeInfo d) else none
  | 8 => if k = 0 then some (passInfo d) else if k = 1 then some (shaderLoadInfo d)
    else if k = 2 then some (shaderFreeInfo d) else if k = 3 then some (presentInfo s d) else none
  | 9 => if k = 0 then some (planInfo s sl d) else if k = 1 then some (latticeLoadInfo d)
    else if k = 2 then some (latticeFreeInfo d) else if k = 3 then some (occInfo s sl d) else none
  | 10 => if k = 0 then some (coefInfo s sl d) else none
  | _ => none

/-- Opcodes that a suspended slice may still run (R217). -/
def runsSuspended (op : Nat) : Bool :=
  decide (op = 0x0600 ∨ op = 0x0601 ∨ op = 0x0602 ∨ op = 0x0605 ∨ op = 0x0303 ∨ op = 0x0702)

/-! ## Acceptance checks (R88, Table TEN-4) -/

/-- The lowest set bit among ranges of bits. -/
def lowestSet (d : Desc) (rs : List (Nat × Nat)) : Option Nat :=
  minOf (rs.filterMap fun r => ((List.range (r.1 + 1 - r.2)).map (r.2 + ·)).find? fun i => d.w.getLsbD i)

/-- The slice belongs to an active partition with redundant execution, and the family admits pairs (R91, R163). -/
def redundantOk (s : State) (sl op : Nat) : Bool :=
  let f := op / 256
  decide (1 ≤ f ∧ f ≤ 4) && (decide (f ≠ 3) || decide (op = 0x0300 ∨ op = 0x0301 ∨ op = 0x0307))
    && match s.activePartOf sl with
      | some k => decide (s.get (0x2310 + k) 5 = 1)
      | none => false

/-- A handle field of the descriptor names nothing of the slice (check 8). -/
def useUnknown (s : State) (sl : Nat) (d : Desc) (u : HUse) : Bool :=
  let h := u.handle d
  if h = 0 then !u.zeroOk
  else match u.kind with
    | .tensor => !s.named sl h
    | .pool => (s.poolOf sl h).isNone
    | .seq => !s.namedSeq sl h
    | .tensorOrSeq => !s.named sl h && !s.namedSeq sl h

/-- Bytes of what a handle names: a tensor or view, or the header of a sequence's region. -/
def useSize (s : State) (h : Nat) : Nat := match s.seq h with
  | some q => 65536 * q.header.length
  | none => s.tbytes h

/-- The use does not fit its tensor (check 9). -/
def useBounds (s : State) (d : Desc) (u : HUse) : Bool :=
  let h := u.handle d
  decide (h ≠ 0) && (decide (u.kind = .tensor) || decide (u.kind = .tensorOrSeq)) && decide (s.useSize h < u.bytes)

/-- Checks 4 to 9 and the family's own, in order. -/
def bodyFail (s : State) (sl : Nat) (d : Desc) (i : OpInfo) : Option (Nat × Nat) :=
  let c := s.compat
  if d.redundant c ∧ !s.redundantOk sl (d.opcode c) then some (St.descRedundantDenied, 0)
  else match i.fmt with
    | some f => some f
    | none => match minOf i.bad with
      | some b => some (St.descFieldRange, b)
      | none => match minOf (i.clash ++ weightClashes s sl d i) with
        | some b => some (St.descAlias, b)
        | none => match i.uses.find? (s.useUnknown sl d) with
          | some u => some (St.handleUnknown, u.handle d)
          | none => match i.seqs.find? fun h => !s.namedSeq sl h with
            | some h => some (St.handleUnknown, h)
            | none => match i.uses.find? (s.useBounds d) with
              | some u => some (St.handleBounds, u.handle d)
              | none => i.more

/-- The first failing acceptance check: status and DETAIL. -/
def acceptFail (s : State) (sl : Nat) (d : Desc) : Option (Nat × Nat) :=
  let c := s.compat
  let v := d.version c
  if v ≠ (if c then 1 else 2) then some (St.descVersion, v)
  else
    let info := s.opInfo sl d
    let body := match info with
      | some i => i.reserved
      | none => []
    match lowestSet d (headerReserved c ++ body) with
    | some b => some (St.descReserved, b)
    | none => match info with
      | none => some (St.descOpcodeUnknown, d.opcode c)
      | some i => s.bodyFail sl d i

/-! ## What a descriptor holds, reads and writes (R89, R103) -/

/-- The hazard key of what a handle names: the tensor's own entry, or the sequence's key. -/
def hazardKey (s : State) (h : Nat) : Nat := match s.tref h with
  | some r => r.root
  | none => seqKey h

/-- Entries whose release waits for the record: the handle's own entry, and a sequence's key. -/
def holdKey (s : State) (h : Nat) : Nat := if (s.findHandle h).isSome then hIndex h else seqKey h

/-- Uses with a handle that is not 0. -/
def liveUses (d : Desc) (i : OpInfo) : List HUse := i.uses.filter fun u => decide (u.handle d ≠ 0)

def readKeys (s : State) (d : Desc) (i : OpInfo) : List Nat :=
  (((liveUses d i).filter fun u => !u.out && !i.alsoWrites.contains u.lo).map fun u => s.hazardKey (u.handle d))
    ++ (if i.seqOut then [] else i.seqs.map seqKey)

def writeKeys (s : State) (d : Desc) (i : OpInfo) : List Nat :=
  (((liveUses d i).filter fun u => u.out || i.alsoWrites.contains u.lo).map fun u => s.hazardKey (u.handle d))
    ++ (if i.seqOut then i.seqs.map seqKey else [])

/-! ## Destinations (R166) -/

/-- The slot of a descriptor number of the queue, in the slice's address space (R196). -/
def slotVa (s : State) (q n : Nat) : Nat := (s.queue q).ringVa + 64 * (n % 2 ^ (s.queue q).ringLog2)

/-- The physical address of a ring slot, where it lies in one piece. -/
def slotPa (s : State) (q n : Nat) : Option Nat :=
  let pasid := s.slicePasid (s.queueSlice q)
  s.place pasid (s.slotVa q n) 64

/-- The slots that the lookahead of the queue after number `n` reads: published, translated (R166). -/
def lookSlots (s : State) (q n : Nat) : List Nat :=
  (List.range (s.get 0x2603 1)).filterMap fun j =>
    let c := (n + 1 + j) % 4294967296
    let left := diff32 (s.queue q).p c
    if left = 0 ∨ 2147483648 ≤ left then none else (s.slotPa q c).filter inHbm

/-- The lookahead reads the slots: charged to the front end, and recorded where refused or poisoned (R255, R389). -/
def chargeLookahead (s : State) (q n : Nat) : State :=
  let m : Requester := .frontEnd (s.queueSlice q)
  (s.lookSlots q n).foldl (fun s a =>
    if s.refuses m a 64 then s.noteRefusal m a
    else ((granulesOf a 64).filter fun g => s.mem.poisoned.contains g).foldl poison (s.chargeRange m a 64)) s

/-- The descriptors that the lookahead examines, as their slots stand. -/
def lookahead (s : State) (q n : Nat) : List Desc :=
  ((s.lookSlots q n).filter fun a => !s.refuses (.frontEnd (s.queueSlice q)) a 64
      && (granulesOf a 64).all fun g => !s.mem.poisoned.contains g).map fun a =>
    { w := BitVec.ofNat 512 (leNat (s.readMem a 64)) }

/-- Tensors whose bytes a descriptor reads. -/
def inputRoots (s : State) (d : Desc) (i : OpInfo) : List Nat :=
  (((liveUses d i).filter fun u => !u.out || i.alsoReads.contains u.lo).filterMap fun u => (s.tref (u.handle d)).map (·.root)).eraseDups

/-- Output destinations: bit i where output i fits the Serai and an examined descriptor reads its tensor. -/
def bindOutputs (s : State) (sl : Nat) (d : Desc) (i : OpInfo) (later : List Desc) : Nat :=
  let outs := (i.uses.filter (·.out)).mapIdx fun k u => (k, u.handle d)
  outs.foldl (fun a p => match s.tref p.2 with
    | none => a
    | some r => match s.tentry r.root with
      | none => a
      | some e =>
        let wanted := later.any fun l => match s.opInfo sl l with
          | some j => (s.inputRoots l j).contains r.root
          | none => false
        if wanted && !e.noSerai && s.seraiCapacityFits sl e.bytes then a + 2 ^ p.1 else a) 0

/-- The output tiles stay in tier 1 for the next descriptor: a GEMM_ACC that reads them as its old C by the same handle, cut in
the same way (R167). -/
def keepsTiles (s : State) (d : Desc) (e : Nat) (next : Option Desc) : Bool :=
  let c := s.compat
  match next with
  | none => false
  | some b =>
    let g := gemmOf (d.opcode c) d
    let h := gemmOf (b.opcode c) b
    decide ((d.opcode c = 0x0100 ∨ d.opcode c = 0x0102) ∧ b.opcode c = 0x0102 ∧ g.c = h.c ∧ g.m = h.m ∧ g.n = h.n
      ∧ g.mTile e = h.mTile e ∧ g.tiles e = h.tiles e)

/-! ## Fetching (R198) -/

/-- The record of a descriptor is written (R102). -/
def leavesRecord (s : State) (d : Desc) : Bool := d.cmpl s.compat || d.irq s.compat || decide (d.status ≠ 0)

/-- Completion slots that the queue's descriptors may still need. -/
def slotsHeld (s : State) (q : Nat) : Nat :=
  ((s.queue q).desc.filter fun e => match e.2 with
    | some d => decide (d.phase ≠ .done) || s.leavesRecord d
    | none => false).length

/-- The queue's next ring slot has been asked for in another module's memory (R229). -/
def slotAsked (s : State) (q : Nat) : Bool := s.lnk.small.any fun e => match e.2 with
  | some t => (match t.what with
    | .slot k _ => decide (k = q)
    | _ => false)
  | none => false

/-- The front end may fetch the queue's next descriptor. -/
def mayFetch (s : State) (q : Nat) : Bool :=
  let x := s.queue q
  x.resident && !s.slotAsked q && decide (x.state = .enabled ∧ 0 < diff32 x.p x.f ∧ s.inFlight q < 256
    ∧ s.slotsHeld q + 1 + diff32 x.wr x.c ≤ 2 ^ x.cringLog2 ∧ s.get 0x2120 3 = 0
    ∧ s.sliceState (s.queueSlice q) ≠ 3) && !s.pwr.inReset

/-- Counts the descriptor as fetched, with the time of the doorbell that published it. -/
def countSlot (s : State) (q : Nat) : Nat × State :=
  let x := s.queue q
  let f := (x.f + 1) % 4294967296
  let bell := match x.bells.find? fun b => decide (0 < diff32 b.1 x.f ∧ diff32 b.1 x.f < 2147483648) with
    | some b => b.2
    | none => 0
  (bell, s.setQueue q { x with f := f, bells := x.bells.filter fun b => decide (0 < diff32 b.1 f ∧ diff32 b.1 f < 2147483648) })

/-- A rejected descriptor, or one of a suspended slice, completes at its fetch. -/
def reject (s : State) (q n : Nat) (d : Desc) (status detail : Nat) : State :=
  let s := s.setDesc q n { d with phase := .done, rejected := true, status := status, detail := detail, tDone := s.now }
  if d.halt s.compat then s.haltQueue q status (d.tag s.compat) else s

/-- Reads that the module makes at acceptance: the sequence list (R145) or the plan's request (R299). -/
def acceptRead (s : State) (q n : Nat) (d : Desc) (i : OpInfo) : Work :=
  let op := d.opcode s.compat
  let w := { s.startWork q n d with quiet := true }
  if i.fixed = [] then w
  else if op = 0x0900 then (w.read (d.fld 95 64) 0 128).2
  else if op = 0x0300 then (w.read (d.fld 159 128) 0 (16 * d.fld 271 256)).2
  else (w.read (d.fld 159 128) 0 (16 * d.fld 175 160)).2

/-- The mask of the engines that are on. -/
def onMask (s : State) : Nat := s.enginesOn.foldl (fun a e => a + 2 ^ e) 0

/-- The descriptor is accepted: its references, hazards, destinations, policy and decomposition are fixed (R89, R103, R166,
R177, R178). -/
def accept (s : State) (q n : Nat) (d : Desc) (i : OpInfo) (looks : Bool) : State :=
  let sl := s.queueSlice q
  let c := s.compat
  let op := d.opcode c
  let later := if looks then s.lookahead q n else []
  let next := if looks ∧ diff32 (s.queue q).p n ≠ 1 then later.head? else none
  let s := if looks then s.chargeLookahead q n else s
  let mask := if dealtOp op then s.onMask else 0
  let w := s.acceptRead q n d i
  let s := w.s
  let d := { d with
    held := (((liveUses d i).map fun u => s.holdKey (u.handle d)) ++ i.seqs.map seqKey).eraseDups,
    reads := (s.readKeys d i).eraseDups, writes := (s.writeKeys d i).eraseDups, inputs := s.inputRoots d i,
    fixed := mask :: i.fixed, serai := s.bindOutputs sl d i later, policy := s.policyNow,
    keep := s.keepsTiles d (maskBits 16 mask).length next,
    order := s.que.acceptCount, run := if d.redundant c then 1 else 0, status := w.st, detail := w.det }
  let s := { s with que := { s.que with acceptCount := s.que.acceptCount + 1 } }
  let s := (s.setDesc q n d).noteWork q
  if op = 0x0800 then s.takeParams sl else s

/-- What the front end does with a descriptor it has read: the checks, then acceptance or rejection. -/
def judge (s : State) (q n : Nat) (d : Desc) : State :=
  let sl := s.queueSlice q
  if s.sliceState sl = 2 ∧ !runsSuspended (d.opcode s.compat) then s.reject q n d St.sliceSuspended 0
  else match s.acceptFail sl d, s.opInfo sl d with
    | some f, _ => s.reject q n d f.1 f.2
    | none, some i => s.accept q n d i true
    | none, none => s

/-- A descriptor has been read from the slot of number F: it is counted as fetched and judged. -/
def takeSlot (s : State) (q : Nat) (bs : List Byte) : State :=
  let n := (s.queue q).f
  let bell := s.countSlot q
  let tag := bell.2.countFetch
  let s := tag.2
  s.judge q n { w := BitVec.ofNat 512 (leNat bs), tagged := tag.1, tFetch := s.now, tBell := bell.1 }

/-- Reads a ring slot in HBM. -/
def readSlot (s : State) (q a : Nat) : State :=
  let m : Requester := .frontEnd (s.queueSlice q)
  if s.refuses m a 64 then (s.noteRefusal m a).slotLost q St.ringFault
  else
    let s := s.chargeRange m a 64
    let bad := (granulesOf a 64).filter fun g => s.mem.poisoned.contains g
    if bad ≠ [] then (bad.foldl poison s).slotLost q St.hbmUncorrectable
    else s.takeSlot q (s.readMem a 64)

/-- Asks for a ring slot in another module's memory by a small read (R229, R239). -/
def askSlot (s : State) (q a : Nat) : State :=
  match s.windowAt a 64 with
  | none => s.slotLost q St.ringFault
  | some (x, t) =>
    if x.node = s.nodeId then (if inHbm (t + 63) then s.readSlot q t else s.slotLost q St.ringFault)
    else if !s.nodePresent x.node then s.slotLost q St.ringFault
    else match s.smallTag { what := .slot q (s.queue q).f, node := x.node, time := s.now } with
      | (none, _) => s
      | (some tag, s) => s.sendFrame { dst := x.node, src := 0, kind := kRead, cls := x.cls, tag := tag, addr := t, len := 64 }

/-- The cap of the front end's bandwidth class holds its requests for a queue (R260). -/
def frontHeld (s : State) (q : Nat) : Bool := s.capHolds (s.classOf (.frontEnd (s.queueSlice q)))

def noteFront (s : State) (q : Nat) : State := s.noteHeld (s.classOf (.frontEnd (s.queueSlice q)))

/-- The front end reads descriptor F of the queue; where the cap of its class holds it, it waits. -/
def fetch (s : State) (q : Nat) : State :=
  if !s.mayFetch q then s
  else if s.frontHeld q then s.noteFront q
  else match s.slotPa q (s.queue q).f with
    | none => s.slotLost q St.ringFault
    | some a => if inHbm (a + 63) then s.readSlot q a else s.askSlot q a

/-! ## Dealing (R178, R218) -/

/-- A slice is within its share of the present window. -/
def withinShare (s : State) (k : Nat) : Bool :=
  let x := s.sliceX k
  decide (x.shareNow ≠ 0 ∧ x.windowNs * 256 < x.shareNow * s.enginesOn.length * (s.que.windowUsNow * 1000))

/-- Descriptors that wait to be dealt: queue, number, descriptor. -/
def waitingDeals (s : State) : List (Nat × Nat × Desc) :=
  (s.que.queues.filter fun p => decide (p.1 < 262144)).flatMap fun p => p.2.desc.filterMap fun e => match e.2 with
    | some d => if dealtOp (d.opcode s.compat) && !d.rejected && s.mayBegin p.1 e.1 d then some (p.1, e.1, d) else none
    | none => none

/-- The descriptor dealt next: of a slice within its share while one waits, then by priority and acceptance. -/
def nextDeal (s : State) : Option (Nat × Nat × Desc) :=
  let ws := s.waitingDeals
  let in_ := ws.filter fun p => s.withinShare (s.queueSlice p.1)
  let may := if in_ = [] then ws else in_
  let before := fun (a b : Nat × Nat × Desc) =>
    let pa := (s.queue a.1).priority
    let pb := (s.queue b.1).priority
    decide (pb < pa) || (decide (pa = pb) && decide (a.2.2.order < b.2.2.order))
  may.foldl (fun (a : Option (Nat × Nat × Desc)) c => match a with
    | none => some c
    | some b => if before c b then some c else a) none

/-- Tiles of a descriptor for `e` engines. -/
def tileCount (s : State) (d : Desc) (e : Nat) : Nat :=
  let op := d.opcode s.compat
  match op / 256 with
  | 1 => (gemmOf op d).tiles e
  | 2 => if op = 0x0200 then (convOf d).tiles e else (imgOf op d).tiles e
  | 3 => if op = 0x0300 then s.attnTiles d e else if op = 0x0301 then 1
    else if op = 0x0307 then rowTiles (d.fld 255 224) e else 0
  | 4 => rowTiles (vecOf op d).rows e
  | 5 => if op ≤ 0x0502 then 1 else 0
  | 7 => if op = 0x0700 then d.fld 127 96 * d.fld 159 128 * d.fld 175 160 else 0
  | _ => 0

/-- The engine in whose tier 1 the queue's previous descriptor left a tile of descriptor `n`, plus one (R167). -/
def keptAt (s : State) (q n t : Nat) : Nat := match NMap.get none s.plc.tier1 q with
  | some (m, place) => if m = n then NMap.get 0 place t else 0
  | none => 0

/-- Tiles whose old C stands in the tier 1 of an engine go to that engine; they count as dealt (R167). -/
def dealKept (s : State) (es : List Nat) (ts : List Tile) : State :=
  (ts.foldl (fun s t =>
    let e := s.keptAt t.q t.n t.t - 1
    s.setEngine e { s.engine e with queue := insertTile (s.engine e).queue t }) s).bump 0x2607 1 (if es = [] then 0 else ts.length)

/-- Deals the tiles of a descriptor that has begun to a list of engines; they take them, and those that wait may ask for a
pre-emption. -/
def dealTiles (s : State) (q n : Nat) (d : Desc) (es : List Nat) (prio tuning : Nat) : State :=
  let run := if d.redundant s.compat then 1 else 0
  let ts : List Tile := (List.range d.tiles).map fun t =>
    { q := q, n := n, t := t, prio := prio, order := d.order, run := run, tuning := tuning }
  let kept := ts.filter fun t => decide (s.keptAt q n t.t ≠ 0) && es.contains (s.keptAt q n t.t - 1)
  let s := (s.dealKept es kept).dealTo es (ts.filter fun t => !kept.contains t)
  ({ s with plc := { s.plc with tier1 := NMap.set none s.plc.tier1 q none } }).serveAll

/-- Fixes the tile count of a descriptor and marks it begun. Where no engine was on at its acceptance it is cut for those on
now. -/
def beginTiles (s : State) (q n : Nat) (d : Desc) (mask : Nat) : Desc × State :=
  let d := { d with fixed := mask :: d.data }
  let k := s.tileCount d d.engineCount
  let d := { d with phase := .running, tiles := k, left := k, tDeal := s.now, undef := if d.status = 0 then [] else List.range k }
  (d, ((s.setDesc q n d).convert q n).noteWork q)

/-- TILE_DEAL of an accepted descriptor. -/
def deal (s : State) (q n : Nat) : State :=
  match s.nextDeal with
  | none => s
  | some (q', n', d) =>
    if q' ≠ q ∨ n' ≠ n then s
    else match s.fetchInputs q n d with
      | none => s.finish q n St.nodeUnreachable 0 0
      | some s => match s.convBegin q n d with
        | none => s.finish q n St.quotaExceeded 0 0
        | some s =>
          let d := (s.desc q n).getD d
          let mask := if d.mask ≠ 0 then d.mask else s.onMask
          let b := s.beginTiles q n d mask
          let prio := (s.queue q).priority
          let may := b.2.dealTargets { q := q, n := n, t := 0, prio := prio, order := d.order }
          let es := if d.redundant s.compat then may.filter fun e => mask.testBit e else may
          b.2.dealTiles q n b.1 (if es = [] then may else es) prio 0

/-! ## Completion records (R102 to R105, R197, R220) -/

/-- The queue's oldest descriptor, in ring order. -/
def oldestDesc (s : State) (q : Nat) : Option (Nat × Desc) :=
  let f := (s.queue q).f
  (s.queue q).desc.foldl (fun (a : Option (Nat × Desc)) e => match e.2 with
    | none => a
    | some d => match a with
      | none => some (e.1, d)
      | some b => if diff32 f b.1 < diff32 f e.1 then some (e.1, d) else a) none

/-- The 16-byte record of Table TEN-16. -/
def recordBytes (s : State) (q : Nat) (d : Desc) : List Byte :=
  let x := s.queue q
  let phase := if x.wr.testBit x.cringLog2 then 0 else 1
  leBytes 2 d.status ++ leBytes 1 d.aflags ++ leBytes 1 (if d.rejected then 0xFF else d.engine)
    ++ leBytes 4 (d.tag s.compat) ++ leBytes 4 d.detail ++ leBytes 4 (phase * 8192 + q * 16384)

/-- Writes a record, and sends the queue's interrupt after it. -/
def putRecord (s : State) (q : Nat) (d : Desc) : State :=
  let x := s.queue q
  let sl := s.queueSlice q
  let r := s.storeVa (.frontEnd sl) (s.slicePasid sl) (x.cringVa + 16 * (x.wr % 2 ^ x.cringLog2)) (s.recordBytes q d)
    (.record q (d.tag s.compat))
  if r.1 then
    let s := r.2.setQueue q { r.2.queue q with wr := (x.wr + 1) % 4294967296 }
    if d.irq s.compat then s.queueIrq q else s
  else r.2.recordLost q (d.tag s.compat)

/-- The descriptor is forgotten: references go, a disabling queue may become disabled. -/
def forget (s : State) (q n : Nat) : State :=
  let s := s.setQueue q { s.queue q with desc := NMap.set none (s.queue q).desc n none }
  ((s.reap.reapSeqs).settleDisable q).noteWork q

/-- COMPLETION_RECORD_WRITE: the oldest descriptor of the queue, once it has completed and its write-backs are
acknowledged. -/
def complete (s : State) (q : Nat) : State :=
  match s.oldestDesc q with
  | none => s
  | some (n, d) =>
    if d.phase ≠ .done ∨ s.awaitsAck q n ∨ 262143 < q then s
    else if s.leavesRecord d && s.frontHeld q then s.noteFront q
    else
      let c := s.compat
      let s := if s.leavesRecord d then s.putRecord q d else s
      let s := if d.tagged then s.tagRecord q (d.opcode c) d.status (d.tag c)
          [d.tBell, d.tFetch, d.tDeal, d.tDone, s.now] [d.retired, d.wasted, d.starved] else s
      s.forget q n

end State

/-! ## The commands -/

/-- DESCRIPTOR_FETCH (R88, R198, R217). -/
def execDescriptorFetch (q : Nat) (s : State) : Out := .next (s.fetch q)

/-- COMPLETION_RECORD_WRITE (R102 to R105). -/
def execCompletionRecordWrite (q : Nat) (s : State) : Out := .next (s.complete q)

end Sys2Proof.Machine
end

