-- ==== Sys2Proof/Machine/Partitions.lean ====
section
/-! DEFINITION. Safety partitions: activation, windows, redundant pairs and tuning frames (R355 to R372, R189, R190). -/

namespace Sys2Proof.Machine

open Sys2Proof

/-- The pseudo-queue of a partition's tuning frame. -/
def frameQueue (k : Nat) : Nat := 262144 + k

namespace State

def tframe (s : State) (k : Nat) : TfState := NMap.get {} s.saf.tuning k

def setTframe (s : State) (k : Nat) (f : TfState) : State :=
  { s with saf := { s.saf with tuning := NMap.set {} s.saf.tuning k f } }

def winState (s : State) (w : Nat) : WinState := NMap.get {} s.saf.windows w

def setWin (s : State) (w : Nat) (x : WinState) : State :=
  { s with saf := { s.saf with windows := NMap.set {} s.saf.windows w x } }

/-- START_US, LENGTH_US, ENGINES and PARTITION of window `w`. -/
def windowRec (s : State) (w : Nat) : Option (Nat × Nat × Nat × Nat) := s.windowTable[w]?

/-- Engines that a mask names. -/
def maskEngines (m : Nat) : List Nat := maskBits 16 m

/-! ## Admission (R189, R360) -/

/-- The bandwidth of `n` saves, in bytes per microsecond: min(n × 156.0 GB/s, SAVE_BW_ASSUMED). -/
def saveRate (s : State) (n : Nat) : Nat := min (n * 156000) (s.get 0x2605 2 * 100)

/-- Bytes of `n` full saves. -/
def saveBytes (n : Nat) : Nat := n * 7340032

/-- end_i + Rst(n_i) ≤ start_j − L(n_j), both sides in µs times 100 and both rates. -/
def restoreFits (s : State) (ni endI nj startJ : Nat) : Bool :=
  let di := s.saveRate ni
  let dj := s.saveRate nj
  decide (endI * 100 * di * dj + saveBytes ni * 100 * dj + 512 * di * dj + saveBytes nj * 100 * di ≤ startJ * 100 * di * dj)

/-- The next window after `i` that reserves engine `e`, in start order and wrapping; its start counts from `i`'s frame. -/
def nextWindow (s : State) (e : Nat) (i : Nat × Nat × Nat × Nat) : Option (Nat × Nat × Nat × Nat) :=
  let ws := s.windowTable.filter fun r => r.2.2.1.testBit e
  let later := ws.filter fun r => decide (i.1 < r.1)
  let first := fun (l : List (Nat × Nat × Nat × Nat)) => l.foldl (fun (a : Option (Nat × Nat × Nat × Nat)) r => match a with
    | none => some r
    | some b => if r.1 < b.1 then some r else a) none
  match first later with
  | some r => some r
  | none => (first ws).map fun r => (r.1 + s.get 0x2320 1, r.2)

/-- Every tuning frame fits its window: offset, latest start and bound (R369). -/
def tuningFits (s : State) (k : Nat) : Bool :=
  let g := fun (sub : Nat) => s.get (0x2330 + k) sub
  decide (g 1 = 0) || match s.windowRec (g 6) with
    | none => false
    | some r => decide (g 7 ≤ g 8 ∧ g 8 + g 9 ≤ r.2.1)

/-- The whole window table is admitted (R360): the lead of each window fits between it and the window before (R13). -/
def admitted (s : State) : Bool :=
  let ws := s.windowTable
  let n := fun (r : Nat × Nat × Nat × Nat) => (maskEngines r.2.2.1).length
  ws.all (fun r => decide (r.1 + r.2.1 ≤ s.get 0x2320 1))
    && ((List.range ws.length).all fun i => (List.range i).all fun j =>
        let a := ws.getD i (0, 0, 0, 0)
        let b := ws.getD j (0, 0, 0, 0)
        decide (a.2.2.1 &&& b.2.2.1 = 0) || decide (a.1 + a.2.1 ≤ b.1 ∨ b.1 + b.2.1 ≤ a.1))
    && (ws.all fun i => (maskEngines i.2.2.1).all fun e => match s.nextWindow e i with
        | none => true
        | some j => s.restoreFits (n i) (i.1 + i.2.1) (n j) j.1)
    && (List.range 8).all s.tuningFits

/-! ## Activation (R356, R369) -/

/-- Member slices. -/
def members (s : State) (k : Nat) : List Nat := maskBits 64 (s.get (0x2310 + k) 1)

/-- A tuning frame's descriptors as its list holds them. -/
def frameDescs (s : State) (k : Nat) : List Desc :=
  let sl := s.get (0x2330 + k) 3
  let n := s.get (0x2330 + k) 2
  let b := ({ s := s, q := 0, n := 0, sl := sl, prio := 0, m := .placement sl } : Work).peek (s.get (0x2330 + k) 1) 0 (64 * n)
  (List.range n).map fun i => { w := BitVec.ofNat 512 (field b (64 * i) 64) }

/-- The frame's list, output and descriptors pass the checks, with the partition taken as active. -/
def frameOk (s : State) (k : Nat) : Bool :=
  let g := fun (sub : Nat) => s.get (0x2330 + k) sub
  let sl := g 3
  let t := s.set (0x2310 + k) 0x0A 1
  (s.members k).contains sl && decide (g 2 ≠ 0) && s.named sl (g 1) && decide (64 * g 2 ≤ s.tbytes (g 1)) && s.named sl (g 4)
    && (match s.windowRec (g 6) with
        | none => false
        | some r => decide (r.2.2.2 = k))
    && (s.frameDescs k).all fun d =>
        let f := s.family d
        decide (1 ≤ f ∧ f ≤ 4) && d.redundant s.compat && (t.acceptFail sl d).isNone

/-- The partition's range lies in general HBM above the reserve and meets no other active partition's (R253, R390). -/
def rangeOk (s : State) (k : Nat) : Bool :=
  let r := s.partRange k
  decide (r.1 < r.2 ∧ s.sec.watermark ≤ r.1 ∧ s.get 0x2D01 3 ≤ r.1 ∧ r.2 ≤ generalEnd)
    && (List.range 8).all fun j => decide (j = k) || !s.partActive j
        || decide (r.2 ≤ (s.partRange j).1 ∨ (s.partRange j).2 ≤ r.1)

/-- The first failing check of Table SAF-2, 0 where all pass. -/
def activationFail (s : State) (k : Nat) : Nat :=
  let ms := s.members k
  let g := fun (sub : Nat) => s.get (0x2310 + k) sub
  let cls := g 4
  let tf := decide (s.get (0x2330 + k) 1 ≠ 0)
  let others := fun (m : Nat) => (List.range 8).any fun j => decide (j ≠ k) && s.partActive j && (s.members j).contains m
  if ms = [] ∨ ms.any (fun m => decide (s.sliceState m ≠ 1) || others m) then 1
  else if ms.any fun m => decide (s.memUsed m ≠ 0) || (s.paramBuffer m).isSome then 2
  else if !s.rangeOk k then 3
  else if ms.any (fun m => decide (s.get 0x2406 (m + 1) ≠ cls))
      || ((List.range 64).any fun m => !ms.contains m && decide (s.sliceState m ≠ 0 ∧ s.get 0x2406 (m + 1) = cls))
      || (s.ownsWindow k && decide (s.get (0x2410 + cls) 1 < s.get 0x2605 2)) then 4
  else if (decide (3 ≤ g 6) && (decide (g 5 ≠ 1) || !tf)) || (tf && !(s.frameOk k && s.tuningFits k)) then 5
  else if !s.admitted then 6
  else 0

/-- PART_CMD 1. An active partition that passes stays active, and a deactivation that waits is dropped. -/
def activate (s : State) (k : Nat) : WRes :=
  let f := s.activationFail k
  if f ≠ 0 then .refuse (Ab.refusal St.partitionInvalid) (s.set (0x2310 + k) 0x0B f)
  else
    let s := { s with saf := { s.saf with deactivating := s.saf.deactivating.filter (· ≠ k) } }
    if s.partActive k then .ok s
    else
      let pin := match s.windowRec (s.get (0x2330 + k) 6) with
        | some r => r.2.2.1
        | none => 0
      let s := (s.set (0x2310 + k) 0x0A 1).setTframe k { pinned := pin }
      let bad := (List.range 16).filter fun e => (s.engine e).quarantined
      .ok (bad.foldl (fun s e => s.degradeOne e k) s)

/-- A partition becomes inactive (R358). -/
def deactivate (s : State) (k : Nat) : State :=
  let s := (s.set (0x2310 + k) 0x0A 0).setTframe k {}
  { s with saf := { s.saf with deactivating := s.saf.deactivating.filter (· ≠ k) } }

/-- PART_CMD 2: at the next major-frame boundary, or at once where there are no major frames. -/
def deactivateCmd (s : State) (k : Nat) : State :=
  if !s.partActive k then s
  else if s.get 0x2320 1 = 0 then s.deactivate k
  else if s.saf.deactivating.contains k then s
  else { s with saf := { s.saf with deactivating := s.saf.deactivating ++ [k] } }

/-! ## Major frames and windows (R359, R189, R190, R361) -/

/-- A major frame in ns, and the TB1 time of a boundary. -/
def frameNs (s : State) : Int := ((1000 * s.get 0x2320 1 : Nat) : Int)

def frameBase (s : State) : Int := ((s.get 0x2320 2 : Nat) : Int)

/-- The major-frame boundary at or before now (R359). -/
def lastBoundary (s : State) : Int := (s.now : Int) - ((s.now : Int) - s.frameBase) % s.frameNs

/-- How long ago, in ns, a window that starts at an offset in µs last started. -/
def sinceStart (s : State) (startUs : Nat) : Nat :=
  (((s.now : Int) - s.frameBase - ((1000 * startUs : Nat) : Int)) % s.frameNs).toNat

/-- The lead of a window has begun: its next start is no further off than a lead lasts, or it is in its own time (R189). -/
def leadDue (s : State) (r : Nat × Nat × Nat × Nat) : Bool :=
  let n := (maskEngines r.2.2.1).length
  let d := s.saveRate n
  decide (((s.frameBase + ((1000 * r.1 : Nat) : Int) - (s.now : Int)) % s.frameNs).toNat * d ≤ 5120 * d + 1000 * saveBytes n)
    || decide (s.sinceStart r.1 < 1000 * r.2.1)

/-- A major-frame boundary, each once: the last one at or before now (R359). -/
def frameBoundary (s : State) : State :=
  if s.get 0x2320 1 = 0 ∨ s.saf.frameStart = some s.lastBoundary then s
  else
    let s : State := { s with saf := { s.saf with frameStart := some s.lastBoundary } }
    let s := s.saf.deactivating.foldl deactivate (s.bump 0x2320 4)
    let s := (List.range 8).foldl (fun s k =>
      let f := s.tframe k
      if f.phase = .ended then s.setTframe k { pinned := f.pinned } else s) s
    let s := (List.range s.windowTable.length).foldl (fun s w => match s.windowRec w with
      | some r => if s.partActive r.2.2.2 then s else s.setWin w {}
      | none => s) s
    { s with saf := { s.saf with layoutInForce := (List.range 8).any s.partActive } }.dealWaiting.serveAll

/-- An engine of a window whose lead begins: its foreign tiles are dealt again, but for those of redundant pairs, which are
never re-placed and wait (R14), and a foreign running tile is asked to stop at its next pre-emption point. -/
def clearEngine (s : State) (k e : Nat) : State :=
  let x := s.engine e
  let mine := fun (t : Tile) => decide (s.tilePart t = some k ∨ t.run ≠ 0)
  let foreign := x.queue.filter fun t => !mine t
  let stop : Option StopFor := match x.running with
    | some t => if s.tilePart t = some k then x.stop else some .window
    | none => x.stop
  (s.setEngine e { x with queue := x.queue.filter mine, stop := stop }).redealAll foreign

/-- A window's lead begins (R189). -/
def leadStart (s : State) (w : Nat) : State :=
  match s.windowRec w with
  | none => s
  | some r =>
    let k := r.2.2.2
    if s.get 0x2320 1 = 0 ∨ !s.saf.layoutInForce ∨ !s.partActive k ∨ (s.winState w).phase ≠ .idle ∨ !s.leadDue r then s
    else
      let s := s.setWin w { phase := .lead }
      ((maskEngines r.2.2.1).foldl (fun s e => s.clearEngine k e) s).dealWaiting.serveAll

/-- A window starts, at its offset from the boundary: an engine that still runs a foreign tile or a self-test of R366 joins
later (R359, R361). -/
def windowBegin (s : State) (w : Nat) : State :=
  match s.windowRec w with
  | none => s
  | some r =>
    if (s.winState w).phase ≠ .lead ∨ 1000 * r.2.1 ≤ s.sinceStart r.1 then s
    else s.setWin w { phase := .running, start := s.now - s.sinceStart r.1
                      late := (maskEngines r.2.2.1).filter (s.foreignTo r.2.2.2) }

/-! ## Tuning frames (R369 to R372) -/

/-- An unverified frame (R371). -/
def frameUnverified (s : State) (k : Nat) : State :=
  let f := s.tframe k
  if f.failed then s
  else
    let s := (s.setTframe k { f with failed := true }).safetyRecord St.frameUnverified 0x0F k [] k 0xFF
    let s := { s with rg := { s.rg with verified := NMap.set 0 s.rg.verified k 0 } }
    let n := s.get (0x2310 + k) 0x0E + 1
    if s.get (0x2310 + k) 8 ≤ n then (s.set (0x2310 + k) 0x0E 0).doubt St.frameUnverified k else s.set (0x2310 + k) 0x0E n

/-- The window ends, recorded as late if an engine never joined it; a tuning frame of it that has not ended is unverified (R190, R371). -/
def windowFinish (s : State) (w : Nat) : State :=
  match s.windowRec w with
  | none => s
  | some r =>
    let x := s.winState w
    if x.phase ≠ .running ∨ s.now < x.start + 1000 * r.2.1 then s
    else
      let k := r.2.2.2
      let s := match x.late.filter s.engineOn with
        | e :: _ => s.noteLate w k e
        | [] => s
      let s := s.setWin w {}
      let s := if (s.tframe k).phase = .running ∧ s.get (0x2330 + k) 6 = w ∧ !(s.tframe k).calib then s.frameUnverified k else s
      s.dealWaiting.serveAll

/-- The frame's descriptors are accepted in list order; they occupy no queue of host software. -/
def issueFrame (s : State) (k pin : Nat) : State :=
  let q := frameQueue k
  let ds := s.frameDescs k
  (List.range ds.length).foldl (fun s n =>
    match ds[n]? with
    | none => s
    | some d =>
      let t := s.set (0x2310 + k) 0x0A (max 1 (s.partState k))
      match t.acceptFail (s.queueSlice q) d, s.opInfo (s.queueSlice q) d with
      | none, some i =>
        let s := s.accept q n d i false
        (match s.desc q n with
          | some d => s.setDesc q n { d with fixed := pin :: d.data }
          | none => s)
      | _, _ => s) s

/-- Deals a descriptor of a tuning frame that may begin, to the window's engines, or in a calibration to the engines
chosen. -/
def dealFrame (s : State) (k n : Nat) : State :=
  let q := frameQueue k
  let f := s.tframe k
  match s.desc q n with
  | none => s
  | some d =>
    if f.phase ≠ .running ∨ !s.mayBegin q n d then s
    else match s.fetchInputs q n d with
      | none => s.finish q n St.nodeUnreachable 0 0
      | some s => match s.convBegin q n d with
        | none => s.finish q n St.quotaExceeded 0 0
        | some s =>
          let d := (s.desc q n).getD d
          let b := s.beginTiles q n d d.mask
          let on := s.enginesOn
          let own := on.filter fun e => d.mask.testBit e
          b.2.dealTiles q n b.1 (if own = [] then on else own) 3 (if f.calib then 0 else k + 1)

/-- Deals every descriptor of the frame that may begin now. -/
def dealFrames (s : State) (k : Nat) : State := (List.range 64).foldl (fun s n => s.dealFrame k n) s

/-- TUNING_FRAME_START: at window start + TF_OFFSET_US, in a major frame that TF_PERIOD selects. -/
def tuningStart (s : State) (k : Nat) : State :=
  let f := s.tframe k
  let w := s.get (0x2330 + k) 6
  let x := s.winState w
  if !s.partActive k ∨ s.get (0x2330 + k) 1 = 0 ∨ f.phase ≠ .idle ∨ x.phase ≠ .running
      ∨ s.get 0x2320 4 % max 1 (s.get (0x2330 + k) 0x0A) ≠ 0 ∨ s.now < x.start + 1000 * s.get (0x2330 + k) 7 then s
  else ((s.setTframe k { phase := .running, pinned := f.pinned }).issueFrame k f.pinned).dealFrames k

/-- TUNING_FRAME_LATEST: an engine that has not begun drops its unstarted tiles; the frame is unverified. -/
def tuningLatest (s : State) (k : Nat) : State :=
  let f := s.tframe k
  let x := s.winState (s.get (0x2330 + k) 6)
  if f.phase ≠ .running ∨ f.calib ∨ x.phase ≠ .running ∨ s.now < x.start + 1000 * s.get (0x2330 + k) 8 then s
  else
    let own := fun (e : Nat) => (s.engine e).queue.filter fun t => decide (t.tuning = k + 1)
    let idle := (List.range 16).filter fun e => !f.begun.contains e && decide (own e ≠ [])
    if idle = [] then s
    else
      let s := idle.foldl (fun s e => (own e).foldl (fun s t =>
        let s := s.setEngine e { s.engine e with queue := (s.engine e).queue.erase t }
        match s.desc t.q t.n with
        | some d => s.setDesc t.q t.n { d with left := d.left - 1, undef := d.undef ++ [t.t] }
        | none => s) s) s
      (s.frameUnverified k).serveAll

/-- CRC-64/WE of TF_OUT as it stands, into TF_LAST_CRC. -/
def frameCrc (s : State) (k : Nat) : Nat × State :=
  let sl := s.get (0x2330 + k) 3
  let h := s.get (0x2330 + k) 4
  let w : Work := { s := s, q := frameQueue k, n := 0, sl := sl, prio := 3, m := .placement sl, quiet := true }
  let r := w.read h 0 (s.tbytes h)
  let c := Crypto.crc64 r.1
  (c, r.2.s.set (0x2330 + k) 0x0B c)

/-- The judgement of a frame that ran to its end within its window (R371). -/
def judgeFrame (s : State) (k : Nat) : State :=
  let c := s.frameCrc k
  let s := c.2
  if c.1 = s.get (0x2330 + k) 5 then
    let s := (s.bump (0x2310 + k) 0x0D).set (0x2310 + k) 0x0E 0
    { s with rg := { s.rg with verified := NMap.set 0 s.rg.verified k (NMap.get 0 s.rg.verified k + 1) } }
  else
    let s := (s.safetyRecord St.tfWrongAnswer 0x0F k (leBytes 8 c.1) k 0xFF).doubt St.tfWrongAnswer k
    { s with rg := { s.rg with verified := NMap.set 0 s.rg.verified k 0 } }

/-- TUNING_FRAME_DONE: every descriptor of the frame has completed. -/
def tuningDone (s : State) (k : Nat) : State :=
  let q := frameQueue k
  let f := s.tframe k
  let open_ := (s.queue q).desc.any fun e => match e.2 with
    | some d => decide (d.phase ≠ .done)
    | none => false
  if f.phase ≠ .running ∨ open_ then s
  else
    let s := if f.calib then (s.frameCrc k).2 else if f.failed then s else s.judgeFrame k
    let s := s.setTframe k (if f.calib then {} else { phase := .ended, pinned := f.pinned })
    let s := { s with que := { s.que with queues := NMap.set {} s.que.queues q {} } }
    s.reap.reapSeqs.serveAll

/-- TF_CMD 1 (R372). -/
def calibrate (s : State) (k : Nat) : WRes :=
  let n := match s.windowRec (s.get (0x2330 + k) 6) with
    | some r => (maskEngines r.2.2.1).length
    | none => 0
  let es := s.enginesOn.take n
  if s.partActive k then .abort (Ab.refusal St.partitionBusy)
  else if n = 0 ∨ es.length < n ∨ !s.frameOk k ∨ (s.tframe k).phase = .running then .abort Ab.value
  else
    let pin := es.foldl (fun a e => a + 2 ^ e) 0
    .ok (((s.setTframe k { phase := .running, calib := true, pinned := pin }).issueFrame k pin).dealFrames k)

/-! ## Redundant pairs (R365 to R368, R109) -/

end State

/-- What a descriptor of the families 01 to 04 computes. -/
def familyWork (op : Nat) (w : Work) (d : Desc) : Work :=
  match op / 256 with
  | 1 => w.gemm op d
  | 2 => (match op with
    | 0x0200 => w.conv d
    | 0x0201 => Work.image 0x0201 Work.poolRow w d
    | 0x0202 => Work.image 0x0202 Work.resizeRow w d
    | 0x0203 => Work.image 0x0203 Work.cropRow w d
    | _ => Work.image 0x0204 Work.regroupRow w d)
  | 3 => if op = 0x0300 then w.attention d else if op = 0x0301 then w.append d else w.attnCombine d
  | _ =>
    let v := vecOf op d
    (match op with
      | 0x0400 => w.rowWise v d Work.elementwiseRow
      | 0x0401 => w.reduceAll v d
      | 0x0402 => w.rowWise v d Work.normaliseRow
      | 0x0403 => w.rowWise v d Work.convertRow
      | 0x0404 => w.rowWise v d Work.softmaxRow
      | 0x0405 => w.rowWise v d Work.topkRow
      | _ => w.rowWise v d Work.gatherRow)

namespace State

/-- A granule that the tile staged is poisoned: the tile alone, run over the state, meets it (R366, Table MEM-2). -/
def pairPoison (s : State) (t : Tile) : Option Nat :=
  match s.desc t.q t.n with
  | none => none
  | some d =>
    let seen := match NMap.get none d.stages t.t with
      | some x => x.mem
      | none => s.mem
    if seen.poisoned = [] then none
    else
      let others := (List.range d.tiles).filter (· ≠ t.t)
      let w := familyWork (d.opcode s.compat) (s.startWork t.q t.n d) { d with unwritten := others, undef := [] }
      if w.st = St.hbmUncorrectable then some w.det else none

/-- PAIR_COMPARE at run B's drain: equal signatures complete the tile, which is written; else, or where run B met a parity
failure in data that exists nowhere else, it mismatches (R109, R365, R366). -/
def pairCompare (s : State) (e : Nat) (a b : Signature) (parity : Option Parity) : State :=
  match (s.engine e).running with
  | none => s
  | some t =>
    if t.run ≠ 2 then s
    else
      let lost := match parity with
        | some (.dirty _) => true
        | _ => false
      let s := match parity with
        | some (.dirty detail) => (s.parityEvent e detail).loseCopy t detail
        | some (.clean detail) => s.parityRepair e detail
        | none => s
      match s.pairPoison t with
      | some g => ((s.poison g).mismatch e t).reachA1 e
      | none =>
        if lost || a ≠ b then (s.mismatch e t).reachA1 e
        else ((s.countDone e t).settleTicks e 0 t).endTile e

/-- The self-test after a mismatch ends: quarantine for cause 2, or the pair's one retry from run A (R366), at once where the
engine may begin the tile (R12), else from the engine's own steal queue. -/
def selftestDone (s : State) (e : Nat) (pass : Bool) : State :=
  match (s.engine e).selftest with
  | none => s
  | some t =>
    if !pass then s.quarantine e 2
    else
      let u := { t with run := 1 }
      let x := { s.engine e with selftest := none }
      let s := if 2 ≤ t.mism then s.setEngine e x
        else if s.mayRun e u then (s.setEngine e { x with running := some u }).stageTile e u
        else s.setEngine e { x with queue := insertTile x.queue u }
      s.endTile e

/-! ## Writes of the ranges 0x2310 to 0x2330 (R355) -/

/-- Rows of a window table, 16 B each. -/
def windowTableOk (b : List Byte) : Bool :=
  decide (b.length % 16 = 0 ∧ b.length ≤ 512) && (List.range (b.length / 16)).all fun i =>
    decide (100 ≤ field b (16 * i + 4) 4 ∧ field b (16 * i + 8) 2 ≠ 0 ∧ field b (16 * i + 10) 1 ≤ 7)

/-- The rows as they are kept: their reserved bytes are ignored and read zero (R8, Table SAF-4). -/
def windowRows (b : List Byte) : List Byte := b.mapIdx fun i x => if 11 ≤ i % 16 then 0 else x

/-- Writes of partition, window and tuning-frame entries. -/
def partitionWrite (s : State) (idx sub : Nat) (v : DVal) : WRes :=
  let busy := WRes.abort (Ab.refusal St.partitionBusy)
  match v with
  | .oct b =>
    if (List.range 8).any s.partActive then busy
    else if !windowTableOk b then .abort (if b.length % 16 = 0 ∧ b.length ≤ 512 then Ab.value else Ab.length)
    else .ok (s.setB idx sub (windowRows b))
  | .num n =>
    if idx < 0x2318 then
      let k := idx - 0x2310
      if sub = 9 then (if n = 1 then s.activate k else .ok (s.deactivateCmd k))
      else if s.partActive k then busy
      else if (sub = 2 ∨ sub = 3) ∧ n % 67108864 ≠ 0 then .abort Ab.value
      else if sub = 3 ∧ n = 0 then .abort Ab.low
      else .ok (s.set idx sub n)
    else if idx = 0x2320 then (if (List.range 8).any s.partActive then busy else
      let s := s.set idx sub n
      .ok { s with saf := { s.saf with frameStart := some s.lastBoundary } })
    else
      let k := idx - 0x2330
      if sub = 0x0C then s.calibrate k
      else if s.partActive k then busy
      else if sub = 3 ∧ 63 < n ∧ n ≠ 0xFF then .abort Ab.value
      else .ok (s.set idx sub n)

end State

/-! ## The commands -/

/-- MAJOR_FRAME_BOUNDARY (R358, R359). -/
def execMajorFrameBoundary (s : State) : Out := .next s.frameBoundary

/-- WINDOW_LEAD_START (R189). -/
def execWindowLeadStart (w : Nat) (s : State) : Out := .next (s.leadStart w)

/-- WINDOW_START (R359, R361). -/
def execWindowStart (w : Nat) (s : State) : Out := .next (s.windowBegin w)

/-- WINDOW_END (R190, R371). -/
def execWindowEnd (w : Nat) (s : State) : Out := .next (s.windowFinish w)

/-- PAIR_COMPARE (R365 to R367). -/
def execPairCompare (e : Nat) (a : Signature) (b : RunB) (s : State) : Out := .next (s.pairCompare e a b.sig b.parity)

/-- MISMATCH_SELFTEST_DONE (R14, R366). -/
def execMismatchSelftestDone (e : Nat) (pass : Bool) (s : State) : Out := .next (s.selftestDone e pass)

/-- TUNING_FRAME_START (R370). -/
def execTuningFrameStart (k : Nat) (s : State) : Out := .next (s.tuningStart k)

/-- TUNING_FRAME_LATEST (R371). -/
def execTuningFrameLatest (k : Nat) (s : State) : Out := .next (s.tuningLatest k)

/-- TUNING_FRAME_DONE (R371). -/
def execTuningFrameDone (k : Nat) (s : State) : Out := .next (s.tuningDone k)

/-- TILE_DEAL (R178, R218); a descriptor of a tuning frame stands on the frame's own list (R371). -/
def execTileDeal (q n : Nat) (s : State) : Out :=
  .next (if q < 262144 then s.deal q n else s.dealFrame (q - 262144) n)

end Sys2Proof.Machine
end

