-- ==== Sys2Proof/Machine/Drone.lean ====
section
/-! DEFINITION. The rotating self-tests (R373 to R376). -/

namespace Sys2Proof.Machine

open Sys2Proof

/-- The number under which a unit stands in the state. -/
def unitNo : TestUnit → Nat
  | .engine n => n
  | .serai => 16
  | .shader n => 32 + n
  | .pipe n => 96 + n
  | .lane n => 128 + n

/-- Slices of one pass over a unit (Table SAF-8). -/
def unitSlices : TestUnit → Nat
  | .engine _ => 28
  | .serai => 64
  | _ => 1

/-- The floor duration, in ns, of a unit's slice, the slices of an engine in the order of Table SAF-8. -/
def sliceNs : TestUnit → Nat → Nat
  | .engine _, i => if i = 0 then 25600 else if i < 25 then 10240 else 5120
  | .serai, _ => 10240
  | .lane _, _ => 10240
  | _, _ => 20480

/-- The unit is one that the module has. -/
def unitOk : TestUnit → Bool
  | .engine n => decide (n < 16)
  | .serai => true
  | .shader n => decide (n < 48)
  | .pipe n => decide (n < 4)
  | .lane n => decide (n < 16)

namespace State

def drone (s : State) (u : TestUnit) : DroneUnit := NMap.get {} s.saf.drone (unitNo u)

def setDrone (s : State) (u : TestUnit) (d : DroneUnit) : State :=
  { s with saf := { s.saf with drone := NMap.set {} s.saf.drone (unitNo u) d } }

def engineInService (s : State) : TestUnit → Bool
  | .engine n => s.engineOn n
  | _ => true

/-- The Drone tests the unit: neither off nor quarantined, in RUN, with DRONE_ENABLE set (R374, Table SAF-7). -/
def tested (s : State) (u : TestUnit) : Bool :=
  unitOk u && decide (s.get 0x2340 1 = 1 ∧ s.pwrState = 0) && !s.pwr.inReset && s.engineInService u

/-- The unit is idle (R373). -/
def unitIdle (s : State) : TestUnit → Bool
  | .engine n => (s.engine n).running.isNone && (s.engine n).selftest.isNone
  | .pipe n => (s.pipe n).pass.isNone
  | .lane n => !(s.pln.plans.any fun p => p.held.contains n)
  | _ => true

/-- A slice of a length ends, with the margin, by the next lead of a window: boundaries lie at FRAME_BASE_NS plus whole
major frames, and a lead lasts 5.12 µs and the saves at their rate (R373, R189, R359). -/
def fitsBefore (s : State) (ns : Nat) (r : Nat × Nat × Nat × Nat) : Bool :=
  let n := (maskEngines r.2.2.1).length
  let d := s.saveRate n
  let frame := 1000 * s.get 0x2320 1 * d
  let lead : Int := (s.get 0x2320 2 + 1000 * r.1) * d - (5120 * d + 1000 * saveBytes n)
  decide (((ns + 1000 * s.get 0x2340 3) * d : Int) ≤ (lead - s.now * d) % frame)

/-- A slice of the unit may start now (R373). -/
def sliceFits (s : State) (u : TestUnit) : Bool :=
  match u with
  | .engine n =>
    s.windowTable.all fun r =>
      !(r.2.2.1.testBit n && s.partActive r.2.2.2) || s.fitsBefore (sliceNs u (s.drone u).ran) r
  | _ => true

/-- The placement unit empties the region of the Serai that is tested: copies that no descriptor names, of which it is open
which lie in the region (Table SAF-8). -/
def emptyRegion (s : State) : State :=
  s.plc.serai.foldl (fun s p => match NMap.get none s.plc.serai p.1 with
    | none => s
    | some c =>
      if c.leaving || s.namedRoot p.1 then s else
      let f := s.fresh .choice
      if f.1 % 2 = 0 then f.2
      else
        let w : Work := { s := f.2, q := 0, n := 0, sl := c.slice, prio := 0, m := .placement c.slice }
        (w.evict p.1 c).s) s

/-- DRONE_SLICE_START. A slice is work: it ends IDLE (Table PWR-3). -/
def sliceStart (s : State) (u : TestUnit) : State :=
  let d := s.drone u
  if s.tested u && !d.running && s.unitIdle u && s.sliceFits u then
    let s := if u = .serai then s.emptyRegion else s
    (s.leaveIdle.setDrone u { d with running := true }).noteBusy
  else s

/-- Engines that could take a tile now in place of engine `e`. -/
def othersIdle (s : State) (e : Nat) (t : Tile) : Bool :=
  (List.range 16).any fun f => decide (f ≠ e) && s.mayRun f t && (s.engine f).running.isNone
    && (s.engine f).selftest.isNone && !s.droneHolds f

/-- Tiles that wait, unstarted or saved. -/
def allWaiting (s : State) : List Tile :=
  ((List.range 16).flatMap fun e => (s.engine e).queue) ++ s.plc.slots.filterMap (·.2)

/-- Work of an active partition waits that the unit alone can take now (R374). -/
def partitionWaits (s : State) : TestUnit → Bool
  | .engine e => s.allWaiting.any fun t => (s.tilePart t).isSome && s.mayRun e t && !s.othersIdle e t
  | .pipe r => match s.nextPass with
    | some p => (s.activePartOf p.slice).isSome
        && !((List.range 4).any fun i => decide (i ≠ r) && (s.pipe i).pass.isNone && !s.droneHolds (96 + i))
    | none => false
  | .lane _ => match s.nextPlan with
    | some p => (s.activePartOf p.slice).isSome && decide (s.lanesFree.length < p.lanes)
    | none => false
  | _ => false

/-- A lead on the engine has begun and its window has not started. -/
def leadBegun (s : State) : TestUnit → Bool
  | .engine e => match s.windowOf e with
    | some w => decide ((s.winState w).phase = .lead)
    | none => false
  | _ => false

/-- The unit takes its next work. -/
def unitTakes (s : State) : TestUnit → State
  | .engine e => s.serveWork e
  | .pipe r => s.pipeTake r
  | .lane _ => s.planGrant
  | _ => s

/-- DRONE_CHECKPOINT: the slice is abandoned, and runs again from its start later, for partition work or a lead. -/
def checkpoint (s : State) (u : TestUnit) : State :=
  let d := s.drone u
  if d.running && (s.leadBegun u || s.partitionWaits u) then
    ((s.setDrone u { d with running := false }).bump32 0x2340 5).unitTakes u
  else s

/-- A pass ends: counted, its interval kept if it is the longest, and told to the Rearguard (R375, R383). -/
def passDone (s : State) (u : TestUnit) : State :=
  let d := s.drone u
  let us := min ((s.now - d.since) / 1000) 4294967295
  let s := (s.setDrone u { since := s.now }).bump 0x2340 4
  let s := s.set 0x2340 6 (max us (s.get 0x2340 6))
  if d.failed ∨ d.since < s.rg.qualFrom ∨ s.rg.state = 0 ∨ s.rg.state = 5 then s
  else { s with rg := { s.rg with passed := unitNo u :: s.rg.passed.filter (· ≠ unitNo u) } }

/-- DRONE_SLICE_DONE: a failed slice counts as run (R376). -/
def sliceDone (s : State) (u : TestUnit) (pass : Bool) : State :=
  let d := s.drone u
  if !d.running then s
  else
    let s := s.setDrone u { d with running := false, ran := d.ran + 1, failed := d.failed || !pass }
    let where_ := leBytes 2 (unitNo u) ++ leBytes 1 d.ran
    let e := if unitNo u < 16 then unitNo u else 0xFF
    let s := if pass then s
      else (s.safetyRecord St.selftestFailed 0x0F 0xFF where_ 0xFF e).doubt St.selftestFailed 0xFF e where_
    (if unitSlices u ≤ d.ran + 1 then s.passDone u else s).unitTakes u

/-- DRONE_INTERVAL_EXCEEDED: once per pass above the interval, once per pass above twice the interval. -/
def intervalExceeded (s : State) (u : TestUnit) : State :=
  let d := s.drone u
  let lim := 1000000 * s.get 0x2340 2
  let e := if unitNo u < 16 then unitNo u else 0xFF
  if !s.tested u then s
  else
    let s := if d.since + lim < s.now ∧ !d.exceeded then
        (s.setDrone u { d with exceeded := true }).safetyRecord St.latentWindowExceeded 0x0F 0xFF (leBytes 2 (unitNo u)) 0xFF e
      else s
    if d.since + 2 * lim < s.now ∧ !d.doubled then
      (s.setDrone u { s.drone u with doubled := true }).doubt St.latentWindowExceeded 0xFF e (leBytes 2 (unitNo u))
    else s

/-- DRONE_CLAIM: half the interval has passed. -/
def claim (s : State) (u : TestUnit) : State :=
  let d := s.drone u
  if s.tested u && decide (d.since + 500000 * s.get 0x2340 2 ≤ s.now) then s.setDrone u { d with claimed := true } else s

/-- A write of DRONE_ENABLE (Table SAF-7): 0 stops tests and intervals, 1 starts them afresh. -/
def writeDroneEnable (s : State) (v : Nat) : WRes :=
  if v = 0 ∧ (List.range 8).any (fun k => s.partActive k && decide (2 ≤ s.get (0x2310 + k) 6)) then
    .abort (Ab.refusal St.partitionBusy)
  else if v = s.get 0x2340 1 then .ok s
  else .ok ((testUnits.foldl droneEnter (s.set 0x2340 1 v)).allTakeWork.allPipesTake)

end State

/-! ## The commands -/

/-- DRONE_SLICE_START (R373). -/
def execDroneSliceStart (u : TestUnit) (s : State) : Out := .next (s.sliceStart u)

/-- DRONE_CHECKPOINT (R374). -/
def execDroneCheckpoint (u : TestUnit) (s : State) : Out := .next (s.checkpoint u)

/-- DRONE_SLICE_DONE (R375, R376). -/
def execDroneSliceDone (u : TestUnit) (pass : Bool) (s : State) : Out := .next (s.sliceDone u pass)

/-- DRONE_INTERVAL_EXCEEDED (R375). -/
def execDroneIntervalExceeded (u : TestUnit) (s : State) : Out := .next (s.intervalExceeded u)

/-- DRONE_CLAIM (R373). -/
def execDroneClaim (u : TestUnit) (s : State) : Out := .next (s.claim u)

end Sys2Proof.Machine
end

