-- ==== Sys2Proof/Machine/Gateway.lean ====
section
/-! DEFINITION. CAN and LIN channels, routes, ACF streams and the route fence (15_vehicle_gateway.md). -/

namespace Sys2Proof.Machine

open Sys2Proof

/-! ## Frames -/

/-- The format and identifier word that MATCH_ID compares (Table GTW-8). -/
def matchWord (f : BusFrame) : Nat :=
  (if f.ide then 2 ^ 31 else 0) + (if f.xl then 2 ^ 30 else 0) + (if f.fd then 2 ^ 29 else 0) + f.id % 2 ^ 29

/-- The order in which identifiers win arbitration: eleven base bits, then a standard frame before an extended one. -/
def arbKey (f : BusFrame) : Nat :=
  if f.ide then f.id / 2 ^ 18 * 2 ^ 19 + 2 ^ 18 + f.id % 2 ^ 18 else f.id * 2 ^ 19

/-- Same identifier and format. -/
def sameKind (f g : BusFrame) : Bool := decide (matchWord f = matchWord g)

/-- `f` in the place of the first frame that a test names. -/
def replaceFirst (p : BusFrame → Bool) (f : BusFrame) : List BusFrame → List BusFrame
  | [] => []
  | g :: gs => if p g then f :: gs else g :: replaceFirst p f gs

/-- The most data a CAN frame of a format carries. -/
def formatLimit (f : BusFrame) : Nat := if f.xl then 2048 else if f.fd then 64 else 8

/-- The data lengths of CAN FD above 8 B. -/
def fdLengths : List Nat := [12, 16, 20, 24, 32, 48, 64]

/-- FD data brought to a length that a DLC names; the value of the pad bytes is not stated. -/
def fdPad (d : List Byte) : List Byte :=
  if d.length ≤ 8 then d
  else d ++ (List.range ((fdLengths.find? (d.length ≤ ·)).getD 64 - d.length)).map
    fun i => BitVec.ofNat 8 (Config.fn 0x700 [d.length, i])

namespace State

/-! ## CAN channels -/

def can (s : State) (n : Nat) : CanChannel := NMap.get {} s.gtw.can n

def setCan (s : State) (n : Nat) (c : CanChannel) : State :=
  { s with gtw := { s.gtw with can := NMap.set {} s.gtw.can n c } }

/-- The fence holds a channel (R340). -/
def canFenced (s : State) (n : Nat) : Bool := s.rg.fence && decide (n < 2)

/-- CAN_STATE (Table GTW-3). -/
def canState (s : State) (n : Nat) : Nat := if s.canFenced n then 5 else (s.can n).st

/-- TEC_REC (Table GTW-3). -/
def tecRec (s : State) (n : Nat) : Nat := min 255 (s.can n).txErr * 256 + min 255 (s.can n).rxErr

/-- Counts frames dropped from a transmit buffer. -/
def txDropped (s : State) (n k : Nat) : State := s.bump (0x2B10 + n) 0x0D k

/-- A frame enters a channel's transmit buffer (R327): a replacing route takes the place of a queued frame, and a full
buffer gives up its highest identifier, or the new frame. -/
def canQueue (s : State) (n : Nat) (f : BusFrame) (replace : Bool) : State :=
  let c := s.can n
  if s.canFenced n then s.bump 0x2BB0 2
  else if c.st = 0 ∨ c.st = 3 ∨ c.st = 4 then s.txDropped n 1
  else if replace && c.tx.any (sameKind f) then
    s.setCan n { c with tx := replaceFirst (sameKind f) f c.tx }
  else if c.tx.length < 64 then s.setCan n { c with tx := c.tx ++ [f] }
  else
    let top := c.tx.foldl (fun a g => max a (arbKey g)) 0
    if arbKey f < top then
      let rev := c.tx.reverse.eraseP fun g => decide (arbKey g = top)
      (s.setCan n { c with tx := rev.reverse ++ [f] }).txDropped n 1
    else s.txDropped n 1

/-- Entry into bus-off (R328). -/
def busOff (s : State) (n : Nat) : State :=
  let c := s.can n
  let auto := decide (s.get (0x2B10 + n) 7 = 1 ∨ s.get 0x1E00 1 = n)
  ((s.setCan n { c with st := 3, tx := [], recovering := auto }).txDropped n c.tx.length).addRecord St.canBusOff 0x08 n

/-- A channel that takes part in traffic. -/
def canLive (s : State) (n : Nat) : Bool := decide (n < 16 ∧ ((s.can n).st = 1 ∨ (s.can n).st = 2))

/-- The frame that wins arbitration: the lowest identifier, the oldest among equals. -/
def canWinner (s : State) (n : Nat) : Option BusFrame :=
  let tx := (s.can n).tx
  tx.find? fun f => tx.all fun g => decide (arbKey f ≤ arbKey g)

/-- A transmission ends (R327). -/
def canSent (s : State) (n : Nat) (good : Bool) : State :=
  if !s.canLive n ∨ s.get (0x2B10 + n) 1 ≠ 1 ∨ s.canFenced n then s else
  match s.canWinner n with
  | none => s
  | some f =>
    let c := s.can n
    if good then
      let t := c.txErr - 1
      ((s.setCan n { c with tx := c.tx.erase f, txErr := t, st := if t < 128 ∧ c.rxErr < 128 then 1 else 2 }).bump
        (0x2B10 + n) 0x0C).emit (.bus n f)
    else
      let t := c.txErr + 8
      let s := s.setCan n { c with txErr := t, st := if 127 < t then 2 else c.st }
      if 255 < t then s.busOff n else s

/-- A fault of a channel's transceiver or wiring (R329). -/
def canFault (s : State) (n status : Nat) (detail : List Byte) : State :=
  if s.canLive n then (s.setCan n { s.can n with st := 4 }).addRecord status 0x08 n detail else s

/-- A bus-off channel returns to error active. -/
def canRecovered (s : State) (n : Nat) : State :=
  let c := s.can n
  if c.st = 3 ∧ c.recovering then s.setCan n { c with st := 1, recovering := false, txErr := 0, rxErr := 0 } else s

/-- CAN_CMD. -/
def canCmd (s : State) (n v : Nat) : State :=
  let c := s.can n
  if v = 1 then (if c.st = 3 then s.setCan n { c with recovering := true } else s)
  else (s.setCan n { c with tx := [] }).txDropped n c.tx.length

/-- Starting, stopping and changing the mode of a channel. Every rate pair of Table GTW-2 has a timing of 8 to 80 quanta
of the 80 MHz clock, save those of the other frame family (R326). -/
def canMode (s : State) (n v : Nat) : WRes :=
  let data := s.get (0x2B10 + n) 3
  let xl := s.get (0x2B10 + n) 6 = 1
  let c := s.can n
  if v ≠ 0 ∧ ((xl ∧ !(([2000, 5000, 10000] : List Nat).contains data)) ∨ (!xl ∧ data = 10000)) then .abort Ab.value
  else if v = 0 then .ok ((s.setCan n {}).txDropped n c.tx.length |>.set (0x2B10 + n) 1 0)
  else
    let s := s.set (0x2B10 + n) 1 v
    .ok (if c.st = 0 then s.setCan n { c with st := 1 } else s)

/-- Writes of a channel's entries (R326, R341). -/
def canWrite (s : State) (n sub v : Nat) : WRes :=
  let busy := decide ((2 ≤ sub ∧ sub ≤ 6) ∨ (0x10 ≤ sub ∧ sub ≤ 0x15))
  if n < 12 ∧ ((sub = 6 ∧ v = 1) ∨ (sub = 3 ∧ v = 10000)) then .abort Ab.value
  else if s.canFenced n then .abort (Ab.refusal St.gtwFenced)
  else if busy && decide (s.get (0x2B10 + n) 1 ≠ 0) then .abort (Ab.refusal St.gtwPortBusy)
  else if sub = 1 then s.canMode n v
  else if sub = 8 then .ok (s.canCmd n v)
  else .ok (s.set (0x2B10 + n) sub v)

/-! ## LIN channels (R330) -/

def lin (s : State) (n : Nat) : LinChannel := NMap.get {} s.gtw.lin n

def setLin (s : State) (n : Nat) (c : LinChannel) : State :=
  { s with gtw := { s.gtw with lin := NMap.set {} s.gtw.lin n c } }

def linState (s : State) (n : Nat) : Nat := s.get (0x2B30 + n) 6

/-- The length of a published frame ID, none where it is not published. -/
def linLength (s : State) (n id : Nat) : Option Nat :=
  ((records 2 (s.getB (0x2B30 + n) 4)).find? fun r => decide (field r 0 1 % 64 = id)).map fun r => field r 1 1

/-- A frame of a LIN channel. -/
def linFrame (id : Nat) (d : List Byte) : BusFrame :=
  { ide := false, fd := false, brs := false, xl := false, rtr := false, id := id, data := d }

/-- Answers a header of a published frame with the latest data routed to it. -/
def linAnswer (s : State) (n id : Nat) : State :=
  match s.linLength n id, NMap.get none (s.lin n).slots id with
  | some _, some d => s.emit (.bus (0x20 + n) (linFrame id d))
  | _, _ => s

/-- A schedule slot falls due: the header goes out, with the response where this module publishes it. -/
def linSlot (s : State) (n : Nat) : State :=
  let slots := records 4 (s.getB (0x2B30 + n) 3)
  let c := s.lin n
  match slots[c.pos % slots.length]? with
  | none => s
  | some r =>
    if s.get (0x2B30 + n) 1 = 1 ∧ s.linState n = 1 then
      let id := field r 0 1 % 64
      ((s.setLin n { c with pos := (c.pos + 1) % slots.length }).emit (.linHeader n id)).linAnswer n id
    else s

/-- The go-to-sleep frame of ISO 17987 (PRESUMED: the frame of ID 0x3C with 0x00 and seven bytes 0xFF). -/
def goToSleep : BusFrame := linFrame 0x3C (0 :: List.replicate 7 0xFF)

/-- LIN_CMD. -/
def linCmd (s : State) (n v : Nat) : State :=
  let st := s.linState n
  if v = 1 then
    if s.get (0x2B30 + n) 1 = 1 ∧ st = 1 then ((s.emit (.linHeader n 0x3C)).emit (.bus (0x20 + n) goToSleep)).set (0x2B30 + n) 6 2
    else s
  else if st = 1 ∨ st = 2 then (s.emit (.linWake n)).set (0x2B30 + n) 6 1
  else s

def linScheduleOk (b : List Byte) : Bool :=
  decide (b.length % 4 = 0 ∧ b.length ≤ 256)
    && (records 4 b).all fun r => decide (1 ≤ field r 1 1 ∧ field r 1 1 ≤ 8 ∧ 1 ≤ field r 2 2 ∧ field r 2 2 ≤ 1000)

def linPublishOk (b : List Byte) : Bool :=
  decide (b.length % 2 = 0 ∧ b.length ≤ 128) && (records 2 b).all fun r => decide (1 ≤ field r 1 1 ∧ field r 1 1 ≤ 8)

/-- Writes of a channel's entries (Table GTW-4). -/
def linWrite (s : State) (n sub : Nat) (v : DVal) : WRes :=
  let idx := 0x2B30 + n
  let busy := s.get idx 1 ≠ 0
  match v with
  | .oct b =>
    if busy then .abort (Ab.refusal St.gtwPortBusy)
    else if (if sub = 3 then linScheduleOk b else linPublishOk b) then .ok (s.setB idx sub b)
    else .abort Ab.value
  | .num k =>
    if sub = 5 then .ok (s.linCmd n k)
    else if sub = 2 then if busy then .abort (Ab.refusal St.gtwPortBusy) else .ok (s.set idx 2 k)
    else .ok (((s.set idx 1 k).setLin n {}).set idx 6 (if k = 0 then 0 else 1))

/-! ## ACF streams (R337, R338) -/

/-- The record of a stream. -/
def stream (s : State) (k : Nat) : List Byte := slice (s.getB 0x4100 1) (32 * k) 32

def streamId (s : State) (k : Nat) : Nat := field (s.stream k) 0 8

/-- The stream is a transmit record. -/
def transmits (s : State) (k : Nat) : Bool := decide (s.streamId k ≠ 0 ∧ field (s.stream k) 16 1 = 0)

/-- An ACF message as IEEE 1722-2016 lays it out (PRESUMED): type and length in quadlets, pad and flags, timestamp,
identifier, data. -/
def acfBytes (m : AcfMsg) : List Byte :=
  let d := m.frame.data
  let pad := (4 - d.length % 4) % 4
  let b := fun (c : Bool) (k : Nat) => if c then 2 ^ k else 0
  let zeros := List.replicate pad (0 : Byte)
  let q := (if m.acfType = 3 then 3 else 4) + (d.length + pad) / 4
  let head := beBytes 2 (m.acfType * 512 + q)
  if m.acfType = 3 then
    head ++ beBytes 1 (pad * 64 + b m.mtv 5 + m.bus % 32) ++ beBytes 1 (m.frame.id % 64) ++ beBytes 8 m.timestamp ++ d ++ zeros
  else
    let flags := pad * 64 + b m.mtv 5 + b m.frame.rtr 4 + b m.frame.ide 3 + b m.frame.brs 2 + b m.frame.fd 1
    head ++ beBytes 1 flags ++ beBytes 1 (m.bus % 32) ++ beBytes 8 m.timestamp ++ beBytes 4 (m.frame.id % 2 ^ 29) ++ d ++ zeros

/-- Sends the open AVTPDU of a stream through P21 (R337). -/
def sendAvtpdu (s : State) (k : Nat) : State :=
  let msgs := NMap.get [] s.gtw.building k
  if msgs = [] then s else
  let seq := NMap.get 0 s.gtw.seqTx k
  let r := s.stream k
  let body := msgs.flatMap acfBytes
  let pdu := [0x82] ++ beBytes 2 (0x8000 + body.length % 2048) ++ beBytes 1 seq ++ beBytes 8 (s.streamId k) ++ body
  let f : EthFrame := { dstMac := beNat (slice r 8 6), srcMac := Config.engineMac, vlan := some (field r 14 2 % 4096),
                        pcp := field r 14 2 / 8192, etherType := 0x22F0, len := pdu.length + 22, payload := pdu }
  let g := s.gtw
  let s := { s with gtw := { g with
    building := NMap.set [] g.building k [], opened := NMap.set 0 g.opened k 0
    seqTx := NMap.set 0 g.seqTx k ((seq + 1) % 256) } }
  (s.emit (.avtpdu k seq msgs)).switchIngress 21 f

/-- Appends a message to the open AVTPDU of its stream, which is sent when full, or at once where MAX_WAIT_US is 0. -/
def appendAcf (s : State) (k : Nat) (m : AcfMsg) : State :=
  let msgs := NMap.get [] s.gtw.building k
  let g := s.gtw
  let s := { s with gtw := { g with
    building := NMap.set [] g.building k (msgs ++ [m])
    opened := if msgs = [] then NMap.set 0 g.opened k s.now else g.opened } }
  if field (s.stream k) 17 1 ≤ msgs.length + 1 ∨ field (s.stream k) 18 2 = 0 then s.sendAvtpdu k else s

/-! ## Routes (R335 to R337) -/

/-- Counts in ROUTE_DROPS. -/
def routeDrop (s : State) : State := s.bump 0x2B01 2

/-- A map route's copy as a CAN channel would carry it; none where the destination cannot carry it (R336). What a frame of
another format carries in the fields that only CAN XL has is a free function of it. -/
def mapCan (s : State) (r : List Byte) (n : Nat) (f : BusFrame) : Option BusFrame :=
  let fmt := field r 16 1
  let g := match fmt with
    | 0 => f
    | 1 => { f with fd := false, brs := false, xl := false, sdt := 0, vcid := 0, af := 0 }
    | 2 => { f with fd := true, brs := false, xl := false, sdt := 0, vcid := 0, af := 0 }
    | 3 => { f with fd := true, brs := true, xl := false, sdt := 0, vcid := 0, af := 0 }
    | _ => if f.xl then f else
        { f with fd := false, brs := false, xl := true, sdt := Config.fn 0x703 [0, matchWord f] % 256
                 vcid := Config.fn 0x703 [1, matchWord f] % 256, af := Config.fn 0x703 [2, matchWord f] % 2 ^ 32 }
  let dst := field r 12 4
  let g := if dst = 0xFFFFFFFF then g
    else { g with ide := dst.testBit 31, id := if dst.testBit 31 then dst % 2 ^ 29 else dst % 2 ^ 11 }
  let rate := s.get (0x2B10 + n) 3
  let lim := formatLimit g
  if (g.fd ∧ rate = 0) ∨ (g.xl ∧ (rate = 0 ∨ s.get (0x2B10 + n) 6 = 0)) ∨ (g.rtr ∧ (g.fd ∨ g.xl)) then none
  else if lim < g.data.length ∧ !(field r 3 1).testBit 2 then none
  else
    let d := g.data.take lim
    some { g with data := if g.fd then fdPad d else d }

/-- A map route to a LIN channel: the frame's data becomes the latest of its publish slot. -/
def mapLin (s : State) (r : List Byte) (n : Nat) (f : BusFrame) : State :=
  let fmt := field r 16 1
  let plain := !f.rtr && (decide (fmt = 1) || (decide (fmt = 0) && !f.fd && !f.xl))
  let id := (if field r 12 4 = 0xFFFFFFFF then f.id else field r 12 4) % 64
  if !plain then s.routeDrop
  else match s.linLength n id with
    | none => s
    | some len =>
      if len < f.data.length ∧ !(field r 3 1).testBit 2 then s.routeDrop
      else if s.get (0x2B30 + n) 1 = 0 then s
      else
        let d := f.data.take len
        let c := s.lin n
        s.setLin n { c with slots := NMap.set none c.slots id (some (d ++ List.replicate (len - d.length) 0xFF)) }

/-- A tunnel route (R337). -/
def tunnel (s : State) (k src : Nat) (lin : Bool) (f : BusFrame) : State :=
  if f.xl || !s.transmits k then s.routeDrop
  else s.appendAcf k { acfType := if lin then 3 else 1, bus := src, frame := f, mtv := !lin, timestamp := if lin then 0 else s.tb 0 }

/-- Applies entry `i` to a frame, unless it follows the entry's last frame too closely. -/
def applyRoute (s : State) (i : Nat) (r : List Byte) (src : Nat) (lin : Bool) (f : BusFrame) : State :=
  let gap := field r 18 2
  let close : Bool := match NMap.get none s.gtw.lastPass i with
    | none => false
    | some t => decide (s.now < t + 1000 * gap)
  if gap ≠ 0 ∧ close = true then s else
  let s := if gap = 0 then s else { s with gtw := { s.gtw with lastPass := NMap.set none s.gtw.lastPass i (some s.now) } }
  let dst := field r 2 1
  if field r 0 1 = 2 then s.tunnel (dst % 64) src lin f
  else if dst < 16 then
    match s.mapCan r dst f with
    | none => s.routeDrop
    | some g => s.canQueue dst g ((field r 3 1).testBit 1)
  else s.mapLin r (dst % 8) f

/-- The entry matches a frame. -/
def routeMatches (r : List Byte) (src : Nat) (f : BusFrame) : Bool :=
  let m := field r 8 4
  decide (field r 0 1 ≠ 0 ∧ field r 1 1 = src ∧ matchWord f &&& m = field r 4 4 &&& m)

/-- The entries that apply, in order: those that match up to the first without CONTINUE (R335). -/
def chain : List (Nat × List Byte) → List (Nat × List Byte)
  | [] => []
  | e :: es => if (field e.2 3 1).testBit 0 then e :: chain es else [e]

/-- Matches a frame against the active bank and delivers it; at most eight entries apply (R335). -/
def routeFrame (s : State) (src : Nat) (lin : Bool) (f : BusFrame) : State :=
  let bank := (records 32 (s.getB 0x4000 3)).mapIdx fun i r => (i, r)
  let es := chain (bank.filter fun e => routeMatches e.2 src f)
  let s := (es.take 8).foldl (fun s e => s.applyRoute e.1 e.2 src lin f) s
  if es.length ≤ 8 then s else s.bump 0x2B01 1 (es.length - 8)

/-- A frame that a CAN channel can take in: FD and XL frames need their rates. -/
def canTakes (s : State) (n : Nat) (f : BusFrame) : Bool :=
  let rate := s.get (0x2B10 + n) 3
  s.canLive n && (!f.fd || decide (rate ≠ 0)) && (!f.xl || decide (rate ≠ 0 ∧ s.get (0x2B10 + n) 6 = 1))

/-- A frame received on a bus (R335, R453, R330). -/
def busReceive (s : State) (port : Nat) (f : BusFrame) (reversed : Bool) : State :=
  if port < 16 then
    let s := if reversed ∧ s.get (0x2B10 + port) 1 ≠ 0 then s.harnessReversed 0x08 port 2 (2 * port + 1) else s
    if s.canTakes port f then (s.bump (0x2B10 + port) 0x0B).routeFrame port false f else s
  else if port < 24 then
    let n := port - 16
    if s.linState n ≠ 1 then s
    else if f.rtr then (if s.get (0x2B30 + n) 1 = 2 then s.linAnswer n (f.id % 64) else s)
    else
      let s := s.routeFrame port true f
      if s.get (0x2B30 + n) 1 = 2 ∧ f.id % 64 = 0x3C ∧ f.data = goToSleep.data then s.set (0x2B30 + n) 6 2 else s
  else s

/-- An AVTPDU for the frame engine (R338). -/
def avtpduReceive (s : State) (mac sid seq : Nat) (msgs : List AcfMsg) : State :=
  if mac ≠ Config.engineMac then s else
  match (List.range 64).find? fun k => decide (sid ≠ 0 ∧ s.streamId k = sid ∧ field (s.stream k) 16 1 = 1) with
  | none => s
  | some k =>
    let gap := match NMap.get none s.gtw.seqRx k with
      | none => false
      | some x => decide (seq % 256 ≠ (x + 1) % 256)
    let s := if gap then s.bump 0x2B01 3 else s
    let s := { s with gtw := { s.gtw with seqRx := NMap.set none s.gtw.seqRx k (some (seq % 256)) } }
    (msgs.filter fun m => decide (m.acfType = 1 ∨ m.acfType = 3)).foldl
      (fun s m => s.routeFrame (0x40 + k) (decide (m.acfType = 3)) m.frame) s

/-! ## Banks (R339) -/

def isBus (p : Nat) : Bool := decide (p < 0x18)
def isStream (p : Nat) : Bool := decide (0x40 ≤ p ∧ p < 0x80)

/-- An entry passes validation. -/
def routeOk (s : State) (r : List Byte) : Bool :=
  let kind := field r 0 1
  if kind = 0 then true
  else
    decide (kind ≤ 2 ∧ field r 3 1 < 8 ∧ field r 16 1 ≤ 4 ∧ field r 17 1 = 0 ∧ field r 20 12 = 0)
      && (isBus (field r 1 1) || isStream (field r 1 1))
      && (if kind = 1 then isBus (field r 2 1)
          else isStream (field r 2 1) && s.transmits (field r 2 1 - 0x40)
            && !((field r 4 4).testBit 30 && (field r 8 4).testBit 30))

/-- ROUTE_COMMIT: validates the shadow bank and swaps the banks, or names the lowest entry that fails. -/
def routeCommit (s : State) : WRes :=
  let shadow := s.getB 0x4000 1
  if (NMap.get none s.dic.pieced (entryKey 0 0x4000 1)).isSome then .abort Ab.locked
  else match ((records 32 shadow).mapIdx fun i r => (i, r)).find? fun e => !s.routeOk e.2 with
    | some e => .refuse (Ab.refusal St.gtwRouteInvalid) (s.set 0x4000 4 e.1)
    | none => .ok (({ s with gtw := { s.gtw with lastPass := [] } }.setB 0x4000 1 (s.getB 0x4000 3)).setB 0x4000 3 shadow)

/-- ACF_STREAMS: the fields of every record in use are within Table GTW-9. -/
def streamsOk (b : List Byte) : Bool := (records 32 b).all fun r => decide (field r 0 8 = 0
  ∨ (field r 16 1 ≤ 1 ∧ 1 ≤ field r 17 1 ∧ field r 17 1 ≤ 16 ∧ field r 18 2 ≤ 10000 ∧ field r 20 12 = 0))

/-! ## The route fence (R340 to R342) -/

/-- The fence falls on CAN0 and CAN1: what the main side has queued there is discarded. -/
def raiseFence (s : State) : State :=
  if s.rg.fence ∨ ¬ (1 ≤ s.rg.state ∧ s.rg.state ≤ 3) then s else
  let s := (s.setCan 0 { s.can 0 with tx := [] }).setCan 1 { s.can 1 with tx := [] }
  ({ s with rg := { s.rg with fence := true } }).set 0x2BB0 1 1

/-- The fence is released (R342). -/
def dropFence (s : State) : State := ({ s with rg := { s.rg with fence := false } }).set 0x2BB0 1 0

/-! ## Writes of the gateway's ranges -/

/-- Writes of 0x2B00-0x2BFF and 0x4000-0x46FF, but for GO_STATE. -/
def gatewayWrite (s : State) (idx sub : Nat) (v : DVal) : WRes :=
  match v with
  | .num n =>
    if 0x4000 ≤ idx then s.routeCommit
    else if idx < 0x2B30 then s.canWrite (idx - 0x2B10) sub n
    else if idx < 0x2B40 then s.linWrite (idx - 0x2B30) sub v
    else if idx < 0x2B60 then s.ethWrite (idx - 0x2B40) sub n
    else if idx < 0x2BA0 then s.gclWrite idx sub v
    else if n % 10 ≠ 0 then .abort Ab.value
    else .ok (s.set idx sub n)
  | .oct b =>
    if idx = 0x4100 then if streamsOk b then .ok (s.setB idx sub b) else .abort Ab.value
    else if idx = 0x4000 then .ok (s.setB idx sub b)
    else if idx < 0x2B40 then s.linWrite (idx - 0x2B30) sub v
    else if idx < 0x2B62 then s.switchWrite sub b
    else s.gclWrite idx sub v

end State

/-! ## The commands -/

/-- CAN_FRAME_RX (R335, R336, R327, R330, R453). -/
def execCanFrameRx (port : Nat) (f : BusFrame) (reversed : Bool) (s : State) : Out := .next (s.busReceive port f reversed)

/-- CAN_FRAME_TX (R327, R328). -/
def execCanFrameTx (ch : Nat) (good : Bool) (s : State) : Out := .next (s.canSent ch good)

/-- CAN_BUS_OFF (R328). -/
def execCanBusOff (ch : Nat) (s : State) : Out := .next (if s.canLive ch then s.busOff ch else s)

/-- BUSOFF_RECOVERY_DONE (R328). -/
def execBusoffRecoveryDone (ch : Nat) (s : State) : Out := .next (s.canRecovered ch)

/-- CAN_DOMINANT_TIMEOUT (R329). -/
def execCanDominantTimeout (ch : Nat) (s : State) : Out := .next (s.canFault ch St.canDominantTimeout [])

/-- CAN_BUS_FAULT (R329): cause 1 to 4 in the detail. -/
def execCanBusFault (ch cause : Nat) (s : State) : Out :=
  .next (if 1 ≤ cause ∧ cause ≤ 4 then s.canFault ch St.canBusFault (leBytes 1 cause) else s)

/-- CAN_FAULT_RETRY (R329). -/
def execCanFaultRetry (ch : Nat) (recessive : Bool) (s : State) : Out :=
  .next (if (s.can ch).st = 4 ∧ recessive then s.setCan ch { s.can ch with st := 1 } else s)

/-- LIN_SCHEDULE_SLOT (R330). -/
def execLinScheduleSlot (ch : Nat) (s : State) : Out := .next (s.linSlot ch)

/-- LIN_BUS_FAULT (R330). -/
def execLinBusFault (ch : Nat) (s : State) : Out :=
  .next (if ch < 8 ∧ (s.linState ch = 1 ∨ s.linState ch = 2) then
    (s.set (0x2B30 + ch) 6 3).addRecord St.linBusFault 0x09 ch else s)

/-- LIN_BUS_RECESSIVE (R330). -/
def execLinBusRecessive (ch : Nat) (s : State) : Out :=
  .next (if ch < 8 ∧ s.linState ch = 3 then s.set (0x2B30 + ch) 6 1 else s)

/-- AVTPDU_SEND (R337): MAX_WAIT_US has passed since the first message. -/
def execAvtpduSend (stream : Nat) (s : State) : Out :=
  .next (if NMap.get 0 s.gtw.opened stream + 1000 * field (s.stream stream) 18 2 ≤ s.now then s.sendAvtpdu stream else s)

/-- AVTPDU_RECEIVE (R338). -/
def execAvtpduReceive (mac sid seq : Nat) (msgs : List AcfMsg) (s : State) : Out := .next (s.avtpduReceive mac sid seq msgs)

/-- ROUTE_FENCE (R18, R340). -/
def execRouteFence (s : State) : Out := .next s.raiseFence

end Sys2Proof.Machine
end

