-- ==== Sys2Proof/Machine/Hardware.lean ====
section
/-! DEFINITION. Camera power, discrete outputs and the coolant circuit (21_module_hardware.md, R454 to R459). -/

namespace Sys2Proof.Machine

open Sys2Proof

/-! ## Discrete outputs (R455) -/

namespace State

/-- An output is driven on and not shut down. -/
def goOn (s : State) (n : Nat) : Bool := (s.get 0x2BA0 0x0C).testBit n && !(s.get 0x2BA0 0x0D).testBit n

/-- A write of GO_STATE: an output switched on anew leaves its overload and its open-load memory. -/
def goWrite (s : State) (v : Nat) : State :=
  let rising := (maskBits 4 v).filter fun n => !(s.get 0x2BA0 0x0C).testBit n
  let keep := (maskBits 4 (s.get 0x2BA0 0x0D)).filter fun n => !rising.contains n
  let s := (s.set 0x2BA0 0x0C v).set 0x2BA0 0x0D (keep.foldl (fun a n => a + 2 ^ n) 0)
  { s with hw := { s.hw with goOpen := s.hw.goOpen.filter fun n => !rising.contains n } }

def goOverload (s : State) (n : Nat) : State :=
  if s.goOn n then (s.set 0x2BA0 0x0D (s.get 0x2BA0 0x0D ||| 2 ^ n)).addRecord St.goOverload 0x18 (0x10 + n) else s

def goOpenLoad (s : State) (n : Nat) : State :=
  if s.goOn n && !s.hw.goOpen.contains n then
    ({ s with hw := { s.hw with goOpen := s.hw.goOpen ++ [n] } }).addRecord St.goOpenLoad 0x18 (0x10 + n)
  else s

/-! ## Camera power (R454) -/

/-- CAM0 and CAM1 belong to the Rearguard now. -/
def camsSeized (s : State) : Bool := decide (1 ≤ s.rg.state ∧ s.rg.state ≤ 3)

/-- CAM_POWER_ENABLE as it reads and acts. -/
def camEnable (s : State) : Nat := s.get 0x2160 1 ||| (if s.camsSeized then 3 else 0)

def camOn (s : State) (n : Nat) : Bool := decide (n < 12) && s.camEnable.testBit n

/-- CAM_POWER_STATE. -/
def camState (s : State) : Nat :=
  (List.range 12).foldl (fun a n => a + (if s.camOn n then NMap.get 0 s.hw.cam n else 3) * 4 ^ n) 0xFF000000

def setCam (s : State) (n v : Nat) : State := { s with hw := { s.hw with cam := NMap.set 0 s.hw.cam n v } }

/-- A write of CAM_POWER_ENABLE; the Rearguard's cameras ignore it. A camera switched off or on is no longer open or
tripped. -/
def camWrite (s : State) (v : Nat) : State :=
  let v := if s.camsSeized then v - v % 4 + s.get 0x2160 1 % 4 else v
  let old := s.camEnable
  let s := s.set 0x2160 1 v
  let s := ((List.range 12).filter fun n => old.testBit n != s.camEnable.testBit n).foldl (fun s n => s.setCam n 0) s
  { s with hw := { s.hw with receiving := s.hw.receiving.filter s.camOn } }

/-! ## Coolant (R457 to R459) -/

/-- A reading within −50 to +130 °C. -/
def inRange (t : Int) : Bool := decide (-5000 ≤ t ∧ t ≤ 13000)

/-- The forward resistance at a flow in 0.01 L/min, as a fraction of 10⁻⁵ °C/W (Table HWD-10). -/
def theta (f : Nat) : Nat × Nat :=
  if f < 300 then (14000 * 300, f)
  else if f < 400 then (14000 - 12 * (f - 300), 1)
  else if f < 500 then (12800 - 8 * (f - 400), 1)
  else if f < 600 then (12000 - 4 * (f - 500), 1)
  else if f < 800 then (11600 - 3 * (f - 600), 1)
  else (11000, 1)

/-- COOLANT_LIMIT_W for a coolant temperature in 0.01 °C, a flow and a direction. -/
def coolantLimit (tc : Int) (flow : Nat) (reversed : Bool) : Nat :=
  let t := theta (min 800 (max 50 flow))
  min 520 ((11500 - tc).toNat * 10000 * t.2 / (t.1 * (if reversed then 13 else 10)))

/-- FLOW_STATE's low flow bit. -/
def lowFlow (s : State) : Bool := (s.get 0x2150 4).testBit 1

/-- FLOW_STATE, from the direction and what is known. -/
def setFlowState (s : State) (low suspect : Bool) : State :=
  let unknown := suspect || !s.hw.dirKnown
  s.set 0x2150 4 ((if s.hw.dirReversed ∨ unknown then 1 else 0) + (if low then 2 else 0) + (if unknown then 4 else 0))

/-- The direction that a full window of samples shows (R458). -/
def coolDirection (s : State) (sum : Int) : State :=
  if 500 ≤ sum then { s with hw := { s.hw with dirKnown := true, dirReversed := false } }
  else if sum ≤ -500 then
    let entering := !(s.hw.dirKnown && s.hw.dirReversed)
    let s := { s with hw := { s.hw with dirKnown := true, dirReversed := true } }
    if entering then (s.addRecord St.coolantReversed 0x19 0xFF).bump 0x2150 6 else s
  else s

/-- The flow estimate of a full window whose samples have one sign, and low flow (R458). -/
def coolFlow (s : State) (sum : Int) (power : Nat) : State :=
  let est := min 65535 (power * 10000 / (624 * sum.natAbs))
  let s := s.set 0x2150 3 est
  if est < 250 ∧ !s.lowFlow then (s.setFlowState true false).addRecord St.coolantFlowLow 0x19 0xFF
  else s.setFlowState (s.lowFlow && decide (est ≤ 300)) false

/-- What the window of the last 5 s says. -/
def coolWindow (s : State) : State :=
  let w := s.hw.cool
  if w.length < 50 ∨ w.any (fun c => decide (c.power < 1500)) then s.setFlowState s.lowFlow false
  else
    let ds := w.map fun c => c.tb - c.ta
    let sum := ds.foldl (· + ·) 0
    let s := s.coolDirection sum
    if 500 ≤ sum.natAbs ∧ (ds.all (fun d => decide (0 < d)) ∨ ds.all (fun d => decide (d < 0))) then
      s.coolFlow sum (w.foldl (fun a c => a + c.power) 0)
    else s.setFlowState s.lowFlow false

/-- The present coolant limit (R459): Tc is the lower reading, the working sensor's, or with both suspect the higher; with
both failed the spec gives none. The direction and the flow are those of the preceding update (log 31). -/
def coolLimit (s : State) (ta tb : Int) (suspect : Bool) : State :=
  let a := inRange ta
  let b := inRange tb
  if !a && !b then
    let f := s.fresh .result
    f.2.set 0x2150 5 (f.1 % 521)
  else
    let tc := if !a then tb else if !b then ta else if suspect then max ta tb else min ta tb
    let unknown := suspect || !(a && b) || !s.hw.dirKnown
    s.set 0x2150 5 (coolantLimit tc (if unknown then 300 else s.get 0x2150 3) (unknown || s.hw.dirReversed))

/-- One sample of both sensors. -/
def coolant (s : State) (ta tb : Int) : State :=
  let ok := inRange ta && inRange tb
  let differ := if ok ∧ (500 < ta - tb ∨ 500 < tb - ta) then s.hw.differ + 1 else 0
  let suspect := decide (50 ≤ differ)
  let s := (s.set 0x2150 1 (if inRange ta then ofSigned 16 ta else 0x7FFF)).set 0x2150 2
    (if inRange tb then ofSigned 16 tb else 0x7FFF)
  let s := s.coolLimit ta tb suspect
  let said := s.hw.sensorSaid
  let s := if (suspect || !ok) && !said then
      s.addRecord St.coolantSensorFault 0x19 (if !inRange ta ∨ suspect then 0 else 1)
    else s
  let cool := if ok then ({ ta := ta, tb := tb, power := s.get 0x2111 3 } :: s.hw.cool).take 50 else []
  let s := { s with hw := { s.hw with cool := cool, differ := differ, sensorSaid := said || suspect || !ok } }
  if suspect || !ok then (s.set 0x2150 3 300).setFlowState s.lowFlow true else s.coolWindow

end State

/-! ## The commands -/

/-- GO_OVERLOAD (R455). -/
def execGoOverload (out : Nat) (s : State) : Out := .next (s.goOverload out)

/-- GO_OPEN_LOAD (R455). -/
def execGoOpenLoad (out : Nat) (s : State) : Out := .next (s.goOpenLoad out)

/-- CAMERA_OVERCURRENT (R454). -/
def execCameraOvercurrent (cam : Nat) (s : State) : Out :=
  .next (if s.camOn cam ∧ NMap.get 0 s.hw.cam cam ≠ 2 then
    (s.setCam cam 2).addRecord St.cameraPowerFault 0x17 cam (leBytes 1 2) else s)

/-- CAMERA_POWER_RETRY (R454). -/
def execCameraPowerRetry (cam : Nat) (s : State) : Out :=
  .next (if s.camOn cam ∧ NMap.get 0 s.hw.cam cam = 2 then s.setCam cam 0 else s)

/-- CAMERA_OPEN_LOAD (R454). -/
def execCameraOpenLoad (cam : Nat) (s : State) : Out :=
  .next (if s.camOn cam ∧ NMap.get 0 s.hw.cam cam = 0 then
    (s.setCam cam 1).addRecord St.cameraPowerFault 0x17 cam (leBytes 1 1) else s)

/-- COOLANT_SAMPLE (R457 to R459). -/
def execCoolantSample (ta tb : Int) (s : State) : Out := .next (s.coolant ta tb)

end Sys2Proof.Machine
end

