-- ==== Sys2Proof/Machine/Rearguard.lean ====
section
/-! DEFINITION. The heartbeat, the Rearguard's take-over and hand-back, and its log (R377 to R386). -/

namespace Sys2Proof.Machine

open Sys2Proof

namespace State

/-! ## Heartbeat (R378) -/

/-- The check is suspended: the cores are stopped in a power state, or RUN was reached less than HEARTBEAT_MS ago. -/
def beatHeld (s : State) : Bool := match s.saf.beatSuspended with
  | none => false
  | some 0 => true
  | some t => decide (s.now < t)

/-- No heartbeat within HEARTBEAT_MS. -/
def loseBeat (s : State) : State :=
  match s.saf.lastBeat with
  | none => s
  | some t =>
    if s.pwr.inReset ∨ s.beatHeld ∨ s.saf.beatLost ∨ s.now ≤ t + 1000000 * s.get 0x2350 7 then s
    else
      let s : State := { s with saf := { s.saf with beatLost := true }, rg := { s.rg with beatSince := none } }
      (s.safetyRecord St.heartbeatLost 0x0F 0xFF [] 0xFF 0xFF).doubt St.heartbeatLost

/-! ## Re-qualification (Table SAF-12, R383) -/

/-- A window of partition `k` keeps fewer engines than PART_MIN_ENGINES (R362). -/
def shortWindow (s : State) (k : Nat) : Bool :=
  s.windowTable.any fun r => decide (r.2.2.2 = k) &&
    decide (((maskEngines r.2.2.1).filter s.engineOn).length < s.get (0x2310 + k) 7)

/-- A condition of Table SAF-9 is present. -/
def doubtPresent (s : State) : Bool :=
  s.pwr.inReset || s.gov.halt || s.saf.beatLost
    || (match s.gov.subSince with
      | some t => decide (t + 1000000 < s.now)
      | none => false)
    || (s.saf.drone.any fun e => e.2.doubled)
    || (List.range 8).any fun k => decide (s.partState k = 2) && s.shortWindow k

/-- Heartbeats have been present for 1 s. -/
def beatPresent (s : State) : Bool := match s.rg.beatSince, s.saf.lastBeat with
  | some t, some l => !s.saf.beatLost && decide (t + 1000000000 ≤ s.now ∧ s.now ≤ l + 1000000 * s.get 0x2350 7)
  | _, _ => false

/-- Every unit in service has had a full pass. -/
def allPassed (s : State) : Bool :=
  testUnits.all fun u => s.rg.passed.contains u || (decide (u < 16) && !s.engineOn u)

/-- HANDBACK_FRAMES consecutive verified frames in every active partition with a tuning frame. -/
def framesVerified (s : State) : Bool :=
  (List.range 8).all fun k =>
    !s.partActive k || decide (s.get (0x2330 + k) 1 = 0) || decide (s.get 0x2350 6 ≤ NMap.get 0 s.rg.verified k)

/-- RQ_PROGRESS. -/
def rqProgress (s : State) : Nat :=
  s.beatPresent.toNat + 2 * s.allPassed.toNat + 4 * s.framesVerified.toNat + 8 * (!s.doubtPresent).toNat
    + 16 * (decide (s.rg.state = 2 ∨ s.rg.state = 3)).toNat

/-! ## Take-over (R379 to R382) -/

/-- Enters state 1 on a cause: counted and logged, bits 1 and 2 cleared, and the fence raised (R380, R386, R340). -/
def takeOver (s : State) (cause : Nat) : State :=
  let g := s.rg
  let slot := if g.loggedCount = 0 then 0 else (g.newest + 1) % 16
  let e : TakeoverLog := { cause := cause, rgTime := g.time, tb0 := s.tb 0,
                           detail := if cause = St.mainReset then leBytes 2 g.resetCause else [] }
  let g := { g with
    state := 1, cause := cause, takeovers := min (g.takeovers + 1) 4294967295, passed := [], verified := []
    qualFrom := s.now, lastFrame := none, newest := slot, log := NMap.set none g.log slot (some e)
    loggedCount := g.loggedCount + 1 }
  ({ s with rg := g }).raiseFence

/-- The Rearguard in state 0 acts on the signals it has, the first as the take-over's cause; in states 1 to 3 they are
further doubt events. -/
def actOnSignals (s : State) : State :=
  if s.rg.restarting ∨ s.rg.state = 5 then s
  else match s.rg.signals with
    | [] => s
    | c :: cs =>
      let s : State := { s with rg := { s.rg with signals := [] } }
      if s.rg.state = 0 then cs.foldl furtherDoubt (s.takeOver c) else (c :: cs).foldl furtherDoubt s

/-- REARGUARD_TAKEOVER: the signal with the cause is there. -/
def rearguardTakeover (s : State) (cause : Nat) : State :=
  if s.rg.state = 0 ∧ !s.rg.restarting ∧ s.rg.signals.head? = some cause then s.actOnSignals else s

/-- MAIN_RESET: raised once for a main-side reset that is not a controlled power-down. -/
def raiseMainReset (s : State) (cause : Nat) : State :=
  if !s.rg.resetSeen then s
  else
    let s : State := { s with rg := { s.rg with resetSeen := false, resetCause := cause } }
    s.rearguardDoubt St.mainReset

/-- REARGUARD_POWER_UP: the image, kind 3, is loaded and verified. From state 5 the Rearguard reaches state 0, with both
copies bad it stays there; after a lock-step reset it resumes the state it held (R379, R382, R406). -/
def rearguardStart (s : State) (copies : List (List Byte)) : State :=
  if s.rg.state ≠ 5 ∧ !s.rg.restarting then s
  else match s.verifyCopies 3 copies with
    | none => s.addRecord St.bootVerifyFailed 0x0E 0xFF (leBytes 1 3)
    | some v =>
      let s := s.setRunning 3 v
      let s := if s.rg.restarting then s.safetyRecord St.rgRestarted 0x10 0xFF [] 0xFF 0xFF else s
      let st := if s.rg.state = 5 then 0 else s.rg.state
      let s : State := { s with rg := { s.rg with state := st, restarting := false } }
      s.actOnSignals

/-- The bytes of the status frame (Table SAF-12). -/
def statusBytes (s : State) : List Byte :=
  leBytes 1 s.rg.state ++ leBytes 1 0 ++ leBytes 2 s.rg.cause ++ leBytes 1 s.rqProgress ++ leBytes 1 s.rg.counter ++ leBytes 2 0

/-- REARGUARD_STATUS_FRAME: every 100 ms of its own time while engaged; the identifier is the image's. With all five bits
set the Rearguard moves from state 2 to state 3 (R381, R383). -/
def statusFrame (s : State) : State :=
  let due : Bool := match s.rg.lastFrame with
    | none => true
    | some t => decide (t + 100000000 ≤ s.rg.time)
  if s.rg.state = 0 ∨ s.rg.state = 5 ∨ s.rg.restarting ∨ !due then s
  else
    let st := if s.rg.state = 2 ∧ s.rqProgress = 31 then 3 else s.rg.state
    let s : State := { s with rg := { s.rg with state := st } }
    let b := s.statusBytes
    let id := Config.fn 0x801 [] % 536870912
    let s := (s.emit (.rearguard 0 id b)).emit (.rearguard 1 id b)
    { s with rg := { s.rg with counter := (s.rg.counter + 1) % 256, lastFrame := some s.rg.time } }

/-! ## Hand-back (R384) -/

/-- A write of HANDBACK_CMD. The overlay goes at the next latch of DO0. -/
def handback (s : State) (v : Nat) : WRes :=
  if v ≠ 0x484B ∨ s.rg.state ≠ 3 ∨ s.rg.restarting then .abort (Ab.refusal St.handbackRefused)
  else
    let s := s.dropFence
    let g := s.rg
    let log := NMap.set none g.log g.newest ((NMap.get none g.log g.newest).map fun e => { e with handback := g.time })
    let s : State := { s with rg := { g with cameras := [], state := 0, lastFrame := none, log := log } }
    let s : State := { s with hw := { s.hw with receiving := s.hw.receiving.filter s.camOn } }
    .ok (s.safetyRecord St.handbackDone 0x10 0xFF [] 0xFF 0xFF)

/-- Writes of 0x2340, 0x2350 and 0x2351. -/
def safetyWrite (s : State) (idx sub n : Nat) : WRes :=
  if idx = 0x2340 ∧ sub = 1 then s.writeDroneEnable n
  else if idx = 0x2350 ∧ sub = 2 then s.handback n
  else if idx = 0x2350 ∧ sub = 3 then
    .ok ((s.safetyRecord St.takeoverForced 0x0F 0xFF [] 0xFF 0xFF).doubt St.takeoverForced)
  else .ok (s.set idx sub n)

/-- A camera's frame start packet: stamped on TB0, and from then the camera is receiving; CAM0 and CAM1 feed the
Rearguard while it is engaged (R380). -/
def cameraFrame (s : State) (cam : Nat) : State :=
  if !s.camOn cam then s
  else
    let h := s.hw
    let h := { h with receiving := cam :: h.receiving.filter (· ≠ cam), camTime := NMap.set 0 h.camTime cam (s.tb 0) }
    let s : State := { s with hw := h }
    if cam < 2 ∧ 1 ≤ s.rg.state ∧ s.rg.state ≤ 3 then
      { s with rg := { s.rg with cameras := cam :: s.rg.cameras.filter (· ≠ cam) } }
    else s

end State

/-! ## The commands -/

/-- HEARTBEAT (R378): firmware that runs writes it, while one of its cores at least is not halted (R408). -/
def execHeartbeat (s : State) : Out :=
  .next (if s.fwRunning && ((List.range 4).any fun i => !(s.hart (24 + i)).halted) then s.beat else s)

/-- HEARTBEAT_LOST (R378). -/
def execHeartbeatLost (s : State) : Out := .next s.loseBeat

/-- REARGUARD_TAKEOVER (R380). -/
def execRearguardTakeover (cause : Nat) (s : State) : Out := .next (s.rearguardTakeover cause)

/-- MAIN_RESET (R378). -/
def execMainReset (cause : Nat) (s : State) : Out := .next (s.raiseMainReset cause)

/-- REARGUARD_POWER_UP (R379). -/
def execRearguardPowerUp (copyA copyB : List Byte) (s : State) : Out := .next (s.rearguardStart [copyA, copyB])

/-- MANOEUVRE_COMPLETE (R381). -/
def execManoeuvreComplete (s : State) : Out :=
  .next (if s.rg.state = 1 ∧ !s.rg.restarting then { s with rg := { s.rg with state := 2 } } else s)

/-- REARGUARD_STATUS_FRAME (R381, R383). -/
def execRearguardStatusFrame (s : State) : Out := .next s.statusFrame

/-- LOCKSTEP_MISMATCH (R382): the Rearguard alone restarts; its REARGUARD_POWER_UP ends the restart. -/
def execLockstepMismatch (s : State) : Out :=
  .next (if s.rg.state = 5 then s else { s with rg := { s.rg with restarting := true } })

/-- CAMERA_FRAME_START (R379, R380, Table TIM-5). -/
def execCameraFrameStart (cam : Nat) (s : State) : Out := .next (s.cameraFrame cam)

end Sys2Proof.Machine
end

