-- ==== Sys2Proof/Machine/Rundown.lean ====
section
/-! DEFINITION. The end of a slice (R215). -/

namespace Sys2Proof.Machine

open Sys2Proof

namespace State

/-- Queues of a slice's blocks. -/
def sliceQueues (s : State) (k : Nat) : List Nat :=
  (s.que.queues.map (·.1)).filter fun q => decide (s.queueOwner q = some k)

/-- No accepted descriptor of the slice still waits for its completion or its record. -/
def ranDown (s : State) (k : Nat) : Bool :=
  (s.sliceQueues k).all fun q => (s.queue q).desc.all fun e => e.2.isNone

/-- Sequences closed and pools destroyed. -/
def dropKv (s : State) (k : Nat) : State :=
  let s := s.kv.seqs.foldl (fun s e => match e.2 with
    | some q => if q.pool / 16 = k then s.freeSeq e.1 q else s
    | none => s) s
  (List.range 16).foldl (fun s i => if s.poolActive (16 * k + i) then s.poolRemove (16 * k + i) else s) s

/-- The display's layers let go the slice's images. -/
def dropLayers (s : State) (k : Nat) : State :=
  let layers := s.dsp.layers.map fun e => (e.1, match e.2.shown with
    | some p => if s.queueSlice p.q = k then { e.2 with shown := none, mode := 0 } else e.2
    | none => e.2)
  { s with dsp := { s.dsp with layers := layers } }

/-- Tensors, views, kernels, shaders, lattices and coefficient sets are released. -/
def dropObjects (s : State) (k : Nat) : State :=
  let table := s.plc.table.map fun e => (e.1, e.2.map fun t => if t.slice = k then { t with released := true } else t)
  let mine := fun (n : Nat) (key : Nat) => decide (key / n = k)
  let coefs := s.acu.sets.filter fun e => !(mine 4 e.1)
  let s : State := { s with
    plc := { s.plc with table := table, kernels := s.plc.kernels.filter fun e => !(mine 4096 e.1) }
    gfx := { s.gfx with shaders := s.gfx.shaders.filter fun e => !(mine 4096 e.1) }
    pln := { s.pln with lattices := s.pln.lattices.filter fun e => !(mine 8 e.1) }
    acu := { s.acu with sets := coefs } }
  (s.reap).dropParams k

/-- The slice's entries return to their defaults, its instances of entries go (R24), and it is absent. -/
def dropSlice (s : State) (k : Nat) : State :=
  let s := (s.setSlice k {})
  { s with
    que := { s.que with queues := s.que.queues.filter fun e => decide (s.queueOwner e.1 ≠ some k) }
    dict := s.dict.filter fun e => decide (e.1 / 256 ≠ 0x2540 + k ∧ e.1 / 16777216 ≠ k + 1) }

/-- SLICE_RUNDOWN_DONE. -/
def rundown (s : State) (k : Nat) : State :=
  if 63 < k ∨ s.sliceState k ≠ 3 ∨ !s.ranDown k then s
  else (((s.dropKv k).dropLayers k).dropObjects k).dropSlice k

end State

/-- SLICE_RUNDOWN_DONE (R215). -/
def execSliceRundownDone (k : Nat) (s : State) : Out := .next (s.rundown k)

end Sys2Proof.Machine
end

