-- ==== Sys2Proof/Machine/Dictionary.lean ====
section
/-! DEFINITION. One access to the object dictionary: existence, domains, access type, lengths, pieces, ranges, and the
effect of the write (R21 to R24, R30, R33, R34, R37, R38, R399). -/

namespace Sys2Proof.Machine

open Sys2Proof

/-! ## Values and bytes (R21, R7) -/

/-- The bytes of a value. -/
def valBytes (e : EntryDef) : DVal → List Byte
  | .num n => leBytes e.ty.size n
  | .oct b => b

/-- The value that bytes spell. -/
def bytesVal (e : EntryDef) (b : List Byte) : DVal := if e.ty.size = 0 then .oct b else .num (leNat b)

/-- The abort of a number outside the entry's permitted values. -/
def rangeFail (e : EntryDef) (n : Nat) : Option Nat :=
  let v : Int := if e.ty.signed then toSigned (8 * e.ty.size) n else n
  let between := fun (lo hi : Int) => if v < lo then some Ab.low else if hi < v then some Ab.high else none
  if e.ty = .bool ∧ 1 < n then some Ab.value
  else match e.rng with
    | .any => none
    | .btw lo hi => between lo hi
    | .zeroOr lo hi => if n = 0 then none else between lo hi
    | .set vs => if vs.contains n then none else some Ab.value
    | .within lo hi => if lo ≤ n ∧ n ≤ hi then none else some Ab.value

namespace State

/-! ## Which entry an access reaches (R23, R24) -/

/-- The debug port reaches 0x2E01 always, anything else only in a session, and the rest of 0x2E00 only with the scope
DICT (R407, Table SEC-10, Table SEC-12). -/
def debugReaches (s : State) (idx : Nat) : Bool :=
  decide (idx = 0x2E01)
    || (decide (s.sec.scope ≠ 0) && (!(decide (0x2E00 ≤ idx ∧ idx < 0x2F00)) || s.sec.scope.testBit 4))

def domainAllows (s : State) (d : Dom) (mask idx : Nat) : Bool :=
  decide (mask &&& Dom.bit d ≠ 0) && (decide (d ≠ .debug) || s.debugReaches idx)

/-- The entry and its occurrence, or the abort: existence, then the domain, then the access type. Firmware that has lost its
tables serves 0x1000-0x20FF alone (R433). An entry instanced per slice is reached from the slice domain only; for a PASID that
no slice holds there is no instance, which is answered as an index that does not exist (DESIGN CHOICE, log 140). -/
def entryFor (s : State) (d : Dom) (idx sub : Nat) (write : Bool) : Except Nat (EntryDef × Nat) :=
  if s.fw.tablesLost ∧ ¬ (0x1000 ≤ idx ∧ idx ≤ 0x20FF) then .error Ab.noIndex
  else if !indexExists idx then .error Ab.noIndex
  else match lookupEntry idx sub with
    | none => .error Ab.noSub
    | some e =>
      if !s.domainAllows d (if write then e.writeMask else readMask idx) idx then .error Ab.domain
      else
        let at_ : Except Nat Nat := if e.instanced then match d with
            | .slice p => match s.sliceOf p with
              | some k => .ok (k + 1)
              | none => .error Ab.noIndex
            | _ => .error Ab.domain
          else .ok 0
        match at_ with
        | .error c => .error c
        | .ok i =>
          if write ∧ (e.acc = .con ∨ e.acc = .ro) then .error Ab.writeRo
          else if !write ∧ e.acc = .wo then .error Ab.readWo
          else .ok (e, i)

/-! ## Reads -/

/-- A record of the general ring. -/
def recordVal (r : Option ErrRec) (sub : Nat) : DVal :=
  match r with
  | none => if sub = 5 then .oct [] else .num 0
  | some r => match sub with
    | 1 => .num r.status
    | 2 => .num r.source
    | 3 => .num r.tb1
    | 4 => .num r.tb0
    | _ => .oct r.detail

/-- A record of the Rearguard's log (R386). -/
def logVal (r : Option TakeoverLog) (sub : Nat) : DVal :=
  match r with
  | none => if sub = 5 then .oct [] else .num 0
  | some r => match sub with
    | 1 => .num r.cause
    | 2 => .num r.rgTime
    | 3 => .num r.tb0
    | 4 => .num r.handback
    | _ => .oct r.detail

/-- Slots programmed in [3:0], revoked in [7:4]. -/
def keySlotsByte (s : State) : Nat :=
  (List.range 4).foldl (fun a n => match s.keySlot n with
    | some k => a + 2 ^ n + (if k.revoked then 2 ^ (n + 4) else 0)
    | none => a) 0

/-- Entries whose value the state holds elsewhere than in the table of values. -/
def computedVal (s : State) (idx sub : Nat) : Option DVal :=
  if 0x3001 ≤ idx ∧ idx ≤ 0x3400 then some (recordVal (NMap.get none s.dic.records (idx - 0x3001)) sub)
  else if 0x3401 ≤ idx ∧ idx ≤ 0x3440 then
    let r := NMap.get none s.saf.ring (idx - 0x3401)
    some (if sub = 6 then .num ((r.map (·.2.1)).getD 0xFF) else if sub = 7 then .num ((r.map (·.2.2)).getD 0xFF)
      else recordVal (r.map (·.1)) sub)
  else if idx = 0x3480 then some (.num (if s.rg.loggedCount = 0 then 0 else 0x3481 + s.rg.newest))
  else if 0x3481 ≤ idx ∧ idx ≤ 0x3490 then some (logVal (NMap.get none s.rg.log (idx - 0x3481)) sub)
  else match idx, sub with
    | 0x1001, 0 => some (.num s.anyUnacked.toNat)
    | 0x2003, 1 => some (.num s.sec.watermark)
    | 0x2003, 2 => some (.num (s.get 0x2D01 3))
    | 0x2120, 4 => some (.num s.deepest)
    | 0x2120, 5 => some (.num s.blockReason)
    | 0x2160, 1 => some (.num s.camEnable)
    | 0x2160, 2 => some (.num s.camState)
    | 0x2350, 1 => some (.num s.rg.state)
    | 0x2350, 4 => some (.num s.rg.cause)
    | 0x2350, 5 => some (.num s.rqProgress)
    | 0x2350, 8 => some (.num s.rg.takeovers)
    | 0x2601, 2 => some (.num s.engineStateWord)
    | 0x2601, 3 => some (.num s.quarantineWord)
    | 0x2BB0, 1 => some (.num s.rg.fence.toNat)
    | 0x2D01, 1 => some (.num s.sec.watermark)
    | 0x2D01, 2 => some (.num (s.sec.target.getD s.sec.watermark))
    | 0x2D01, 4 => some (.num s.sec.target.isSome.toNat)
    | 0x2D40, 2 => some (.num s.keySlotsByte)
    | 0x2D40, 5 => some (.oct ((List.range 5).flatMap fun k => leBytes 4 (NMap.get 0 s.sec.floors (k + 1))))
    | 0x2D40, 9 => some (.num s.sec.epoch)
    | 0x2E01, 1 => some (.oct s.sec.challenge)
    | 0x2E01, 4 => some (.num s.sec.scope)
    | 0x2E02, 2 => some (.num s.haltedWord)
    | _, _ =>
      if 0x2B10 ≤ idx ∧ idx < 0x2B20 ∧ sub = 9 then some (.num (s.canState (idx - 0x2B10)))
      else if 0x2B10 ≤ idx ∧ idx < 0x2B20 ∧ sub = 0x0A then some (.num (s.tecRec (idx - 0x2B10)))
      else none

/-- What an entry reads as. -/
def entryVal (s : State) (e : EntryDef) (idx sub inst : Nat) : DVal :=
  if e.acc = .con then e.dflt
  else match s.computedVal idx sub with
    | some v => v
    | none => s.val idx sub inst

/-- Bytes `off` to `off + len` of a DOMAIN; one of a given size reads zeros where nothing has been written. -/
def domainBytes (s : State) (d : Dom) (e : EntryDef) (idx sub inst off len : Nat) : List Byte :=
  if idx = 0x2510 then s.queueInfoRead d off len
  else if idx = 0x2D11 then (List.range (min len (24576 - off))).map fun i => s.granuleMapByte (off + i)
  else
    let b := valBytes e (s.entryVal e idx sub inst)
    let n := if e.size = 0 then min len (b.length - off) else min len (e.size - off)
    (List.range n).map fun i => b.getD (off + i) 0

/-- A read: the bytes, or the abort code (R22, R30). -/
def dictRead (s : State) (d : Dom) (idx sub off len : Nat) : Except Nat (List Byte) :=
  match s.entryFor d idx sub false with
  | .error c => .error c
  | .ok (e, i) =>
    if e.ty = .dom then .ok (s.domainBytes d e idx sub i off len)
    else if off ≠ 0 then .error Ab.length
    else
      let b := valBytes e (s.entryVal e idx sub i)
      if e.ty.size = 0 then .ok (b.take len)
      else if len < e.ty.size then .error Ab.length else .ok b

/-! ## The effect of a write -/

/-- Blocks that the write would stop (Table SEC-6). -/
def stops (s : State) (idx sub n : Nat) : List Nat :=
  let cleared := fun (w base : Nat) => ((List.range w).filter fun i => (s.get idx sub).testBit i && !n.testBit i).map (base + ·)
  if idx = 0x2130 then (if sub = 1 then cleared 3 16 else if sub = 2 then cleared 4 75 else cleared 1 79)
  else if idx = 0x2C01 ∧ sub = 1 then [75]
  else if sub ≠ 1 ∨ n ≠ 0 then []
  else if 0x2B40 ≤ idx ∧ idx < 0x2B54 then [55 + (idx - 0x2B40)]
  else if 0x2B30 ≤ idx ∧ idx < 0x2B38 then [47 + (idx - 0x2B30)]
  else if 0x2B10 ≤ idx ∧ idx < 0x2B20 then [31 + (idx - 0x2B10)]
  else if 0x2A18 ≤ idx ∧ idx < 0x2A20 then [23 + (idx - 0x2A18)]
  else if 0x2880 ≤ idx ∧ idx < 0x2884 then [19 + (idx - 0x2880)]
  else []

/-- Acknowledges a record and all older ones (R37). -/
def ackRecord (s : State) (n : Nat) : WRes :=
  let slot := n - 0x3001
  let newest := s.get 0x3000 2 - 0x3001
  let age := fun (k : Nat) => (newest + 1024 - k) % 1024
  if NMap.get none s.dic.records slot = none then .abort Ab.value
  else
    let rs := s.dic.records.map fun e => (e.1, e.2.map fun r => if age slot ≤ age e.1 then { r with acked := true } else r)
    .ok { s with dic := { s.dic with records := rs } }

/-- A write of COMPAT_MODE (R38, R441). -/
def writeCompat (s : State) (n : Nat) : WRes :=
  if s.get 0x2601 1 ≠ 0 ∨ (List.range 16).any fun e => decide ((s.engine e).state ≠ .off) then
    .abort (Ab.refusal St.enginesActive)
  else .ok (s.set 0x2002 1 n).clearCounters

/-- STORE_COMM and RESTORE_COMM (R25). -/
def commCmd (s : State) (idx : Nat) : WRes :=
  if idx = 0x1010 then
    let m := s.dict.filter fun e => decide (0x1000 ≤ e.1 / 256 ∧ e.1 / 256 < 0x2000)
    .ok { s with dic := { s.dic with ufsComm := some m } }
  else .ok { s with dic := { s.dic with restorePending := true } }

/-- What only a row's command brings with it: the cabling below the module, the outcome of a cable test, the harts in the
hart-stopped state. -/
structure Extra where
  tree : Option (List (Nat × Nat)) := none
  cable : Option Nat := none
  stopped : Option Nat := none
deriving DecidableEq, Repr

/-- The effect of a write of a value that the entry permits, chapter by chapter. -/
def applyWrite (s : State) (d : Dom) (x : Extra) (bwSum : Option Nat) (inst idx sub : Nat) (v : DVal) : WRes :=
  let n := match v with
    | .num n => n
    | .oct _ => 0
  if idx < 0x1100 then s.commCmd idx
  else if idx < 0x2000 then .ok (s.setVal idx sub v)
  else if idx = 0x2002 then s.writeCompat n
  else if idx < 0x2120 then s.governorWrite idx sub n
  else if idx < 0x2150 then
    let f := s.fresh .choice
    match x.stopped with
    | some m => s.powerWrite idx sub n m
    | none => if idx = 0x2130 then f.2.powerWrite idx sub n f.1 else s.powerWrite idx sub n 0
  else if idx < 0x2200 then .ok (s.camWrite n)
  else if idx < 0x2300 then s.timeWrite idx sub v
  else if idx < 0x2340 then s.partitionWrite idx sub v
  else if idx < 0x2400 then s.safetyWrite idx sub n
  else if idx < 0x2500 then s.bandwidthWrite idx sub n bwSum
  else if idx = 0x2501 then .ok (s.set idx sub n)
  else if idx = 0x2510 then match v with
    | .oct b => s.queueConfig d b
    | .num n => s.queueCmd d n
  else if idx < 0x2600 then s.sliceWrite d idx sub v
  else if idx < 0x2700 then s.placementWrite idx sub n
  else if idx < 0x2800 then s.poolWrite (inst - 1) idx sub n
  else if idx = 0x2800 then (if sub = 1 then s.writeParams (inst - 1) n else .ok (s.set idx sub n inst))
  else if idx < 0x2900 then s.displayWrite d idx sub n
  else if idx < 0x2A00 then s.lanesWrite sub n
  else if idx < 0x2B00 then s.acuWrite d idx sub n
  else if idx < 0x2C00 then
    if idx = 0x2BA0 ∧ sub = 0x0C then .ok (s.goWrite n)
    else match x.cable with
      | some r => if 0x2B40 ≤ idx ∧ idx < 0x2B54 ∧ sub = 6 then .ok (s.cableDiag (idx - 0x2B40) r) else s.gatewayWrite idx sub v
      | none => s.gatewayWrite idx sub v
  else if idx < 0x2D00 then match x.tree with
    | some t => if idx = 0x2C00 then s.topologyCmd t else s.linkWrite idx sub v
    | none => s.linkWrite idx sub v
  else if idx < 0x2E02 then s.securityWrite idx sub v
  else if idx = 0x2E02 then s.debugWrite sub n
  else if idx < 0x3000 then s.counterWrite idx sub n
  else if idx = 0x3000 then s.ackRecord n
  else if idx < 0x4700 then s.gatewayWrite idx sub v
  else .ok (s.set idx sub n)

/-- A write as a code (0 for success) and a state. -/
def settle (s : State) : WRes → Nat × State
  | .ok t => (0, t)
  | .abort c => (c, s)
  | .refuse c t => (c, t)

/-- The whole value of an entry is written: permitted values, secure holds, then the effect (R30, R36, R399). -/
def commit (s : State) (e : EntryDef) (a : Access) (x : Extra) (inst : Nat) (b : List Byte) : Nat × State :=
  match bytesVal e b with
  | .oct b => s.settle (s.applyWrite a.dom x a.bwSum inst a.idx a.sub (.oct b))
  | .num n => match rangeFail e n with
    | some c => (c, s)
    | none =>
      if a.dom ≠ .secure ∧ (s.stops a.idx a.sub n).any s.heldBlock then (Ab.refusal St.secureHold, s)
      else s.settle (s.applyWrite a.dom x a.bwSum inst a.idx a.sub (.num n))

/-! ## Pieces (R30) -/

def setPieced (s : State) (key : Nat) (p : Option Pieced) : State :=
  { s with dic := { s.dic with pieced := NMap.set none s.dic.pieced key p } }

def forget_ (s : State) (key : Nat) (p : Path) (src : Nat) : State :=
  { s with dic := { s.dic with abandoned := s.dic.abandoned.filter (· ≠ (key, p, src)) } }

/-- A piece of a DOMAIN. -/
def piece (s : State) (e : EntryDef) (a : Access) (x : Extra) (inst : Nat) : Nat × State :=
  let key := entryKey inst a.idx a.sub
  let open_ := NMap.get none s.dic.pieced key
  let gone := s.dic.abandoned.contains (key, a.path, a.src)
  let other : Bool := match open_ with
    | some p => decide (p.path ≠ a.path ∨ p.src ≠ a.src)
    | none => false
  let size := if e.size = 0 then 16777216 else e.size
  if other then (Ab.locked, s)
  else if e.whole then
    if a.off ≠ 0 ∨ a.data.length ≠ e.size then (Ab.length, s) else s.commit e a x inst a.data
  else if open_.isNone ∧ a.off ≠ 0 then
    if gone then (Ab.timeout, s.forget_ key a.path a.src) else (Ab.length, s)
  else
    let old := (open_.map (·.data)).getD []
    let s := if open_.isNone then s.forget_ key a.path a.src else s
    let b := old ++ a.data
    if a.off ≠ old.length ∨ size < b.length then (Ab.length, s.setPieced key none)
    else if (if e.size = 0 then a.more else decide (b.length < e.size)) then
      (0, s.setPieced key (some { path := a.path, src := a.src, data := b, last := s.now }))
    else (s.setPieced key none).commit e a x inst b

/-- The entries of the range 0x2C00 are the manager module's hypervisor's to write: on a worker an access of its own hypervisor
is not that (R20, R32). -/
def managerOnly (s : State) (d : Dom) (idx : Nat) : Bool :=
  decide (0x2C00 ≤ idx ∧ idx < 0x2D00 ∧ s.get 0x2C00 2 = 2 ∧ d = .hypervisor)

/-- One write access: the abort code, 0 for success, and the state (R22, R23, R30, R33). -/
def dictWrite (s : State) (a : Access) (x : Extra) : Nat × State :=
  match s.entryFor a.dom a.idx a.sub true with
  | .error c => (c, s)
  | .ok (e, i) =>
    if s.managerOnly a.dom a.idx && !a.mgr then (Ab.domain, s)
    else if e.ty = .dom then s.piece e a x i
    else if a.off ≠ 0 then (Ab.length, s)
    else if e.ty.size ≠ 0 ∧ a.data.length ≠ e.ty.size then (Ab.length, s)
    else if e.ty.size = 0 ∧ (255 < a.data.length ∨ (e.size ≠ 0 ∧ a.data.length ≠ e.size)) then (Ab.length, s)
    else s.commit e a x i a.data

/-- PIECED_TRANSFER_TIMEOUT: 1 s without a piece; the entry keeps its value. -/
def pieceLapse (s : State) (idx sub inst : Nat) : State :=
  let key := entryKey inst idx sub
  match NMap.get none s.dic.pieced key with
  | none => s
  | some p =>
    if s.now < p.last + 1000000000 then s
    else
      let s := s.setPieced key none
      { s with dic := { s.dic with abandoned := (key, p.path, p.src) :: s.dic.abandoned.filter (· ≠ (key, p.path, p.src)) } }

end State

/-- PIECED_TRANSFER_TIMEOUT (R30). -/
def execPiecedTransferTimeout (idx sub inst : Nat) (s : State) : Out := .next (s.pieceLapse idx sub inst)

end Sys2Proof.Machine
end

