-- ==== Sys2Proof/Machine/Paths.lean ====
section
/-! DEFINITION. The paths to the dictionary: windows, FMP, USDO and what is held while firmware does not run (R23, R26 to
R31, R33, R35). -/

namespace Sys2Proof.Machine

open Sys2Proof

/-- The domain that a window's space brings (R31). The BAR0 window is the manager's hypervisor's (R32). -/
def Space.dom : Space → Dom
  | .hyp => .hypervisor
  | .sec => .secure
  | .slice p => .slice p
  | .bar0 => .hypervisor

/-- The path on which the rows that name a domain come: each domain's window, FMP for network management. -/
def pathOf : Dom → Path
  | .secure => .window .sec
  | .hypervisor => .window .hyp
  | .slice p => .window (.slice p)
  | .network => .fmp
  | .debug => .jtag

/-- The path on which a held request waits. -/
def Held.path : Held → Path
  | .access a => a.path
  | .window w _ => .window w
  | .fmp _ => .fmp
  | .usdo _ => .usdo
  | .usdoAbort => .usdo
  | .answered p _ => p
  | .windowResult w _ _ _ => .window w
  | .forwarded _ _ _ => .fmp

namespace State

/-! ## Windows (R31) -/

def window (s : State) (w : Space) : Window := ((s.dic.windows.find? fun e => decide (e.1 = w)).map (·.2)).getD {}

def setWindow (s : State) (w : Space) (x : Window) : State :=
  { s with dic := { s.dic with windows := (w, x) :: s.dic.windows.filter fun e => decide (e.1 ≠ w) } }

/-- Bytes that software wrote while BUSY are undefined to the access. -/
def racedBytes (s : State) (x : Window) (len : Nat) : List Byte × State :=
  let r := (x.raced.filter fun i => decide (i < len)).foldl (fun (a : NMap Byte × State) i =>
    let f := a.2.fresh .data
    (NMap.set 0 a.1 i (BitVec.ofNat 8 f.1), f.2)) (x.buf, s)
  ((List.range len).map fun i => NMap.get 0 r.1 i, r.2)

/-- Bytes laid into a window's buffer from its start. -/
def fillBuffer (m : NMap Byte) (b : List Byte) : NMap Byte :=
  ((List.range b.length).zip b).foldl (fun m p => NMap.set 0 m p.1 p.2) m

/-- The result of a window's request is put in place: abort code, length and a read's bytes. -/
def windowResult (s : State) (w : Space) (code n : Nat) (data : List Byte) : State :=
  let x := s.window w
  s.setWindow w { x with buf := fillBuffer x.buf data, busy := false, raced := [], abort := code, length := n }

/-- Firmware performs a window's request: the buffer is read or written now, and the result is put in place. DW_OFFSET is taken
now too, which the spec says of the buffer only (DESIGN CHOICE, log 141). -/
def runWindow (s : State) (w : Space) (req : Nat) : State :=
  let x := s.window w
  let len := bits req 63 48
  let op := bits req 43 40
  let idx := bits req 31 16
  let sub := bits req 39 32
  if op ≠ 1 ∧ op ≠ 2 then s.windowResult w Ab.unsupported 0 []
  else if 65280 < len then s.windowResult w Ab.length 0 []
  else if op = 1 then match s.dictRead (Space.dom w) idx sub x.offset len with
    | .error c => s.windowResult w c 0 []
    | .ok b => s.windowResult w 0 b.length b
  else
    let d := s.racedBytes x len
    let a : Access := { path := .window w, dom := Space.dom w, write := true, idx := idx, sub := sub, off := x.offset,
                        data := d.1, more := (bits req 44 44 = 1), mgr := x.mgr || decide (w = .bar0) }
    let r := d.2.dictWrite a {}
    r.2.windowResult w r.1 0 []

/-! ## FMP (R27 to R29) -/

/-- TYPE_CODE of a reply: the entry's, free where there is none. -/
def typeCode (s : State) (r : FmpRec) : Nat × State :=
  match lookupEntry r.idx r.sub with
  | some e => (e.ty.code, s)
  | none =>
    let f := s.fresh .typeCode
    (f.1 % 65536, f.2)

def fmpAccess (src : Nat) (bwSum : Option Nat) (r : FmpRec) : Access :=
  { path := .fmp, dom := .network, src := src, write := true, idx := r.idx, sub := r.sub, off := r.off, data := r.data,
    more := r.more, bwSum := bwSum }

/-- The bytes of one reply record with its type code. -/
def fmpAnswer (s : State) (r : FmpRec) (len code : Nat) (data : List Byte) : List Byte × State :=
  let t := s.typeCode r
  (fmpReplyRecord r len t.1 code data, t.2)

/-- Executes READ or WRITE records one by one. -/
def fmpEach (s : State) (type src : Nat) (rs : List FmpRec) : List Byte × State :=
  rs.foldl (fun (a : List Byte × State) r =>
    let out := if type = 1 then match a.2.dictRead .network r.idx r.sub r.off r.len with
        | .ok b => a.2.fmpAnswer r b.length 0 b
        | .error c => a.2.fmpAnswer r 0 c []
      else
        let w := a.2.dictWrite (fmpAccess src none r) {}
        w.2.fmpAnswer r r.len w.1 []
    (a.1 ++ out.1, out.2)) ([], s)

/-- The sum of the bandwidth guarantees after all records of a set (R264). -/
def setSum (s : State) (rs : List FmpRec) : Nat :=
  (List.range 15).foldl (fun a c =>
    a + match (rs.filter fun r => decide (r.idx = 0x2410 + c ∧ r.sub = 1)).getLast? with
      | some r => leNat r.data
      | none => s.get (0x2410 + c) 1) 0

/-- Applies a set in record order: the state, and the first record that aborts with its code. -/
def fmpApply (s : State) (src sum : Nat) : Nat → List FmpRec → Option (Nat × Nat) × State
  | _, [] => (none, s)
  | i, r :: rs =>
    let w := s.dictWrite (fmpAccess src (some sum) r) {}
    if w.1 = 0 then fmpApply w.2 src sum (i + 1) rs else (some (i, w.1), w.2)

/-- A WRITE_SET: all or none (R29). -/
def fmpSet (s : State) (src : Nat) (rs : List FmpRec) : List Byte × State :=
  let r := s.fmpApply src (s.setSum rs) 0 rs
  let s := match r.1 with
    | none => r.2
    | some _ => s
  ((List.range rs.length).zip rs).foldl (fun (a : List Byte × State) p =>
    let code := match r.1 with
      | none => 0
      | some f => if p.1 = f.1 then f.2 else Ab.locked
    let out := a.2.fmpAnswer p.2 p.2.len code []
    (a.1 ++ out.1, out.2)) ([], s)

/-- The records of a request executed: the reply without its tag. -/
def fmpExecute (s : State) (src : Nat) (q : FmpReq) : List Byte × State :=
  let r := if q.type = 1 ∨ q.type = 2 then s.fmpEach q.type src q.recs
    else if q.type = 3 then s.fmpSet src q.recs
    else q.recs.foldl (fun (a : List Byte × State) r =>
      let out := a.2.fmpAnswer r 0 Ab.unsupported []
      (a.1 ++ out.1, out.2)) ([], s)
  (fmpReplyHead q ++ r.1, r.2)

/-- A datagram that R27 or R28 discards, or its request. -/
def fmpAccept (s : State) (d : Datagram) : Option FmpReq :=
  match fmpParse d.bytes with
  | none => none
  | some q =>
    let tagOk := match s.sec.fmpKey with
      | some k => decide (Crypto.cmac k q.body = q.tag)
      | none => false
    let old : Bool := match NMap.get none s.dic.fresh d.src with
      | some f => decide (q.fresh ≤ f)
      | none => false
    if d.port < 20 ∧ (s.get 0x1E10 1).testBit d.port then
      if q.tagged then (if tagOk && !old then some q else none)
      else if s.get 0x1E10 2 = 1 then none else some q
    else none

/-- Sends an accepted request on to its node; the reply is awaited under a small-read tag (R32, R239). -/
def fmpForward (s : State) (d : Datagram) (q : FmpReq) : State :=
  if !s.reaches q.target then s.fmpRefuse d q (Ab.refusal St.nodeUnreachable)
  else match s.freshTag 0 1024 (s.lnk.small.map (·.1)) with
    | (none, s) => s.fmpRefuse d q Ab.noBuffer
    | (some tag, s) =>
      let t : SmallTag := { what := .fmp d, node := q.target, time := s.now }
      let s : State := { s with lnk := { s.lnk with small := NMap.set none s.lnk.small tag (some t) } }
      (s.cacheReply { src := d.src, seq := q.seq, time := s.now, reply := [], waiting := true }).sendFrame { dst := q.target, src := 0, kind := kMessage, cls := 2, tag := tag, payload := d.bytes }

/-- Firmware of a worker serves a datagram that node 0 forwarded: its reply goes back under the frame's tag. -/
def runForwarded (s : State) (node tag : Nat) (b : List Byte) : State :=
  match fmpParse b with
  | none => s.bump 0x3000 4
  | some q =>
    let r := s.fmpExecute (4294967296 + node) q
    r.2.sendFrame { dst := node, src := 0, kind := kCompletion, cls := 2, tag := tag, payload := r.1 }

/-- Firmware serves a datagram. -/
def runFmp (s : State) (d : Datagram) : State :=
  match s.fmpAccept d with
  | none => s.bump 0x3000 4
  | some q =>
    let s : State := if q.tagged then { s with dic := { s.dic with fresh := NMap.set none s.dic.fresh d.src (some q.fresh) } } else s
    match s.dic.fmpCache.find? fun e => decide (e.src = d.src ∧ e.seq = q.seq ∧ s.now ≤ e.time + 1000000000) with
    | some e => if e.waiting then s else s.emit (.udp d.src d.srcPort e.reply)
    | none =>
      if q.target ≠ 0xFF ∧ q.target ≠ s.nodeId then s.fmpForward d q
      else
        let r := s.fmpExecute d.src q
        r.2.fmpReply d q r.1

/-! ## USDO (R26) -/

/-- The server receives and answers on its channel. -/
def usdoServes (s : State) : Bool :=
  let c := s.get 0x1E00 1
  decide (c < 16 ∧ s.get (0x2B10 + c) 1 = 1) && decide (s.canState c = 1 ∨ s.canState c = 2 ∨ s.canState c = 5)

def setUsdo (s : State) (u : Option UsdoSession) : State := { s with dic := { s.dic with usdo := u } }

def usdoAnswer (s : State) (code : Nat) (b : List Byte) : State := s.emit (.answer .usdo code b)

/-- The most data of one USDO frame (PRESUMED: 56 B, of a CAN FD frame of 64 B). -/
def usdoData : Nat := 56

/-- One whole download. -/
def usdoWrite (s : State) (idx sub : Nat) (data : List Byte) : State :=
  let r := s.dictWrite { path := .usdo, dom := .network, write := true, idx := idx, sub := sub, data := data } {}
  r.2.usdoAnswer r.1 []

/-- Firmware serves a request. -/
def runUsdo (s : State) (r : UsdoReq) : State :=
  match r with
  | .unsupported => s.usdoAnswer Ab.unsupported []
  | .download idx sub data => (s.setUsdo none).usdoWrite idx sub data
  | .downloadInit idx sub size =>
    (s.setUsdo (some { upload := false, idx := idx, sub := sub, size := size, data := [], last := s.now })).usdoAnswer 0 []
  | .downloadSegment d => match s.dic.usdo with
    | none => s.usdoAnswer Ab.unsupported []
    | some u =>
      let b := u.data ++ d
      if u.upload then s.usdoAnswer Ab.unsupported []
      else if u.size < b.length then (s.setUsdo none).usdoAnswer Ab.length []
      else if b.length = u.size then (s.setUsdo none).usdoWrite u.idx u.sub b
      else (s.setUsdo (some { u with data := b, last := s.now })).usdoAnswer 0 []
  | .upload idx sub =>
    let s := s.setUsdo none
    match s.dictRead .network idx sub 0 16777216 with
    | .error c => s.usdoAnswer c []
    | .ok b =>
      if b.length ≤ usdoData then s.usdoAnswer 0 b
      else (s.setUsdo (some { upload := true, idx := idx, sub := sub, size := b.length, data := b, last := s.now })).usdoAnswer 0 []
  | .uploadSegment => match s.dic.usdo with
    | none => s.usdoAnswer Ab.unsupported []
    | some u =>
      if !u.upload then s.usdoAnswer Ab.unsupported []
      else
        let rest := u.data.drop usdoData
        (s.setUsdo (if rest = [] then none else some { u with data := rest, last := s.now })).usdoAnswer 0 (u.data.take usdoData)

/-! ## Serving and holding (R33, R35) -/

/-- A dictionary access that a row names, performed and answered. -/
def runAccess (s : State) (a : Access) (x : Extra) : State :=
  if a.write then
    let r := s.dictWrite a x
    r.2.emit (.answer a.path r.1 [])
  else match s.dictRead a.dom a.idx a.sub a.off a.len with
    | .ok b => s.emit (.answer a.path 0 b)
    | .error c => s.emit (.answer a.path c [])

def heldOn (s : State) (p : Path) : Nat := (s.dic.held.filter fun h => decide (Held.path h = p)).length

/-- A request on a path: performed now, or held while firmware does not run and behind what the path already holds; USDO and
FMP hold 16 and drop more. A dictionary access ends the idle dwell, and IDLE (R409, R418). -/
def onPath (s : State) (h : Held) (run : State → State) : State :=
  let s := (s.setPwr { s.pwr with dwell := false, busyAt := s.now }).workArrives
  let p := Held.path h
  if s.pwr.inReset then s
  else if s.fwRunning ∧ s.heldOn p = 0 then run s
  else if (p = .usdo ∨ p = .fmp) ∧ 16 ≤ s.heldOn p then s
  else { s with dic := { s.dic with held := s.dic.held ++ [h] } }

def runHeld (s : State) : Held → State
  | .access a => s.runAccess a {}
  | .window w req => s.runWindow w req
  | .fmp d => s.runFmp d
  | .usdo r => if s.usdoServes then s.runUsdo r else s
  | .usdoAbort => s.setUsdo none
  | .answered p o => if p = .usdo ∧ !s.usdoServes then s else s.emit o
  | .windowResult w code n data => s.windowResult w code n data
  | .forwarded n t b => s.runForwarded n t b

/-- DICT_HELD_ACCESS_SERVE: the oldest request that a path holds. -/
def serveHeld (s : State) (p : Path) : State :=
  if !s.fwRunning then s
  else match s.dic.held.find? fun h => decide (Held.path h = p) with
    | none => s
    | some h => ({ s with dic := { s.dic with held := s.dic.held.erase h } } : State).runHeld h

/-- The row of a dictionary write: bytes to an entry from a domain. -/
def rowWrite (s : State) (d : Dom) (idx sub : Nat) (data : List Byte) (x : Extra := {}) (off : Nat := 0) : State :=
  let a : Access := { path := pathOf d, dom := d, write := true, idx := idx, sub := sub, off := off, data := data }
  s.onPath (.access a) fun s => s.runAccess a x

/-- The row of a write of a number: the bytes are those of the entry's type. -/
def rowNum (s : State) (d : Dom) (idx sub v : Nat) (x : Extra := {}) : State :=
  let size := match lookupEntry idx sub with
    | some e => e.ty.size
    | none => 0
  s.rowWrite d idx sub (leBytes size v) x

/-- A write of DW_REQ. -/
def windowRequest (s : State) (w : Space) (req : Nat) (mgr : Bool := false) : State :=
  let x := s.window w
  if x.busy then s.setWindow w { x with lost := true }
  else (s.setWindow w { x with busy := true, raced := [], mgr := mgr }).onPath (.window w req) fun s => s.runWindow w req

/-- Software writes bytes of a window's buffer. -/
def windowBuffer (s : State) (w : Space) (off : Nat) (data : List Byte) : State :=
  let x := s.window w
  let ps := ((List.range data.length).zip data).filter fun p => decide (off + p.1 < 65280)
  let buf := ps.foldl (fun m p => NMap.set 0 m (off + p.1) p.2) x.buf
  s.setWindow w { x with buf := buf, raced := if x.busy then x.raced ++ ps.map fun p => off + p.1 else x.raced }

/-- A firmware-core fault (R433, R35). An access whose commit point it follows is done, and only its answer is still to be
sent; one before it is performed afresh. -/
def faultAt (s : State) (committed : Bool) : State :=
  match s.dic.held with
  | h :: rest =>
    if committed ∧ s.fwRunning then
      let t := ({ s with dic := { s.dic with held := rest } } : State).runHeld h
      let keep := fun (t : State) (k : Held) => ({ t with dic := { t.dic with held := k :: t.dic.held } } : State)
      let t := match h with
        | .window w _ =>
          let x := t.window w
          keep (t.setWindow w (s.window w)) (.windowResult w x.abort x.length ((List.range x.length).map fun i => NMap.get 0 x.buf i))
        | _ => match t.out with
          | o :: os => if s.out.length < t.out.length then keep { t with out := os } (.answered (Held.path h) o) else t
          | [] => t
      t.fwFault
    else s.fwFault
  | [] => s.fwFault

end State

/-! ## The commands -/

/-- The TYPE of a datagram is the row's, or one that does not exist, which any of the three rows answers. -/
def fmpIs (t : Nat) (d : Datagram) : Bool :=
  let k := field d.bytes 3 1
  decide (k = t) || !([1, 2, 3].contains k)

/-- USDO_REQUEST (R26): unanswered while the server does not serve. -/
def execUsdoRequest (r : UsdoReq) (s : State) : Out :=
  .next (if s.usdoServes then s.onPath (.usdo r) fun s => s.runUsdo r else s)

/-- USDO_ABORT (R26): in its place among the path's requests (R33). -/
def execUsdoAbort (s : State) : Out := .next (if s.usdoServes then s.onPath .usdoAbort fun s => s.setUsdo none else s)

/-- USDO_SESSION_TIMEOUT (R26): 1 s since the last service. -/
def execUsdoSessionTimeout (s : State) : Out :=
  .next (match s.dic.usdo with
    | none => s
    | some u => if s.now < u.last + 1000000000 then s
      else if s.usdoServes then (s.setUsdo none).usdoAnswer Ab.timeout [] else s.setUsdo none)

/-- FMP_READ (R27 to R29). -/
def execFmpRead (d : Datagram) (s : State) : Out := .next (if fmpIs 1 d then s.onPath (.fmp d) fun s => s.runFmp d else s)

/-- FMP_WRITE (R27 to R29). -/
def execFmpWrite (d : Datagram) (s : State) : Out := .next (if fmpIs 2 d then s.onPath (.fmp d) fun s => s.runFmp d else s)

/-- FMP_WRITE_SET (R27 to R29). -/
def execFmpWriteSet (d : Datagram) (s : State) : Out := .next (if fmpIs 3 d then s.onPath (.fmp d) fun s => s.runFmp d else s)

/-- DW_READ (R31): a write of DW_REQ whose OP is not that of a write. -/
def execDwRead (w : Space) (req : BitVec 64) (s : State) : Out :=
  .next (if bits req.toNat 43 40 = 2 then s else s.windowRequest w req.toNat)

/-- DW_WRITE (R31): a write of DW_REQ whose OP is not that of a read. -/
def execDwWrite (w : Space) (req : BitVec 64) (s : State) : Out :=
  .next (if bits req.toNat 43 40 = 1 then s else s.windowRequest w req.toNat)

/-- REGISTER_WRITE (R9, R19, R31, R196). -/
def execRegisterWrite (t : RegTarget) (s : State) : Out :=
  .next (match t with
    | .entry d idx sub off data => s.rowWrite d idx sub data {} off
    | .dwOffset w v => s.setWindow w { s.window w with offset := v.toNat }
    | .dwStatus w v => if v.getLsbD 17 then s.setWindow w { s.window w with lost := false } else s
    | .dwBuffer w off data => s.windowBuffer w off data
    | .csr h c v => if h < 29 then s.setHart h { s.hart h with csr := NMap.set 0 (s.hart h).csr c v } else s
    | .mapPage pasid va bytes pa =>
      if pasid ≠ 0 ∧ pa < 0x0600000000 ∧ State.generalEnd < pa + bytes then s
      else
      let m : Mapping := { pasid := pasid, va := va, bytes := bytes, pa := pa }
      { s with mem := { s.mem with maps := m :: s.mem.maps.filter fun e => decide (e.pasid ≠ pasid ∨ e.va ≠ va) } }
    | .unmapPage pasid va =>
      { s with mem := { s.mem with maps := s.mem.maps.filter fun e => decide (e.pasid ≠ pasid ∨ e.va ≠ va) } })

/-- DICT_HELD_ACCESS_SERVE (R35). -/
def execDictHeldAccessServe (p : Path) (s : State) : Out := .next (s.serveHeld p)

/-- FW_FAULT (R433, R35). -/
def execFwFault (committed : Bool) (s : State) : Out := .next (s.faultAt committed)

end Sys2Proof.Machine
end

