-- ==== Sys2Proof/Machine/DictRows.lean ====
section
/-! DEFINITION. The commands that are dictionary writes: each names its entry, and the access does the rest. -/

namespace Sys2Proof.Machine

open Sys2Proof

/-- The 8 bytes of ENCLAVE_CMD (Table SEC-4). -/
def enclaveBytes (op id first count : Nat) : List Byte :=
  leBytes 1 op ++ leBytes 1 0 ++ leBytes 1 id ++ leBytes 1 0 ++ leBytes 2 first ++ leBytes 2 count

/-- STORE_COMM (R25). -/
def execStoreComm (d : Dom) (v : Nat) (s : State) : Out := .next (s.rowNum d 0x1010 2 v)

/-- RESTORE_COMM (R25). -/
def execRestoreComm (d : Dom) (v : Nat) (s : State) : Out := .next (s.rowNum d 0x1011 2 v)

/-- COMM_ENTRY_WRITE (R25): the answer leaves before the setting counts, and nothing comes between. -/
def execCommEntryWrite (d : Dom) (idx sub : Nat) (data : List Byte) (s : State) : Out :=
  .next (if idx = 0x1E00 ∨ idx = 0x1E10 then s.rowWrite d idx sub data else s)

/-- ACK (R37). -/
def execAck (d : Dom) (v : Nat) (s : State) : Out := .next (s.rowNum d 0x3000 3 v)

/-- COMPAT_MODE_WRITE (R38, R39). -/
def execCompatModeWrite (d : Dom) (v : Nat) (s : State) : Out := .next (s.rowNum d 0x2002 1 v)

/-- GOVERNOR_SETTING_WRITE (R45, Table HST-3). -/
def execGovernorSettingWrite (d : Dom) (idx sub v : Nat) (s : State) : Out :=
  .next (if idx = 0x2110 then s.rowNum d idx sub v else s)

/-- RAIL_MIN_CLEAR (R58). -/
def execRailMinClear (d : Dom) (v : Nat) (s : State) : Out := .next (s.rowNum d 0x2112 2 v)

/-- KV_POOL_CREATE (R134). -/
def execKvPoolCreate (d : Dom) (p : Nat) (s : State) : Out := .next (if p < 16 then s.rowNum d (0x2710 + p) 9 1 else s)

/-- KV_POOL_DESTROY (R134). -/
def execKvPoolDestroy (d : Dom) (p : Nat) (s : State) : Out := .next (if p < 16 then s.rowNum d (0x2710 + p) 9 2 else s)

/-- KV_POOL_TRIM (R134). -/
def execKvPoolTrim (d : Dom) (p : Nat) (s : State) : Out := .next (if p < 16 then s.rowNum d (0x2710 + p) 9 3 else s)

/-- KV_POOL_ENTRY_WRITE (R133). -/
def execKvPoolEntryWrite (d : Dom) (p sub v : Nat) (s : State) : Out :=
  .next (if p < 16 ∧ sub ≠ 9 then s.rowNum d (0x2710 + p) sub v else s)

/-- PREFIX_NODE_LIMIT_WRITE (R143). -/
def execPrefixNodeLimitWrite (d : Dom) (sl v : Nat) (s : State) : Out :=
  .next (if sl < 64 then s.rowNum d (0x4700 + sl) 1 v else s)

/-- SERAI_SHARE_WRITE (R176). -/
def execSeraiShareWrite (d : Dom) (sl v : Nat) (s : State) : Out := .next (if sl < 64 then s.rowNum d 0x2604 (sl + 1) v else s)

/-- PLACEMENT_POLICY_WRITE (R177). -/
def execPlacementPolicyWrite (d : Dom) (idx sub v : Nat) (s : State) : Out :=
  .next (if idx = 0x2603 ∨ (idx = 0x2605 ∧ sub ≠ 4) then s.rowNum d idx sub v else s)

/-- QUARANTINE_RETEST (R194). -/
def execQuarantineRetest (d : Dom) (v : Nat) (s : State) : Out := .next (s.rowNum d 0x2605 4 v)

/-- COUNTERS_CLEAR (R195). -/
def execCountersClear (d : Dom) (v : Nat) (s : State) : Out := .next (s.rowNum d 0x2607 0x0F v)

/-- ENGINE_ENABLE_WRITE (R110, R355, R399). -/
def execEngineEnableWrite (d : Dom) (v : Nat) (s : State) : Out := .next (s.rowNum d 0x2601 1 v)

/-- QUEUE_CONFIG (R202). -/
def execQueueConfig (d : Dom) (data : List Byte) (s : State) : Out := .next (s.rowWrite d 0x2510 1 data)

/-- QUEUE_ENABLE (Tables QUE-4 and QUE-5). -/
def execQueueEnable (d : Dom) (q : Nat) (s : State) : Out :=
  .next (if q < 262144 then s.rowNum d 0x2510 2 (q + 268435456) else s)

/-- QUEUE_DISABLE (Tables QUE-4 and QUE-5). -/
def execQueueDisable (d : Dom) (q : Nat) (s : State) : Out :=
  .next (if q < 262144 then s.rowNum d 0x2510 2 (q + 2 * 268435456) else s)

/-- QUEUE_RESTART (Tables QUE-4 and QUE-5). -/
def execQueueRestart (d : Dom) (q : Nat) (s : State) : Out :=
  .next (if q < 262144 then s.rowNum d 0x2510 2 (q + 3 * 268435456) else s)

/-- QUEUE_RESET_COUNTS (Tables QUE-4 and QUE-5). -/
def execQueueResetCounts (d : Dom) (q : Nat) (s : State) : Out :=
  .next (if q < 262144 then s.rowNum d 0x2510 2 (q + 4 * 268435456) else s)

/-- SLICE_CREATE (R212). -/
def execSliceCreate (d : Dom) (sl : Nat) (s : State) : Out := .next (if sl < 64 then s.rowNum d (0x2540 + sl) 2 1 else s)

/-- SLICE_DESTROY (R215). -/
def execSliceDestroy (d : Dom) (sl : Nat) (s : State) : Out := .next (if sl < 64 then s.rowNum d (0x2540 + sl) 2 2 else s)

/-- QUEUE_BLOCKS_WRITE (R213). -/
def execQueueBlocksWrite (d : Dom) (sl : Nat) (data : List Byte) (s : State) : Out :=
  .next (if sl < 64 then s.rowWrite d (0x2540 + sl) 9 data else s)

/-- MEM_QUOTA_WRITE (R216). -/
def execMemQuotaWrite (d : Dom) (sl v : Nat) (s : State) : Out := .next (if sl < 64 then s.rowNum d (0x2540 + sl) 4 v else s)

/-- GRACE_MS_WRITE (R216). -/
def execGraceMsWrite (d : Dom) (sl v : Nat) (s : State) : Out := .next (if sl < 64 then s.rowNum d (0x2540 + sl) 6 v else s)

/-- ENGINE_SHARE_WRITE (R218, R219). -/
def execEngineShareWrite (d : Dom) (sl v : Nat) (s : State) : Out := .next (if sl < 64 then s.rowNum d (0x2540 + sl) 7 v else s)

/-- PORT_A_ROLE_WRITE (R222). -/
def execPortARoleWrite (d : Dom) (v : Nat) (s : State) : Out := .next (s.rowNum d 0x2C01 1 v)

/-- TOPOLOGY_CMD (R225 to R229). -/
def execTopologyCmd (d : Dom) (v : Nat) (tree : List (Nat × Nat)) (s : State) : Out :=
  .next (s.rowNum d 0x2C00 4 v { tree := some tree })

/-- OUTBOUND_WINDOW_WRITE (R236). -/
def execOutboundWindowWrite (d : Dom) (w : Nat) (data : List Byte) (s : State) : Out :=
  .next (if w < 64 then s.rowWrite d 0x2C03 (w + 1) data else s)

/-- LANE_OPEN (R244). -/
def execLaneOpen (d : Dom) (l : Nat) (s : State) : Out := .next (if l < 64 then s.rowNum d (0x2C40 + l) 6 1 else s)

/-- LANE_CLOSE (R244). -/
def execLaneClose (d : Dom) (l : Nat) (s : State) : Out := .next (if l < 64 then s.rowNum d (0x2C40 + l) 6 2 else s)

/-- BW_GUARANTEE_WRITE (R263, R264). -/
def execBwGuaranteeWrite (d : Dom) (c sub v : Nat) (s : State) : Out :=
  .next (if c < 16 then s.rowNum d (0x2410 + c) sub v else s)

/-- BW_COUNTERS_CLEAR (R263). -/
def execBwCountersClear (d : Dom) (v : Nat) (s : State) : Out := .next (s.rowNum d 0x2401 4 v)

/-- PARAM_BUFFER_WRITE (R278). -/
def execParamBufferWrite (d : Dom) (v : Nat) (s : State) : Out := .next (s.rowNum d 0x2800 1 v)

/-- OUTPUT_ENABLE_WRITE (R286). -/
def execOutputEnableWrite (d : Dom) (o sub v : Nat) (s : State) : Out :=
  .next (if o < 4 then s.rowNum d (0x2880 + o) sub v else s)

/-- LAYER_WRITE (R287). -/
def execLayerWrite (d : Dom) (o k sub v : Nat) (s : State) : Out :=
  .next (if o < 4 ∧ k < 4 then s.rowNum d (0x2890 + 4 * o + k) sub v else s)

/-- POSE_HANDLE_WRITE (R293). -/
def execPoseHandleWrite (d : Dom) (v : Nat) (s : State) : Out := .next (s.rowNum d 0x28A0 2 v)

/-- PLN_LANES_RESERVED_WRITE (R300). -/
def execPlnLanesReservedWrite (d : Dom) (sl v : Nat) (s : State) : Out :=
  .next (if sl < 64 then s.rowNum d 0x2901 (sl + 1) v else s)

/-- ANC_START (R315). -/
def execAncStart (d : Dom) (s : State) : Out := .next (s.rowNum d 0x2A00 0x0A 1)

/-- ANC_STOP (R315, R317). -/
def execAncStop (d : Dom) (s : State) : Out := .next (s.rowNum d 0x2A00 0x0A 2)

/-- ANC_FREEZE (R315). -/
def execAncFreeze (d : Dom) (s : State) : Out := .next (s.rowNum d 0x2A00 0x0A 3)

/-- ANC_RESUME (R315). -/
def execAncResume (d : Dom) (s : State) : Out := .next (s.rowNum d 0x2A00 0x0A 4)

/-- VOICE_START (R321). -/
def execVoiceStart (d : Dom) (s : State) : Out := .next (s.rowNum d 0x2A00 0x14 1)

/-- VOICE_STOP (R321). -/
def execVoiceStop (d : Dom) (s : State) : Out := .next (s.rowNum d 0x2A00 0x14 2)

/-- TDM_DIR_WRITE (R310). -/
def execTdmDirWrite (d : Dom) (lane v : Nat) (s : State) : Out := .next (if lane < 8 then s.rowNum d (0x2A18 + lane) 1 v else s)

/-- ACU_ENTRY_WRITE (R313, R314). -/
def execAcuEntryWrite (d : Dom) (idx sub v : Nat) (s : State) : Out :=
  .next (if 0x2A00 ≤ idx ∧ idx < 0x2A20 then s.rowNum d idx sub v else s)

/-- CAN_RECOVER (R328). -/
def execCanRecover (d : Dom) (ch : Nat) (s : State) : Out := .next (if ch < 16 then s.rowNum d (0x2B10 + ch) 8 1 else s)

/-- CAN_FLUSH (R327). -/
def execCanFlush (d : Dom) (ch : Nat) (s : State) : Out := .next (if ch < 16 then s.rowNum d (0x2B10 + ch) 8 2 else s)

/-- CAN_MODE_WRITE (R326). -/
def execCanModeWrite (d : Dom) (ch sub v : Nat) (s : State) : Out :=
  .next (if ch < 16 ∧ sub ≠ 8 then s.rowNum d (0x2B10 + ch) sub v else s)

/-- LIN_GO_TO_SLEEP (R330). -/
def execLinGoToSleep (d : Dom) (ch : Nat) (s : State) : Out := .next (if ch < 8 then s.rowNum d (0x2B30 + ch) 5 1 else s)

/-- LIN_WAKE_PULSE (R330). -/
def execLinWakePulse (d : Dom) (ch : Nat) (s : State) : Out := .next (if ch < 8 then s.rowNum d (0x2B30 + ch) 5 2 else s)

/-- CABLE_DIAG (R331). -/
def execCableDiag (d : Dom) (port v result : Nat) (s : State) : Out :=
  .next (if port < 20 then s.rowNum d (0x2B40 + port) 6 v { cable := some result } else s)

/-- ETH_ENABLE_WRITE (R331). -/
def execEthEnableWrite (d : Dom) (port sub v : Nat) (s : State) : Out :=
  .next (if port < 20 ∧ sub ≠ 6 then s.rowNum d (0x2B40 + port) sub v else s)

/-- SWITCH_TABLE_WRITE (R332). -/
def execSwitchTableWrite (d : Dom) (sub : Nat) (data : List Byte) (s : State) : Out := .next (s.rowWrite d 0x2B60 sub data)

/-- GCL_COMMIT (Table GTW-6). -/
def execGclCommit (d : Dom) (port v : Nat) (s : State) : Out := .next (if port < 22 then s.rowNum d (0x2B80 + port) 4 v else s)

/-- ROUTE_COMMIT (R339). -/
def execRouteCommit (d : Dom) (v : Nat) (s : State) : Out := .next (s.rowNum d 0x4000 2 v)

/-- FILTER_US_WRITE (R343). -/
def execFilterUsWrite (d : Dom) (line v : Nat) (s : State) : Out :=
  .next (if line < 10 then s.rowNum d 0x2BA0 (line + 1) v else s)

/-- GO_STATE_WRITE (R455). -/
def execGoStateWrite (d : Dom) (v : Nat) (s : State) : Out := .next (s.rowNum d 0x2BA0 0x0C v)

/-- CAM_POWER_ENABLE_WRITE (R454). -/
def execCamPowerEnableWrite (d : Dom) (v : Nat) (s : State) : Out := .next (s.rowNum d 0x2160 1 v)

/-- TB_SET (R351). -/
def execTbSet (d : Dom) (n : Nat) (data : List Byte) (s : State) : Out :=
  .next (if n < 8 then s.rowWrite d (0x2210 + n) 5 data else s)

/-- TB_CMD (R351). -/
def execTbCmd (d : Dom) (n v : Nat) (s : State) : Out := .next (if n < 8 then s.rowNum d (0x2210 + n) 6 v else s)

/-- TB_INCREMENT_WRITE (R350). -/
def execTbIncrementWrite (d : Dom) (n v : Nat) (s : State) : Out := .next (if n < 8 then s.rowNum d (0x2210 + n) 4 v else s)

/-- TB_MODE_WRITE (Table TIM-4). -/
def execTbModeWrite (d : Dom) (n v : Nat) (s : State) : Out := .next (if n < 8 then s.rowNum d (0x2210 + n) 1 v else s)

/-- PART_ACTIVATE (R356). -/
def execPartActivate (d : Dom) (k : Nat) (s : State) : Out := .next (if k < 8 then s.rowNum d (0x2310 + k) 9 1 else s)

/-- PART_DEACTIVATE (R358). -/
def execPartDeactivate (d : Dom) (k : Nat) (s : State) : Out := .next (if k < 8 then s.rowNum d (0x2310 + k) 9 2 else s)

/-- TF_CMD (R372). -/
def execTfCmd (d : Dom) (k v : Nat) (s : State) : Out := .next (if k < 8 then s.rowNum d (0x2330 + k) 0x0C v else s)

/-- DRONE_ENABLE_WRITE (Table SAF-7). -/
def execDroneEnableWrite (d : Dom) (v : Nat) (s : State) : Out := .next (s.rowNum d 0x2340 1 v)

/-- FORCE_TAKEOVER (Table SAF-10). -/
def execForceTakeover (d : Dom) (v : Nat) (s : State) : Out := .next (s.rowNum d 0x2350 3 v)

/-- HANDBACK_CMD (R384). -/
def execHandbackCmd (d : Dom) (v : Nat) (s : State) : Out := .next (s.rowNum d 0x2350 2 v)

/-- SECURE_WATERMARK_RAISE (R391, R394). -/
def execSecureWatermarkRaise (d : Dom) (v : Nat) (s : State) : Out :=
  .next (if s.sec.watermark ≤ v then s.rowNum d 0x2D01 1 v else s)

/-- SECURE_WATERMARK_LOWER (R392, R393). -/
def execSecureWatermarkLower (d : Dom) (v : Nat) (s : State) : Out :=
  .next (if v < s.sec.watermark then s.rowNum d 0x2D01 1 v else s)

/-- SEC_RESERVE_TOP_WRITE (R394). -/
def execSecReserveTopWrite (d : Dom) (v : Nat) (s : State) : Out := .next (s.rowNum d 0x2D01 3 v)

/-- ENCLAVE_ASSIGN (R395). -/
def execEnclaveAssign (d : Dom) (id first count : Nat) (s : State) : Out :=
  .next (s.rowWrite d 0x2D10 1 (enclaveBytes 1 id first count))

/-- ENCLAVE_RELEASE (R396). -/
def execEnclaveRelease (d : Dom) (id first count : Nat) (s : State) : Out :=
  .next (s.rowWrite d 0x2D10 1 (enclaveBytes 2 id first count))

/-- ENCLAVE_DESTROY (R396). -/
def execEnclaveDestroy (d : Dom) (id : Nat) (s : State) : Out := .next (s.rowWrite d 0x2D10 1 (enclaveBytes 3 id 0 0))

/-- SLICE_ENCLAVE_WRITE (Table SEC-4). -/
def execSliceEnclaveWrite (d : Dom) (sl v : Nat) (s : State) : Out :=
  .next (if sl < 64 then s.rowNum d 0x2D12 (sl + 1) v else s)

/-- SECURE_HOLD_MASK_WRITE (R399). -/
def execSecureHoldMaskWrite (d : Dom) (data : List Byte) (s : State) : Out := .next (s.rowWrite d 0x2D30 1 data)

/-- NOTICE_ACK (R402). -/
def execNoticeAck (d : Dom) (v : Nat) (s : State) : Out := .next (s.rowNum d 0x2D30 3 v)

/-- SWD_KICK (R403). -/
def execSwdKick (d : Dom) (v : Nat) (s : State) : Out := .next (s.rowNum d 0x2D20 2 v)

/-- KEY_PROGRAM (Table SEC-9). -/
def execKeyProgram (d : Dom) (data : List Byte) (s : State) : Out := .next (s.rowWrite d 0x2D40 3 data)

/-- KEY_REVOKE (Table SEC-9). -/
def execKeyRevoke (d : Dom) (v : Nat) (s : State) : Out := .next (s.rowNum d 0x2D40 4 v)

/-- ROLLBACK_ADVANCE (Table SEC-9). -/
def execRollbackAdvance (d : Dom) (data : List Byte) (s : State) : Out := .next (s.rowWrite d 0x2D40 6 data)

/-- DEBUG_FUSE (Table SEC-9). -/
def execDebugFuse (d : Dom) (v : Nat) (s : State) : Out := .next (s.rowNum d 0x2D40 7 v)

/-- DEBUG_POLICY_WRITE (R408). -/
def execDebugPolicyWrite (d : Dom) (v : Nat) (s : State) : Out := .next (s.rowNum d 0x2D40 8 v)

/-- FMP_KEY_WRITE (R28, Table SEC-9). -/
def execFmpKeyWrite (d : Dom) (data : List Byte) (s : State) : Out := .next (s.rowWrite d 0x2D40 1 data)

/-- DBG_CERT (Tables SEC-10 and SEC-11). -/
def execDbgCert (d : Dom) (data : List Byte) (s : State) : Out := .next (s.rowWrite d 0x2E01 2 data)

/-- DBG_RESPONSE (R407). -/
def execDbgResponse (d : Dom) (data : List Byte) (s : State) : Out := .next (s.rowWrite d 0x2E01 3 data)

/-- DBG_CMD (R408). -/
def execDbgCmd (d : Dom) (v : Nat) (s : State) : Out := .next (s.rowNum d 0x2E01 5 v)

/-- LATENCY_TOL_WRITE (R410). -/
def execLatencyTolWrite (d : Dom) (sub v : Nat) (s : State) : Out := .next (s.rowNum d 0x2120 sub v)

/-- FUNCTION_ENABLE_WRITE (R426, R427). -/
def execFunctionEnableWrite (d : Dom) (sub v stopped : Nat) (s : State) : Out :=
  .next (s.rowNum d 0x2130 sub v { stopped := some stopped })

/-- PMU_CLEAR (R441). -/
def execPmuClear (d : Dom) (v : Nat) (s : State) : Out := .next (s.rowNum d 0x2F01 1 v)

/-- DUMP_RING_WRITE (R444, R445). -/
def execDumpRingWrite (d : Dom) (idx sub v : Nat) (s : State) : Out :=
  .next (if idx = 0x2F02 ∨ idx = 0x2F03 then s.rowNum d idx sub v else s)

end Sys2Proof.Machine
end

