-- ==== Sys2Proof/Machine/LinkFrames.lean ====
section
/-! DEFINITION. Plomor frames that arrive (R227, R230, R235, R238 to R243, R246, R247, R32), and accesses through the outbound
windows (R236 to R239). -/

namespace Sys2Proof.Machine

open Sys2Proof

/-- Functions of frames whose layout the spec does not give (`Config.fn`). -/
def fnResetMessage : Nat := 0x304

namespace State

/-! ## Answers -/

/-- A COMPLETION for a request (R239); with the request's class. That of a SIGNAL_RC `follows` posted frames of every class
(R233). -/
def respond (s : State) (f : Frame) (status : Nat) (data : List Byte) (follows : Bool := false) : State :=
  s.sendFrame { dst := f.src, src := 0, kind := kCompletion, cls := f.cls, tag := f.tag, status := status, payload := data } follows

/-- An ACK for a confirmed write or a batch. -/
def acknowledge (s : State) (f : Frame) (status : Nat) : State :=
  s.sendFrame { dst := f.src, src := 0, kind := kAck, cls := f.cls, tag := f.tag, status := status }

/-- The requester of a refused request learns its status; a refused posted frame has no trace at its source (R235). -/
def turnAway (s : State) (f : Frame) (status : Nat) : State :=
  if f.kind = kRead ∨ f.kind = kSignalRc then s.respond f status []
  else if f.kind = kWriteC then s.acknowledge f status
  else s

/-- The requester of a frame for an absent node receives NODE_UNREACHABLE: of a request, a batch or a forwarded datagram (R227). -/
def unreachable (s : State) (f : Frame) : State :=
  if f.kind = kCaravan then s.acknowledge f St.nodeUnreachable
  else if f.kind = kMessage then s.respond f St.nodeUnreachable []
  else s.turnAway f St.nodeUnreachable

/-! ## Accesses to the physical map from a link (R235, R253, R389) -/

/-- The dictionary window that an address of the map lies in, and the offset in it; the security processor's is secure
only. A slice window brings the PASID of its slice (R31). -/
def mapWindow (s : State) (a : Nat) : Option (Space × Nat) :=
  if 0x1000400000 ≤ a ∧ a < 0x1000800000 then
    some (.slice (s.slicePasid ((a - 0x1000400000) / 65536)), (a - 0x1000400000) % 65536)
  else if 0x1000800000 ≤ a ∧ a < 0x1000810000 then some (.hyp, a - 0x1000800000)
  else none

/-- A write into a dictionary window over a link, by node 0 (Tables DIC-6 and DIC-7, R32). -/
def windowStore (s : State) (w : Space) (off : Nat) (bs : List Byte) : State :=
  let x := s.window w
  if off = 0 ∧ bs.length = 8 then s.windowRequest w (leNat bs) true
  else if off = 8 ∧ bs.length = 4 then s.setWindow w { x with offset := leNat bs }
  else if off = 0x10 ∧ bs.length = 8 then (if (leNat bs).testBit 17 then s.setWindow w { x with lost := false } else s)
  else if 0x100 ≤ off then s.windowBuffer w (off - 0x100) bs
  else s

/-- One byte of a dictionary window as a read sees it. -/
def windowByte (s : State) (w : Space) (off : Nat) : Byte :=
  let x := s.window w
  let status := x.abort * 4294967296 + (if x.lost then 131072 else 0) + (if x.busy then 65536 else 0) + x.length % 65536
  if 0x100 ≤ off then NMap.get 0 x.buf (off - 0x100)
  else if 8 ≤ off ∧ off < 12 then BitVec.ofNat 8 (x.offset / 256 ^ (off - 8))
  else if 16 ≤ off ∧ off < 24 then BitVec.ofNat 8 (status / 256 ^ (off - 16))
  else 0

/-- Doorbells written by a frame: one of 4 B, or pairs of 8 B. -/
def doorbells (s : State) (off : Nat) (bs : List Byte) : State :=
  if bs.length = 4 ∧ off % 4 = 0 then s.doorbell off false (BitVec.ofNat 64 (leNat bs))
  else if bs.length % 8 = 0 ∧ off % 8 = 0 then
    (List.range (bs.length / 8)).foldl (fun s i => s.doorbell (off + 8 * i) true (BitVec.ofNat 64 (field bs (8 * i) 8))) s
  else s

/-- The time-base pages of Table MEM-1. -/
def timePages : Nat := 0x1001000000

/-- The latches that reads over the links use (DESIGN CHOICE, log 160). -/
def linkReader : Nat := 30

/-- Bytes of the doorbell region as a read sees them: W and F of each queue (Table QUE-2). -/
def doorbellBytes (s : State) (off n : Nat) : List Byte := (List.range n).map fun i =>
  let x := s.queue ((off + i) / 8)
  BitVec.ofNat 8 ((x.wr * 4294967296 + x.f) / 256 ^ ((off + i) % 8))

/-- Regions of Table MEM-1 whose contents a link may reach and of which the spec gives no effect here: the interrupt controller
and the root-port apertures. -/
def otherRegion (a : Nat) : Bool :=
  decide (0x1002000000 ≤ a ∧ a < 0x1003000000)
    || decide (0x2000000000 ≤ a ∧ a < 0x2400000000)

/-- A write from a link at a physical address: its status, and the next state. -/
def inboundWrite (s : State) (cls a : Nat) (bs : List Byte) : Nat × State :=
  let n := bs.length
  if n = 0 then (0, s)
  else if inHbm (a + n - 1) then
    if s.refuses (.inbound cls) a n then (St.inboundRefused, s.noteRefusal (.inbound cls) a)
    else (0, s.store (.inbound cls) a bs)
  else if 0x1000000000 ≤ a ∧ a + n ≤ signalPage then (0, s.doorbells (a - 0x1000000000) bs)
  else if signalPage ≤ a ∧ a + n ≤ signalPage + 4096 then (0, s.signalWrite (a - signalPage) (leNat bs))
  else match s.mapWindow a with
    | some (w, off) => (0, s.windowStore w off bs)
    | none =>
      if otherRegion a ∨ (timePages ≤ a ∧ a < timePages + 65536) then (0, s)
      else match s.windowAt a n with
        | some (x, t) => if x.node = s.nodeId then (St.inboundRefused, s)
          else if x.mode = 0 then (0, s.sendFrame { dst := x.node, src := 0, kind := kWriteP, cls := x.cls, addr := t, payload := bs })
          else
            let g := s.freshTag 0 65536 (s.lnk.writes.map (·.1))
            (0, g.2.sendFrame { dst := x.node, src := 0, kind := kWriteC, cls := x.cls, tag := g.1.getD 0, addr := t, payload := bs })
        | none => (St.inboundRefused, s)

/-- Bytes of a register page or of another node's memory, which the spec does not give to a link: free. -/
def freeBytes (s : State) (n : Nat) : List Byte × State :=
  let f := s.fresh .data
  (leBytes n f.1, f.2)

/-- A read of the time-base pages over a link; TB3's is reachable from the secure domain only. -/
def readTimePages (s : State) (off n : Nat) : Nat × List Byte × State :=
  if off / 4096 = 3 then (St.inboundRefused, [], s)
  else
    let r := s.readTime linkReader off n
    (0, r.1, r.2)

/-- A read from a link: its status, the data, and the next state. A poisoned granule answers HBM_UNCORRECTABLE
(Table MEM-2). -/
def inboundRead (s : State) (cls a n : Nat) : Nat × List Byte × State :=
  if n = 0 then (0, [], s)
  else if inHbm (a + n - 1) then
    if s.refuses (.inbound cls) a n then (St.inboundRefused, [], s.noteRefusal (.inbound cls) a)
    else
      let bad := (granulesOf a n).filter fun g => s.mem.poisoned.contains g
      let s := bad.foldl poison (s.chargeRange (.inbound cls) a n)
      if bad = [] then (0, s.readMem a n, s) else (St.hbmUncorrectable, [], s)
  else match s.mapWindow a with
    | some (w, off) => (0, (List.range n).map fun i => s.windowByte w (off + i), s)
    | none =>
      if 0x1000000000 ≤ a ∧ a + n ≤ signalPage then (0, s.doorbellBytes (a - 0x1000000000) n, s)
      else if timePages ≤ a ∧ a + n ≤ timePages + 65536 then s.readTimePages (a - timePages) n
      else if (signalPage ≤ a ∧ a + n ≤ signalPage + 4096) ∨ otherRegion a ∨ (s.windowAt a n).isSome then
        let b := s.freeBytes n
        (0, b.1, b.2)
      else (St.inboundRefused, [], s)

/-! ## Acceptance (Table MMS-7) -/

/-- The range is part of a tier 5 home that the node created in this module's lent area. How homes are given out there is not
stated: which node each granule of it belongs to is free. -/
def homeOf (s : State) (node a n : Nat) : Bool := match s.lnk.lent with
  | none => false
  | some (b, len) => decide (b ≤ a ∧ a + n ≤ b + len ∧ a < b + len) && (granulesOf a (max n 1)).all fun g =>
      decide (Config.fn fnHomeOf [b, g] % 193 = node + 1)

/-- The open lane whose part of the staging buffer holds a byte offset. -/
def laneAt (s : State) (off : Nat) : Option Nat :=
  (List.range 64).find? fun l =>
    s.laneOpenState l && decide ((s.lane l).base ≤ off ∧ off < (s.lane l).base + s.laneSlotBytes l * s.laneSlots l)

/-- A frame comes from the parent over port A, or from the child on its port. -/
def fromNeighbour (s : State) (port : Nat) (f : Frame) : Bool := decide (s.neighbour port = some f.src)

/-- Acceptance of frames for this module. A CARAVAN is accepted or answered by its lane (R245), a COMPLETION or ACK by its tag. -/
def accepts (s : State) (port : Nat) (f : Frame) : Bool :=
  decide (f.src = 0)
    || (if f.kind = kRead then s.homeOf f.src f.addr f.len
        else if f.kind = kWriteC ∨ f.kind = kWriteP then s.homeOf f.src f.addr f.payload.length
        else if f.kind = kSignalRc ∨ f.kind = kAssign then s.fromNeighbour port f
        else decide (f.kind ≠ kMessage))

/-- Moves a frame that came over a port on toward its destination; one for an absent node ends here (R227). -/
def forward (s : State) (port : Nat) (f : Frame) : State :=
  if s.nodePresent f.dst then s.putFrame (s.routeTo f.dst) f (some port) else s.unreachable f

/-- Bytes of the payload of a notice between neighbours (log 158); an assignment's is another. -/
def noticeBytes : Nat := 24

/-- An assignment of an ID is for this module where it has none, or where the parent's HELLO came before it (R225, R250). -/
def givesId (s : State) (port : Nat) (f : Frame) : Bool :=
  decide (f.kind = kAssign ∧ port = 0 ∧ f.payload.length ≠ noticeBytes) && (decide (s.nodeId = 0xFF) || (s.lnk.helloed && decide (f.src = 0)))

/-- A frame is for this module: a HELLO, its ID's assignment, or one for its own ID. -/
def isMine (s : State) (port : Nat) (f : Frame) : Bool :=
  decide (f.kind = kHello) || s.givesId port f || decide (s.nodeId ≠ 0xFF ∧ f.dst = s.nodeId)

/-- On node 0 an endpoint port A leads to an external host, which is no Foldilen module (R222, R224). -/
def hostOn (s : State) (port : Nat) : Bool := decide (port = 0 ∧ s.nodeId = 0 ∧ s.get 0x2C01 1 = 0)

/-! ## Reads and writes -/

/-- A refusal below the map's acceptance is counted as well (R235). -/
def countRefused (s : State) (status : Nat) : State := if status = St.inboundRefused then s.bump 0x2C08 6 else s

def onWriteP (s : State) (f : Frame) : State :=
  let r := s.inboundWrite f.cls f.addr f.payload
  r.2.countRefused r.1

def onWriteC (s : State) (f : Frame) : State :=
  let r := s.inboundWrite f.cls f.addr f.payload
  (r.2.countRefused r.1).acknowledge f r.1

/-- A READ of at most 4,064 B (Table MMS-6). -/
def onRead (s : State) (f : Frame) : State :=
  if 4064 < f.len then (s.bump 0x2C08 6).respond f St.inboundRefused []
  else
    let r := s.inboundRead f.cls f.addr f.len
    (r.2.2.countRefused r.1).respond f r.1 r.2.1

/-! ## Completions -/

/-- A reader gets its data. -/
def readerGets (s : State) (r : Reader) (data : List Byte) : State :=
  match r with
  | .hart _ => s.emit (.loadData (some data))
  | .slice _ | .engine _ | .firmware => s.emit (.answer .link 0 data)

/-- A small read's completion. -/
def smallEnds (s : State) (tag : Nat) (t : SmallTag) (status : Nat) (data : List Byte) : State :=
  if status ≠ 0 then s.smallFails tag t status
  else
    let s : State := { s with lnk := { s.lnk with small := NMap.set none s.lnk.small tag none } }
    match t.what with
    | .reader r => s.readerGets r data
    | .slot q n => if (s.queue q).state = .enabled ∧ (s.queue q).f = n then s.takeSlot q (slice data 0 64) else s
    | .bitmap => ({ s with lnk := { s.lnk with pendingBits := s.lnk.pendingBits ||| leNat (slice data 0 24) } } : State).servePending
    | .word k => s.deliverWord t.node k (leNat (slice data 0 8))
    | .fmp d => match fmpParse d.bytes with
      | none => s
      | some q => s.fmpReply d q data

/-- A bulk read's completion lands in the space reserved for it (R241). -/
def bulkEnds (s : State) (tag : Nat) (b : BulkTag) (status : Nat) (data : List Byte) : State :=
  if status ≠ 0 then s.bulkFails b status
  else
    let old := NMap.get [] s.lnk.landing b.root
    let s : State := { s with lnk := { s.lnk with
        bulk := NMap.set none s.lnk.bulk tag none
        landing := NMap.set [] s.lnk.landing b.root (overlay old b.off (slice data 0 b.len)) } }
    s.pumpBulk.landed b.q b.n

/-- A COMPLETION for a freed tag is discarded (R239, R241). -/
def onCompletion (s : State) (f : Frame) : State :=
  match NMap.get none s.lnk.small f.tag with
  | some t => s.smallEnds f.tag t f.status f.payload
  | none => match NMap.get none s.lnk.bulk f.tag with
    | some b => s.bulkEnds f.tag b f.status f.payload
    | none => s

def onAck (s : State) (f : Frame) : State :=
  match NMap.get none s.lnk.writes f.tag with
  | some t => (s.ackEnds f.tag t f.status).runSends
  | none => s

/-! ## Batches (R245, R247) -/

def setLane (s : State) (l : Nat) (x : Lane) : State := { s with lnk := { s.lnk with lanes := NMap.set {} s.lnk.lanes l x } }

/-- Where in the buffer the slot of a SEQ begins. -/
def slotAt (s : State) (l seq : Nat) : Nat := (s.lane l).base + seq % s.laneSlots l * s.laneSlotBytes l

/-- Length of a batch by the header that has landed in its slot (Table MMS-13). -/
def batchLength (s : State) (l seq : Nat) : Nat :=
  let h := s.readMem (staging + s.slotAt l seq) 12
  128 + field h 6 2 * field h 8 2

/-- Handles the batches that have landed, in SEQ order: visible, counted, acknowledged. -/
def handleBatches (l : Nat) : Nat → State → State
  | 0, s => s
  | fuel + 1, s =>
    let idx := 0x2C40 + l
    let seq := s.get idx 9
    match NMap.get none (s.lane l).batches seq with
    | none => s
    | some b =>
      if b.landed < s.batchLength l seq then s
      else
        let x := s.lane l
        let s := s.setLane l { x with batches := NMap.set none x.batches seq none }
        let s := s.setCopy (hIndex (s.get idx 8)) none
        let s := (s.addSync (s.get idx 1) (s.get idx 5) 1).set idx 9 ((seq + 1) % 4294967296)
        let s := s.sendFrame { dst := s.get idx 2, src := 0, kind := kAck, cls := b.cls, tag := b.tag, seq := 0 }
        handleBatches l fuel s

/-- A frame of a batch. The lane is open to its source, the frame lies in the slot of its SEQ, and the batch fits the slot; else
LANE_INVALID goes back. Frames of one batch land in order; after a lost one the batch does not complete. -/
def onCaravan (s : State) (f : Frame) : State :=
  let invalid := (s.bump 0x2C08 6).acknowledge f St.laneInvalid
  let n := f.payload.length
  match s.laneAt f.addr with
  | none => invalid
  | some l =>
    let x := s.lane l
    let off := f.addr - s.slotAt l f.seq
    let total := if off = 0 then 128 + field f.payload 6 2 * field f.payload 8 2 else 0
    if s.get (0x2C40 + l) 2 ≠ f.src ∨ f.addr < s.slotAt l f.seq ∨ s.laneSlotBytes l < off + n ∨ s.laneSlotBytes l < total then invalid
    else
      let s := s.store (.bridge (s.get (0x2C40 + l) 1)) (staging + f.addr) f.payload
      let b : LaneBatch := (NMap.get none x.batches f.seq).getD { landed := 0, tag := f.tag, cls := f.cls }
      let b : LaneBatch := if off = 0 then { landed := n, tag := f.tag, cls := f.cls }
        else if off = b.landed then { b with landed := off + n } else b
      handleBatches l (x.batches.length + 1) (s.setLane l { x with batches := NMap.set none x.batches f.seq (some b) })

/-- A CREDIT: where its frame carries the lane and the count is not given, and both are free functions of it. -/
def onCredit (s : State) (f : Frame) : State :=
  let lane := Config.fn fnCreditLane (frameNumbers f) % 64
  let x := s.sendLane f.src lane
  (s.setSendLane f.src lane { x with free := x.free + Config.fn fnCreditCount (frameNumbers f) }).runSends

/-! ## Signals (R242) -/

/-- SIGNAL_RC of a word of the signal page, or of the pending bitmap: the answer carries it, and it is clear. -/
def onSignalRc (s : State) (f : Frame) : State :=
  let f := { f with cls := 3 }
  if signalPage ≤ f.addr ∧ f.addr < signalPage + 512 then
    let k := (f.addr - signalPage) / 8
    let v := NMap.get 0 s.lnk.words k
    ({ s with lnk := { s.lnk with words := NMap.set 0 s.lnk.words k 0 } } : State).respond f 0 (leBytes 8 v) true
  else
    let v := s.lnk.pendingBits
    ({ s with lnk := { s.lnk with pendingBits := 0 } } : State).respond f 0 (leBytes 24 v) true

/-! ## Messages (R32, R432, R434) -/

/-- A MESSAGE from node 0: a forwarded FMP datagram, bytes of an image for the security processor, or a module reset, whose
layout is not given. -/
def onMessage (s : State) (f : Frame) : State :=
  if s.fw.incoming ≠ [] ∨ field f.payload 0 4 = 0x53450960 then s.imageBytes f.payload
  else if field f.payload 0 2 = 0xF960 then
    s.onPath (.forwarded f.src f.tag f.payload) fun s => s.runForwarded f.src f.tag f.payload
  else if Config.fn fnResetMessage (frameNumbers f) % 2 = 1 then s.resetMain false
  else s

/-! ## Enumeration at a child (R225 to R227) -/

/-- HELLO: the link carries traffic from here; an endpoint knows its parent, and answers. -/
def onHello (s : State) (port : Nat) (f : Frame) : State :=
  let v := s.get 0x2C01 (2 + port)
  let s := if s.portState port = 1 then s.linkTrained port (v / 256) (v / 16 % 16) true else s
  if port = 0 ∧ s.get 0x2C01 1 = 0 then
    ({ s with lnk := { s.lnk with parent := some f.src, helloed := true } } : State).hello 0
  else s

/-- A neighbour says which nodes are present now; what has changed goes on to the other neighbours (R249). A node behind a link
of this module that is down stays absent. -/
def onNotice (s : State) (port : Nat) (f : Frame) : State :=
  let p := leNat f.payload &&& s.lnk.known
  let seen := (maskBits 192 p).foldl (fun a n => if n = s.nodeId ∨ s.portState (s.routeTo n) = 2 then a + 2 ^ n else a) 0
  if seen = nodeBits (s.getB 0x2C00 5) then s else (s.setPresent seen).tellNeighbours (some port)

/-- The module's ID, level, NODES_PRESENT and ROUTE_TABLE: the ID is the frame's destination; where the rest stands in the frame is
not given, and it is free functions of it. The module becomes a worker, and sends HELLO on its ports. -/
def onAssigned (s : State) (f : Frame) : State :=
  let g := fun (i : Nat) => Config.fn fnAssign (i :: frameNumbers f)
  if f.dst = 0 ∨ 191 < f.dst then s
  else
    let s := ((s.set 0x2C00 1 f.dst).set 0x2C00 2 2).set 0x2C00 3 (1 + g 1 % 5)
    let s := (s.setB 0x2C00 5 (leBytes 24 (g 2))).setB 0x2C00 6 (leBytes 48 (g 3))
    let s : State := { s with lnk := { s.lnk with known := leNat (leBytes 24 (g 2)), helloed := false } }
    if s.get 0x2C00 3 = 5 then s else s.helloAll

def onAssign (s : State) (port : Nat) (f : Frame) : State :=
  if s.givesId port f then s.onAssigned f
  else if f.payload.length = noticeBytes then s.onNotice port f
  else s

/-! ## Arrival -/

/-- What a frame for this module does, by its kind. -/
def handle (s : State) (port : Nat) (f : Frame) : State :=
  if f.kind = kWriteP then s.onWriteP f
  else if f.kind = kWriteC then s.onWriteC f
  else if f.kind = kRead then s.onRead f
  else if f.kind = kCompletion then s.onCompletion f
  else if f.kind = kAck then s.onAck f
  else if f.kind = kCaravan then s.onCaravan f
  else if f.kind = kCredit then s.onCredit f
  else if f.kind = kSignalRc then s.onSignalRc f
  else if f.kind = kMessage then s.onMessage f
  else if f.kind = kHello then s.onHello port f
  else s.onAssign port f

/-- The bandwidth class whose cap an arriving frame meets: of an access to HBM, the class of inbound frames; of a batch, that of the
lane's slice (R257). -/
def frameClass (s : State) (f : Frame) : Option Nat :=
  if f.kind = kCaravan then (s.laneAt f.addr).map fun l => s.classOf (.bridge (s.get (0x2C40 + l) 1))
  else if (f.kind = kWriteP ∨ f.kind = kWriteC ∨ f.kind = kRead) ∧ inHbm f.addr then some (s.classOf (.inbound f.cls))
  else none

/-- An earlier frame that a cap holds goes first: one in the same buffer, or a posted one of the same source and class (R233). -/
def behindParked (s : State) (port : Nat) (f : Frame) : Bool := s.lnk.parked.any fun e =>
  decide (e.2.1.cls % 4 = f.cls % 4) && (decide (e.1 = port ∧ frameType e.2.1.kind = frameType f.kind)
    || decide (e.2.1.src = f.src ∧ frameType e.2.1.kind = 0))

/-- A frame for this module does what its kind does, or waits while the cap of its bandwidth class holds it (R260). -/
def land (s : State) (port : Nat) (f : Frame) : State :=
  let park := fun (s : State) (c : Nat) => ({ s with lnk := { s.lnk with parked := s.lnk.parked ++ [(port, f, c)] } } : State)
  match s.frameClass f with
  | some c => if s.capHolds c then park (s.noteHeld c) c else if s.behindParked port f then park s c else s.handle port f
  | none => if s.behindParked port f then park s 16 else s.handle port f

/-- Frames that a cap held go on where it does so no more, in their order. -/
def landParked (s : State) : State :=
  let s := s.lnk.parked.foldl (fun s e => s.land e.1 e.2.1) { s with lnk := { s.lnk with parked := [] } }
  (List.range 16).foldl settleHeld s

/-- What every frame meets on arrival (R224, R227, R230, R231, R235): room in its receive buffer, the check, HOPS, the way onward,
acceptance, and then what its kind does. A module without an ID answers HELLO only (R226). -/
def arrive (s : State) (port : Nat) (f : Frame) (kind : Nat) : State :=
  if f.kind ≠ kind ∨ 3 < port ∨ s.portState port = 0 ∨ (s.portState port ≠ 2 ∧ kind ≠ kHello)
      ∨ bufferBytes < s.received port (frameType kind) f.cls + frameSize f then s
  else if s.hostOn port ∧ kind ≠ kHello then s.bump 0x2C08 6
  else
    let s := (s.workArrives.bump 0x2C08 2).count (319 + port) f.payload.length
    if frameCheck f ≠ f.crc then s.bump 0x2C08 3
    else
      let f := { f with hops := f.hops + 1, cls := f.cls % 4 }
      if 11 ≤ f.hops then s
      else if !s.isMine port f then (if s.nodeId = 0xFF then s else s.forward port f)
      else if !s.accepts port f then (s.bump 0x2C08 6).turnAway f St.inboundRefused
      else s.land port f

/-- With no command waiting the bridge goes on by itself: frames that a cap held land where it holds them no more, and frames that
wait at a port leave (DESIGN CHOICE, log 10). -/
def idle (s : State) : State := (if s.lnk.parked = [] then s else s.landParked).transmitAll

/-! ## Accesses through the outbound aperture (R236 to R239) -/

/-- A store to a posted window. -/
def postedStore (s : State) (addr : Nat) (bs : List Byte) : State :=
  match s.windowAt addr bs.length with
  | none => s.emit (.loadData none)
  | some (x, t) =>
    if x.mode ≠ 0 ∨ bs = [] then s
    else if x.node = s.nodeId then (let r := s.inboundWrite x.cls t bs; r.2.countRefused r.1)
    else if !s.nodePresent x.node then s
    else s.sendFrame { dst := x.node, src := 0, kind := kWriteP, cls := x.cls, addr := t, payload := bs }

/-- A store to a confirmed window: it waits for its ACK. -/
def confirmedStore (s : State) (hart addr : Nat) (bs : List Byte) : State :=
  match s.windowAt addr bs.length with
  | none => s.emit (.loadData none)
  | some (x, t) =>
    if x.mode ≠ 1 ∨ bs = [] then s
    else
      let fails := fun (s : State) => (s.addRecord St.remoteWriteFailed 0x14 0xFF (leBytes 1 x.node ++ leBytes 8 t)).emit (.loadData none)
      if x.node = s.nodeId then
        let r := s.inboundWrite x.cls t bs
        if r.1 = 0 then r.2 else fails (r.2.countRefused r.1)
      else if !s.nodePresent x.node then fails s
      else s.sendWrites x.node x.cls t bs (.store hart t)

/-- A small read of 1 to 64 B through an outbound window. -/
def smallRead (s : State) (r : Reader) (addr len : Nat) : State :=
  if len = 0 ∨ 64 < len then s
  else match s.windowAt addr len with
  | none => s.emit (.loadData none)
  | some (x, t) =>
    if x.node = s.nodeId then
      let a := s.inboundRead x.cls t len
      if a.1 = 0 then a.2.2.readerGets r a.2.1 else (a.2.2.countRefused a.1).readerFails r a.1
    else if !s.nodePresent x.node then s.readerFails r St.nodeUnreachable
    else match s.smallTag { what := .reader r, node := x.node, time := s.now } with
      | (none, _) => s
      | (some tag, s) => s.sendFrame { dst := x.node, src := 0, kind := kRead, cls := x.cls, tag := tag, addr := t, len := len }

end State

/-! ## The commands -/

/-- WRITE_P (R237). -/
def execWriteP (port : Nat) (f : Frame) (s : State) : Out := .next (s.arrive port f kWriteP)

/-- WRITE_C (R238). -/
def execWriteC (port : Nat) (f : Frame) (s : State) : Out := .next (s.arrive port f kWriteC)

/-- READ (R239). -/
def execReadFrame (port : Nat) (f : Frame) (s : State) : Out := .next (s.arrive port f kRead)

/-- COMPLETION (R239, R241, R243, R32). -/
def execCompletionFrame (port : Nat) (f : Frame) (s : State) : Out := .next (s.arrive port f kCompletion)

/-- PLOMOR_ACK (R238, R241, R247). -/
def execPlomorAck (port : Nat) (f : Frame) (s : State) : Out := .next (s.arrive port f kAck)

/-- CARAVAN (R245, R247). -/
def execCaravan (port : Nat) (f : Frame) (s : State) : Out := .next (s.arrive port f kCaravan)

/-- CREDIT (R246). -/
def execCredit (port : Nat) (f : Frame) (s : State) : Out := .next (s.arrive port f kCredit)

/-- SIGNAL_RC (R242). -/
def execSignalRc (port : Nat) (f : Frame) (s : State) : Out := .next (s.arrive port f kSignalRc)

/-- MESSAGE (R32, R432, R434). -/
def execMessageFrame (port : Nat) (f : Frame) (s : State) : Out := .next (s.arrive port f kMessage)

/-- HELLO (R225, R250). -/
def execHello (port : Nat) (f : Frame) (s : State) : Out := .next (s.arrive port f kHello)

/-- ASSIGN (R226, R227). -/
def execAssign (port : Nat) (f : Frame) (s : State) : Out := .next (s.arrive port f kAssign)

/-- POSTED_WINDOW_STORE (R236, R237). -/
def execPostedWindowStore (addr : Nat) (data : List Byte) (s : State) : Out := .next (s.postedStore addr data)

/-- CONFIRMED_WINDOW_STORE (R236, R238). -/
def execConfirmedWindowStore (hart addr : Nat) (data : List Byte) (s : State) : Out := .next (s.confirmedStore hart addr data)

/-- SMALL_READ (R239). -/
def execSmallRead (by_ : Reader) (addr len : Nat) (s : State) : Out := .next (s.smallRead by_ addr len)

end Sys2Proof.Machine
end

