-- ==== Sys2Proof/Machine/Dispatch.lean ====
section
/-! DEFINITION. The effect of every command: one arm per constructor, each a direct call of that row's meaning. -/

namespace Sys2Proof.Machine

open Sys2Proof

def exec (i : Instr) (s : State) : Host.Outcome State Fault Refusal :=
  match i with
  | .usdoRequest r => Sys2Proof.Machine.execUsdoRequest r s
  | .usdoAbort => Sys2Proof.Machine.execUsdoAbort s
  | .usdoSessionTimeout => Sys2Proof.Machine.execUsdoSessionTimeout s
  | .fmpRead d => Sys2Proof.Machine.execFmpRead d s
  | .fmpWrite d => Sys2Proof.Machine.execFmpWrite d s
  | .fmpWriteSet d => Sys2Proof.Machine.execFmpWriteSet d s
  | .dwRead w req => Sys2Proof.Machine.execDwRead w req s
  | .dwWrite w req => Sys2Proof.Machine.execDwWrite w req s
  | .registerWrite t => Sys2Proof.Machine.execRegisterWrite t s
  | .dictHeldAccessServe p => Sys2Proof.Machine.execDictHeldAccessServe p s
  | .piecedTransferTimeout idx sub inst => Sys2Proof.Machine.execPiecedTransferTimeout idx sub inst s
  | .storeComm d v => Sys2Proof.Machine.execStoreComm d v s
  | .restoreComm d v => Sys2Proof.Machine.execRestoreComm d v s
  | .commEntryWrite d idx sub data => Sys2Proof.Machine.execCommEntryWrite d idx sub data s
  | .ack d v => Sys2Proof.Machine.execAck d v s
  | .compatModeWrite d v => Sys2Proof.Machine.execCompatModeWrite d v s
  | .paceWindowBoundary => Sys2Proof.Machine.execPaceWindowBoundary s
  | .powerLoopSample deciWatt => Sys2Proof.Machine.execPowerLoopSample deciWatt s
  | .powerLimitUnmet => Sys2Proof.Machine.execPowerLimitUnmet s
  | .thermalLoopSample sensors => Sys2Proof.Machine.execThermalLoopSample sensors s
  | .subfloorDoubt => Sys2Proof.Machine.execSubfloorDoubt s
  | .governorSettingWrite d idx sub v => Sys2Proof.Machine.execGovernorSettingWrite d idx sub v s
  | .regulatorSettled => Sys2Proof.Machine.execRegulatorSettled s
  | .railMinClear d v => Sys2Proof.Machine.execRailMinClear d v s
  | .supplyInputChange in48 in12 rail => Sys2Proof.Machine.execSupplyInputChange in48 in12 rail s
  | .coreRailPowerOnReset rail => Sys2Proof.Machine.execCoreRailPowerOnReset rail s
  | .doorbellWrite off wide v => Sys2Proof.Machine.execDoorbellWrite off wide v s
  | .contextSpillLoad q => Sys2Proof.Machine.execContextSpillLoad q s
  | .descriptorFetch q => Sys2Proof.Machine.execDescriptorFetch q s
  | .tileDeal q n => Sys2Proof.Machine.execTileDeal q n s
  | .tileDrain e r => Sys2Proof.Machine.execTileDrain e r s
  | .preemptionPointSave e live parity => Sys2Proof.Machine.execPreemptionPointSave e live parity s
  | .tileRestore e slot => Sys2Proof.Machine.execTileRestore e slot s
  | .completionRecordWrite q => Sys2Proof.Machine.execCompletionRecordWrite q s
  | .irqHoldoffEnd t => Sys2Proof.Machine.execIrqHoldoffEnd t s
  | .gemm q n => Sys2Proof.Machine.execGemm q n s
  | .gemmBatched q n => Sys2Proof.Machine.execGemmBatched q n s
  | .gemmAcc q n => Sys2Proof.Machine.execGemmAcc q n s
  | .elementwise q n => Sys2Proof.Machine.execElementwise q n s
  | .reduce q n => Sys2Proof.Machine.execReduce q n s
  | .normalise q n => Sys2Proof.Machine.execNormalise q n s
  | .convert q n => Sys2Proof.Machine.execConvert q n s
  | .softmax q n => Sys2Proof.Machine.execSoftmax q n s
  | .topk q n => Sys2Proof.Machine.execTopk q n s
  | .gather q n => Sys2Proof.Machine.execGather q n s
  | .copy q n => Sys2Proof.Machine.execCopy q n s
  | .fill q n => Sys2Proof.Machine.execFill q n s
  | .transpose q n => Sys2Proof.Machine.execTranspose q n s
  | .prefetchTensor q n => Sys2Proof.Machine.execPrefetchTensor q n s
  | .exportTensor q n => Sys2Proof.Machine.execExportTensor q n s
  | .nop q n => Sys2Proof.Machine.execNop q n s
  | .signal q n => Sys2Proof.Machine.execSignal q n s
  | .wait q n => Sys2Proof.Machine.execWait q n s
  | .waitTimeout q n => Sys2Proof.Machine.execWaitTimeout q n s
  | .timestamp q n => Sys2Proof.Machine.execTimestamp q n s
  | .tensorCreate q n => Sys2Proof.Machine.execTensorCreate q n s
  | .tensorRelease q n => Sys2Proof.Machine.execTensorRelease q n s
  | .tensorView q n => Sys2Proof.Machine.execTensorView q n s
  | .dispatch q n => Sys2Proof.Machine.execDispatch q n s
  | .kernelLoad q n => Sys2Proof.Machine.execKernelLoad q n s
  | .kernelFree q n => Sys2Proof.Machine.execKernelFree q n s
  | .conv q n => Sys2Proof.Machine.execConv q n s
  | .pool q n => Sys2Proof.Machine.execPool q n s
  | .resize q n => Sys2Proof.Machine.execResize q n s
  | .crop q n => Sys2Proof.Machine.execCrop q n s
  | .regroup q n => Sys2Proof.Machine.execRegroup q n s
  | .attention q n => Sys2Proof.Machine.execAttention q n s
  | .kvAppend q n => Sys2Proof.Machine.execKvAppend q n s
  | .kvSeqOpen q n => Sys2Proof.Machine.execKvSeqOpen q n s
  | .kvSeqClose q n => Sys2Proof.Machine.execKvSeqClose q n s
  | .kvResume q n => Sys2Proof.Machine.execKvResume q n s
  | .kvPrefixPublish q n => Sys2Proof.Machine.execKvPrefixPublish q n s
  | .kvBlockExport q n => Sys2Proof.Machine.execKvBlockExport q n s
  | .attnCombine q n => Sys2Proof.Machine.execAttnCombine q n s
  | .kvPoolCreate d p => Sys2Proof.Machine.execKvPoolCreate d p s
  | .kvPoolDestroy d p => Sys2Proof.Machine.execKvPoolDestroy d p s
  | .kvPoolTrim d p => Sys2Proof.Machine.execKvPoolTrim d p s
  | .kvPoolEntryWrite d p sub v => Sys2Proof.Machine.execKvPoolEntryWrite d p sub v s
  | .prefixNodeLimitWrite d k_ v => Sys2Proof.Machine.execPrefixNodeLimitWrite d k_ v s
  | .seraiShareWrite d k_ v => Sys2Proof.Machine.execSeraiShareWrite d k_ v s
  | .placementPolicyWrite d idx sub v => Sys2Proof.Machine.execPlacementPolicyWrite d idx sub v s
  | .quarantineRetest d v => Sys2Proof.Machine.execQuarantineRetest d v s
  | .countersClear d v => Sys2Proof.Machine.execCountersClear d v s
  | .engineEnableWrite d v => Sys2Proof.Machine.execEngineEnableWrite d v s
  | .engineEnableDone e pass => Sys2Proof.Machine.execEngineEnableDone e pass s
  | .engineDisableSaveDone e => Sys2Proof.Machine.execEngineDisableSaveDone e s
  | .engineDisableDone e => Sys2Proof.Machine.execEngineDisableDone e s
  | .queueConfig d data => Sys2Proof.Machine.execQueueConfig d data s
  | .queueEnable d q => Sys2Proof.Machine.execQueueEnable d q s
  | .queueDisable d q => Sys2Proof.Machine.execQueueDisable d q s
  | .queueRestart d q => Sys2Proof.Machine.execQueueRestart d q s
  | .queueResetCounts d q => Sys2Proof.Machine.execQueueResetCounts d q s
  | .sliceCreate d k_ => Sys2Proof.Machine.execSliceCreate d k_ s
  | .sliceDestroy d k_ => Sys2Proof.Machine.execSliceDestroy d k_ s
  | .sliceRundownDone k_ => Sys2Proof.Machine.execSliceRundownDone k_ s
  | .queueBlocksWrite d k_ data => Sys2Proof.Machine.execQueueBlocksWrite d k_ data s
  | .memQuotaWrite d k_ v => Sys2Proof.Machine.execMemQuotaWrite d k_ v s
  | .graceMsWrite d k_ v => Sys2Proof.Machine.execGraceMsWrite d k_ v s
  | .graceExpiry k_ => Sys2Proof.Machine.execGraceExpiry k_ s
  | .engineShareWrite d k_ v => Sys2Proof.Machine.execEngineShareWrite d k_ v s
  | .engineWindowBoundary => Sys2Proof.Machine.execEngineWindowBoundary s
  | .portARoleWrite d v => Sys2Proof.Machine.execPortARoleWrite d v s
  | .topologyCmd d v tree => Sys2Proof.Machine.execTopologyCmd d v tree s
  | .linkTrained port width gen hello => Sys2Proof.Machine.execLinkTrained port width gen hello s
  | .linkDown port => Sys2Proof.Machine.execLinkDown port s
  | .writeP port f => Sys2Proof.Machine.execWriteP port f s
  | .writeC port f => Sys2Proof.Machine.execWriteC port f s
  | .readFrame port f => Sys2Proof.Machine.execReadFrame port f s
  | .completionFrame port f => Sys2Proof.Machine.execCompletionFrame port f s
  | .plomorAck port f => Sys2Proof.Machine.execPlomorAck port f s
  | .caravan port f => Sys2Proof.Machine.execCaravan port f s
  | .credit port f => Sys2Proof.Machine.execCredit port f s
  | .signalRc port f => Sys2Proof.Machine.execSignalRc port f s
  | .messageFrame port f => Sys2Proof.Machine.execMessageFrame port f s
  | .hello port f => Sys2Proof.Machine.execHello port f s
  | .assign port f => Sys2Proof.Machine.execAssign port f s
  | .outboundWindowWrite d w data => Sys2Proof.Machine.execOutboundWindowWrite d w data s
  | .postedWindowStore addr data => Sys2Proof.Machine.execPostedWindowStore addr data s
  | .confirmedWindowStore hart addr data => Sys2Proof.Machine.execConfirmedWindowStore hart addr data s
  | .confirmedWriteTimeout tag => Sys2Proof.Machine.execConfirmedWriteTimeout tag s
  | .smallRead by_ addr len => Sys2Proof.Machine.execSmallRead by_ addr len s
  | .readDiscardTimeout tag => Sys2Proof.Machine.execReadDiscardTimeout tag s
  | .bufferedCompletionDiscard port f => Sys2Proof.Machine.execBufferedCompletionDiscard port f s
  | .bulkReadTimeout tag => Sys2Proof.Machine.execBulkReadTimeout tag s
  | .signalPageWrite off data => Sys2Proof.Machine.execSignalPageWrite off data s
  | .signalPoll => Sys2Proof.Machine.execSignalPoll s
  | .laneOpen d l => Sys2Proof.Machine.execLaneOpen d l s
  | .laneClose d l => Sys2Proof.Machine.execLaneClose d l s
  | .caravanSend q n => Sys2Proof.Machine.execCaravanSend q n s
  | .caravanWaitTimeout q n => Sys2Proof.Machine.execCaravanWaitTimeout q n s
  | .caravanRelease q n => Sys2Proof.Machine.execCaravanRelease q n s
  | .hbmRead m addr len queued report => Sys2Proof.Machine.execHbmRead m addr len queued report s
  | .partialGranuleWrite m addr data => Sys2Proof.Machine.execPartialGranuleWrite m addr data s
  | .bwWindowBoundary starved => Sys2Proof.Machine.execBwWindowBoundary starved s
  | .hbmTempSample celsius => Sys2Proof.Machine.execHbmTempSample celsius s
  | .bwGuaranteeWrite d c sub v => Sys2Proof.Machine.execBwGuaranteeWrite d c sub v s
  | .bwCountersClear d v => Sys2Proof.Machine.execBwCountersClear d v s
  | .gfxPass q n => Sys2Proof.Machine.execGfxPass q n s
  | .gfxShaderLoad q n => Sys2Proof.Machine.execGfxShaderLoad q n s
  | .gfxShaderFree q n => Sys2Proof.Machine.execGfxShaderFree q n s
  | .gfxPresent q n => Sys2Proof.Machine.execGfxPresent q n s
  | .tileTimeout pipe => Sys2Proof.Machine.execTileTimeout pipe s
  | .gfxTileDone pipe => Sys2Proof.Machine.execGfxTileDone pipe s
  | .paramBufferWrite d v => Sys2Proof.Machine.execParamBufferWrite d v s
  | .outputEnableWrite d out sub v => Sys2Proof.Machine.execOutputEnableWrite d out sub v s
  | .layerWrite d out k sub v => Sys2Proof.Machine.execLayerWrite d out k sub v s
  | .latchPoint out => Sys2Proof.Machine.execLatchPoint out s
  | .scanOutStart out late => Sys2Proof.Machine.execScanOutStart out late s
  | .displayLinkDown out => Sys2Proof.Machine.execDisplayLinkDown out s
  | .poseHandleWrite d v => Sys2Proof.Machine.execPoseHandleWrite d v s
  | .plnPlan q n => Sys2Proof.Machine.execPlnPlan q n s
  | .planGrant => Sys2Proof.Machine.execPlanGrant s
  | .searchRound q n => Sys2Proof.Machine.execSearchRound q n s
  | .searchWindowExpired q n => Sys2Proof.Machine.execSearchWindowExpired q n s
  | .finalPhase q n => Sys2Proof.Machine.execFinalPhase q n s
  | .plnLatticeLoad q n => Sys2Proof.Machine.execPlnLatticeLoad q n s
  | .plnLatticeFree q n => Sys2Proof.Machine.execPlnLatticeFree q n s
  | .plnOccUpdate q n => Sys2Proof.Machine.execPlnOccUpdate q n s
  | .plnLanesReservedWrite d k_ v => Sys2Proof.Machine.execPlnLanesReservedWrite d k_ v s
  | .tdmFrame samples => Sys2Proof.Machine.execTdmFrame samples s
  | .aafSampleArrival stream ch sample late => Sys2Proof.Machine.execAafSampleArrival stream ch sample late s
  | .aafRateFault stream => Sys2Proof.Machine.execAafRateFault stream s
  | .ancBlock => Sys2Proof.Machine.execAncBlock s
  | .ancStart d => Sys2Proof.Machine.execAncStart d s
  | .ancStop d => Sys2Proof.Machine.execAncStop d s
  | .ancFreeze d => Sys2Proof.Machine.execAncFreeze d s
  | .ancResume d => Sys2Proof.Machine.execAncResume d s
  | .voiceStart d => Sys2Proof.Machine.execVoiceStart d s
  | .voiceStop d => Sys2Proof.Machine.execVoiceStop d s
  | .voiceFrame => Sys2Proof.Machine.execVoiceFrame s
  | .playFrame => Sys2Proof.Machine.execPlayFrame s
  | .inputStuck ch => Sys2Proof.Machine.execInputStuck ch s
  | .inputRecovered ch => Sys2Proof.Machine.execInputRecovered ch s
  | .outputReadbackFault lane => Sys2Proof.Machine.execOutputReadbackFault lane s
  | .tdmDirWrite d lane v => Sys2Proof.Machine.execTdmDirWrite d lane v s
  | .acuEntryWrite d idx sub v => Sys2Proof.Machine.execAcuEntryWrite d idx sub v s
  | .acuCoefLoad q n => Sys2Proof.Machine.execAcuCoefLoad q n s
  | .canFrameRx port f reversed => Sys2Proof.Machine.execCanFrameRx port f reversed s
  | .canBusOff ch => Sys2Proof.Machine.execCanBusOff ch s
  | .busoffRecoveryDone ch => Sys2Proof.Machine.execBusoffRecoveryDone ch s
  | .canRecover d ch => Sys2Proof.Machine.execCanRecover d ch s
  | .canFlush d ch => Sys2Proof.Machine.execCanFlush d ch s
  | .canDominantTimeout ch => Sys2Proof.Machine.execCanDominantTimeout ch s
  | .canBusFault ch cause => Sys2Proof.Machine.execCanBusFault ch cause s
  | .canFaultRetry ch recessive => Sys2Proof.Machine.execCanFaultRetry ch recessive s
  | .canModeWrite d ch sub v => Sys2Proof.Machine.execCanModeWrite d ch sub v s
  | .linScheduleSlot ch => Sys2Proof.Machine.execLinScheduleSlot ch s
  | .linBusFault ch => Sys2Proof.Machine.execLinBusFault ch s
  | .linGoToSleep d ch => Sys2Proof.Machine.execLinGoToSleep d ch s
  | .linWakePulse d ch => Sys2Proof.Machine.execLinWakePulse d ch s
  | .ethLinkDown port result => Sys2Proof.Machine.execEthLinkDown port result s
  | .ethLinkUp port sqi swapped => Sys2Proof.Machine.execEthLinkUp port sqi swapped s
  | .cableDiag d port v result => Sys2Proof.Machine.execCableDiag d port v result s
  | .ethEnableWrite d port sub v => Sys2Proof.Machine.execEthEnableWrite d port sub v s
  | .switchFrameIngress port f => Sys2Proof.Machine.execSwitchFrameIngress port f s
  | .switchTableWrite d sub data => Sys2Proof.Machine.execSwitchTableWrite d sub data s
  | .gclCommit d port v => Sys2Proof.Machine.execGclCommit d port v s
  | .gclCycleStart port => Sys2Proof.Machine.execGclCycleStart port s
  | .avtpduSend stream => Sys2Proof.Machine.execAvtpduSend stream s
  | .avtpduReceive mac sid seq msgs => Sys2Proof.Machine.execAvtpduReceive mac sid seq msgs s
  | .routeCommit d v => Sys2Proof.Machine.execRouteCommit d v s
  | .routeFence => Sys2Proof.Machine.execRouteFence s
  | .inputFilterSettle line level => Sys2Proof.Machine.execInputFilterSettle line level s
  | .filterUsWrite d line v => Sys2Proof.Machine.execFilterUsWrite d line v s
  | .goStateWrite d v => Sys2Proof.Machine.execGoStateWrite d v s
  | .goOverload out => Sys2Proof.Machine.execGoOverload out s
  | .goOpenLoad out => Sys2Proof.Machine.execGoOpenLoad out s
  | .camPowerEnableWrite d v => Sys2Proof.Machine.execCamPowerEnableWrite d v s
  | .cameraOvercurrent cam => Sys2Proof.Machine.execCameraOvercurrent cam s
  | .cameraPowerRetry cam => Sys2Proof.Machine.execCameraPowerRetry cam s
  | .cameraOpenLoad cam => Sys2Proof.Machine.execCameraOpenLoad cam s
  | .coolantSample ta tb => Sys2Proof.Machine.execCoolantSample ta tb s
  | .snapSec r base => Sys2Proof.Machine.execSnapSec r base s
  | .jointSnapshot r => Sys2Proof.Machine.execJointSnapshot r s
  | .tbSet d n data => Sys2Proof.Machine.execTbSet d n data s
  | .tbCmd d n v => Sys2Proof.Machine.execTbCmd d n v s
  | .tbIncrementWrite d n v => Sys2Proof.Machine.execTbIncrementWrite d n v s
  | .tbModeWrite d n v => Sys2Proof.Machine.execTbModeWrite d n v s
  | .servoMeasurement n offsetNs refRate => Sys2Proof.Machine.execServoMeasurement n offsetNs refRate s
  | .tb0SyncLost => Sys2Proof.Machine.execTb0SyncLost s
  | .partActivate d k => Sys2Proof.Machine.execPartActivate d k s
  | .partDeactivate d k => Sys2Proof.Machine.execPartDeactivate d k s
  | .majorFrameBoundary => Sys2Proof.Machine.execMajorFrameBoundary s
  | .windowLeadStart w => Sys2Proof.Machine.execWindowLeadStart w s
  | .windowStart w => Sys2Proof.Machine.execWindowStart w s
  | .windowEnd w => Sys2Proof.Machine.execWindowEnd w s
  | .pairCompare e a b => Sys2Proof.Machine.execPairCompare e a b s
  | .mismatchSelftestDone e pass => Sys2Proof.Machine.execMismatchSelftestDone e pass s
  | .tuningFrameStart k => Sys2Proof.Machine.execTuningFrameStart k s
  | .tuningFrameLatest k => Sys2Proof.Machine.execTuningFrameLatest k s
  | .tuningFrameDone k => Sys2Proof.Machine.execTuningFrameDone k s
  | .tfCmd d k v => Sys2Proof.Machine.execTfCmd d k v s
  | .droneSliceStart u => Sys2Proof.Machine.execDroneSliceStart u s
  | .droneCheckpoint u => Sys2Proof.Machine.execDroneCheckpoint u s
  | .droneSliceDone u pass => Sys2Proof.Machine.execDroneSliceDone u pass s
  | .droneIntervalExceeded u => Sys2Proof.Machine.execDroneIntervalExceeded u s
  | .droneClaim u => Sys2Proof.Machine.execDroneClaim u s
  | .droneEnableWrite d v => Sys2Proof.Machine.execDroneEnableWrite d v s
  | .heartbeat => Sys2Proof.Machine.execHeartbeat s
  | .heartbeatLost => Sys2Proof.Machine.execHeartbeatLost s
  | .rearguardTakeover cause => Sys2Proof.Machine.execRearguardTakeover cause s
  | .mainReset cause => Sys2Proof.Machine.execMainReset cause s
  | .forceTakeover d v => Sys2Proof.Machine.execForceTakeover d v s
  | .rearguardPowerUp copyA copyB => Sys2Proof.Machine.execRearguardPowerUp copyA copyB s
  | .manoeuvreComplete => Sys2Proof.Machine.execManoeuvreComplete s
  | .rearguardStatusFrame => Sys2Proof.Machine.execRearguardStatusFrame s
  | .lockstepMismatch => Sys2Proof.Machine.execLockstepMismatch s
  | .handbackCmd d v => Sys2Proof.Machine.execHandbackCmd d v s
  | .secureWatermarkRaise d v => Sys2Proof.Machine.execSecureWatermarkRaise d v s
  | .secureWatermarkLower d v => Sys2Proof.Machine.execSecureWatermarkLower d v s
  | .scrubComplete => Sys2Proof.Machine.execScrubComplete s
  | .secReserveTopWrite d v => Sys2Proof.Machine.execSecReserveTopWrite d v s
  | .enclaveAssign d id first count => Sys2Proof.Machine.execEnclaveAssign d id first count s
  | .enclaveRelease d id first count => Sys2Proof.Machine.execEnclaveRelease d id first count s
  | .enclaveDestroy d id => Sys2Proof.Machine.execEnclaveDestroy d id s
  | .sliceEnclaveWrite d k_ v => Sys2Proof.Machine.execSliceEnclaveWrite d k_ v s
  | .menclaveWrite hart v => Sys2Proof.Machine.execMenclaveWrite hart v s
  | .mModeTrap hart => Sys2Proof.Machine.execMModeTrap hart s
  | .mret hart into => Sys2Proof.Machine.execMret hart into s
  | .secureHoldMaskWrite d data => Sys2Proof.Machine.execSecureHoldMaskWrite d data s
  | .noticeAck d v => Sys2Proof.Machine.execNoticeAck d v s
  | .noticeTimeout => Sys2Proof.Machine.execNoticeTimeout s
  | .swdKick d v => Sys2Proof.Machine.execSwdKick d v s
  | .secureWatchdog => Sys2Proof.Machine.execSecureWatchdog s
  | .keyProgram d data => Sys2Proof.Machine.execKeyProgram d data s
  | .keyRevoke d v => Sys2Proof.Machine.execKeyRevoke d v s
  | .rollbackAdvance d data => Sys2Proof.Machine.execRollbackAdvance d data s
  | .debugFuse d v => Sys2Proof.Machine.execDebugFuse d v s
  | .debugPolicyWrite d v => Sys2Proof.Machine.execDebugPolicyWrite d v s
  | .fmpKeyWrite d data => Sys2Proof.Machine.execFmpKeyWrite d data s
  | .dbgCert d data => Sys2Proof.Machine.execDbgCert d data s
  | .dbgResponse d data => Sys2Proof.Machine.execDbgResponse d data s
  | .debugLockoutEnd => Sys2Proof.Machine.execDebugLockoutEnd s
  | .dbgCmd d v => Sys2Proof.Machine.execDbgCmd d v s
  | .jtagTrst => Sys2Proof.Machine.execJtagTrst s
  | .idcode => Sys2Proof.Machine.execIdcode s
  | .dtmcs => Sys2Proof.Machine.execDtmcs s
  | .dmi write addr v => Sys2Proof.Machine.execDmi write addr v s
  | .bypass code => Sys2Proof.Machine.execBypass code s
  | .dmHalt hart => Sys2Proof.Machine.execDmHalt hart s
  | .dmResume hart => Sys2Proof.Machine.execDmResume hart s
  | .dmSingleStep hart e => Sys2Proof.Machine.execDmSingleStep hart e s
  | .accessRegister hart write regno v => Sys2Proof.Machine.execAccessRegister hart write regno v s
  | .systemBusAccess write size addr v => Sys2Proof.Machine.execSystemBusAccess write size addr v s
  | .latencyTolWrite d sub v => Sys2Proof.Machine.execLatencyTolWrite d sub v s
  | .dwellExpiry => Sys2Proof.Machine.execDwellExpiry s
  | .idleEntry => Sys2Proof.Machine.execIdleEntry s
  | .sleepEntry => Sys2Proof.Machine.execSleepEntry s
  | .deepSleepEntry => Sys2Proof.Machine.execDeepSleepEntry s
  | .offEntry => Sys2Proof.Machine.execOffEntry s
  | .wakeSourceEdge src edgeNs => Sys2Proof.Machine.execWakeSourceEdge src edgeNs s
  | .wakeTimer => Sys2Proof.Machine.execWakeTimer s
  | .wakeSuppressionEnd src => Sys2Proof.Machine.execWakeSuppressionEnd src s
  | .idleExit => Sys2Proof.Machine.execIdleExit s
  | .sleepExit => Sys2Proof.Machine.execSleepExit s
  | .deepSleepExit intact => Sys2Proof.Machine.execDeepSleepExit intact s
  | .offExit => Sys2Proof.Machine.execOffExit s
  | .functionEnableWrite d sub v stopped => Sys2Proof.Machine.execFunctionEnableWrite d sub v stopped s
  | .functionShutdownDone f => Sys2Proof.Machine.execFunctionShutdownDone f s
  | .mainSideStart k => Sys2Proof.Machine.execMainSideStart k s
  | .skeotLoad mode addr len node => Sys2Proof.Machine.execSkeotLoad mode addr len node s
  | .skeotUpdate mode addr len node => Sys2Proof.Machine.execSkeotUpdate mode addr len node s
  | .skeotStatus mode node => Sys2Proof.Machine.execSkeotStatus mode node s
  | .moduleReset mode node => Sys2Proof.Machine.execModuleReset mode node s
  | .firmwareStart tablesOk => Sys2Proof.Machine.execFirmwareStart tablesOk s
  | .updatePauseBegin => Sys2Proof.Machine.execUpdatePauseBegin s
  | .handoffCheck accepts pauseUs => Sys2Proof.Machine.execHandoffCheck accepts pauseUs s
  | .fwFault committed => Sys2Proof.Machine.execFwFault committed s
  | .pmuSnapshot r => Sys2Proof.Machine.execPmuSnapshot r s
  | .pmuClear d v => Sys2Proof.Machine.execPmuClear d v s
  | .counterDump => Sys2Proof.Machine.execCounterDump s
  | .dumpRingWrite d idx sub v => Sys2Proof.Machine.execDumpRingWrite d idx sub v s
  | .countReferenceTick issue => Sys2Proof.Machine.execCountReferenceTick issue s
  | .canFrameTx ch ok => Sys2Proof.Machine.execCanFrameTx ch ok s
  | .linBusRecessive ch => Sys2Proof.Machine.execLinBusRecessive ch s
  | .displayLinkUp out => Sys2Proof.Machine.execDisplayLinkUp out s
  | .cameraFrameStart cam => Sys2Proof.Machine.execCameraFrameStart cam s

end Sys2Proof.Machine
end

