-- ==== Sys2Proof/Safety.lean ====
section
/-! DEFINITION. What counts as a safe run, the canonical form of memory, and the words in which statements say when a
dictionary write is performed at once. -/

namespace Sys2Proof.Machine

open Sys2Proof

/-- A step that goes on: neither a fault nor a refusal. -/
def goesOn (s : State) : Prop := ∃ t, step s = .next t

/-- A run of `n` steps that goes on to its end. -/
def safeRun : Nat → State → Prop
  | 0, _ => True
  | n + 1, s => ∃ t, step s = .next t ∧ safeRun n t

/-! ## Memory -/

/-- Keys at or above `lo`, strictly rising. -/
def Memory.rising : Nat → NMap Byte → Bool
  | _, [] => true
  | lo, (a, _) :: m => decide (lo ≤ a) && Memory.rising (a + 1) m

/-- The canonical form of HBM: addresses strictly rise, and no listed byte is what its address reads as unlisted. -/
def Memory.wf (s : State) : Bool :=
  Memory.rising 0 s.mem.cells && s.mem.cells.all fun c => decide (c.2 ≠ s.blank c.1)

/-- The two states read every byte of HBM alike. -/
def Memory.same (s t : State) : Prop := ∀ a, t.readByte a = s.readByte a

/-- The two states read every byte of HBM alike outside `n` bytes from `a`. -/
def Memory.sameBut (s t : State) (a n : Nat) : Prop := ∀ b, b < a ∨ a + n ≤ b → t.readByte b = s.readByte b

/-- The command leaves all of HBM, every queue and every sequence of the KV cache as they were. -/
def State.spares (s : State) (c : Instr) : Prop :=
  ∀ t, exec c s = .next t → t.mem = s.mem ∧ t.que.queues = s.que.queues ∧ t.kv = s.kv

/-! ## When a dictionary write is performed at once (R22, R23, R30, R35, R36, R399) -/

/-- A request on the path is performed now: no main reset, the module in RUN, firmware running, nothing held before it. -/
def State.servesNow (s : State) (p : Path) : Prop :=
  s.pwr.inReset = false ∧ s.fwRunning = true ∧ s.heldOn p = 0 ∧ s.inRun = true

/-- The state in which it is performed: a request ends the idle dwell (R409). -/
def State.roused (s : State) : State := s.setPwr { s.pwr with dwell := false, busyAt := s.now }

/-- The entry exists for the domain, is written with a number, permits `n`, and no secure hold forbids it, and the range is not the manager's alone (R20); `i` is its occurrence
(0 the module's, k + 1 that of slice k). -/
def State.takesNum (s : State) (d : Dom) (idx sub n i : Nat) : Prop :=
  s.managerOnly d idx = false ∧ ∃ e, s.entryFor d idx sub true = .ok (e, i) ∧ 0 < e.ty.size ∧ n < 256 ^ e.ty.size ∧ rangeFail e n = none
    ∧ (d = .secure ∨ (s.stops idx sub n).any s.heldBlock = false)

/-- The entry exists for the domain and takes the string `b`. -/
def State.takesStr (s : State) (d : Dom) (idx sub : Nat) (b : List Byte) (i : Nat) : Prop :=
  s.managerOnly d idx = false ∧ ∃ e, s.entryFor d idx sub true = .ok (e, i) ∧ e.ty.size = 0 ∧ e.ty ≠ .dom ∧ b.length ≤ 255 ∧ (e.size = 0 ∨ b.length = e.size)

/-- The entry is a DOMAIN written whole and takes `b`, and no transfer of it in pieces is open. -/
def State.takesWhole (s : State) (d : Dom) (idx sub : Nat) (b : List Byte) (i : Nat) : Prop :=
  s.managerOnly d idx = false ∧ ∃ e, s.entryFor d idx sub true = .ok (e, i) ∧ e.ty = .dom ∧ e.whole = true ∧ b.length = e.size
    ∧ NMap.get none s.dic.pieced (entryKey i idx sub) = none

/-- The entry is a DOMAIN that takes pieces, `b` is all of it in one piece, and no transfer of it is open. -/
def State.takesPiece (s : State) (d : Dom) (idx sub : Nat) (b : List Byte) (i : Nat) : Prop :=
  s.managerOnly d idx = false ∧ ∃ e, s.entryFor d idx sub true = .ok (e, i) ∧ e.ty = .dom ∧ e.whole = false
    ∧ (e.size = 0 ∧ b.length ≤ 16777216 ∨ 0 < e.size ∧ b.length = e.size)
    ∧ NMap.get none s.dic.pieced (entryKey i idx sub) = none

/-- The state in which that piece is performed: no transfer of the entry is open or remembered as abandoned. -/
def State.gathered (s : State) (d : Dom) (idx sub i : Nat) : State :=
  (s.forget_ (entryKey i idx sub) (pathOf d) 0).setPieced (entryKey i idx sub) none

/-- A write has been performed and its success is answered on the domain's path. -/
def State.answered (t : State) (d : Dom) : State := t.emit (.answer (pathOf d) 0 [])

/-! ## Descriptors -/

/-- Descriptor `n` of queue `q` is `d`, has opcode `op`, was accepted, and is to be performed now: its tiles have been issued
none of its operands is still being fetched, and no bandwidth cap holds its requests. -/
def State.ready (s : State) (q n op : Nat) (d : Desc) : Prop :=
  s.desc q n = some d ∧ d.phase = .running ∧ d.left = 0 ∧ d.opcode s.compat = op ∧ d.rejected = false ∧ s.fetching q n = false
    ∧ s.workHeld q = false

/-- Descriptor `n` of queue `q` is `d`, has opcode `op` of a family without tiles, was accepted, and may begin now. -/
def State.begins (s : State) (q n op : Nat) (d : Desc) : Prop :=
  s.desc q n = some d ∧ s.mayBegin q n d = true ∧ d.opcode s.compat = op ∧ d.rejected = false ∧ s.workHeld q = false

/-- The state in which such a descriptor has begun. -/
def State.begun (s : State) (q n : Nat) (d : Desc) : State := s.setDesc q n { d with phase := .running, tDeal := s.now }

/-- A ready descriptor has had a family's effect and has completed with the status, DETAIL and flags that it left. -/
def State.performed (s : State) (q n : Nat) (d : Desc) (f : Work → Desc → Work) : State :=
  (f (s.startWork q n d) d).s.finish q n (f (s.startWork q n d) d).st (f (s.startWork q n d) d).det (f (s.startWork q n d) d).fl

/-! ## Frames -/

/-- Frame `f` of a kind arrives whole on a port whose link is up and leads to a module, where its receive buffer has room; it is
addressed to this node and accepted, and no bandwidth cap holds it: `t` is the state in which its kind's effect is taken, `g` the
frame as taken, its HOPS counted. -/
def State.lands (s : State) (port : Nat) (f : Frame) (kind : Nat) (t : State) (g : Frame) : Prop :=
  port < 4 ∧ f.kind = kind ∧ s.portState port = 2 ∧ s.received port (frameType kind) f.cls + frameSize f ≤ bufferBytes
    ∧ s.hostOn port = false ∧ frameCheck f = f.crc ∧ f.hops < 10
    ∧ t = (s.workArrives.bump 0x2C08 2).count (319 + port) f.payload.length ∧ g = { f with hops := f.hops + 1, cls := f.cls % 4 }
    ∧ t.isMine port g = true ∧ t.accepts port g = true ∧ (∀ c, t.frameClass g = some c → t.capHolds c = false)
    ∧ t.behindParked port g = false

end Sys2Proof.Machine
end

