-- ==== Sys2Proof/Certificates/Slice0/Obligations.lean ====
section
/-! DEFINITION. The statements for the provers. Each docstring says what the statement formalises, the rules of spec/ it
follows, and the log entries for what is the model's own choice. -/

open Sys2Proof Sys2Proof.Machine

/-- A step runs the command at the front of the queue on the state with the rest of the queue. The table's rows are whole
steps; the queue is the block's form of a program (log 15). -/
def Obligations.StepRunsFront : Prop :=
  ∀ (c : Instr) (q : List Instr) (s : State), s.pending = c :: q → step s = exec c { s with pending := q }

/-- Model choice: a step on an empty queue lets waiting frames go, and leaves the state when none waits. The model's choice of
log 10: an empty queue idles, and the bridge goes on by itself. -/
def Obligations.StepIdlesOnEmptyQueue : Prop :=
  ∀ (s : State), s.pending = [] →
    step s = .next s.idle ∧ (s.lnk.parked = [] → (∀ p, p < 4 → s.queuedAt p = []) → step s = .next s)

/-- The table gives no row any bits, so no word spells a command. The table lists its rows without bits (log 15). -/
def Obligations.TableRowsHaveNoWords : Prop :=
  ∀ (nbits w : Nat) (s : State), decodeTableWord nbits w = none ∧ s.withFetchWord nbits w = s

/-- No command of the table ends a run in a fault or a refusal. A refused access answers an abort code and a failed descriptor
a status: both are effects (R22, R104). -/
def Obligations.EveryStepGoesOn : Prop :=
  ∀ (s : State), goesOn s

/-- The state after reset: main side in reset, everything off, absent, unconfigured or zero. Values the spec gives for reset
(R9, R21, R391, R428), and the model's own of log 4 (bytes of HBM) and log 12 (signal words). -/
def Obligations.ResetState : Prop :=
  State.reset.pending = [] ∧ State.reset.dict = [] ∧ State.reset.out = [] ∧ State.reset.pwr.inReset = true
  ∧ (∀ i, NMap.get 0 State.reset.ctr.counts i = 0) ∧ (∀ n, State.reset.tb n = 0)
  ∧ (∀ q, (State.reset.queue q).state = .unconfigured ∧ (State.reset.queue q).p = 0 ∧ (State.reset.queue q).c = 0)
  ∧ (∀ k, k < 64 → State.reset.sliceState k = 0)
  ∧ (∀ e, (State.reset.engine e).state = .off ∧ (State.reset.engine e).running = none)
  ∧ (∀ k, k < 8 → State.reset.partState k = 0) ∧ State.reset.sec.watermark = 0x10000000 ∧ State.reset.fw.state = 0
  ∧ State.reset.rg.state = 5 ∧ (∀ g, State.reset.mem.poisoned.contains g = false) ∧ State.reset.compat = false
  ∧ (∀ w, NMap.get 0 State.reset.lnk.words w = 0) ∧ (∀ a, State.reset.readByte a = 0)

/-- Memory has its canonical form at reset. The base of StepKeepsMemoryCanonical. -/
def Obligations.ResetMemoryIsCanonical : Prop := Memory.wf State.reset = true

/-- Every step of every command keeps the canonical form of memory. The canonical form is the model's own: equal memories are
equal data (log 4). -/
def Obligations.StepKeepsMemoryCanonical : Prop :=
  ∀ (s t : State), Memory.wf s = true → step s = .next t → Memory.wf t = true

/-- A step takes exactly the front command from the queue and adds none, whatever the command does. The queue belongs to the
outside (log 15, log 16). -/
def Obligations.StepTakesTheFrontCommand : Prop :=
  ∀ (s t : State), step s = .next t → t.pending = s.pending.tail

/-- A blown debug fuse stays blown over every command, every reset included. The fuse is permanent (R407, Table SEC-9). -/
def Obligations.BlownDebugFuseStaysBlown : Prop :=
  ∀ (s t : State), s.sec.debugFuse = true → step s = .next t → t.sec.debugFuse = true

/-- HBM reads back what is written or zeroed, and reads as before everywhere else. The store under R252 and the scrubber of
R392; for every state, with no premise. -/
def Obligations.HbmReadsBackWhatIsWritten : Prop :=
  ∀ (s : State),
    (∀ (a : Nat) (bs : List Byte), (∀ i (h : i < bs.length), (s.writeMem a bs).readByte (a + i) = bs[i])
      ∧ Memory.sameBut s (s.writeMem a bs) a bs.length)
    ∧ (∀ (a n : Nat), (∀ x, a ≤ x → x < a + n → (s.zeroMem a n).readByte x = 0) ∧ Memory.sameBut s (s.zeroMem a n) a n)

/-- PARTIAL_GRANULE_WRITE stores exactly its bytes, over granule borders too. R252, R260, R262, R388 to R390; the frame of the
store: all of memory outside the stored bytes. -/
def Obligations.StoreWritesOnlyItsBytes : Prop :=
  ∀ (s : State) (m : Requester) (addr : Nat) (data : List Byte), s.mem.poisoned = [] →
    (s.compat = true ∨ s.capped (s.classOf m) = false) →
    (s.mem.feedback.contains (pcOf addr) = false ∨ s.feedbackHolds (s.classOf m) = false) → data ≠ [] →
    State.inHbm (addr + data.length - 1) = true → s.refuses m addr data.length = false →
    ∃ t, exec (.partialGranuleWrite m addr data) s = .next t
      ∧ (∀ i (h : i < data.length), t.readByte (addr + i) = data[i]) ∧ Memory.sameBut s t addr data.length

/-- A dictionary entry reads back what is set, and no other entry changes. The one home of every register of the dictionary
(R21, R24). -/
def Obligations.EntriesReadBack : Prop :=
  ∀ (s : State) (x a i n : Nat) (v : DVal),
    (s.set x a n i).get x a i = n ∧ (s.setVal x a v i).val x a i = v
    ∧ (∀ (y b k : Nat), x < 65536 → y < 65536 → a < 256 → b < 256 → (x, a, i) ≠ (y, b, k) →
      (s.set x a n i).get y b k = s.get y b k ∧ (s.setVal x a v i).val y b k = s.val y b k)

/-- The domain gates every dictionary access, and is checked before the access type. R20, R22 and R23, with the masks of Table
DIC-2. -/
def Obligations.DomainComesBeforeAccessType : Prop :=
  ∀ (s : State) (e : EntryDef), s.fw.tablesLost = false →
    (∀ (a : Access) (x : State.Extra), indexExists a.idx = true → lookupEntry a.idx a.sub = some e →
      e.writeMask &&& Dom.bit a.dom = 0 → s.dictWrite a x = (0x06010000, s))
    ∧ (∀ (d : Dom) (idx sub off len : Nat), indexExists idx = true → lookupEntry idx sub = some e →
      readMask idx &&& Dom.bit d = 0 → s.dictRead d idx sub off len = .error 0x06010000)
    ∧ (∀ (a : Access) (x : State.Extra) (t : State), lookupEntry a.idx a.sub = some e → s.dictWrite a x = (0, t) →
      e.writeMask &&& Dom.bit a.dom ≠ 0)
    ∧ (∀ (d : Dom) (idx sub off len : Nat) (b : List Byte), s.dictRead d idx sub off len = .ok b →
      readMask idx &&& Dom.bit d ≠ 0)
    ∧ (∀ (a : Access) (x : State.Extra) (i : Nat), s.entryFor a.dom a.idx a.sub true = .ok (e, i) → a.mgr = false →
      a.dom = .hypervisor → 0x2C00 ≤ a.idx → a.idx < 0x2D00 → s.get 0x2C00 2 = 2 → s.dictWrite a x = (0x06010000, s))

/-- Counters stop at 2^48 - 1, or wrap modulo 2^32 in compatibility mode, and COMPAT_MODE clears them. Formalises R441 whole.
-/
def Obligations.CountersSaturateOrWrap : Prop :=
  ∀ (s : State),
    (∀ (i n : Nat), s.compat = false →
      NMap.get 0 (s.count i n).ctr.counts i = min (NMap.get 0 s.ctr.counts i + n) (2 ^ 48 - 1)
      ∧ NMap.get 0 (s.count i n).ctr.counts i < 2 ^ 48)
    ∧ (∀ (i n : Nat), s.compat = true →
      NMap.get 0 (s.count i n).ctr.counts i = (NMap.get 0 s.ctr.counts i + n) % 2 ^ 32
      ∧ NMap.get 0 (s.count i n).ctr.counts i < 2 ^ 32)
    ∧ (∀ (i j n : Nat), j ≠ i → NMap.get 0 (s.count i n).ctr.counts j = NMap.get 0 s.ctr.counts j)
    ∧ (∀ (d : Dom) (v i : Nat), s.servesNow (pathOf d) → s.takesNum d 0x2002 1 v i → s.get 0x2601 1 = 0 →
      (∀ e, e < 16 → (s.engine e).state = .off) →
      ∃ t, exec (.compatModeWrite d v) s = .next t ∧ ∀ j, NMap.get 0 t.ctr.counts j = 0)

/-- A time value is seconds, nanoseconds below 10^9 and a 16-bit fraction; TIMESTAMP writes it in 16 B. Formalises R346 whole;
the last clause says which bytes the descriptor TIMESTAMP writes. -/
def Obligations.TimeValues : Prop :=
  ∀ (s : State) (n : Nat) (w : Work) (d : Desc),
    (s.tbBytes n).length = 16
    ∧ field (s.tbBytes n) 0 8 = s.tbSeconds n % 2 ^ 64
    ∧ field (s.tbBytes n) 8 4 < 1000000000
    ∧ field (s.tbBytes n) 14 2 = 0
    ∧ (s.tbSeconds n * 10 ^ 9 + field (s.tbBytes n) 8 4) % 2 ^ 64 = s.tb n
    ∧ (s.base n).value = (s.tbSeconds n * 10 ^ 9 + field (s.tbBytes n) 8 4) * 2 ^ 48 + field (s.tbBytes n) 12 2 * 2 ^ 32
        + (s.base n).value % 2 ^ 32
    ∧ Work.timestamp w d = (w.write (d.fld 255 224) 0 (w.s.tbBytes (d.fld 258 256)) (State.toSerai d 0)).settleState
        (d.fld 255 224)

/-- An element under scale code s is e x 2^(s - 127); scale 0xFF is NaN. Formalises R66 whole. -/
def Obligations.ScaleCodes : Prop :=
  ∀ (v : Machine.Num), scaledElem v 0xFF = .nan
    ∧ (∀ (neg : Bool) (m c : Nat) (e : Int), c ≠ 0xFF →
      scaledElem (.fin neg m e) c = .fin neg m (e + ((c : Int) - 127)))

/-- The 32 blocks of 256 B of an aligned 8 KiB fall on 32 different pseudo-channels. A consequence of the hash of R251: PC =
A[12:8] XOR A[17:13] XOR A[22:18]. -/
def Obligations.ConsecutiveBlocksSpread : Prop :=
  ∀ (row i j : Nat), i < 32 → j < 32 →
    pcOf (8192 * row + 256 * i) < 32
    ∧ (∀ k, k < 256 → pcOf (8192 * row + 256 * i + k) = pcOf (8192 * row + 256 * i))
    ∧ (pcOf (8192 * row + 256 * i) = pcOf (8192 * row + 256 * j) → i = j)

/-- A doorbell is accepted only within both ring bounds; else no count changes and the slice is told. Formalises R200 whole
for an 8-byte write, P in the low and C in the high half (Table QUE-2). -/
def Obligations.DoorbellBounds : Prop :=
  ∀ (s u : State) (q p c : Nat) (v : BitVec 64), u = s.workArrives → q < 262144 → p = v.toNat % 2 ^ 32 → c = v.toNat / 2 ^ 32 →
    ((u.queue q).state ≠ .unconfigured →
      diff32 p (u.queue q).f ≤ 2 ^ (u.queue q).ringLog2 → diff32 (u.queue q).wr c ≤ 2 ^ (u.queue q).cringLog2 → ∃ t : State,
      t = (u.count 324 1).setQueue q { u.queue q with
        p := p, c := c, bells := if p = (u.queue q).p then (u.queue q).bells else (u.queue q).bells ++ [(p, u.now)] }
      ∧ exec (.doorbellWrite (8 * q) true v) s =
        .next (State.needContext { t with pwr := { t.pwr with dwell := false, busyAt := t.now } } q true))
    ∧ ((u.queue q).state ≠ .unconfigured →
      2 ^ (u.queue q).ringLog2 < diff32 p (u.queue q).f ∨ 2 ^ (u.queue q).cringLog2 < diff32 (u.queue q).wr c →
      (∀ k, u.queueOwner q = some k → exec (.doorbellWrite (8 * q) true v) s = .next (u.postEvent k 0x0003 0 q v.toNat))
      ∧ (∀ t, exec (.doorbellWrite (8 * q) true v) s = .next t →
        (t.queue q).p = (s.queue q).p ∧ (t.queue q).c = (s.queue q).c))
    ∧ ((u.queue q).state = .unconfigured →
      (∀ k, u.queueOwner q = some k → exec (.doorbellWrite (8 * q) true v) s = .next (u.postEvent k 0x0003 0 q v.toNat))
      ∧ (u.queueOwner q = none → exec (.doorbellWrite (8 * q) true v) s = .next u))

/-- What SKEOT_LOAD answers: denied, invalid, already running, in progress, or success. R430 and R431; which image ranges
count as general HBM is log 54, the STATE of a worker log 85. -/
def Obligations.LoadCallAnswers : Prop :=
  ∀ (s : State) (mode : HartMode) (addr len node : Nat), ∃ t : State,
    exec (.skeotLoad mode addr len node) s = .next (t.emit (.sbi
      (if mode ≠ .hs then -4 else if s.nodeOk node = false then -3 else if (s.fwOf node).1.1 = 2 then -6
        else if (s.fwOf node).1.1 = 1 ∨ (s.fwOf node).1.1 = 3 then -7
        else if (s.fwOf node).2.imageOk addr len = false then -3 else 0) 0))
    ∧ (mode ≠ .hs ∨ s.nodeOk node = false → t = s)

/-- Raising the secure watermark takes effect at once, cancels a scrub, and bad values are refused. Formalises R391 and R393.
-/
def Obligations.WatermarkRaisesAndScrubs : Prop :=
  ∀ (s : State) (d : Dom) (v i : Nat), s.servesNow (pathOf d) → s.takesNum d 0x2D01 1 v i →
    (s.sec.watermark ≤ v → v ≤ s.get 0x2D01 3 → v ≤ 0x05BFFFFFFF → v % 67108864 = 0 →
      ∃ t : State, exec (.secureWatermarkRaise d v) s = .next (t.answered d) ∧ t.sec.watermark = v ∧ t.sec.target = none)
    ∧ (v < s.sec.watermark → s.sec.target ≠ none →
      exec (.secureWatermarkLower d v) s = .next (s.roused.emit (.answer (pathOf d) 0x08000A03 [])))
    ∧ (s.sec.watermark ≤ v → s.get 0x2D01 3 < v ∨ 0x05BFFFFFFF < v ∨ v % 67108864 ≠ 0 →
      exec (.secureWatermarkRaise d v) s = .next (s.roused.emit (.answer (pathOf d) 0x08000A02 [])))
    ∧ (v < s.sec.watermark → s.sec.target = none → s.get 0x2D01 3 < v ∨ 0x05BFFFFFFF < v ∨ v % 67108864 ≠ 0 →
      exec (.secureWatermarkLower d v) s = .next (s.roused.emit (.answer (pathOf d) 0x08000A02 [])))

/-- CAN and Ethernet port settings change only while the port is off. From R326 and R331; the exclusion of 10,000 kbit/s on
CAN0 to CAN11 and the order of the two aborts follow log 101. -/
def Obligations.PortsBusyWhileEnabled : Prop :=
  ∀ (s : State) (d : Dom), s.servesNow (pathOf d) →
    (∀ (n sub v i : Nat), n < 16 → ((2 ≤ sub ∧ sub ≤ 6) ∨ (0x10 ≤ sub ∧ sub ≤ 0x15)) → s.takesNum d (0x2B10 + n) sub v i →
      s.canFenced n = false →
      (s.get (0x2B10 + n) 1 ≠ 0 → (12 ≤ n ∨ (sub = 6 → v ≠ 1) ∧ (sub = 3 → v ≠ 10000)) →
        exec (.canModeWrite d n sub v) s = .next (s.roused.emit (.answer (pathOf d) 0x08000C09 [])))
      ∧ (s.get (0x2B10 + n) 1 = 0 → (12 ≤ n ∨ (sub = 6 → v ≠ 1) ∧ (sub = 3 → v ≠ 10000)) →
        exec (.canModeWrite d n sub v) s = .next ((s.roused.set (0x2B10 + n) sub v).answered d))
      ∧ (n < 12 → sub = 6 → v = 1 →
        exec (.canModeWrite d n sub v) s = .next (s.roused.emit (.answer (pathOf d) 0x06090030 []))))
    ∧ (∀ (p sub v i : Nat), p < 20 → 2 ≤ sub → sub ≤ 4 → s.takesNum d (0x2B40 + p) sub v i → s.get (0x2B40 + p) 1 ≠ 0 →
      exec (.ethEnableWrite d p sub v) s = .next (s.roused.emit (.answer (pathOf d) 0x08000C09 [])))

/-- Display timing is refused while the output is on, and an enable with too small totals aborts. From R286 and the minima of
Table GFX-6. -/
def Obligations.OutputsBusyWhileEnabled : Prop :=
  ∀ (s : State) (d : Dom) (o sub v i : Nat), s.servesNow (pathOf d) → o < 4 → s.takesNum d (0x2880 + o) sub v i →
    (2 ≤ sub → sub ≤ 7 → s.get (0x2880 + o) 1 = 1 →
      exec (.outputEnableWrite d o sub v) s = .next (s.roused.emit (.answer (pathOf d) 0x08000723 [])))
    ∧ (sub = 1 → v = 1 → (s.get (0x2880 + o) 4 < s.get (0x2880 + o) 2 + 32 ∨ s.get (0x2880 + o) 5 < s.get (0x2880 + o) 3 + 8) →
      exec (.outputEnableWrite d o sub v) s = .next (s.roused.emit (.answer (pathOf d) 0x06090030 [])))

/-- A slice's enclave binding changes only while it is absent, or active and without memory. From R396. -/
def Obligations.SliceEnclaveGate : Prop :=
  ∀ (s : State) (d : Dom) (k v i : Nat), s.servesNow (pathOf d) → k < 64 → s.takesNum d 0x2D12 (k + 1) v i →
    (v ≤ 255 ∨ v = 0xFFFF) →
    (s.sliceState k = 0 ∨ (s.sliceState k = 1 ∧ s.memUsed k = 0 ∧ s.holdsParamBuffer k = false) →
      exec (.sliceEnclaveWrite d k v) s = .next ((s.roused.set 0x2D12 (k + 1) v).answered d))
    ∧ (¬ (s.sliceState k = 0 ∨ (s.sliceState k = 1 ∧ s.memUsed k = 0 ∧ s.holdsParamBuffer k = false)) →
      exec (.sliceEnclaveWrite d k v) s = .next (s.roused.emit (.answer (pathOf d) 0x08000A04 [])))

/-- A signal-page write sets bit b of word s and the module's bit of the pending bitmap. From R242. -/
def Obligations.SignalWords : Prop :=
  ∀ (s : State) (off b : Nat),
    (∀ w, w < 64 → b < 64 → off = 8 * w → ∃ t, exec (.signalPageWrite off b) s = .next t
      ∧ NMap.get 0 t.lnk.words w = NMap.get 0 s.lnk.words w ||| 2 ^ b
      ∧ (∀ x, x ≠ w → NMap.get 0 t.lnk.words x = NMap.get 0 s.lnk.words x)
      ∧ (s.get 0x2C00 1 < 192 → t.lnk.pendingBits = s.lnk.pendingBits ||| 2 ^ s.get 0x2C00 1))
    ∧ (63 < b → exec (.signalPageWrite off b) s = .next s)

/-- OFF exit is a power-on start: time bases at zero, LAST_WAKE the WAKE pin with TIME 0. Formalises R415. -/
def Obligations.OffExitStartsAfresh : Prop :=
  ∀ (s : State), s.pwrState = 4 → s.pwr.wake.isSome = true → ∃ t, exec .offExit s = .next t
    ∧ t.pwr.inReset = true ∧ t.pwr.cold = true
    ∧ (∀ n, (t.base n).value = 0)
    ∧ t.getB 0x2140 4 = [0, 4, 0, 0, 0, 0, 0, 0, 0, 0, 0, 0, 0, 0, 0, 0]

/-- At a tick a time base adds its increment, nominally 2^48 units, and no other base moves. From R345; a pending step takes
the place of that increment by log 118. -/
def Obligations.TicksAdvanceBases : Prop :=
  ∀ (s : State) (n : Nat), (s.base n).pendStep = none → (s.base n).pendIncr = none →
    ((s.tickBase n).base n).value = ((s.base n).value + s.get (0x2210 + n) 4) % (2 ^ 64 * 10 ^ 9 * 2 ^ 48)
    ∧ (∀ m, m ≠ n → (s.tickBase n).base m = s.base m)
    ∧ (n < 8 → defaultVal (0x2210 + n) 4 = .num 281474976710656)

/-- An mret to a lower mode zeroes every integer register but a0 to a3, all floating-point and vector registers. From R398. -/
def Obligations.ReturnFromMachineMode : Prop :=
  ∀ (s : State) (h : Nat) (into : HartMode), h < 24 → (s.hart h).mode = .m → into ≠ .m →
    ∃ t, exec (.mret h into) s = .next t ∧ (t.hart h).mode = into
      ∧ (∀ r, r < 10 ∨ 13 < r → NMap.get 0 (t.hart h).x r = 0)
      ∧ (∀ r, 10 ≤ r → r ≤ 13 → NMap.get 0 (t.hart h).x r = NMap.get 0 (s.hart h).x r)
      ∧ (t.hart h).f = [] ∧ (t.hart h).v = []
      ∧ (∀ k, k ≠ h → t.hart k = s.hart k)

/-- A joint snapshot latches all eight bases for its requester, and returns TB1. From R349. -/
def Obligations.JointSnapshotIsOneTick : Prop :=
  ∀ (s : State) (r n : Nat), n < 8 → ∃ t, exec (.jointSnapshot r) s = .next t
    ∧ t.out = .readData (some (s.tb 1)) :: s.out
    ∧ NMap.get 0 t.time.joint (r * 8 + n) = (if n = 3 ∧ s.secureReader r = false then 0 else s.tb n)
    ∧ (∀ k, k / 8 ≠ r → NMap.get 0 t.time.joint k = NMap.get 0 s.time.joint k)

/-- Events of buses, sensors, self-tests, harts and debug leave HBM, every queue and the KV cache as they were. The frame of
these rows: the spec gives them no effect on memory, queues or the cache. -/
def Obligations.EventsSpareMemoryAndQueues : Prop :=
  ∀ (s : State) (n a b : Nat) (x : Int) (w : Bool) (u : TestUnit) (into : HartMode) (v : BitVec 64) (e : StepEffect),
    s.spares (.canBusOff n) ∧ s.spares (.busoffRecoveryDone n) ∧ s.spares (.canDominantTimeout n) ∧ s.spares (.canBusFault n a)
    ∧ s.spares (.canFaultRetry n w) ∧ s.spares (.linBusFault n) ∧ s.spares (.linBusRecessive n) ∧ s.spares (.displayLinkDown n)
    ∧ s.spares (.displayLinkUp n) ∧ s.spares (.goOverload n) ∧ s.spares (.goOpenLoad n) ∧ s.spares (.cameraOvercurrent n)
    ∧ s.spares (.cameraPowerRetry n) ∧ s.spares (.cameraOpenLoad n) ∧ s.spares (.cameraFrameStart n)
    ∧ s.spares (.coolantSample x x) ∧ s.spares (.snapSec n a) ∧ s.spares (.jointSnapshot n) ∧ s.spares .tb0SyncLost
    ∧ (u ≠ .serai → s.spares (.droneSliceStart u)) ∧ s.spares (.droneClaim u) ∧ s.spares .manoeuvreComplete ∧ s.spares .rearguardStatusFrame
    ∧ s.spares .lockstepMismatch ∧ s.spares .heartbeat ∧ s.spares (.menclaveWrite n v) ∧ s.spares (.mModeTrap n)
    ∧ s.spares (.mret n into) ∧ s.spares .noticeTimeout ∧ s.spares .debugLockoutEnd ∧ s.spares .jtagTrst ∧ s.spares .idcode
    ∧ s.spares .dtmcs ∧ s.spares (.bypass n) ∧ s.spares (.dmHalt n) ∧ s.spares (.dmResume n) ∧ s.spares (.dmSingleStep n e)
    ∧ s.spares (.accessRegister n w a v) ∧ s.spares (.pmuSnapshot n) ∧ s.spares .dwellExpiry ∧ s.spares .updatePauseBegin
    ∧ s.spares (.signalPageWrite a b) ∧ s.spares .usdoAbort

/-- STORE_COMM, RESTORE_COMM, communication entries, ACK, COMPAT_MODE, governor settings, RAIL_MIN_CLEAR complete. Completion
of STORE_COMM, RESTORE_COMM, COMM_ENTRY_WRITE, ACK, COMPAT_MODE_WRITE, GOVERNOR_SETTING_WRITE and RAIL_MIN_CLEAR (R25, R37,
R39, R45, R58). COMPAT_MODE's condition is log 26. The answer is on the requester's path, the request ends the idle dwell, and
a write needs its entry's domain, range and holds (R22, R23, R30, R35, R399). -/
def Obligations.CommunicationAndDeviceRows : Prop :=
  ∀ (s : State) (d : Dom), s.servesNow (pathOf d) →
    (∀ v i, s.takesNum d 0x1010 2 v i → exec (.storeComm d v) s =
      .next (State.answered { s.roused with dic := { s.roused.dic with
        ufsComm := some (s.dict.filter fun e => decide (0x1000 ≤ e.1 / 256 ∧ e.1 / 256 < 0x2000)) } } d))
    ∧ (∀ v i, s.takesNum d 0x1011 2 v i → exec (.restoreComm d v) s =
      .next (State.answered { s.roused with dic := { s.roused.dic with restorePending := true } } d))
    ∧ (∀ idx sub n i e, idx = 0x1E00 ∨ idx = 0x1E10 → s.entryFor d idx sub true = .ok (e, i) → s.takesNum d idx sub n i →
      exec (.commEntryWrite d idx sub (leBytes e.ty.size n)) s = .next ((s.roused.set idx sub n).answered d))
    ∧ (∀ idx sub b i, idx = 0x1E00 ∨ idx = 0x1E10 → s.takesStr d idx sub b i →
      exec (.commEntryWrite d idx sub b) s = .next ((s.roused.setB idx sub b).answered d))
    ∧ (∀ v i t, s.takesNum d 0x3000 3 v i → s.roused.ackRecord v = .ok t → exec (.ack d v) s = .next (t.answered d))
    ∧ (∀ v i, s.takesNum d 0x2002 1 v i → s.get 0x2601 1 = 0 → (∀ e, (s.engine e).state = .off) →
      exec (.compatModeWrite d v) s = .next ((s.roused.set 0x2002 1 v).clearCounters.answered d))
    ∧ (∀ sub v i, s.takesNum d 0x2110 sub v i → (sub = 5 → v % 5 = 0) →
      exec (.governorSettingWrite d 0x2110 sub v) s = .next (State.answered (State.aim
        (if (s.roused.set 0x2110 sub v).govFixed then (s.roused.set 0x2110 sub v).dropLoops else s.roused.set 0x2110 sub v)) d))
    ∧ (∀ v i, s.takesNum d 0x2112 2 v i → exec (.railMinClear d v) s =
      .next (((s.roused.set 0x2112 1 0xFFFF).setGov { s.gov with sagSaid := false }).answered d))

/-- Queue configuration and commands, slice creation and destruction, blocks, quota, grace and share complete. Completion of
the queue and slice rows (R202 to R206, R210 to R219). The answer is on the requester's path, the request ends the idle dwell,
and a write needs its entry's domain, range and holds (R22, R23, R30, R35, R399). -/
def Obligations.QueueAndSliceRows : Prop :=
  ∀ (s : State) (d : Dom), s.servesNow (pathOf d) →
    (∀ (data : List Byte) (i k : Nat), s.takesWhole d 0x2510 1 data i → data.length = 48 → field data 0 4 ≤ 262143 →
      s.queueAccess d (field data 0 4) = .ok k →
      4 ≤ field data 4 1 ∧ field data 4 1 ≤ 20 → 4 ≤ field data 5 1 ∧ field data 5 1 ≤ 20 →
      field data 6 1 ≤ 3 ∧ field data 6 1 ≤ s.get (0x2540 + k) 8 → field data 8 8 % 4096 = 0 → field data 16 8 % 4096 = 0 →
      field data 24 8 % 4 = 0 → field data 7 1 ≤ 1 → field data 36 2 ≤ 1000 →
      (s.queue (field data 0 4)).state = .unconfigured ∨ (s.queue (field data 0 4)).state = .disabled →
      exec (.queueConfig d data) s = .next ((s.roused.setQueue (field data 0 4) { s.queue (field data 0 4) with
        state := .disabled, ringLog2 := field data 4 1, cringLog2 := field data 5 1, priority := field data 6 1
        msiEnable := (field data 7 1).testBit 0, ringVa := field data 8 8, cringVa := field data 16 8
        msiAddr := field data 24 8, msiData := field data 32 4, holdoffUs := field data 36 2 }).answered d))
    ∧ (∀ (q i k : Nat), q < 262144 → s.takesNum d 0x2510 2 (q + 268435456) i → s.queueAccess d q = .ok k →
      (s.queue q).state = .disabled →
      exec (.queueEnable d q) s =
        .next (((s.roused.setQueue q { s.queue q with state := .enabled }).needContext q false).answered d))
    ∧ (∀ (q i k : Nat), q < 262144 → s.takesNum d 0x2510 2 (q + 2 * 268435456) i → s.queueAccess d q = .ok k →
      (s.queue q).state = .enabled ∨ (s.queue q).state = .halted →
      exec (.queueDisable d q) s =
        .next (((s.roused.setQueue q { s.queue q with state := .disabling }).settleDisable q).answered d))
    ∧ (∀ (q i k : Nat), q < 262144 → s.takesNum d 0x2510 2 (q + 3 * 268435456) i → s.queueAccess d q = .ok k →
      (s.queue q).state = .halted →
      exec (.queueRestart d q) s =
        .next (((s.roused.setQueue q { s.queue q with state := .enabled }).needContext q false).answered d))
    ∧ (∀ (q i k : Nat), q < 262144 → s.takesNum d 0x2510 2 (q + 4 * 268435456) i → s.queueAccess d q = .ok k →
      (s.queue q).state = .disabled →
      exec (.queueResetCounts d q) s =
        .next ((s.roused.setQueue q { s.queue q with p := 0, f := 0, wr := 0, c := 0, bells := [] }).answered d))
    ∧ (∀ (k i : Nat), k < 64 → s.takesNum d (0x2540 + k) 2 1 i → s.sliceState k = 0 → s.slicePasid k ≠ 0 →
      (∀ j, j < 64 → j ≠ k → s.sliceState j ≠ 0 →
        s.slicePasid j ≠ s.slicePasid k ∧ State.blocksMeet (s.getB (0x2540 + j) 9) (s.getB (0x2540 + k) 9) = false) →
      exec (.sliceCreate d k) s = .next (((s.roused.setSlice k { shareNow := (s.sliceX k).shareNow }).set (0x2540 + k) 3 1).answered d))
    ∧ (∀ (k i : Nat), k < 64 → s.takesNum d (0x2540 + k) 2 2 i → s.sliceState k = 1 ∨ s.sliceState k = 2 →
      exec (.sliceDestroy d k) s =
        .next (((s.roused.setSlice k { s.sliceX k with graceStart := none }).set (0x2540 + k) 3 3).answered d))
    ∧ (∀ (k i : Nat) (data : List Byte) (t : State), k < 64 → s.takesWhole d (0x2540 + k) 9 data i ∨ s.takesStr d (0x2540 + k) 9 data i →
      s.roused.writeBlocks k data = .ok t → exec (.queueBlocksWrite d k data) s = .next (t.answered d))
    ∧ (∀ (k i v : Nat), k < 64 → s.takesNum d (0x2540 + k) 4 v i →
      exec (.memQuotaWrite d k v) s = .next ((s.roused.writeQuota k v).answered d))
    ∧ (∀ (k i v : Nat), k < 64 → s.takesNum d (0x2540 + k) 6 v i →
      exec (.graceMsWrite d k v) s = .next (((s.roused.set (0x2540 + k) 6 v).suspend k).answered d))
    ∧ (∀ (k i v : Nat), k < 64 → s.takesNum d (0x2540 + k) 7 v i →
      ((List.range 64).filter (· ≠ k)).foldl (fun a j => a + s.get (0x2540 + j) 7) 0 + v ≤ 256 →
      exec (.engineShareWrite d k v) s = .next ((s.roused.set (0x2540 + k) 7 v).answered d))

/-- KV pools, shares, placement entries, ENGINE_ENABLE, counter clears and dump rings complete. Completion of the cache,
placement, engine and counter rows (R133, R134, R166, R174, R190 to R194, R110 to R113, R444, R445). What counts as general
HBM for a ring, and its abort code, are log 54 and log 55. The answer is on the requester's path, the request ends the idle
dwell, and a write needs its entry's domain, range and holds (R22, R23, R30, R35, R399). -/
def Obligations.CacheAndEngineRows : Prop :=
  ∀ (s : State) (d : Dom), s.servesNow (pathOf d) →
    (∀ (p k : Nat) (t : State), p < 16 → s.takesNum d (0x2710 + p) 9 1 (k + 1) → s.roused.poolCreate (k * 16 + p) = .ok t →
      exec (.kvPoolCreate d p) s = .next (t.answered d))
    ∧ (∀ (p k : Nat), p < 16 → s.takesNum d (0x2710 + p) 9 2 (k + 1) → s.poolSeqs (k * 16 + p) = [] →
      exec (.kvPoolDestroy d p) s = .next ((s.roused.poolRemove (k * 16 + p)).answered d))
    ∧ (∀ (p k : Nat), p < 16 → s.takesNum d (0x2710 + p) 9 3 (k + 1) →
      exec (.kvPoolTrim d p) s = .next ((s.roused.poolTrim (k * 16 + p)).answered d))
    ∧ (∀ (p k sub v : Nat), p < 16 → sub ≠ 9 → s.takesNum d (0x2710 + p) sub v (k + 1) → s.poolActive (k * 16 + p) = false →
      (sub = 1 → v % 65536 = 0) → (sub = 7 → v % 32 = 0) →
      exec (.kvPoolEntryWrite d p sub v) s = .next ((s.roused.set (0x2710 + p) sub v (k + 1)).answered d))
    ∧ (∀ (k v i : Nat), k < 64 → s.takesNum d (0x4700 + k) 1 v i →
      exec (.prefixNodeLimitWrite d k v) s = .next ((s.roused.set (0x4700 + k) 1 v).answered d))
    ∧ (∀ (k v i : Nat), k < 64 → s.takesNum d 0x2604 (k + 1) v i →
      ((List.range 64).filter (· + 1 ≠ k + 1)).foldl (fun a j => a + s.get 0x2604 (j + 1)) 0 + v ≤ 256 →
      exec (.seraiShareWrite d k v) s = .next ((s.roused.set 0x2604 (k + 1) v).answered d))
    ∧ (∀ (idx sub v i : Nat), idx = 0x2603 ∨ (idx = 0x2605 ∧ sub ≠ 4) → s.takesNum d idx sub v i →
      (idx = 0x2605 → sub = 2 → ∀ k, k < 8 → (s.partActive k && s.ownsWindow k) = false) →
      exec (.placementPolicyWrite d idx sub v) s = .next ((s.roused.set idx sub v).answered d))
    ∧ (∀ (v i : Nat), s.takesNum d 0x2605 4 v i →
      exec (.quarantineRetest d v) s = .next (((maskBits 16 v).foldl (fun t e =>
        if (t.engine e).quarantined ∧ ((t.engine e).cause = 1 ∨ (t.engine e).cause = 3) then
          t.setEngine e { t.engine e with state := .enabling, retest := true } else t) s.roused).answered d))
    ∧ (∀ (v i : Nat), s.takesNum d 0x2607 0x0F v i →
      exec (.countersClear d v) s = .next (((List.range 14).foldl (fun t j => t.clear 0x2607 (j + 1)) s.roused).answered d))
    ∧ (∀ (v i : Nat), s.takesNum d 0x2601 1 v i →
      (∀ e, e < 16 → (s.get 0x2601 1).testBit e = true → v.testBit e = false → s.heldBlock e = false ∧ s.reserved e = false) →
      exec (.engineEnableWrite d v) s =
        .next (((List.range 16).foldl (fun t e => t.requestEngine e (v.testBit e)) (s.roused.set 0x2601 1 v)).answered d))
    ∧ (∀ (v i : Nat), s.takesNum d 0x2F01 1 v i →
      exec (.pmuClear d v) s = .next (State.answered { s.roused with ctr := { s.ctr with counts := [] } } d))
    ∧ (∀ (sub v i : Nat), s.takesNum d 0x2F02 sub v i → (sub = 1 → v ≠ 0 → v % 4096 = 0 ∧ s.sec.watermark ≤ v ∧ v < State.generalEnd) →
      exec (.dumpRingWrite d 0x2F02 sub v) s = .next (State.answered (if sub = 1 ∨ sub = 2 then
        { ((s.roused.set 0x2F02 sub v).set 0x2F02 4 0).set 0x2F02 5 0 with ctr := { s.ctr with lastDump := s.now } }
        else s.roused.set 0x2F02 sub v) d))
    ∧ (∀ (sub v i : Nat), s.takesNum d 0x2F03 sub v i → (sub = 2 → v ≠ 0 → v % 64 = 0 ∧ s.sec.watermark ≤ v ∧ v < State.generalEnd) →
      exec (.dumpRingWrite d 0x2F03 sub v) s = .next (State.answered (if sub = 2 then
        ((s.roused.set 0x2F03 sub v).set 0x2F03 4 0).set 0x2F03 5 0
        else if sub = 1 then (s.roused.set 0x2F03 sub v).drawTag else s.roused.set 0x2F03 sub v) d))

/-- Port A role, TOPOLOGY_CMD, outbound windows, lanes and bandwidth entries complete. Completion of the link and bandwidth
rows (R225 to R249, R258 to R266). The first CREDIT of a lane is log 77; LOCAL_BASE as an offset is log 79. The answer is on
the requester's path, the request ends the idle dwell, and a write needs its entry's domain, range and holds (R22, R23, R30,
R35, R399). -/
def Obligations.LinkAndBandwidthRows : Prop :=
  ∀ (s : State) (d : Dom), s.servesNow (pathOf d) →
    (∀ (v i : Nat), s.takesNum d 0x2C01 1 v i → (v = 1 → s.nodeId = 0 ∨ s.nodeId = 0xFF) →
      exec (.portARoleWrite d v) s =
        .next (State.answered (if v = s.get 0x2C01 1 then s.roused else (s.roused.set 0x2C01 1 v).retrain 0) d))
    ∧ (∀ (v i : Nat) (tree : List (Nat × Nat)), s.takesNum d 0x2C00 4 v i → s.nodeId = 0 ∨ s.nodeId = 0xFF →
      exec (.topologyCmd d v tree) s = .next ((s.roused.enumerate tree).answered d))
    ∧ (∀ (w i : Nat) (data : List Byte), w < 64 → s.takesStr d 0x2C03 (w + 1) data i →
      (outWinOf data).base % 2097152 = 0 → (outWinOf data).size % 2097152 = 0 →
      (outWinOf data).target % 2097152 = 0 → (outWinOf data).node ≤ 191 → (outWinOf data).mode ≤ 1 →
      (outWinOf data).cls ≤ 3 →
      ((outWinOf data).on = true → (outWinOf data).size ≠ 0 ∧
        (outWinOf data).base + (outWinOf data).size ≤ 0x4000000000 ∧
        ∀ v, v < 64 → v ≠ w → (s.outWin v).on = true →
          (outWinOf data).base + (outWinOf data).size ≤ (s.outWin v).base ∨
            (s.outWin v).base + (s.outWin v).size ≤ (outWinOf data).base) →
      exec (.outboundWindowWrite d w data) s = .next ((s.roused.setB 0x2C03 (w + 1)
        (slice data 0 27 ++ [if (outWinOf data).on then 1 else 0, 0, 0, 0, 0])).answered d))
    ∧ (∀ (l i : Nat) (t : State), l < 64 → s.takesNum d (0x2C40 + l) 6 1 i → s.roused.laneOpen l = .ok t →
      exec (.laneOpen d l) s = .next (t.answered d))
    ∧ (∀ (l i : Nat), l < 64 → s.takesNum d (0x2C40 + l) 6 2 i →
      exec (.laneClose d l) s = .next ((s.roused.laneClose l).answered d))
    ∧ (∀ (c v i : Nat), c < 16 → s.takesNum d (0x2410 + c) 1 v i → (c = 15 → v = 0) →
      s.get (0x2410 + c) 2 = 0 ∨ v ≤ s.get (0x2410 + c) 2 →
      (∀ k, k < 8 → s.partActive k = true → s.ownsWindow k = true → s.get (0x2310 + k) 4 = c → s.get 0x2605 2 ≤ v ∨ s.get (0x2410 + c) 1 ≤ v) →
      v ≤ s.get (0x2410 + c) 1 ∨ s.guaranteesBut c + v ≤ 7372 →
      exec (.bwGuaranteeWrite d c 1 v) s = .next ((s.roused.set (0x2410 + c) 1 v).answered d))
    ∧ (∀ (c v i : Nat), c < 16 → s.takesNum d (0x2410 + c) 2 v i → v = 0 ∨ s.get (0x2410 + c) 1 ≤ v →
      exec (.bwGuaranteeWrite d c 2 v) s = .next ((s.roused.set (0x2410 + c) 2 v).answered d))
    ∧ (∀ (v i : Nat), s.takesNum d 0x2401 4 v i →
      exec (.bwCountersClear d v) s = .next (((List.range 33).foldl (fun t p => t.clear 0x2408 (p + 1))
        ((List.range 16).foldl (fun t c => [4, 5, 6, 7].foldl (fun t sub => t.clear (0x2410 + c) sub) t) s.roused)).answered d))

/-- Parameter buffer, outputs, layers, pose, planner lanes, TDM, acoustic entries and commands complete. Completion of the
display, planner and acoustic rows (R279, R286 to R291, R300, R310 to R324). The answer is on the requester's path, the
request ends the idle dwell, and a write needs its entry's domain, range and holds (R22, R23, R30, R35, R399). -/
def Obligations.DisplayAndAcousticRows : Prop :=
  ∀ (s : State) (d : Dom), s.servesNow (pathOf d) →
    (∀ (v k : Nat), s.takesNum d 0x2800 1 v (k + 1) → v % 1048576 = 0 →
      exec (.paramBufferWrite d v) s = .next (State.answered { s.roused.set 0x2800 1 v (k + 1) with
        gfx := { s.gfx with paramOrder := NMap.set 0 s.gfx.paramOrder k s.que.acceptCount } } d))
    ∧ (∀ (o sub v i : Nat), o < 4 → s.takesNum d (0x2880 + o) sub v i →
      (2 ≤ sub ∧ sub ≤ 7 → s.get (0x2880 + o) 1 ≠ 1) →
      (sub = 1 ∧ v = 1 → s.get (0x2880 + o) 2 + 32 ≤ s.get (0x2880 + o) 4 ∧ s.get (0x2880 + o) 3 + 8 ≤ s.get (0x2880 + o) 5) →
      exec (.outputEnableWrite d o sub v) s = .next ((s.roused.set (0x2880 + o) sub v).answered d))
    ∧ (∀ (o k sub v i : Nat), o < 4 → k < 4 → s.takesNum d (0x2890 + 4 * o + k) sub v i →
      exec (.layerWrite d o k sub v) s = .next ((s.roused.set (0x2890 + 4 * o + k) sub v).answered d))
    ∧ (∀ (v i k p : Nat), d = .slice p → s.takesNum d 0x28A0 2 v i → s.sliceOf p = some k → s.get 0x28A0 1 = k →
      exec (.poseHandleWrite d v) s = .next ((s.roused.set 0x28A0 2 v (k + 1)).answered d))
    ∧ (∀ (k v i : Nat), k < 64 → s.takesNum d 0x2901 (k + 1) v i → s.lanesReservedSum - s.get 0x2901 (k + 1) + v ≤ 16 →
      exec (.plnLanesReservedWrite d k v) s = .next ((s.roused.set 0x2901 (k + 1) v).answered d))
    ∧ (∀ (lane v i : Nat), lane < 8 → s.takesNum d (0x2A18 + lane) 1 v i →
      exec (.tdmDirWrite d lane v) s =
        .next (((s.roused.set (0x2A18 + lane) 1 v).set (0x2A18 + lane) 4 (if v = 0 then 0 else 1)).answered d))
    ∧ (∀ (idx sub v i : Nat) (t : State), 0x2A00 ≤ idx → idx < 0x2A20 → s.takesNum d idx sub v i →
      s.roused.acuWrite d idx sub v = .ok t → exec (.acuEntryWrite d idx sub v) s = .next (t.answered d))
    ∧ (∀ (p k i : Nat), d = .slice p → s.sliceOf p = some k → s.acuOwner 1 = some k → s.takesNum d 0x2A00 0x0A 1 i →
      (∀ c, c ∈ s.ancRefs ++ s.ancErrs → s.inputSrc c < 0x8000) → (∀ c, c ∈ s.ancSpeakers → s.outputDst c ≠ 0xFFFF) →
      s.coefReady 1 0 = true → s.coefReady 1 1 = true →
      (s.ancRefs.length * s.ancSpeakers.length * s.acuGet 1 4
        + s.ancRefs.length * s.ancSpeakers.length * s.ancErrs.length * s.acuGet 1 5
        + s.ancRefs.length * s.ancSpeakers.length * s.ancErrs.length * s.acuGet 1 4) * s.ancBlockLen
        ≤ s.get 0x2A10 4 * 64 * (16666 * s.ancBlockLen - 2048) →
      exec (.ancStart d) s = .next (State.answered (State.set { s.roused with acu := { s.acu with
        taps := ((s.coefSet k 1).map (·.codes)).getD [], cfg := [s.acuGet 1 7, s.acuGet 1 8, s.acuGet 1 9], capture := []
        ready := none, result := none, sending := [], seen := [], sent := [], fade := none } } 0x2A00 0x0B 1 (k + 1)) d))
    ∧ (∀ (p k i : Nat), d = .slice p → s.sliceOf p = some k → s.acuOwner 1 = some k → s.takesNum d 0x2A00 0x0A 2 i →
      exec (.ancStop d) s = .next (State.answered (if s.ancRuns then s.roused.beginFade 0 else s.roused.setAcu 1 0x0B 0) d))
    ∧ (∀ (p k i : Nat), d = .slice p → s.sliceOf p = some k → s.acuOwner 1 = some k → s.takesNum d 0x2A00 0x0A 3 i →
      exec (.ancFreeze d) s = .next (State.answered (if s.ancRuns then s.roused.set 0x2A00 0x0B 2 (k + 1) else s.roused) d))
    ∧ (∀ (p k i : Nat), d = .slice p → s.sliceOf p = some k → s.acuOwner 1 = some k → s.takesNum d 0x2A00 0x0A 4 i →
      exec (.ancResume d) s = .next (State.answered (if s.ancRuns then s.roused.set 0x2A00 0x0B 1 (k + 1) else s.roused) d))
    ∧ (∀ (p k i : Nat), d = .slice p → s.sliceOf p = some k → s.acuOwner 2 = some k → s.takesNum d 0x2A00 0x14 1 i →
      cdiv s.voiceMics.length 8 ≤ s.get 0x2A10 5 → s.coefReady 2 2 = true →
      exec (.voiceStart d) s = .next (State.answered
        ((State.set { s.roused with acu := { s.acu with voiceFrames := 0, voiceTimes := [] } } 0x2A00 0x15 1 (k + 1)).setAcu 2 0x16 0) d))
    ∧ (∀ (p k i : Nat), d = .slice p → s.sliceOf p = some k → s.acuOwner 2 = some k → s.takesNum d 0x2A00 0x14 2 i →
      exec (.voiceStop d) s = .next ((s.roused.set 0x2A00 0x15 0 (k + 1)).answered d))

/-- CAN, LIN, Ethernet, switch tables, gate lists and the routing table complete. Completion of the gateway rows (R326 to
R337). A flush at the disable of a port is log 95, the discard at CAN_MODE 0 log 101, CABLE_DIAG on a down link log 106. The
answer is on the requester's path, the request ends the idle dwell, and a write needs its entry's domain, range and holds
(R22, R23, R30, R35, R399). -/
def Obligations.GatewayRows : Prop :=
  ∀ (s : State) (d : Dom), s.servesNow (pathOf d) →
    (∀ (n i : Nat), n < 16 → s.takesNum d (0x2B10 + n) 8 1 i → s.canFenced n = false →
      exec (.canRecover d n) s = .next (State.answered
        (if (s.can n).st = 3 then s.roused.setCan n { s.can n with recovering := true } else s.roused) d))
    ∧ (∀ (n i : Nat), n < 16 → s.takesNum d (0x2B10 + n) 8 2 i → s.canFenced n = false →
      exec (.canFlush d n) s = .next (((s.roused.setCan n { s.can n with tx := [] }).txDropped n (s.can n).tx.length).answered d))
    ∧ (∀ (n i : Nat), n < 16 → s.takesNum d (0x2B10 + n) 1 0 i → s.canFenced n = false →
      exec (.canModeWrite d n 1 0) s =
        .next ((((s.roused.setCan n {}).txDropped n (s.can n).tx.length).set (0x2B10 + n) 1 0).answered d))
    ∧ (∀ (n v i : Nat), n < 16 → v ≠ 0 → s.takesNum d (0x2B10 + n) 1 v i → s.canFenced n = false →
      (s.get (0x2B10 + n) 6 = 1 → s.get (0x2B10 + n) 3 = 2000 ∨ s.get (0x2B10 + n) 3 = 5000 ∨ s.get (0x2B10 + n) 3 = 10000) →
      (s.get (0x2B10 + n) 6 ≠ 1 → s.get (0x2B10 + n) 3 ≠ 10000) →
      exec (.canModeWrite d n 1 v) s = .next (State.answered (if (s.can n).st = 0 then
        (s.roused.set (0x2B10 + n) 1 v).setCan n { s.can n with st := 1 } else s.roused.set (0x2B10 + n) 1 v) d))
    ∧ (∀ (n sub v i : Nat), n < 16 → sub ≠ 1 → sub ≠ 8 → s.takesNum d (0x2B10 + n) sub v i → s.canFenced n = false →
      ((2 ≤ sub ∧ sub ≤ 6) ∨ (0x10 ≤ sub ∧ sub ≤ 0x15) → s.get (0x2B10 + n) 1 = 0) →
      (n < 12 → (sub = 6 → v ≠ 1) ∧ (sub = 3 → v ≠ 10000)) →
      exec (.canModeWrite d n sub v) s = .next ((s.roused.set (0x2B10 + n) sub v).answered d))
    ∧ (∀ (n i : Nat), n < 8 → s.takesNum d (0x2B30 + n) 5 1 i → s.get (0x2B30 + n) 1 = 1 → s.linState n = 1 →
      exec (.linGoToSleep d n) s = .next ((((s.roused.emit (.linHeader n 0x3C)).emit
        (.bus (0x20 + n) State.goToSleep)).set (0x2B30 + n) 6 2).answered d))
    ∧ (∀ (n i : Nat), n < 8 → s.takesNum d (0x2B30 + n) 5 2 i → s.linState n = 1 ∨ s.linState n = 2 →
      exec (.linWakePulse d n) s = .next (((s.roused.emit (.linWake n)).set (0x2B30 + n) 6 1).answered d))
    ∧ (∀ (p v r i : Nat), p < 20 → s.takesNum d (0x2B40 + p) 6 v i → s.get (0x2B40 + p) 1 ≠ 0 →
      exec (.cableDiag d p v r) s = .next (((s.roused.set (0x2B40 + p) 5 0).cableResult p r).answered d))
    ∧ (∀ (p i : Nat), p < 20 → s.takesNum d (0x2B40 + p) 1 0 i →
      exec (.ethEnableWrite d p 1 0) s = .next (State.answered (State.set (State.set ((List.range 8).foldl (fun t c =>
        { t with gtw := { t.gtw with queues := NMap.set [] t.gtw.queues (p * 8 + c) [] } }) s.roused)
          (0x2B40 + p) 1 0) (0x2B40 + p) 5 0) d))
    ∧ (∀ (p v i : Nat), p < 20 → v ≠ 0 → s.takesNum d (0x2B40 + p) 1 v i →
      exec (.ethEnableWrite d p 1 v) s = .next ((s.roused.set (0x2B40 + p) 1 v).answered d))
    ∧ (∀ (p sub v i : Nat), p < 20 → sub ≠ 1 → sub ≠ 6 → s.takesNum d (0x2B40 + p) sub v i → s.get (0x2B40 + p) 1 = 0 →
      (sub = 2 → v ≤ if p < 16 then 1 else 7) → (sub = 3 → v ≤ if p < 4 then 2 else 0) →
      exec (.ethEnableWrite d p sub v) s = .next ((s.roused.set (0x2B40 + p) sub v).answered d))
    ∧ (∀ (sub i : Nat) (data : List Byte), s.takesPiece d 0x2B60 sub data i →
      State.switchTableOk sub data = true →
      exec (.switchTableWrite d sub data) s = .next (State.answered (State.setB
        (if sub = 5 then (s.roused.gathered d 0x2B60 sub i).startShapers data else s.roused.gathered d 0x2B60 sub i)
          0x2B60 sub data) d))
    ∧ (∀ (p v i : Nat), p < 22 → s.takesNum d (0x2B80 + p) 4 v i → s.getB (0x2B80 + p) 1 ≠ [] → s.get (0x2B80 + p) 3 ≠ 0 →
      exec (.gclCommit d p v) s = .next (State.answered (State.set { s.roused with gtw := { s.gtw with
        gclPend := NMap.set none s.gtw.gclPend p (some {
          entries := (records 8 (s.getB (0x2B80 + p) 1)).map fun r => (field r 0 1, field r 4 4)
          base := if s.tb 0 ≤ s.get (0x2B80 + p) 2 then s.get (0x2B80 + p) 2 else
            s.get (0x2B80 + p) 2 + cdiv (s.tb 0 - s.get (0x2B80 + p) 2) (s.get (0x2B80 + p) 3) * s.get (0x2B80 + p) 3
          cycle := s.get (0x2B80 + p) 3 }) } } (0x2B80 + p) 5 1) d))
    ∧ (∀ (v i : Nat), s.takesNum d 0x4000 2 v i → NMap.get none s.dic.pieced (entryKey 0 0x4000 1) = none →
      (∀ r, r ∈ records 32 (s.getB 0x4000 1) → s.routeOk r = true) →
      exec (.routeCommit d v) s = .next (State.answered ((State.setB { s.roused with gtw := { s.gtw with lastPass := [] } }
        0x4000 1 (s.getB 0x4000 3)).setB 0x4000 3 (s.getB 0x4000 1)) d))

/-- Input filters, general outputs, cameras, time-base entries, latency tolerance and function enables complete. Completion of
the hardware, time and power rows (R350 to R352, R409, R426, R447 to R455). The answer is on the requester's path, the request
ends the idle dwell, and a write needs its entry's domain, range and holds (R22, R23, R30, R35, R399). -/
def Obligations.HardwareTimeAndPowerRows : Prop :=
  ∀ (s : State) (d : Dom), s.servesNow (pathOf d) →
    (∀ (line v i : Nat), line < 10 → s.takesNum d 0x2BA0 (line + 1) v i → v % 10 = 0 →
      exec (.filterUsWrite d line v) s = .next ((s.roused.set 0x2BA0 (line + 1) v).answered d))
    ∧ (∀ (v i : Nat), s.takesNum d 0x2BA0 0x0C v i →
      exec (.goStateWrite d v) s = .next ((s.roused.goWrite v).answered d))
    ∧ (∀ (v i : Nat), s.takesNum d 0x2160 1 v i →
      exec (.camPowerEnableWrite d v) s = .next ((s.roused.camWrite v).answered d))
    ∧ (∀ (n i : Nat) (data : List Byte), n < 8 → s.takesStr d (0x2210 + n) 5 data i → s.get (0x2210 + n) 1 ≠ 0 →
      s.get (0x2210 + n) 1 ≠ 1 → s.get (0x2210 + n) 0x0A ≠ 0 → field data 8 4 ≤ 999999999 →
      exec (.tbSet d n data) s = .next (((s.roused.setBase n { s.base n with
        pendStep := some (timeOfBytes data) }).set (0x2210 + n) 0x0A 0).answered d))
    ∧ (∀ (n v i : Nat), n < 8 → s.takesNum d (0x2210 + n) 6 v i →
      exec (.tbCmd d n v) s = .next ((s.roused.set (0x2210 + n) 0x0A 1).answered d))
    ∧ (∀ (n v i : Nat), n < 8 → s.takesNum d (0x2210 + n) 4 v i → s.get (0x2210 + n) 1 = 2 →
      281193501733945 ≤ v → v ≤ 281756451687367 →
      exec (.tbIncrementWrite d n v) s = .next ((s.roused.setBase n { s.base n with pendIncr := some v }).answered d))
    ∧ (∀ (n v i : Nat), n < 8 → v ≠ 0 → s.takesNum d (0x2210 + n) 1 v i →
      exec (.tbModeWrite d n v) s = .next (((s.roused.set (0x2210 + n) 1 v).set (0x2210 + n) 8 0).answered d))
    ∧ (∀ (n i : Nat), n < 8 → s.takesNum d (0x2210 + n) 1 0 i →
      exec (.tbModeWrite d n 0) s = .next ((((s.roused.set (0x2210 + n) 1 0).set (0x2210 + n) 8 0).setBase n
        { s.base n with pendIncr := some nominalIncr }).answered d))
    ∧ (∀ (sub v i : Nat), s.takesNum d 0x2120 sub v i →
      exec (.latencyTolWrite d sub v) s = .next ((s.roused.set 0x2120 sub v).answered d))
    ∧ (∀ (sub v m i : Nat), s.takesNum d 0x2130 sub v i →
      (sub = 1 → ∀ c h, c < 3 → h < 8 → (s.get 0x2130 1).testBit c = true → v.testBit c = false → m.testBit (8 * c + h) = true) →
      (sub = 3 → v = 0 → s.fw.state ≠ 1 ∧ s.fw.state ≠ 3 ∧ s.pwr.entering = none) →
      exec (.functionEnableWrite d sub v m) s = .next (((State.funcsOf sub).foldl (fun t f =>
        t.driveFunc f (v.testBit (f - (State.funcsOf sub).headD 0))) (s.roused.set 0x2130 sub v)).answered d))

/-- Partition activation and deactivation, calibration, self-test enable, hand-back, enclaves complete. Completion of the
partition, self-test, Rearguard and enclave rows (R356 to R358, R372, R381 to R386, R395, R396). Deactivation without major
frames is log 44, tracking by DRONE_ENABLE log 47, the own record of a forced take-over log 48. The answer is on the
requester's path, the request ends the idle dwell, and a write needs its entry's domain, range and holds (R22, R23, R30, R35,
R399). -/
def Obligations.SafetyRows : Prop :=
  ∀ (s : State) (d : Dom), s.servesNow (pathOf d) →
    (∀ (k i : Nat), k < 8 → s.takesNum d (0x2310 + k) 9 1 i → s.roused.activationFail k = 0 → s.partActive k = false →
      exec (.partActivate d k) s = .next (State.answered (((List.range 16).filter fun e => (s.engine e).quarantined).foldl
        (fun t e => t.degradeOne e k) ((State.set { s.roused with saf := { s.saf with
          deactivating := s.saf.deactivating.filter (· ≠ k) } } (0x2310 + k) 0x0A 1).setTframe k {
            pinned := match s.windowRec (s.get (0x2330 + k) 6) with
              | some r => r.2.2.1
              | none => 0 })) d))
    ∧ (∀ (k i : Nat), k < 8 → s.takesNum d (0x2310 + k) 9 2 i → s.partActive k = true → s.get 0x2320 1 = 0 →
      exec (.partDeactivate d k) s = .next ((s.roused.deactivate k).answered d))
    ∧ (∀ (k i : Nat), k < 8 → s.takesNum d (0x2310 + k) 9 2 i → s.partActive k = true → s.get 0x2320 1 ≠ 0 →
      s.saf.deactivating.contains k = false →
      exec (.partDeactivate d k) s = .next (State.answered { s.roused with saf := { s.saf with
        deactivating := s.saf.deactivating ++ [k] } } d))
    ∧ (∀ (k v i : Nat) (t : State), k < 8 → s.takesNum d (0x2330 + k) 0x0C v i → s.roused.calibrate k = .ok t →
      exec (.tfCmd d k v) s = .next (t.answered d))
    ∧ (∀ (v i : Nat), s.takesNum d 0x2340 1 v i → v ≠ s.get 0x2340 1 →
      (v = 0 → ∀ k, k < 8 → s.partActive k = true → s.get (0x2310 + k) 6 < 2) →
      exec (.droneEnableWrite d v) s =
        .next ((State.testUnits.foldl State.droneEnter (s.roused.set 0x2340 1 v)).allTakeWork.allPipesTake.answered d))
    ∧ (∀ (v i : Nat), s.takesNum d 0x2340 1 v i → v = s.get 0x2340 1 →
      (v = 0 → ∀ k, k < 8 → s.partActive k = true → s.get (0x2310 + k) 6 < 2) →
      exec (.droneEnableWrite d v) s = .next (s.roused.answered d))
    ∧ (∀ (v i : Nat), s.takesNum d 0x2350 3 v i → exec (.forceTakeover d v) s =
      .next (((s.roused.safetyRecord St.takeoverForced 0x0F 0xFF [] 0xFF 0xFF).doubt St.takeoverForced).answered d))
    ∧ (∀ (i : Nat), s.takesNum d 0x2350 2 0x484B i → s.rg.state = 3 → s.rg.restarting = false →
      ∃ t : State, exec (.handbackCmd d 0x484B) s = .next (State.answered (t.safetyRecord St.handbackDone 0x10 0xFF [] 0xFF 0xFF) d)
        ∧ t.rg.state = 0 ∧ t.rg.fence = false ∧ t.rg.cameras = [])
    ∧ (∀ (k i : Nat) (data : List Byte), s.takesStr d 0x2D10 1 data i → k < 256 →
      ∀ first count, first < 65536 → count ≠ 0 → count ≤ 12288 →
      (∀ g, first ≤ g → g < first + count → s.get 0x2D01 3 ≤ g * 2097152 ∧ g * 2097152 < State.generalEnd ∧
        (NMap.get 0 s.sec.granules g = 0 ∨ NMap.get 0 s.sec.granules g = k + 1) ∧ s.granuleUsed g (fun _ => true) = false) →
      data = enclaveBytes 1 k first count →
      exec (.enclaveAssign d k first count) s =
        .next ((s.roused.giveGranules ((List.range count).map (first + ·)) (k + 1)).answered d))
    ∧ (∀ (k i : Nat) (data : List Byte), s.takesStr d 0x2D10 1 data i → k < 256 →
      ∀ first count, first < 65536 → count ≠ 0 → count ≤ 12288 →
      (∀ g, first ≤ g → g < first + count → NMap.get 0 s.sec.granules g = k + 1 ∧
        s.granuleUsed g (fun a => decide (a.slice < 64 ∧ s.sliceEnclave a.slice = some k)) = false) →
      data = enclaveBytes 2 k first count →
      exec (.enclaveRelease d k first count) s =
        .next ((s.roused.giveGranules ((List.range count).map (first + ·)) 0).answered d))
    ∧ (∀ (k i : Nat) (data : List Byte), s.takesStr d 0x2D10 1 data i → k < 256 →
      data = enclaveBytes 3 k 0 0 →
      (∀ g, (g, k + 1) ∈ s.sec.granules →
        s.granuleUsed g (fun a => decide (a.slice < 64 ∧ s.sliceEnclave a.slice = some k)) = false) →
      exec (.enclaveDestroy d k) s =
        .next ((s.roused.giveGranules ((s.sec.granules.filter fun g => decide (g.2 = k + 1)).map (·.1)) 0).answered d))
    ∧ (∀ (k v i : Nat), k < 64 → s.takesNum d 0x2D12 (k + 1) v i → v ≤ 255 ∨ v = 0xFFFF → s.sliceState k = 0 →
      exec (.sliceEnclaveWrite d k v) s = .next ((s.roused.set 0x2D12 (k + 1) v).answered d))

/-- Watermark, reserve, holds, notice, watchdog, keys, floors, fuse, debug session entries complete. Completion of the
security rows (R391 to R394, R399, R402, R403, R405 to R408). The answer is on the requester's path, the request ends the idle
dwell, and a write needs its entry's domain, range and holds (R22, R23, R30, R35, R399). -/
def Obligations.SecurityRows : Prop :=
  ∀ (s : State) (d : Dom), s.servesNow (pathOf d) →
    (∀ (v i : Nat), s.takesNum d 0x2D01 1 v i → s.sec.watermark ≤ v → v ≤ s.get 0x2D01 3 → v ≤ 0x05BFFFFFFF → v % 67108864 = 0 →
      exec (.secureWatermarkRaise d v) s = .next (((s.roused.set 0x2D01 1 v).cancelLower.raiseWatermark v).answered d))
    ∧ (∀ (v i : Nat), s.takesNum d 0x2D01 1 v i → v < s.sec.watermark → s.sec.target = none → v ≤ s.get 0x2D01 3 →
      v ≤ 0x05BFFFFFFF → v % 67108864 = 0 →
      exec (.secureWatermarkLower d v) s = .next (State.answered (State.set { s.roused.set 0x2D01 1 v with
        sec := { s.sec with target := some v } } 0x2D01 4 1) d))
    ∧ (∀ (v i : Nat), s.takesNum d 0x2D01 3 v i → v % 67108864 = 0 → s.sec.watermark ≤ v → v ≤ s.get 0x2D01 3 →
      exec (.secReserveTopWrite d v) s = .next ((s.roused.set 0x2D01 3 v).answered d))
    ∧ (∀ (v i : Nat), s.takesNum d 0x2D01 3 v i → v % 67108864 = 0 → s.sec.watermark ≤ v → s.get 0x2D01 3 < v →
      s.anySlice = false → v ≤ 0x05BFFFFFFF → (∀ g, g ∈ s.sec.granules → v ≤ g.1 * 2097152) →
      (∀ k, k < 8 → v ≤ (s.partRange k).1 ∨ (s.partRange k).2 ≤ s.sec.watermark) →
      exec (.secReserveTopWrite d v) s = .next ((s.roused.set 0x2D01 3 v).answered d))
    ∧ (∀ (i : Nat) (data : List Byte), s.takesStr d 0x2D30 1 data i →
      exec (.secureHoldMaskWrite d data) s = .next ((s.roused.setB 0x2D30 1 (slice data 0 10 ++ List.replicate 6 0)).answered d))
    ∧ (∀ (v i : Nat), s.takesNum d 0x2D30 3 v i →
      exec (.noticeAck d v) s = .next (State.answered (if s.get 0x2D30 4 = 1 then s.roused.set 0x2D30 4 2 else s.roused) d))
    ∧ (∀ (v i : Nat), s.takesNum d 0x2D20 2 v i →
      exec (.swdKick d v) s = .next (State.answered { s.roused with sec := { s.sec with
        swdStart := s.sec.swdStart.map fun _ => s.now, swdPaused := s.sec.swdPaused.map fun _ => s.now } } d))
    ∧ (∀ (i : Nat) (data : List Byte), s.takesStr d 0x2D40 3 data i → field data 0 1 ≤ 3 →
      s.keySlot (field data 0 1) = none →
      exec (.keyProgram d data) s = .next (State.answered { s.roused with sec := { s.sec with
        slots := NMap.set none s.sec.slots (field data 0 1) (some { hash := data.drop 1 }) } } d))
    ∧ (∀ (v i : Nat) (k : KeySlot), s.takesNum d 0x2D40 4 v i → s.keySlot v = some k →
      (k.revoked = true ∨ ∃ n x, n ≠ v ∧ (n, some x) ∈ s.sec.slots ∧ x.revoked = false) →
      exec (.keyRevoke d v) s = .next (State.answered { s.roused with sec := { s.sec with
        slots := NMap.set none s.sec.slots v (some { k with revoked := true }) } } d))
    ∧ (∀ (i : Nat) (data : List Byte), s.takesStr d 0x2D40 6 data i →
      1 ≤ field data 0 1 → field data 0 1 ≤ 5 → NMap.get 0 s.sec.floors (field data 0 1) ≤ field data 1 4 →
      field data 1 4 ≤ NMap.get 0 s.sec.running (field data 0 1) →
      exec (.rollbackAdvance d data) s = .next (State.answered { s.roused with sec := { s.sec with
        floors := NMap.set 0 s.sec.floors (field data 0 1) (field data 1 4) } } d))
    ∧ (∀ (v i : Nat), s.takesNum d 0x2D40 7 v i →
      exec (.debugFuse d v) s = .next (State.answered { s.roused with sec := { s.sec with debugFuse := true } } d))
    ∧ (∀ (v i : Nat), s.takesNum d 0x2D40 8 v i →
      exec (.debugPolicyWrite d v) s = .next (((s.roused.set 0x2D40 8 v).setScope (s.sec.scope &&& v)).answered d))
    ∧ (∀ (i : Nat) (data : List Byte), s.takesStr d 0x2D40 1 data i →
      exec (.fmpKeyWrite d data) s = .next (State.answered { s.roused with sec := { s.sec with fmpKey := some data } } d))
    ∧ (∀ (i : Nat) (data : List Byte), s.takesPiece d 0x2E01 2 data i →
      exec (.dbgCert d data) s = .next (State.answered { s.roused.gathered d 0x2E01 2 i with
        sec := { s.sec with cert := some data } } d))
    ∧ (∀ (i : Nat) (data cert : List Byte), s.takesStr d 0x2E01 3 data i →
      s.sec.lockout = false → s.responseOk data = true → s.sec.cert = some cert →
      exec (.dbgResponse d data) s = .next (State.answered (State.renewChallenge (State.setScope { s.roused with sec := { s.sec with
        refusals := 0 } } (if s.sec.debugFuse then 0 else field cert 6 1 &&& s.get 0x2D40 8))) d))
    ∧ (∀ (v i : Nat), s.takesNum d 0x2E01 5 v i → exec (.dbgCmd d v) s = .next (s.roused.endSession.answered d))

/-- USDO, FMP, dictionary windows, held accesses and time-outs do their work when served. R26 to R35. The time-out rows check
their second on TB1 (log 13), a lapsed transfer is remembered (log 20). -/
def Obligations.DictionaryPathsServe : Prop :=
  ∀ (s : State),
    (∀ (r : UsdoReq), s.usdoServes = true → s.servesNow .usdo → exec (.usdoRequest r) s = .next (s.roused.runUsdo r))
    ∧ (s.usdoServes = true → s.servesNow .usdo → exec .usdoAbort s = .next (s.roused.setUsdo none))
    ∧ (∀ (u : UsdoSession), s.usdoServes = true → s.dic.usdo = some u → u.last + 1000000000 ≤ s.now →
      exec .usdoSessionTimeout s =
        .next (State.emit { s with dic := { s.dic with usdo := none } } (.answer .usdo Ab.timeout [])))
    ∧ (∀ (d : Datagram) (q : FmpReq) (r : State), s.servesNow .fmp → s.roused.fmpAccept d = some q →
      r = (if q.tagged then { s.roused with dic := { s.dic with fresh := NMap.set none s.dic.fresh d.src (some q.fresh) } }
        else s.roused) →
      (q.target = 0xFF ∨ q.target = s.nodeId) → (∀ e, e ∈ s.dic.fmpCache → e.src ≠ d.src ∨ e.seq ≠ q.seq) →
      (fmpIs 1 d = true → exec (.fmpRead d) s = .next ((r.fmpExecute d.src q).2.fmpReply d q (r.fmpExecute d.src q).1))
      ∧ (fmpIs 2 d = true → exec (.fmpWrite d) s = .next ((r.fmpExecute d.src q).2.fmpReply d q (r.fmpExecute d.src q).1))
      ∧ (fmpIs 3 d = true → exec (.fmpWriteSet d) s = .next ((r.fmpExecute d.src q).2.fmpReply d q (r.fmpExecute d.src q).1)))
    ∧ (∀ (w : Space) (req : BitVec 64), s.servesNow (.window w) → (s.window w).busy = false →
      (bits req.toNat 43 40 = 1 → exec (.dwRead w req) s = .next
        ((State.roused (s.setWindow w { s.window w with busy := true, raced := [], mgr := false })).runWindow w req.toNat))
      ∧ (bits req.toNat 43 40 = 2 → exec (.dwWrite w req) s = .next
        ((State.roused (s.setWindow w { s.window w with busy := true, raced := [], mgr := false })).runWindow w req.toNat)))
    ∧ (∀ (p : Path) (h : Held), s.fwRunning = true → s.dic.held.find? (fun h => decide (Held.path h = p)) = some h →
      exec (.dictHeldAccessServe p) s = .next (State.runHeld { s with dic := { s.dic with held := s.dic.held.erase h } } h))
    ∧ (∀ (idx sub inst : Nat) (p : Pieced), NMap.get none s.dic.pieced (entryKey inst idx sub) = some p →
      p.last + 1000000000 ≤ s.now →
      exec (.piecedTransferTimeout idx sub inst) s = .next { s with dic := { s.dic with
        pieced := NMap.set none s.dic.pieced (entryKey inst idx sub) none
        abandoned := (entryKey inst idx sub, p.path, p.src) ::
          s.dic.abandoned.filter (· ≠ (entryKey inst idx sub, p.path, p.src)) } })

/-- REGISTER_WRITE sets exactly the register it names. R21, R31, R196, R397; the host's mappings are log 5. -/
def Obligations.RegisterWritesLandInPlace : Prop :=
  ∀ (s : State),
    (∀ (d : Dom) (idx sub n i : Nat) (e : EntryDef) (t : State), s.servesNow (pathOf d) → s.entryFor d idx sub true = .ok (e, i) →
      s.takesNum d idx sub n i → s.roused.applyWrite d {} none i idx sub (.num n) = .ok t →
      exec (.registerWrite (.entry d idx sub 0 (leBytes e.ty.size n))) s = .next (t.answered d))
    ∧ (∀ (w : Space) (v : W32), exec (.registerWrite (.dwOffset w v)) s =
      .next (s.setWindow w { s.window w with offset := v.toNat }))
    ∧ (∀ (w : Space) (v : BitVec 64), exec (.registerWrite (.dwStatus w v)) s =
      .next (if v.getLsbD 17 then s.setWindow w { s.window w with lost := false } else s))
    ∧ (∀ (w : Space) (off : Nat) (data : List Byte), exec (.registerWrite (.dwBuffer w off data)) s =
      .next (s.windowBuffer w off data))
    ∧ (∀ (h c : Nat) (v : BitVec 64), h < 29 → exec (.registerWrite (.csr h c v)) s =
      .next (s.setHart h { s.hart h with csr := NMap.set 0 (s.hart h).csr c v }))
    ∧ (∀ (pasid va bytes pa : Nat), pasid ≠ 0 → pa < 0x0600000000 → State.generalEnd < pa + bytes →
      exec (.registerWrite (.mapPage pasid va bytes pa)) s = .next s)
    ∧ (∀ (pasid va bytes pa : Nat), pasid = 0 ∨ 0x0600000000 ≤ pa ∨ pa + bytes ≤ State.generalEnd →
      exec (.registerWrite (.mapPage pasid va bytes pa)) s =
      .next { s with mem := { s.mem with maps := (Mapping.mk pasid va bytes pa ::
        s.mem.maps.filter fun e => decide (e.pasid ≠ pasid ∨ e.va ≠ va)) } })
    ∧ (∀ (pasid va : Nat), exec (.registerWrite (.unmapPage pasid va)) s =
      .next { s with mem := { s.mem with maps := s.mem.maps.filter fun e => decide (e.pasid ≠ pasid ∨ e.va ≠ va) } })

/-- Each compute, movement, cache and kernel descriptor that is ready has its family's effect and completes. R81 to R132, R136
to R163, R170 to R177, R97 to R100. Open results are free values (log 28, log 30, log 57). -/
def Obligations.ComputeDescriptorsRun : Prop :=
  ∀ (s : State) (q n : Nat) (d : Desc),
    (s.ready q n 0x0100 d → exec (.gemm q n) s = .next (s.performed q n d fun w d => w.gemm 0x0100 d))
    ∧ (s.ready q n 0x0101 d → exec (.gemmBatched q n) s = .next (s.performed q n d fun w d => w.gemm 0x0101 d))
    ∧ (s.ready q n 0x0102 d → exec (.gemmAcc q n) s = .next (s.performed q n d fun w d => w.gemm 0x0102 d))
    ∧ (s.ready q n 0x0400 d → exec (.elementwise q n) s =
      .next (s.performed q n d fun w d => w.rowWise (vecOf 0x0400 d) d Work.elementwiseRow))
    ∧ (s.ready q n 0x0401 d → exec (.reduce q n) s = .next (s.performed q n d fun w d =>
      if (vecOf 0x0401 d).auxOut then ((w.reduceAll (vecOf 0x0401 d) d).settleState (vecOf 0x0401 d).z).settleState (vecOf 0x0401 d).aux
      else (w.reduceAll (vecOf 0x0401 d) d).settleState (vecOf 0x0401 d).z))
    ∧ (s.ready q n 0x0402 d → exec (.normalise q n) s =
      .next (s.performed q n d fun w d => w.rowWise (vecOf 0x0402 d) d Work.normaliseRow))
    ∧ (s.ready q n 0x0403 d → exec (.convert q n) s =
      .next (s.performed q n d fun w d => w.rowWise (vecOf 0x0403 d) d Work.convertRow))
    ∧ (s.ready q n 0x0404 d → exec (.softmax q n) s =
      .next (s.performed q n d fun w d => w.rowWise (vecOf 0x0404 d) d Work.softmaxRow))
    ∧ (s.ready q n 0x0405 d → exec (.topk q n) s =
      .next (s.performed q n d fun w d => w.rowWise (vecOf 0x0405 d) d Work.topkRow))
    ∧ (s.ready q n 0x0406 d → exec (.gather q n) s =
      .next (s.performed q n d fun w d => w.rowWise (vecOf 0x0406 d) d Work.gatherRow))
    ∧ (s.ready q n 0x0500 d → exec (.copy q n) s = .next (s.performed q n d Work.copy))
    ∧ (s.ready q n 0x0501 d → exec (.fill q n) s = .next (s.performed q n d Work.fill))
    ∧ (s.ready q n 0x0502 d → exec (.transpose q n) s = .next (s.performed q n d Work.transpose))
    ∧ (s.ready q n 0x0503 d → exec (.prefetchTensor q n) s = .next (s.performed q n d Work.prefetch))
    ∧ (s.ready q n 0x0504 d → exec (.exportTensor q n) s = .next (s.performed q n d Work.exportOut))
    ∧ (s.ready q n 0x0200 d → exec (.conv q n) s = .next ((s.performed q n d Work.conv).convEnd q n))
    ∧ (s.ready q n 0x0201 d → exec (.pool q n) s = .next (s.performed q n d (Work.image 0x0201 Work.poolRow)))
    ∧ (s.ready q n 0x0202 d → exec (.resize q n) s = .next (s.performed q n d (Work.image 0x0202 Work.resizeRow)))
    ∧ (s.ready q n 0x0203 d → exec (.crop q n) s = .next (s.performed q n d (Work.image 0x0203 Work.cropRow)))
    ∧ (s.ready q n 0x0204 d → exec (.regroup q n) s = .next (s.performed q n d (Work.image 0x0204 Work.regroupRow)))
    ∧ (s.ready q n 0x0300 d → exec (.attention q n) s = .next (s.performed q n d Work.attention))
    ∧ (s.ready q n 0x0307 d → exec (.attnCombine q n) s = .next (s.performed q n d Work.attnCombine))
    ∧ (s.ready q n 0x0301 d → exec (.kvAppend q n) s = .next (s.performed q n d Work.append))
    ∧ (s.ready q n 0x0302 d → exec (.kvSeqOpen q n) s = .next (s.performed q n d Work.seqOpen))
    ∧ (s.ready q n 0x0303 d → exec (.kvSeqClose q n) s = .next (s.performed q n d Work.seqClose))
    ∧ (s.ready q n 0x0304 d → exec (.kvResume q n) s = .next (s.performed q n d Work.resume))
    ∧ (s.ready q n 0x0305 d → exec (.kvPrefixPublish q n) s = .next (s.performed q n d Work.publish))
    ∧ (s.ready q n 0x0306 d → exec (.kvBlockExport q n) s = .next (s.performed q n d Work.blockExport))
    ∧ (s.ready q n 0x0700 d → exec (.dispatch q n) s = .next (s.performed q n d Work.dispatch))
    ∧ (s.ready q n 0x0701 d → exec (.kernelLoad q n) s = .next (s.performed q n d Work.kernelLoad))
    ∧ (s.ready q n 0x0702 d → exec (.kernelFree q n) s =
      .next (if s.kernelBusy (s.queueSlice q) (d.fld 79 64) d.order then s else s.performed q n d Work.kernelFree))

/-- NOP, SIGNAL, WAIT, TIMESTAMP, tensor and lane-release descriptors begin and complete. R94 to R99, R170 to R173, R247. -/
def Obligations.ControlDescriptorsRun : Prop :=
  ∀ (s : State) (q n : Nat) (d : Desc),
    (s.begins q n 0x0600 d → exec (.nop q n) s = .next ((s.begun q n d).finish q n 0 0 0))
    ∧ (s.begins q n 0x0601 d → exec (.signal q n) s =
      .next ((s.begun q n d).performed q n { d with phase := .running } Work.signal))
    ∧ (s.begins q n 0x0602 d → (s.begun q n d).waitMet (s.queueSlice q) { d with phase := .running } = true →
      exec (.wait q n) s = .next ((s.begun q n d).finish q n 0 0 0))
    ∧ (s.begins q n 0x0602 d → (s.begun q n d).waitMet (s.queueSlice q) { d with phase := .running } = false → d.fld 223 192 = 0 →
      exec (.wait q n) s = .next (s.begun q n d))
    ∧ (s.begins q n 0x0602 d → (s.begun q n d).waitMet (s.queueSlice q) { d with phase := .running } = false → d.fld 223 192 ≠ 0 →
      exec (.wait q n) s = .next ((s.begun q n d).setDesc q n { d with
        phase := .running, deadline := some (s.now + 1000 * d.fld 223 192), tDeal := s.now }))
    ∧ (∀ due, s.desc q n = some d → d.phase = .running → d.opcode s.compat = 0x0602 → d.deadline = some due → due ≤ s.now →
      exec (.waitTimeout q n) s =
        .next (s.finish q n St.waitTimeout (s.syncCounter (s.queueSlice q) (d.fld 71 64) % 4294967296) 0))
    ∧ (s.begins q n 0x0603 d → exec (.timestamp q n) s =
      .next ((s.begun q n d).performed q n { d with phase := .running } Work.timestamp))
    ∧ (s.begins q n 0x0604 d → exec (.tensorCreate q n) s =
      .next ((s.begun q n d).performed q n { d with phase := .running } Work.tensorCreate))
    ∧ (s.begins q n 0x0605 d → exec (.tensorRelease q n) s =
      .next ((s.begun q n d).performed q n { d with phase := .running } Work.tensorRelease))
    ∧ (s.begins q n 0x0606 d → exec (.tensorView q n) s =
      .next ((s.begun q n d).performed q n { d with phase := .running } Work.tensorView))
    ∧ (s.begins q n 0x0506 d → exec (.caravanRelease q n) s =
      .next ((s.begun q n d).performed q n { d with phase := .running } Work.releaseLane))

/-- Acoustic, raster, planner and send descriptors that may begin have their effects. R244 to R247, R270 to R289, R295 to
R308, R323, R324. -/
def Obligations.DirectFamiliesRun : Prop :=
  ∀ (s : State) (q n : Nat) (d : Desc) (t : State),
    (s.readyDirect q n (· = 0x0A00) = (some d, t) → exec (.acuCoefLoad q n) s =
      .next (State.finish (Work.coefLoad { t.startWork q n d with m := .acoustic (t.queueSlice q) } d).s q n
        (Work.coefLoad { t.startWork q n d with m := .acoustic (t.queueSlice q) } d).st
        (Work.coefLoad { t.startWork q n d with m := .acoustic (t.queueSlice q) } d).det
        (Work.coefLoad { t.startWork q n d with m := .acoustic (t.queueSlice q) } d).fl))
    ∧ (s.readyDirect q n (· = 0x0800) = (some d, t) → s.gov.halt = false → t.pass q n = none →
      (t.paramsStale (t.queueSlice q) d.order && t.paramsHeld (t.queueSlice q)) = false →
      exec (.gfxPass q n) s = .next (t.startPass q n d))
    ∧ (s.readyDirect q n (· = 0x0801) = (some d, t) → t.readyDesc q n (· = 0x0801) = some d →
      exec (.gfxShaderLoad q n) s = .next (t.performed q n d Work.shaderLoad))
    ∧ (s.readyDirect q n (· = 0x0802) = (some d, t) → t.readyDesc q n (· = 0x0802) = some d →
      exec (.gfxShaderFree q n) s = .next (if t.shaderBusy (t.queueSlice q) (d.fld 79 64) d.order then t
        else t.performed q n d Work.shaderFree))
    ∧ (s.begins q n 0x0803 d → (s.layer d.pOut d.pLayer).cfg.headD 0xFF = s.queueSlice q → exec (.gfxPresent q n) s =
      .next ((s.begun q n d).setLayer d.pOut d.pLayer { s.layer d.pOut d.pLayer with ready := (s.layer d.pOut d.pLayer).ready ++ [{
        q := q, n := n, image := d.fld 95 64, root := ((s.tref (d.fld 95 64)).map (·.root)).getD 0, reproj := d.fld 103 102
        pose := [d.fld 191 160, d.fld 223 192, d.fld 255 224, d.fld 287 256] }] }))
    ∧ (s.readyDirect q n (· = 0x0900) = (some d, t) → t.plan q n = none → exec (.plnPlan q n) s =
      .next { t with pln := { t.pln with plans := t.pln.plans ++ [{
        q := q, n := n, slice := t.queueSlice q, prio := (t.queue q).priority, order := d.order, lanes := d.fld 244 240
        lattice := d.fld 255 248, budgetUs := d.fld 223 192, finalUs := d.fld 239 224, world := d.fld 159 128
        resp := d.fld 127 96, scratch := d.fld 191 160, req := leBytes 128 (d.data.headD 0) }] } })
    ∧ (s.readyDirect q n (· = 0x0901) = (some d, t) → exec (.plnLatticeLoad q n) s =
      .next (State.finish (Work.latticeLoad { t.startWork q n d with m := .planner (t.queueSlice q) } d).s q n
        (Work.latticeLoad { t.startWork q n d with m := .planner (t.queueSlice q) } d).st
        (Work.latticeLoad { t.startWork q n d with m := .planner (t.queueSlice q) } d).det
        (Work.latticeLoad { t.startWork q n d with m := .planner (t.queueSlice q) } d).fl))
    ∧ (s.readyDirect q n (· = 0x0902) = (some d, t) → t.latticeBusy (t.queueSlice q) (d.fld 71 64) d.order = true →
      exec (.plnLatticeFree q n) s = .next t)
    ∧ (s.readyDirect q n (· = 0x0902) = (some d, t) → t.latticeBusy (t.queueSlice q) (d.fld 71 64) d.order = false →
      t.readyDirect q n (· = 0x0902) = (some d, t) →
      exec (.plnLatticeFree q n) s =
      .next (State.finish (Work.latticeFree { t.startWork q n d with m := .planner (t.queueSlice q) } d).s q n
        (Work.latticeFree { t.startWork q n d with m := .planner (t.queueSlice q) } d).st
        (Work.latticeFree { t.startWork q n d with m := .planner (t.queueSlice q) } d).det
        (Work.latticeFree { t.startWork q n d with m := .planner (t.queueSlice q) } d).fl))
    ∧ (s.readyDirect q n (· = 0x0903) = (some d, t) → exec (.plnOccUpdate q n) s =
      .next (State.finish (Work.occUpdate { t.startWork q n d with m := .planner (t.queueSlice q) } d).s q n
        (Work.occUpdate { t.startWork q n d with m := .planner (t.queueSlice q) } d).st
        (Work.occUpdate { t.startWork q n d with m := .planner (t.queueSlice q) } d).det
        (Work.occUpdate { t.startWork q n d with m := .planner (t.queueSlice q) } d).fl))
    ∧ (s.begins q n 0x0505 d → ((s.begun q n d).groupHere { d with phase := .running } = true →
        (s.begun q n d).sendFails q n { d with phase := .running } = none) → (s.begun q n d).fetchInputs q n { d with phase := .running } = some t → t.fetching q n = false →
      d.phase ≠ .running → exec (.caravanSend q n) s = .next (t.queueSend q n { d with phase := .running }))
    ∧ (∀ e, s.lnk.waiting.find? (fun e => decide (e.1 = q ∧ e.2.1 = n)) = some e → s.get 0x2C02 5 ≠ 0 →
      e.2.2 + 1000 * s.get 0x2C02 5 ≤ s.now → s.noSlot q n = true → exec (.caravanWaitTimeout q n) s =
      .next (State.runSends (State.finish { s with lnk := { s.lnk with
        waiting := s.lnk.waiting.filter fun e => decide (e.1 ≠ q ∨ e.2.1 ≠ n) } } q n St.waystationFull 0 0)))

/-- Pace window, power and thermal loops, regulator, supply and core-rail events happen. R41 to R60. Step and lift of the
loops are log 112; the dark rail without hold-up is log 114. -/
def Obligations.GovernorAndSupplyEvents : Prop :=
  ∀ (s : State),
    (∀ x, x = (State.set (s.setGov { s.gov with
          used := [], steps := (s.gov.used.foldl (fun a e => a + e.2) 0 :: s.gov.steps).take 100 }) 0x2111 5
        (min 65535 (State.stepRate (s.setGov { s.gov with
          used := [], steps := (s.gov.used.foldl (fun a e => a + e.2) 0 :: s.gov.steps).take 100 })))) →
      s.gov.release = false → s.gov.pendCeiling = none → s.gov.pendMv = none →
      exec .paceWindowBoundary s = .next (if s.gov.settled then x else x.noteRail x.presentMv).noteSubfloor.lowerStep)
    ∧ (∀ (dw : Nat), s.govFixed = false → s.powerLimit < dw →
      ∃ t, exec (.powerLoopSample dw) s = .next t ∧ t.gov.powerAct = .lower ∧ t.gov.powers = (dw :: s.gov.powers).take 10
        ∧ t.get 0x2111 3 = min 65535 (((dw :: s.gov.powers).take 10).foldl (· + ·) 0 / ((dw :: s.gov.powers).take 10).length)
        ∧ t.pending = s.pending ∧ t.mem = s.mem)
    ∧ (∀ (dw : Nat), s.govFixed = true → ∃ t, exec (.powerLoopSample dw) s = .next t ∧ t.gov.powerAct = .hold ∧ t.gov.powerCap = none)
    ∧ (s.govFixed = false → s.gov.powerAct = .lower → s.ceiling = 800 → s.gov.unmetSaid = false → exec .powerLimitUnmet s =
      .next (State.addRecord (s.setGov { s.gov with unmetSaid := true }) St.powerLimitUnmet 0x11 0xFF))
    ∧ (∀ (x : Int) (xs : List Int), exec (.thermalLoopSample (x :: xs)) s = .next (s.thermalSample (xs.foldl max x)))
    ∧ (∀ since, s.gov.subSince = some since → s.gov.subDoubted = false → since + 1000000 < s.now → exec .subfloorDoubt s =
      .next (State.doubt (s.setGov { s.gov with subDoubted := true }) St.thermalSubfloor))
    ∧ (∀ t u, t = State.railAt (s.setGov { s.gov with settled := true, afterSettle := none }) s.coreMv →
      u = (match s.gov.afterSettle with
        | some c => t.setGov { t.gov with pendCeiling := some c }
        | none => t) → s.gov.settled = false → exec .regulatorSettled s = .next (if s.gov.heldRelease = true ∧ 660 ≤ u.coreMv then
          u.setGov { u.gov with gated := false, heldRelease := false } else u))
    ∧ (∀ (a b r mv : Nat), mv = (if s.gov.settled then s.coreMv else s.presentMv) → s.holdPoint ≤ a → 4500 ≤ a →
      s.gov.dark = false → exec (.supplyInputChange a b r) s = .next (s.railAt mv))
    ∧ (∀ (a b r mv : Nat), mv = min r (max s.coreMv s.presentMv) → a < s.holdPoint → max a b < 4500 →
      exec (.supplyInputChange a b r) s = .next (State.setGov (s.railAt mv) { (s.railAt mv).gov with dark := true }))
    ∧ (∀ r, r < 400 → exec (.coreRailPowerOnReset r) s = .next ((s.resetMain true).railAt r))

/-- Doorbell, context, fetch, completion, interrupt hold-off, rundown, grace and engine-window events happen. R88, R196 to
R221. -/
def Obligations.FrontEndEvents : Prop :=
  ∀ (s : State),
    (∀ (off : Nat) (wide : Bool) (v : BitVec 64) (p c : Nat) (u t : State), u = s.workArrives → off < 2097152 → (u.queue (off / 8)).state ≠ .unconfigured →
      p = (if wide ∨ off % 8 < 4 then v.toNat % 4294967296 else (u.queue (off / 8)).p) →
      c = (if wide then v.toNat / 4294967296 else if off % 8 < 4 then (u.queue (off / 8)).c else v.toNat % 4294967296) →
      diff32 p (u.queue (off / 8)).f ≤ 2 ^ (u.queue (off / 8)).ringLog2 →
      diff32 (u.queue (off / 8)).wr c ≤ 2 ^ (u.queue (off / 8)).cringLog2 →
      t = (u.count 324 1).setQueue (off / 8) { u.queue (off / 8) with
        p := p, c := c, bells := if p = (u.queue (off / 8)).p then (u.queue (off / 8)).bells
          else (u.queue (off / 8)).bells ++ [(p, u.now)] } →
      exec (.doorbellWrite off wide v) s = .next (State.needContext { t with
        pwr := { t.pwr with dwell := false, busyAt := t.now } } (off / 8) true))
    ∧ (∀ q n, (s.queue q).resident = true → s.idleContext q = true → s.nextPending = some n →
      exec (.contextSpillLoad q) s = .next { (s.spillContext q true).loadContext n with
        que := { ((s.spillContext q true).loadContext n).que with lastServed := n } })
    ∧ (∀ q, s.mayFetch q = true → s.frontHeld q = true → exec (.descriptorFetch q) s = .next (s.noteFront q))
    ∧ (∀ q a, s.mayFetch q = true → s.frontHeld q = false → s.slotPa q (s.queue q).f = some a → State.inHbm (a + 63) = false →
      exec (.descriptorFetch q) s = .next (s.askSlot q a))
    ∧ (∀ q a c, s.mayFetch q = true → s.frontHeld q = false → s.slotPa q (s.queue q).f = some a → State.inHbm (a + 63) = true →
      s.refuses (.frontEnd (s.queueSlice q)) a 64 = false → c = s.chargeRange (.frontEnd (s.queueSlice q)) a 64 →
      (∀ g, g ∈ State.granulesOf a 64 → c.mem.poisoned.contains g = false) →
      exec (.descriptorFetch q) s = .next (State.judge (c.countSlot q).2.countFetch.2 q (c.queue q).f
        { w := BitVec.ofNat 512 (leNat (c.readMem a 64)), tagged := (c.countSlot q).2.countFetch.1
          tFetch := (c.countSlot q).2.countFetch.2.now, tBell := (c.countSlot q).1 }))
    ∧ (∀ q n d, s.oldestDesc q = some (n, d) → d.phase = .done → s.awaitsAck q n = false → q < 262144 → d.tagged = false →
      (s.leavesRecord d && s.frontHeld q) = false →
      exec (.completionRecordWrite q) s =
        .next (State.forget (if s.leavesRecord d then s.putRecord q d else s) q n))
    ∧ (∀ q, (s.queue q).irqHeld = true → exec (.irqHoldoffEnd (.queue q)) s = .next (State.sendMsi (s.setQueue q { s.queue q with
        lastIrq := some s.now, irqHeld := false }) (match s.queueOwner q with
          | some k => s.slicePasid k
          | none => 0) (s.queue q).msiAddr (s.queue q).msiData))
    ∧ (∀ k, (s.sliceX k).irqHeld = true → exec (.irqHoldoffEnd (.slice k)) s = .next (State.msi (s.setSlice k { s.sliceX k with
        lastIrq := some s.now, irqHeld := false }) (s.slicePasid k) (s.get (0x2540 + k) 0x0C) (s.get (0x2540 + k) 0x0D)))
    ∧ (∀ k, k < 64 → s.sliceState k = 3 → s.ranDown k = true →
      exec (.sliceRundownDone k) s = .next ((((s.dropKv k).dropLayers k).dropObjects k).dropSlice k))
    ∧ (∀ k, s.graceExpired k = true → exec (.graceExpiry k) s = .next (State.postEvent ((s.setSlice k { s.sliceX k with
        graceStart := none }).set (0x2540 + k) 3 2) k 0x0005 St.sliceSuspended 0xFFFFFFFF (s.memUsed k)))
    ∧ (exec .engineWindowBoundary s = .next ((List.range 64).foldl (fun t k =>
      t.setSlice k { t.sliceX k with windowNs := 0, shareNow := t.get (0x2540 + k) 7 })
        { s with que := { s.que with windowUsNow := s.get 0x2501 2 } }))

/-- Deal, drain, save, restore, enable and disable events of the engines happen. R85, R110 to R113, R178 to R195. Ties are log
42. -/
def Obligations.EngineEvents : Prop :=
  ∀ (s : State),
    (∀ q n d t u, q < 262144 → s.nextDeal = some (q, n, d) →
      s.fetchInputs q n d = some t → t.convBegin q n d = some u →
      exec (.tileDeal q n) s = .next (
        let x := (u.desc q n).getD d
        let mask := if x.mask ≠ 0 then x.mask else u.onMask
        let b := u.beginTiles q n x mask
        let may := b.2.dealTargets { q := q, n := n, t := 0, prio := (u.queue q).priority, order := x.order }
        let es := if x.redundant u.compat then may.filter fun e => mask.testBit e else may
        b.2.dealTiles q n b.1 (if es = [] then may else es) (u.queue q).priority 0))
    ∧ (∀ k n, exec (.tileDeal (262144 + k) n) s = .next (s.dealFrame k n))
    ∧ (∀ e t, (s.engine e).running = some t → t.run = 0 → exec (.tileDrain e .clean) s = .next (
      let u := (((State.tileDone (s.setEngine e { s.engine e with running := none, stop := none }) e t).count (16 * e + 6) 1).countFree
        (16 * e + 7)).countFree (16 * e + 8)
      (u.settleTicks e 0 t).endTile e))
    ∧ (∀ e t, (s.engine e).running = some t → t.run = 1 → exec (.tileDrain e .clean) s = .next
      (s.setEngine e { s.engine e with running := some { t with run := 2 } }))
    ∧ (∀ e live why t u k, (s.engine e).running = some t → (s.engine e).stop = some why → s.stopSlot e = (some k, u) →
      exec (.preemptionPointSave e live none) s = .next (((u.saveTile e k (min live 7340032)
        (if why = .window then (match u.windowPart e with
          | some p => p + 1
          | none => 0) else 0)).bump 0x2607 (if why = .window then 4 else 3)).serveWork e))
    ∧ (∀ e k t, (s.engine e).running = none → (s.engine e).selftest = none → s.droneHolds e = false → s.mayRestore e k = some t →
      exec (.tileRestore e k) s = .next (State.serveAll (((s.chargeRestore e k t).setSlot k none).setEngine e { s.engine e with
        running := some { t with live := 0, forPart := 0 } })))
    ∧ (∀ e, (s.engine e).state = .enabling → (s.engine e).retest = false → (s.engine e).wantDisable = false →
      exec (.engineEnableDone e true) s = .next (State.aim (State.droneEnter ((s.dropEnginePads e).setEngine e { s.engine e with
        state := .on, wantDisable := false }) e)).dealWaiting.serveAll)
    ∧ (∀ e, (s.engine e).state = .enabling → (s.engine e).retest = false →
      exec (.engineEnableDone e false) s = .next ((s.dropEnginePads e).quarantine e 1))
    ∧ (∀ e live parity, (s.engine e).state = .disabling → (s.engine e).abort = 1 → (s.engine e).running = none →
      (s.engine e).wantEnable = false →
      exec (.engineDisableSaveDone ⟨e, live, parity⟩) s = .next (s.setEngine e { s.engine e with abort := 2 }))
    ∧ (∀ e live parity t k u, (s.engine e).state = .disabling → (s.engine e).abort = 1 → (s.engine e).running = some t →
      s.disableSlot e = some k → u = s.saveOrLose e t k live parity 0 → (u.engine e).state = .disabling →
      (u.engine e).running = none → (u.engine e).wantEnable = false →
      exec (.engineDisableSaveDone ⟨e, live, parity⟩) s = .next (u.setEngine e { u.engine e with abort := 2 }))
    ∧ (∀ e, (s.engine e).state = .disabling → (s.engine e).abort = 2 → exec (.engineDisableDone e) s =
      .next (State.serveAll (State.redealAll (State.releaseWindowSlot (State.dropEnginePads (State.aim (State.droneEnter (s.setEngine e {
        state := if (s.engine e).wantEnable then .enabling else .off, parity := (s.engine e).parity }) e)) e) e) (s.engine e).queue)))

/-- Each kind of Plomor frame that arrives whole for this node has its effect. R226 to R248. Layouts of CREDIT, ASSIGN and
HELLO are log 78. -/
def Obligations.LinkFrameEvents : Prop :=
  ∀ (s t : State) (port : Nat) (f g : Frame),
    (s.lands port f kWriteP t g → exec (.writeP port f) s = .next ((t.inboundWrite g.cls g.addr g.payload).2.countRefused
      (t.inboundWrite g.cls g.addr g.payload).1))
    ∧ (s.lands port f kWriteC t g → exec (.writeC port f) s = .next (((t.inboundWrite g.cls g.addr g.payload).2.countRefused
      (t.inboundWrite g.cls g.addr g.payload).1).acknowledge g (t.inboundWrite g.cls g.addr g.payload).1))
    ∧ (s.lands port f kRead t g → g.len ≤ 4064 → exec (.readFrame port f) s =
      .next (((t.inboundRead g.cls g.addr g.len).2.2.countRefused (t.inboundRead g.cls g.addr g.len).1).respond g
        (t.inboundRead g.cls g.addr g.len).1 (t.inboundRead g.cls g.addr g.len).2.1))
    ∧ (∀ x, s.lands port f kCompletion t g → NMap.get none t.lnk.small g.tag = some x → exec (.completionFrame port f) s =
      .next (t.smallEnds g.tag x g.status g.payload))
    ∧ (∀ x, s.lands port f kCompletion t g → NMap.get none t.lnk.small g.tag = none → NMap.get none t.lnk.bulk g.tag = some x →
      exec (.completionFrame port f) s = .next (t.bulkEnds g.tag x g.status g.payload))
    ∧ (∀ x, s.lands port f kAck t g → NMap.get none t.lnk.writes g.tag = some x → exec (.plomorAck port f) s =
      .next (t.ackEnds g.tag x g.status).runSends)
    ∧ (s.lands port f kCaravan t g → exec (.caravan port f) s = .next (t.onCaravan g))
    ∧ (s.lands port f kCredit t g → exec (.credit port f) s = .next (t.onCredit g))
    ∧ (s.lands port f kSignalRc t g → State.signalPage ≤ g.addr → g.addr < State.signalPage + 512 →
      exec (.signalRc port f) s = .next (State.respond { t with lnk := { t.lnk with
        words := NMap.set 0 t.lnk.words ((g.addr - State.signalPage) / 8) 0 } } { g with cls := 3 } 0
        (leBytes 8 (NMap.get 0 t.lnk.words ((g.addr - State.signalPage) / 8))) true))
    ∧ (s.lands port f kSignalRc t g → g.addr < State.signalPage ∨ State.signalPage + 512 ≤ g.addr →
      exec (.signalRc port f) s = .next (State.respond { t with lnk := { t.lnk with pendingBits := 0 } } { g with cls := 3 } 0
        (leBytes 24 t.lnk.pendingBits) true))
    ∧ (s.lands port f kMessage t g → exec (.messageFrame port f) s = .next (t.onMessage g))
    ∧ (s.lands port f kHello t g → exec (.hello port f) s = .next (t.onHello port g))
    ∧ (s.lands port f kAssign t g → exec (.assign port f) s = .next (t.onAssign port g))

/-- Link training, window stores and reads, time-outs, the signal page and polling happen. R225, R236 to R243, R250. -/
def Obligations.LinkEvents : Prop :=
  ∀ (s : State),
    (∀ port width gen ok, (width ≠ 1 ∧ width ≠ 2 ∧ width ≠ 4) ∨ gen = 0 ∨ 4 < gen → exec (.linkTrained port width gen ok) s = .next s)
    ∧ (∀ port width gen t, port < 4 → width = 1 ∨ width = 2 ∨ width = 4 → 1 ≤ gen ∧ gen ≤ 4 →
      t = (if s.portState port = 1 then s else s.retrain port) →
      exec (.linkTrained port width gen false) s = .next (t.set 0x2C01 (2 + port) (t.portWidth port width * 256 + gen * 16 + 1)))
    ∧ (∀ port width gen t u, port < 4 → width = 1 ∨ width = 2 ∨ width = 4 → 1 ≤ gen ∧ gen ≤ 4 →
      t = (if s.portState port = 1 then s else s.retrain port) →
      u = t.set 0x2C01 (2 + port) (t.portWidth port width * 256 + gen * 16 + 2) →
      exec (.linkTrained port width gen true) s = .next (if u.nodeId = 0xFF then u else State.tellNeighbours (u.setPresent
        (nodeBits (u.getB 0x2C00 5) ||| (u.behind port).foldl (fun a n => if u.lnk.known.testBit n then a ||| 2 ^ n else a) 0)) none))
    ∧ (∀ port, port < 4 → s.portState port = 0 → exec (.linkDown port) s = .next s)
    ∧ (∀ port, port < 4 → s.portState port ≠ 0 → exec (.linkDown port) s = .next (s.linkDown port))
    ∧ (∀ addr data x a, s.windowAt addr data.length = some (x, a) → x.mode = 0 → data ≠ [] → x.node ≠ s.nodeId →
      s.nodePresent x.node = true → exec (.postedWindowStore addr data) s = .next (s.sendFrame {
        dst := x.node, src := 0, kind := kWriteP, cls := x.cls, addr := a, payload := data }))
    ∧ (∀ hart addr data x a, s.windowAt addr data.length = some (x, a) → x.mode = 1 → data ≠ [] → x.node ≠ s.nodeId →
      s.nodePresent x.node = true → exec (.confirmedWindowStore hart addr data) s =
      .next (s.sendWrites x.node x.cls a data (.store hart a)))
    ∧ (∀ tag t, NMap.get none s.lnk.writes tag = some t → t.time + 1000 * s.get 0x2C02 3 ≤ s.now →
      exec (.confirmedWriteTimeout tag) s = .next (s.ackEnds tag t St.nodeUnreachable).runSends)
    ∧ (∀ r addr len x a tag t, 1 ≤ len → len ≤ 64 → s.windowAt addr len = some (x, a) → x.node ≠ s.nodeId →
      s.nodePresent x.node = true → s.smallTag { what := .reader r, node := x.node, time := s.now } = (some tag, t) →
      exec (.smallRead r addr len) s = .next (t.sendFrame {
        dst := x.node, src := 0, kind := kRead, cls := x.cls, tag := tag, addr := a, len := len }))
    ∧ (∀ tag t, NMap.get none s.lnk.small tag = some t → t.time + 1000 * s.get 0x2C02 1 ≤ s.now →
      exec (.readDiscardTimeout tag) s = .next ((s.smallFails tag t St.readDiscarded).bump 0x2C08 4))
    ∧ (∀ port f k b, s.lnk.queued.find? (fun e => e.2.any (s.staleCompletion port e.1 f)) = some (k, b) →
      exec (.bufferedCompletionDiscard port f) s =
        .next ((s.setBuffer k (b.eraseP (s.staleCompletion port k f))).bump 0x2C08 4))
    ∧ (∀ port f, (∀ k b q, (k, b) ∈ s.lnk.queued → q ∈ b → s.staleCompletion port k f q = false) →
      exec (.bufferedCompletionDiscard port f) s = .next s)
    ∧ (∀ tag t, NMap.get none s.lnk.bulk tag = some t → t.time + 1000 * s.get 0x2C02 3 ≤ s.now →
      exec (.bulkReadTimeout tag) s = .next (s.bulkFails t St.nodeUnreachable))
    ∧ (∀ off v, v < 64 → off < 512 → off % 8 = 0 → exec (.signalPageWrite off v) s = .next { s with lnk := { s.lnk with
        words := NMap.set 0 s.lnk.words (off / 8) (NMap.get 0 s.lnk.words (off / 8) ||| 2 ^ v)
        pendingBits := if s.get 0x2C00 1 < 192 then s.lnk.pendingBits ||| 2 ^ s.get 0x2C00 1 else s.lnk.pendingBits } })
    ∧ (exec .signalPoll s = .next (State.servePending (([0, 1, 2, 3].filterMap s.childOn).foldl
        (fun t n => t.signalRc n .bitmap) s)))

/-- Frames that wait at a port leave in the order of their buffers; none is lost or sent twice. R231, R233, R234: buffers are
first in, first out, and a frame leaves once. The order between buffers of a class is log 155. -/
def Obligations.WaitingFramesLeaveInOrder : Prop :=
  ∀ (s : State) (p n : Nat), ∃ (sent : List (Nat × QFrame)),
    (∀ e, e ∈ sent → e.1 / 12 = p)
    ∧ (State.transmit p n s).out = (sent.map fun e => Output.plomor p e.2.frame).reverse ++ s.out
    ∧ (∀ k, s.buffer k = (sent.filter fun e => decide (e.1 = k)).map (·.2) ++ (State.transmit p n s).buffer k)
    ∧ (State.transmit p n s).mem = s.mem ∧ (State.transmit p n s).que = s.que ∧ (State.transmit p n s).kv = s.kv

/-- HBM reads, partial writes, bandwidth windows and temperature samples happen. R251 to R269. Levels are log 91. -/
def Obligations.MemoryEvents : Prop :=
  ∀ (s : State),
    (∀ (m : Requester) (addr len queued : Nat) (report : HbmReport) (t : State), t = s.feedbackSignal (pcOf addr) queued →
      (t.compat = true ∨ t.capped (t.classOf m) = false) →
      (t.mem.feedback.contains (pcOf addr) = false ∨ t.feedbackHolds (t.classOf m) = false) →
      exec (.hbmRead m addr len queued report) s = .next (t.deliver m addr len report))
    ∧ (∀ (m : Requester) (addr : Nat) (data : List Byte), (s.compat = true ∨ s.capped (s.classOf m) = false) →
      (s.mem.feedback.contains (pcOf addr) = false ∨ s.feedbackHolds (s.classOf m) = false) → data ≠ [] →
      State.inHbm (addr + data.length - 1) = true → s.refuses m addr data.length = false →
      exec (.partialGranuleWrite m addr data) s = .next ((State.granulesOf addr data.length).foldl (fun t g =>
        t.storeGranule m (max addr (g * 64)) ((data.drop (max addr (g * 64) - addr)).take
          (min (addr + data.length) (g * 64 + 64) - max addr (g * 64)))) s))
    ∧ (∀ (starved : List (Nat × Nat)), ∃ t u, exec (.bwWindowBoundary starved) s =
        .next (t.releaseHeld fun r => decide (r.pc = none))
      ∧ t = { u with mem := { u.mem with windowUs := u.get 0x2401 1, windowStart := u.now } }
      ∧ u = (List.range 16).foldl State.openClass ((List.range 16).foldl (fun x c => x.setBwClass c { x.bwClass c with
          guarantee := x.get (0x2410 + c) 1, cap := x.get (0x2410 + c) 2 })
        (if s.compat then s else starved.foldl (fun x p => x.missedInWindow p.1 p.2) s)))
    ∧ (∀ (c : Int) (l : Nat), l = State.hbmLevel (State.levelOfFigure (s.get 0x2402 2)) c →
      ∃ (f : Nat), exec (.hbmTempSample c) s = .next ((s.set 0x2402 3 (ofSigned 16 c)).set 0x2402 2 f)
        ∧ (l = 0 → f = 7372) ∧ (l ≠ 0 → f = (State.hbmLevels.getD (l - 1) (0, 7372)).2))

/-- Raster tiles, latch and scan-out, planner search and acoustic frames happen. R280 to R293, R300 to R307, R311 to R322.
Open samples are free values (log 71 to log 73). -/
def Obligations.DisplayAndAcousticEvents : Prop :=
  ∀ (s : State),
    (∀ (r : Nat), s.gov.halt = false → s.pipeLate r = true → exec (.tileTimeout r) s = .next (s.pipeDone r true))
    ∧ (∀ (r : Nat), s.gov.halt = false → exec (.gfxTileDone r) s = .next (s.pipeDone r false))
    ∧ (∀ (r q n : Nat), s.gov.halt = true → exec (.tileTimeout r) s = .next s ∧ exec (.gfxTileDone r) s = .next s
      ∧ exec .planGrant s = .next s ∧ exec (.searchRound q n) s = .next s ∧ exec (.finalPhase q n) s = .next s)
    ∧ (∀ (o : Nat), 1 ≤ o → o < 4 → s.get (0x2880 + o) 1 ≠ 0 → exec (.latchPoint o) s =
      .next ((List.range 4).foldl (fun t k => t.latchLayer o k) s))
    ∧ (s.get 0x2880 1 ≠ 0 → exec (.latchPoint 0) s = .next ((List.range 4).foldl (fun t k => t.latchLayer 0 k)
      { s with rg := { s.rg with overlay := decide (1 ≤ s.rg.state ∧ s.rg.state ≤ 3) } }))
    ∧ (∀ (o : Nat) (late : List (Nat × Nat)), o < 4 → s.get (0x2880 + o) 1 ≠ 0 →
      exec (.scanOutStart o late) s = .next (s.scanOut o late))
    ∧ (∀ (o : Nat), o < 4 → s.get (0x2880 + o) 0x0D ≠ 0 → exec (.displayLinkDown o) s =
      .next ((s.set (0x2880 + o) 0x0D 0).addRecord St.displayLinkDown 0x05 o))
    ∧ (∀ (o : Nat), o < 4 → exec (.displayLinkUp o) s = .next (s.set (0x2880 + o) 0x0D 1))
    ∧ (∀ (p : Plan), s.gov.halt = false → s.nextPlan = some p → p.lanes + s.lanesKept p.slice ≤ s.lanesFree.length → ∃ (x : Plan) (w : Work),
      exec .planGrant s = .next (w.s.setPlan { x with status := w.st, detail := w.det })
      ∧ (x, w) = State.stopCheck (s.planWorld p).2 { p with
          held := s.lanesFree.take p.lanes, start := s.now, phase := 1, genSearch := worldGen (s.planWorld p).1
          nodes := [p.root ((s.lattice p.slice p.lattice).getD []) (worldDt (s.planWorld p).1)] } (s.planWorld p).1)
    ∧ (∀ (q n : Nat) (p : Plan), s.gov.halt = false → s.plan q n = some p → p.phase = 1 → s.now < p.windowEnd → ∃ w,
      w = State.planWorld ((s.count 314 1).countFree 313) p
      ∧ exec (.searchRound q n) s = .next (w.2.s.setPlan { p.round w.1
          ((s.lattice p.slice p.lattice).getD []) (s.tbytes p.scratch / 32) with status := w.2.st, detail := w.2.det }))
    ∧ (∀ (q n : Nat) (p : Plan), s.plan q n = some p → p.phase = 1 → p.windowEnd ≤ s.now →
      exec (.searchWindowExpired q n) s = .next (s.setPlan { p with phase := 2, timeLimited := true }))
    ∧ (∀ (q n : Nat) (p : Plan) (r : Option Final × Work), s.gov.halt = false → s.plan q n = some p → p.phase = 2 →
      r = tryCandidates p (s.planWorld p).1 (decide (p.start + 1000 * p.budgetUs < s.now + 25000))
        (p.candidates.mapIdx fun r i => (r, i)) (s.planWorld p).2 →
      ∃ (x : Plan) (w : Work) (f : Final) (status flags : Nat),
        exec (.finalPhase q n) s = .next (State.planEnd w x f status flags (worldGen (s.planWorld p).1))
        ∧ (∀ g, r.1 = some g → x = p ∧ w = r.2 ∧ f = g ∧ status = (if p.timeLimited then St.timeLimited else 0)
          ∧ flags = (if f.goal then 1 else 0) + (if 0 < f.rank then 32 else 0))
        ∧ (r.1 = none → f.rank = 0xFF ∧ (status = St.collisionUnavoidable
          ∨ status = if (p.candidates.mapIdx fun r i => (r, i)) = [] then St.noFreePath else St.invalidated)))
    ∧ (∀ (samples : List (Nat × Nat × Int)), exec (.tdmFrame samples) s = .next (s.tdmFrame samples))
    ∧ (∀ (stream ch : Nat) (v : W32), stream < 16 → s.get 0x2A13 (stream + 1) ≠ 0 → s.acu.ignored.contains stream = false →
      exec (.aafSampleArrival stream ch v true) s = .next (((List.range 48).filter fun c =>
        decide (s.inputSrc c = 0x8000 + 16 * stream + ch)).foldl (fun t c => t.enterSample c 0) (s.bump 0x2A10 6)))
    ∧ (∀ (stream ch : Nat) (v : W32), stream < 16 → s.get 0x2A13 (stream + 1) ≠ 0 → s.acu.ignored.contains stream = false →
      exec (.aafSampleArrival stream ch v false) s = .next (((List.range 48).filter fun c =>
        decide (s.inputSrc c = 0x8000 + 16 * stream + ch)).foldl (fun t c => t.enterSample c ((s.fresh .data).1 % 4294967296))
          (s.fresh .data).2))
    ∧ (∀ (stream : Nat), stream < 16 → s.acu.ignored.contains stream = false → exec (.aafRateFault stream) s =
      .next (State.addRecord { s with acu := { s.acu with ignored := s.acu.ignored ++ [stream] } } St.acuStreamRate 0x07
        (0x10 + stream)))
    ∧ (∀ b, s.acu.ready = some b → s.acu.result = none → s.ancLive = true → exec .ancBlock s = .next s.ancBlock)
    ∧ (∀ k, s.acuOwner 2 = some k → s.voiceRuns = true → 480 * (s.acuGet 2 0x16 + 1) ≤ s.acu.voiceFrames →
      exec .voiceFrame s = .next s.voiceFrame)
    ∧ (∀ k, s.acuOwner 3 = some k → s.playRuns = true → s.acu.play = [] → exec .playFrame s = .next s.playFrame)
    ∧ (∀ (ch : Nat), ch < 48 → s.inputUsed ch = true → s.acu.stuck.contains ch = false → 4800 ≤ NMap.get 0 s.acu.same ch →
      ∃ u, u = State.addRecord { s with acu := { s.acu with
            stuck := s.acu.stuck ++ [ch], changed := NMap.set 0 s.acu.changed ch 0 } } St.acuInputFault 0x07 (0x80 + ch) (leBytes 1 ch)
        ∧ exec (.inputStuck ch) s = .next (if u.ancRuns && (u.ancRefs.contains ch || u.ancErrs.contains ch) then u.beginFade 4
          else u))
    ∧ (∀ (ch : Nat), s.acu.stuck.contains ch = true → 480 ≤ NMap.get 0 s.acu.changed ch → exec (.inputRecovered ch) s =
      .next { s with acu := { s.acu with stuck := s.acu.stuck.filter (· ≠ ch), changed := NMap.set 0 s.acu.changed ch 0 } })
    ∧ (∀ (lane : Nat), lane < 8 → s.laneRuns lane 2 = true → exec (.outputReadbackFault lane) s =
      .next ((s.set (0x2A18 + lane) 4 2).addRecord St.acuOutputFault 0x07 lane (leBytes 1 lane)))

/-- CAN, LIN, Ethernet, switch, stream and routing events happen. R325 to R344, R453. Error counters are log 103, untagged
frames log 93. -/
def Obligations.GatewayEvents : Prop :=
  ∀ (s : State),
    (∀ (p : Nat) (f : BusFrame), p < 16 → s.canTakes p f = true →
      exec (.canFrameRx p f false) s = .next ((s.bump (0x2B10 + p) 0x0B).routeFrame p false f))
    ∧ (∀ (n : Nat) (f : BusFrame), s.canLive n = true → s.get (0x2B10 + n) 1 = 1 → s.canFenced n = false →
      s.canWinner n = some f → exec (.canFrameTx n true) s = .next (State.emit (State.bump (s.setCan n { s.can n with
        tx := (s.can n).tx.erase f, txErr := (s.can n).txErr - 1
        st := if (s.can n).txErr - 1 < 128 ∧ (s.can n).rxErr < 128 then 1 else 2 }) (0x2B10 + n) 0x0C) (.bus n f)))
    ∧ (∀ (n : Nat) (f : BusFrame), s.canLive n = true → s.get (0x2B10 + n) 1 = 1 → s.canFenced n = false →
      s.canWinner n = some f → (s.can n).txErr ≤ 247 → exec (.canFrameTx n false) s = .next (s.setCan n { s.can n with
        txErr := (s.can n).txErr + 8, st := if 127 < (s.can n).txErr + 8 then 2 else (s.can n).st }))
    ∧ (∀ (n : Nat), s.canLive n = true → exec (.canBusOff n) s = .next (State.addRecord (State.txDropped
        (s.setCan n { s.can n with st := 3, tx := []
                                   recovering := decide (s.get (0x2B10 + n) 7 = 1 ∨ s.get 0x1E00 1 = n) })
        n (s.can n).tx.length) St.canBusOff 0x08 n))
    ∧ (∀ (n : Nat), (s.can n).st = 3 → (s.can n).recovering = true → exec (.busoffRecoveryDone n) s =
      .next (s.setCan n { s.can n with st := 1, recovering := false, txErr := 0, rxErr := 0 }))
    ∧ (∀ (n : Nat), s.canLive n = true → exec (.canDominantTimeout n) s =
      .next ((s.setCan n { s.can n with st := 4 }).addRecord St.canDominantTimeout 0x08 n))
    ∧ (∀ (n cause : Nat), s.canLive n = true → 1 ≤ cause → cause ≤ 4 → exec (.canBusFault n cause) s =
      .next ((s.setCan n { s.can n with st := 4 }).addRecord St.canBusFault 0x08 n (leBytes 1 cause)))
    ∧ (∀ (n : Nat), (s.can n).st = 4 → exec (.canFaultRetry n true) s = .next (s.setCan n { s.can n with st := 1 }))
    ∧ (∀ (n k pos id : Nat) (slots : List (List Byte)) (r : List Byte), slots = records 4 (s.getB (0x2B30 + n) 3) →
      k = slots.length → pos = (s.lin n).pos → slots[pos % k]? = some r → s.get (0x2B30 + n) 1 = 1 → s.linState n = 1 →
      id = field r 0 1 % 64 → exec (.linScheduleSlot n) s =
        .next (State.linAnswer ((s.setLin n { s.lin n with pos := (pos + 1) % k }).emit (.linHeader n id)) n id))
    ∧ (∀ (n : Nat), n < 8 → s.linState n = 1 ∨ s.linState n = 2 →
      exec (.linBusFault n) s = .next ((s.set (0x2B30 + n) 6 3).addRecord St.linBusFault 0x09 n))
    ∧ (∀ (n : Nat), n < 8 → s.linState n = 3 → exec (.linBusRecessive n) s = .next (s.set (0x2B30 + n) 6 1))
    ∧ (∀ (p result : Nat), p < 20 → s.ethGet p 1 ≠ 0 → s.ethGet p 5 ≠ 0 → exec (.ethLinkDown p result) s =
      .next (((s.set (0x2B40 + p) 5 0).addRecord St.ethLinkDown 0x0A p (leBytes 1 p ++ leBytes 4 result)).cableResult
        p result))
    ∧ (∀ (p sqi : Nat), p < 20 → s.ethGet p 1 ≠ 0 → s.ethGet p 5 ≠ 1 → exec (.ethLinkUp p sqi false) s =
      .next ((s.set (0x2B40 + p) 5 1).set (0x2B40 + p) 8 (min sqi 7)))
    ∧ (∀ (p sqi : Nat), p < 20 → s.ethGet p 1 ≠ 0 → s.ethGet p 5 ≠ 1 → exec (.ethLinkUp p sqi true) s =
      .next (((s.set (0x2B40 + p) 5 1).set (0x2B40 + p) 8 (min sqi 7)).harnessReversed 0x0A p 3 (2 * p + 1)))
    ∧ (∀ (p vid : Nat) (f : EthFrame), p ≤ 21 → s.portUp p = true → s.getB 0x2B60 3 = [] → s.getB 0x2B60 4 = [] →
      vid = (match f.vlan with | some v => if v = 0 then 1 else v | none => 1) →
      ∃ t, t = s.learn f.srcMac vid p ∧ exec (.switchFrameIngress p f) s =
        .next (((maskBits 22 (t.portsToward f.dstMac vid &&& t.vlanMembers vid)).filter fun e =>
          decide (e ≠ p) && t.portUp e).foldl (fun u e => u.enqueueAt f vid e) t))
    ∧ (∀ (p : Nat), p ≤ 21 → NMap.get none s.gtw.gclPend p = none → exec (.gclCycleStart p) s =
      .next (State.drainPort { s with time := { s.time with gateHold := NMap.set 0 s.time.gateHold p 0 } } p))
    ∧ (∀ (p : Nat) (g : GateList), p ≤ 21 → NMap.get none s.gtw.gclPend p = some g → g.base ≤ s.tb 0 →
      exec (.gclCycleStart p) s = .next (State.drainPort (State.set { s with
        time := { s.time with gateHold := NMap.set 0 s.time.gateHold p 0 }
        gtw := { s.gtw with gcl := NMap.set none s.gtw.gcl p (some g)
                            gclPend := NMap.set none s.gtw.gclPend p none } } (0x2B80 + p) 5 2) p))
    ∧ (∀ (k : Nat) (r : List Byte) (msgs : List AcfMsg) (body pdu : List Byte), r = s.stream k →
      msgs = NMap.get [] s.gtw.building k → msgs ≠ [] → NMap.get 0 s.gtw.opened k + 1000 * field r 18 2 ≤ s.now →
      body = msgs.flatMap State.acfBytes → pdu = [0x82] ++ beBytes 2 (0x8000 + body.length % 2048) ++
        beBytes 1 (NMap.get 0 s.gtw.seqTx k) ++ beBytes 8 (s.streamId k) ++ body →
      exec (.avtpduSend k) s = .next (State.switchIngress (State.emit { s with gtw := { s.gtw with
          building := NMap.set [] s.gtw.building k [], opened := NMap.set 0 s.gtw.opened k 0
          seqTx := NMap.set 0 s.gtw.seqTx k ((NMap.get 0 s.gtw.seqTx k + 1) % 256) } }
          (.avtpdu k (NMap.get 0 s.gtw.seqTx k) msgs)) 21
        { dstMac := beNat (slice r 8 6), srcMac := Config.engineMac, vlan := some (field r 14 2 % 4096)
          pcp := field r 14 2 / 8192, etherType := 0x22F0, len := pdu.length + 22, payload := pdu }))
    ∧ (∀ (sid k x : Nat) (msgs : List AcfMsg), ((List.range 64).find? fun j =>
        decide (sid ≠ 0 ∧ s.streamId j = sid ∧ field (s.stream j) 16 1 = 1)) = some k →
      NMap.get none s.gtw.seqRx k = some x →
      exec (.avtpduReceive Config.engineMac sid ((x + 1) % 256) msgs) s =
        .next ((msgs.filter fun m => decide (m.acfType = 1 ∨ m.acfType = 3)).foldl
          (fun t m => t.routeFrame (0x40 + k) (decide (m.acfType = 3)) m.frame)
          { s with gtw := { s.gtw with seqRx := NMap.set none s.gtw.seqRx k (some ((x + 1) % 256)) } }))
    ∧ (s.rg.fence = false → 1 ≤ s.rg.state → s.rg.state ≤ 3 → ∃ (t : State),
      t = (s.setCan 0 { s.can 0 with tx := [] }).setCan 1 { s.can 1 with tx := [] }
      ∧ exec .routeFence s = .next (State.set { t with rg := { t.rg with fence := true } } 0x2BB0 1 1))
    ∧ (∀ (line v : Nat) (t : State), line ≤ 9 → v = s.get 0x2BA0 0x0B →
      t = s.set 0x2BA0 0x0B (v ||| 2 ^ line) → exec (.inputFilterSettle line true) s =
        .next (if t.sourceActive line then t else t.setPwr { t.pwr with stuck := t.pwr.stuck.filter (· ≠ line) }))

/-- General outputs, cameras, coolant, snapshots and servo events happen. R348, R349, R352, R354, R454 to R459. The order of
the coolant limit is log 31, the servo's correction log 118. -/
def Obligations.HardwareAndTimeEvents : Prop :=
  ∀ (s : State),
    (∀ (n : Nat), s.goOn n = true → exec (.goOverload n) s =
      .next ((s.set 0x2BA0 0x0D (s.get 0x2BA0 0x0D ||| 2 ^ n)).addRecord St.goOverload 0x18 (0x10 + n)))
    ∧ (∀ (n : Nat), s.goOn n = true → s.hw.goOpen.contains n = false → exec (.goOpenLoad n) s =
      .next (State.addRecord { s with hw := { s.hw with goOpen := s.hw.goOpen ++ [n] } } St.goOpenLoad 0x18 (0x10 + n)))
    ∧ (∀ (cam : Nat), s.camOn cam = true → NMap.get 0 s.hw.cam cam ≠ 2 → exec (.cameraOvercurrent cam) s =
      .next ((s.setCam cam 2).addRecord St.cameraPowerFault 0x17 cam (leBytes 1 2)))
    ∧ (∀ (cam : Nat), s.camOn cam = true → NMap.get 0 s.hw.cam cam = 2 →
      exec (.cameraPowerRetry cam) s = .next (s.setCam cam 0))
    ∧ (∀ (cam : Nat), s.camOn cam = true → NMap.get 0 s.hw.cam cam = 0 → exec (.cameraOpenLoad cam) s =
      .next ((s.setCam cam 1).addRecord St.cameraPowerFault 0x17 cam (leBytes 1 1)))
    ∧ (∀ (cam : Nat), s.camOn cam = true → ∃ (t : State), t = { s with hw := { s.hw with
          receiving := cam :: s.hw.receiving.filter (· ≠ cam), camTime := NMap.set 0 s.hw.camTime cam (s.tb 0) } }
        ∧ exec (.cameraFrameStart cam) s = .next (if cam < 2 ∧ 1 ≤ t.rg.state ∧ t.rg.state ≤ 3 then
          { t with rg := { t.rg with cameras := cam :: t.rg.cameras.filter (· ≠ cam) } } else t))
    ∧ (∀ (a b : Int), State.inRange a = true → State.inRange b = true → ¬ (500 < a - b ∨ 500 < b - a) →
      ∃ t u v : State,
        exec (.coolantSample a b) s = .next t.coolWindow
        ∧ t = { u with hw := { u.hw with
            cool := ({ ta := a, tb := b, power := u.get 0x2111 3 } :: u.hw.cool).take 50
            differ := 0, sensorSaid := u.hw.sensorSaid } }
        ∧ u = v.set 0x2150 5 (State.coolantLimit (min a b) (if v.hw.dirKnown then v.get 0x2150 3 else 300)
            (!v.hw.dirKnown || v.hw.dirReversed))
        ∧ v = (s.set 0x2150 1 (ofSigned 16 a)).set 0x2150 2 (ofSigned 16 b))
    ∧ (∀ (r base : Nat), base ≠ 3 ∨ s.secureReader r = true → exec (.snapSec r base) s =
      .next (State.emit { s with time := { s.time with snap := NMap.set 0 s.time.snap (r * 8 + base) (s.tbSubsec base) } }
        (.readData (some (s.tbSeconds base)))))
    ∧ (∀ (r : Nat), s.secureReader r = false → exec (.snapSec r 3) s = .next (s.emit (.readData none)))
    ∧ (∀ (r : Nat), exec (.jointSnapshot r) s = .next (State.emit ((List.range 8).foldl (fun t n =>
        { t with time := { t.time with
            joint := NMap.set 0 t.time.joint (r * 8 + n) (if n = 3 ∧ !t.secureReader r then 0 else t.tb n) } }) s)
        (.readData (some (s.tb 1)))))
    ∧ (∀ (n : Nat) (off : Int) (rate : Nat) (t : State), s.get (0x2210 + n) 1 = 1 →
      t = s.set (0x2210 + n) 9 (ofSigned 64 off) → t.get (0x2210 + n) 0x0A = 1 →
      exec (.servoMeasurement n off rate) s = .next ((t.stepBase n
        ((((t.base n).value : Int) - off * 281474976710656) % (tbModulus : Int)).toNat).set (0x2210 + n) 8 1))
    ∧ (∀ (n : Nat) (off : Int) (rate lim : Nat) (t : State), s.get (0x2210 + n) 1 = 1 →
      t = s.set (0x2210 + n) 9 (ofSigned 64 off) → t.get (0x2210 + n) 0x0A ≠ 1 → lim = rate * t.get (0x2210 + n) 7 / 1000000000 →
      -1000000 ≤ off → off ≤ 1000000 → ∃ f g st, f = t.fresh .choice ∧ g = f.2.fresh .choice
        ∧ exec (.servoMeasurement n off rate) s = .next ((g.2.set (0x2210 + n) 4
            ((rate : Int) + (((f.1 % (2 * lim + 1) : Nat) : Int) - (lim : Int))).toNat).set (0x2210 + n) 8 st)
        ∧ st = if g.2.get (0x2210 + n) 8 = 2 then 2 else 1 + g.1 % 2)
    ∧ exec .tb0SyncLost s = .next (((s.addRecord St.tb0SyncLost 0x15 0).bump 0x2200 5).holdover 0)

/-- Major frames, windows, pair compares and tuning frames happen, and run B leaves run A's value. R358 to R372, R364.
Counting of frames is log 44, pairs log 43, tuning frames log 46. -/
def Obligations.PartitionEvents : Prop :=
  ∀ (s : State),
    (s.get 0x2320 1 ≠ 0 → s.saf.frameStart ≠ some s.lastBoundary → ∃ (a b c : State), exec .majorFrameBoundary s = .next
        (State.serveAll (State.dealWaiting { c with saf := { c.saf with
          layoutInForce := (List.range 8).any c.partActive } }))
      ∧ c = (List.range b.windowTable.length).foldl (fun t w => match t.windowRec w with
          | some r => if t.partActive r.2.2.2 then t else t.setWin w {}
          | none => t) b
      ∧ b = (List.range 8).foldl (fun t k =>
          if (t.tframe k).phase = .ended then t.setTframe k { pinned := (t.tframe k).pinned } else t) a
      ∧ a = s.saf.deactivating.foldl State.deactivate
          (State.bump { s with saf := { s.saf with frameStart := some s.lastBoundary } } 0x2320 4))
    ∧ (∀ (w : Nat) (r : Nat × Nat × Nat × Nat), s.windowRec w = some r → s.get 0x2320 1 ≠ 0 → s.saf.layoutInForce = true →
      s.partActive r.2.2.2 = true → (s.winState w).phase = .idle → s.leadDue r = true → exec (.windowLeadStart w) s =
        .next ((State.maskEngines r.2.2.1).foldl (fun t e => t.clearEngine r.2.2.2 e)
          (s.setWin w { phase := .lead })).dealWaiting.serveAll)
    ∧ (∀ (w : Nat) (r : Nat × Nat × Nat × Nat), s.windowRec w = some r → (s.winState w).phase = .lead →
      s.sinceStart r.1 < 1000 * r.2.1 → exec (.windowStart w) s = .next (s.setWin w
        { phase := .running, start := s.now - s.sinceStart r.1
          late := (State.maskEngines r.2.2.1).filter (s.foreignTo r.2.2.2) }))
    ∧ (∀ (w : Nat) (r : Nat × Nat × Nat × Nat), s.windowRec w = some r → (s.winState w).phase = .running →
      (s.winState w).start + 1000 * r.2.1 ≤ s.now → (s.winState w).late = [] →
      ((s.setWin w {}).tframe r.2.2.2).phase ≠ .running →
      exec (.windowEnd w) s = .next (s.setWin w {}).dealWaiting.serveAll)
    ∧ (∀ (e : Nat) (t : Tile) (a : Signature), (s.engine e).running = some t → t.run = 2 → s.pairPoison t = none →
      exec (.pairCompare e a ⟨a, none⟩) s = .next (State.endTile (State.settleTicks (State.countFree (State.countFree
        (State.count (State.tileDone (s.setEngine e { s.engine e with running := none, stop := none }) e t)
          (16 * e + 6) 1) (16 * e + 7)) (16 * e + 8)) e 0 t) e))
    ∧ (∀ (e : Nat) (t : Tile) (a b : Signature), (s.engine e).running = some t → t.run = 2 → s.pairPoison t = none → a ≠ b →
      exec (.pairCompare e a ⟨b, none⟩) s = .next ((s.mismatch e t).reachA1 e))
    ∧ (∀ (e detail : Nat) (t : Tile) (a b : Signature) (u : State), (s.engine e).running = some t → t.run = 2 →
      u = (s.parityEvent e detail).loseCopy t detail → u.pairPoison t = none →
      exec (.pairCompare e a ⟨b, some (.dirty detail)⟩) s = .next ((u.mismatch e t).reachA1 e))
    ∧ (∀ (e : Nat) (t : Tile), (s.engine e).selftest = some t →
      exec (.mismatchSelftestDone e false) s = .next (s.quarantine e 2))
    ∧ (∀ (e : Nat) (t : Tile), (s.engine e).selftest = some t → exec (.mismatchSelftestDone e true) s =
      .next (State.endTile (if 2 ≤ t.mism then s.setEngine e { s.engine e with selftest := none }
        else if s.mayRun e { t with run := 1 } then
          State.stageTile (s.setEngine e { s.engine e with selftest := none, running := some { t with run := 1 } }) e { t with run := 1 }
        else s.setEngine e { s.engine e with selftest := none, queue := State.insertTile (s.engine e).queue { t with run := 1 } }) e))
    ∧ (∀ (k w : Nat), s.partActive k = true → s.get (0x2330 + k) 1 ≠ 0 → (s.tframe k).phase = .idle →
      w = s.get (0x2330 + k) 6 → (s.winState w).phase = .running →
      s.get 0x2320 4 % max 1 (s.get (0x2330 + k) 0x0A) = 0 →
      (s.winState w).start + 1000 * s.get (0x2330 + k) 7 ≤ s.now → exec (.tuningFrameStart k) s =
        .next (((s.setTframe k { phase := .running, pinned := (s.tframe k).pinned }).issueFrame k
          (s.tframe k).pinned).dealFrames k))
    ∧ (∀ (k w : Nat) (own : Nat → List Tile) (late : List Nat), (s.tframe k).phase = .running → (s.tframe k).calib = false →
      w = s.get (0x2330 + k) 6 → (s.winState w).phase = .running →
      (s.winState w).start + 1000 * s.get (0x2330 + k) 8 ≤ s.now →
      (own = fun e => (s.engine e).queue.filter fun t => decide (t.tuning = k + 1)) →
      late = (List.range 16).filter (fun e => !(s.tframe k).begun.contains e && decide (own e ≠ [])) → late ≠ [] →
      exec (.tuningFrameLatest k) s = .next (State.serveAll (State.frameUnverified (late.foldl (fun u e =>
        (own e).foldl (fun v t =>
          let x := v.setEngine e { v.engine e with queue := (v.engine e).queue.erase t }
          match x.desc t.q t.n with
          | some d => x.setDesc t.q t.n { d with left := d.left - 1, undef := d.undef ++ [t.t] }
          | none => x) u) s) k)))
    ∧ (∀ (k q : Nat) (t u : State), (s.tframe k).phase = .running → q = frameQueue k →
      (∀ n d, (n, some d) ∈ (s.queue q).desc → d.phase = .done) → (s.tframe k).calib = false → (s.tframe k).failed = false →
      t = (s.judgeFrame k).setTframe k { phase := .ended, pinned := (s.tframe k).pinned } →
      u = { t with que := { t.que with queues := NMap.set {} t.que.queues q {} } } →
      exec (.tuningFrameDone k) s = .next u.reap.reapSeqs.serveAll)
    ∧ (∀ (g : Gemm) (n sl i : Nat) (xs ys : List Machine.Num),
      (g.int = true → ∃ (p : Int) (f h : Nat), g.part n sl i xs ys = .int p f ∧ g.partB n sl i xs ys = .int p h)
      ∧ (g.int = false → g.partB n sl i xs ys = g.part n sl i xs ys))

/-- Self-test slices, intervals and claims, heartbeats, take-over and Rearguard status happen. R373 to R386. Choices: log 7
(first heartbeat), log 47, log 48, log 49, log 50, log 52 (identifier). -/
def Obligations.SelfTestAndRearguardEvents : Prop :=
  ∀ (s : State),
    (∀ (u : TestUnit), s.tested u = true → (s.drone u).running = false → s.unitIdle u = true → s.sliceFits u = true →
      exec (.droneSliceStart u) s = .next (State.noteBusy (State.setDrone (State.leaveIdle (if u = .serai then s.emptyRegion else s)) u
        { s.drone u with running := true })))
    ∧ (∀ (u : TestUnit), (s.drone u).running = true → s.leadBegun u = true ∨ s.partitionWaits u = true →
      exec (.droneCheckpoint u) s =
        .next (((s.setDrone u { s.drone u with running := false }).bump32 0x2340 5).unitTakes u))
    ∧ (∀ (u : TestUnit) (t : State), (s.drone u).running = true →
      t = s.setDrone u { s.drone u with running := false, ran := (s.drone u).ran + 1 } →
      exec (.droneSliceDone u true) s = .next (State.unitTakes
        (if unitSlices u ≤ (s.drone u).ran + 1 then t.passDone u else t) u))
    ∧ (∀ (u : TestUnit) (e : Nat) (w : List Byte) (t : State), (s.drone u).running = true →
      w = leBytes 2 (unitNo u) ++ leBytes 1 (s.drone u).ran → e = (if unitNo u < 16 then unitNo u else 0xFF) →
      t = ((s.setDrone u { s.drone u with running := false, ran := (s.drone u).ran + 1, failed := true }).safetyRecord
        St.selftestFailed 0x0F 0xFF w 0xFF e).doubt St.selftestFailed 0xFF e w →
      exec (.droneSliceDone u false) s = .next (State.unitTakes
        (if unitSlices u ≤ (s.drone u).ran + 1 then t.passDone u else t) u))
    ∧ (∀ (u : TestUnit) (t : State), s.tested u = true → (s.drone u).exceeded = false →
      (s.drone u).since + 1000000 * s.get 0x2340 2 < s.now →
      t = (s.setDrone u { s.drone u with exceeded := true }).safetyRecord St.latentWindowExceeded 0x0F 0xFF
        (leBytes 2 (unitNo u)) 0xFF (if unitNo u < 16 then unitNo u else 0xFF) →
      t.now ≤ (s.drone u).since + 2 * (1000000 * s.get 0x2340 2) → exec (.droneIntervalExceeded u) s = .next t)
    ∧ (∀ (u : TestUnit), s.tested u = true → (s.drone u).exceeded = true → (s.drone u).doubled = false →
      (s.drone u).since + 2 * (1000000 * s.get 0x2340 2) < s.now →
      exec (.droneIntervalExceeded u) s = .next ((s.setDrone u { s.drone u with doubled := true }).doubt
        St.latentWindowExceeded 0xFF (if unitNo u < 16 then unitNo u else 0xFF) (leBytes 2 (unitNo u))))
    ∧ (∀ (u : TestUnit), s.tested u = true → (s.drone u).since + 500000 * s.get 0x2340 2 ≤ s.now →
      exec (.droneClaim u) s = .next (s.setDrone u { s.drone u with claimed := true }))
    ∧ (∀ (i : Nat), i < 4 → (s.hart (24 + i)).halted = false → s.fwRunning = true → exec .heartbeat s = .next s.beat)
    ∧ (∀ (t : Nat), s.saf.lastBeat = some t → s.pwr.inReset = false → s.beatHeld = false → s.saf.beatLost = false →
      t + 1000000 * s.get 0x2350 7 < s.now → exec .heartbeatLost s = .next (State.doubt (State.safetyRecord { s with
        saf := { s.saf with beatLost := true }, rg := { s.rg with beatSince := none } } St.heartbeatLost 0x0F 0xFF [] 0xFF 0xFF)
          St.heartbeatLost))
    ∧ (∀ (c : Nat) (cs : List Nat), s.rg.state = 0 → s.rg.restarting = false → s.rg.signals = c :: cs →
      exec (.rearguardTakeover c) s = .next (cs.foldl State.furtherDoubt
        (State.takeOver { s with rg := { s.rg with signals := [] } } c)))
    ∧ (∀ (cause : Nat), s.rg.resetSeen = true → exec (.mainReset cause) s = .next (State.rearguardDoubt { s with
        rg := { s.rg with resetSeen := false, resetCause := cause } } St.mainReset))
    ∧ (∀ (a b : List Byte) (v : Nat) (t : State), s.rg.state = 5 → s.rg.restarting = false →
      s.verifyCopies 3 [a, b] = some v → t = s.setRunning 3 v → t.rg.restarting = false → t.rg.state = 5 →
      exec (.rearguardPowerUp a b) s =
        .next (State.actOnSignals { t with rg := { t.rg with state := 0, restarting := false } }))
    ∧ (∀ (a b : List Byte), s.rg.state = 5 ∨ s.rg.restarting = true → s.verifyCopies 3 [a, b] = none →
      exec (.rearguardPowerUp a b) s = .next (s.addRecord St.bootVerifyFailed 0x0E 0xFF (leBytes 1 3)))
    ∧ (s.rg.state = 1 → s.rg.restarting = false →
      exec .manoeuvreComplete s = .next { s with rg := { s.rg with state := 2 } })
    ∧ (∀ (id st : Nat) (t u : State), s.rg.state ≠ 0 → s.rg.state ≠ 5 → s.rg.restarting = false →
      (∀ x, s.rg.lastFrame = some x → x + 100000000 ≤ s.rg.time) →
      st = (if s.rg.state = 2 ∧ s.rqProgress = 31 then 3 else s.rg.state) → id = Config.fn 0x801 [] % 536870912 →
      t = { s with rg := { s.rg with state := st } } →
      u = (t.emit (.rearguard 0 id t.statusBytes)).emit (.rearguard 1 id t.statusBytes) →
      exec .rearguardStatusFrame s = .next { u with rg := { u.rg with
        counter := (u.rg.counter + 1) % 256, lastFrame := some u.rg.time } })
    ∧ (s.rg.state ≠ 5 → exec .lockstepMismatch s = .next { s with rg := { s.rg with restarting := true } })

/-- Scrub end, MENCLAVE, traps and returns of harts, notice, watchdog and lock-out events happen. R392, R397, R398, R402,
R403, R407. -/
def Obligations.SecurityAndHartEvents : Prop :=
  ∀ (s : State),
    (∀ (lo : Nat), s.sec.target = some lo → exec .scrubComplete s =
      .next (((s.chargeRange .scrubber lo (s.sec.watermark - lo)).zeroMem lo (s.sec.watermark - lo)).raiseWatermark lo))
    ∧ (∀ (h : Nat) (v : BitVec 64), (s.hart h).mode = .m →
      exec (.menclaveWrite h v) s = .next (s.setHart h { s.hart h with menclave := v &&& 0x80FF }))
    ∧ (∀ (h : Nat), exec (.mModeTrap h) s = .next (s.setHart h { s.hart h with mode := .m }))
    ∧ (∀ (h : Nat) (into : HartMode) (y : Hart), h < 24 → (s.hart h).mode = .m → into ≠ .m →
      y = State.worldClear { s.hart h with mode := into } → exec (.mret h into) s =
        .next (s.setHart h { y with halted := y.halted || y.haltPending, haltPending := false }))
    ∧ (∀ (t : Nat), s.sec.noticeStart = some t → s.get 0x2D30 4 = 1 → t + 1000000 * s.get 0x2D30 2 ≤ s.now →
      exec .noticeTimeout s = .next (s.set 0x2D30 4 2))
    ∧ (∀ (t : Nat), s.sec.swdStart = some t → s.sec.swdPaused = none → t + 1000000 * s.get 0x2D20 1 ≤ s.now →
      exec .secureWatchdog s = .next (State.resetMain { s with pwr := { s.pwr with
        bootRecords := s.pwr.bootRecords ++ [St.secureWatchdog] } } false))
    ∧ (s.sec.lockout = true → s.sec.lockedAt + 10000000000 ≤ s.now → exec .debugLockoutEnd s =
      .next { s with sec := { s.sec with lockout := false, refusals := 0 } })

/-- JTAG, debug-module, hart-debug and system-bus accesses happen. R437 to R440. Registers of the debug module are PRESUMED
from the RISC-V specification (log 45). -/
def Obligations.DebugEvents : Prop :=
  ∀ (s : State),
    exec .jtagTrst s =
      .next (State.endSession { s with dbg := { s.dbg with ir := 1, dmistat := 0, dmiData := 0, dmiAddr := 0 } })
    ∧ exec .idcode s = .next ((s.setDbg { s.dbg with ir := 1 }).emit (.readData (some 0x39600A79)))
    ∧ exec .dtmcs s = .next ((s.setDbg { s.dbg with ir := 0x10 }).emit
        (.readData (some (1 + 7 * 16 + s.dbg.dmistat * 1024))))
    ∧ (∀ (code : Nat), code % 32 ≠ 1 → code % 32 ≠ 0x10 → code % 32 ≠ 0x11 →
      exec (.bypass code) s = .next ((s.setDbg { s.dbg with ir := 0x1F }).emit (.readData (some 0))))
    ∧ (∀ (w : Bool) (a : Nat) (v : W32), s.sec.scope = 0 → ∃ t : State,
      t = s.setDbg { s.dbg with ir := 0x11, dmiAddr := a % 128 }
      ∧ exec (.dmi w a v) s = .next (t.setDbg { t.dbg with dmistat := 2 }))
    ∧ (∀ (a : Nat) (v : W32), s.sec.scope ≠ 0 → exec (.dmi true a v) s =
      .next ((s.setDbg { s.dbg with ir := 0x11, dmiAddr := a % 128 }).dmWrite (a % 128) v.toNat))
    ∧ (∀ (a : Nat) (v : W32), s.sec.scope ≠ 0 → ∃ r,
      r = (s.setDbg { s.dbg with ir := 0x11, dmiAddr := a % 128 }).dmRead (a % 128)
      ∧ exec (.dmi false a v) s = .next ((r.2.setDbg { r.2.dbg with dmiData := r.1 }).emit (.readData (some r.1))))
    ∧ (∀ (h : Nat), State.isHart h = true → s.hartScope h = true → h < 28 →
      24 ≤ h ∨ (s.hart h).mode ≠ .m ∨ s.sec.scope.testBit 3 = true →
      exec (.dmHalt h) s = .next (s.setHart h { s.hart h with halted := true, haltPending := false, resumeAck := false }))
    ∧ (∀ (h : Nat), State.isHart h = true → s.hartScope h = true → h < 24 → (s.hart h).mode = .m → s.sec.scope.testBit 3 = false →
      exec (.dmHalt h) s = .next (s.setHart h { s.hart h with haltPending := true }))
    ∧ (∀ (h : Nat), State.isHart h = true → s.hartScope h = true → (s.hart h).halted = true → exec (.dmResume h) s =
      .next ((s.resumeHart h).setHart h { (s.resumeHart h).hart h with resumeAck := true }))
    ∧ (∀ (h : Nat) (e : StepEffect) (x : Hart), x = s.hart h → State.isHart h = true → s.hartScope h = true → x.halted = true →
      (State.csrGet x 0x7B0).getLsbD 2 = true → exec (.dmSingleStep h e) s = .next (s.setHart h (State.csrPut { x with
        x := e.writesX.foldl (fun m w => if w.1 = 0 ∨ 31 < w.1 then m else NMap.set 0 m w.1 w.2) x.x, pc := e.nextPc }
        0x7B0 ((State.csrGet x 0x7B0 &&& ~~~0x1C0#64) ||| 0x100))))
    ∧ (∀ (h r : Nat) (v : BitVec 64), State.isHart h = true → s.hartScope h = true → (s.hart h).halted = true → 0 < r → r < 32 →
      exec (.accessRegister h true (0x1000 + r) v) s =
        .next (s.setHart h { s.hart h with x := NMap.set 0 (s.hart h).x r v })
      ∧ exec (.accessRegister h false (0x1000 + r) v) s =
        .next (s.emit (.readData (some (NMap.get 0 (s.hart h).x r).toNat))))
    ∧ (∀ (size a : Nat) (v : BitVec 64), s.sec.scope ≠ 0 → s.sbaCovered (s.get 0x2E02 1) = true →
      size = 1 ∨ size = 2 ∨ size = 4 ∨ size = 8 → a % size = 0 → ¬ (0x1003000000 ≤ a ∧ a < 0x1003010000) →
      State.inHbm (a + size - 1) = true → s.refuses .debug a size = false →
      exec (.systemBusAccess true size a v) s = .next (s.request
        { m := .debug, write := true, addr := a, len := size, data := leBytes size v.toNat, report := .ok, pc := none })
      ∧ (s.mem.poisoned = [] → exec (.systemBusAccess false size a v) s = .next ((s.request
          { m := .debug, write := false, addr := a, len := size, data := [], report := .ok, pc := none }).emit
          (.readData (some (leNat (s.readMem a size)))))))

/-- Power-state entries and exits, wake sources, function shut-down and main-side start happen. R409 to R428. Choices: log
115, log 116, log 131, log 132. -/
def Obligations.PowerEvents : Prop :=
  ∀ (s : State),
    (s.quiescent = true → s.pwr.busyAt + 1000 * s.get 0x2120 2 ≤ s.now → exec .dwellExpiry s = .next (s.setPwr { s.pwr with dwell := true }))
    ∧ (s.mayEnter 1 = true → exec .idleEntry s = .next (s.gateIslands.set 0x2120 3 1))
    ∧ (s.pwrState = 1 → ∃ t : State, t = (s.set 0x2120 3 0).releaseIslands
        ∧ exec .idleExit s = .next (t.setPwr { s.pwr with dwell := false, busyAt := s.now }))
    ∧ (s.pwr.entering = none → s.mayEnter 2 = true → ∃ t : State, t = s.leaveIdle.noteStuck.stopCores.parkPhys
        ∧ exec .sleepEntry s = .next (t.setPwr { t.pwr with entering := some (2, 2) }))
    ∧ (s.pwr.entering = some (2, 2) → s.pwr.wake = none → exec .sleepEntry s =
        .next (s.setPwr { s.pwr with entering := some (2, 3) }))
    ∧ (∀ n, s.pwr.entering = some (2, n) → n ≠ 2 → exec .sleepEntry s =
        .next ((((s.setPwr { s.pwr with entering := none }).gateIslands).setTarget 550).set 0x2120 3 2))
    ∧ (∀ (t u v : State), s.pwrState = 2 → t = s.noteWorkWake →
        u = t.setTarget (if t.govFixed then t.get 0x2110 5 else t.voltageFor t.ceiling) →
        v = u.regulatorSettled.releaseIslands →
        exec .sleepExit s = .next ((v.setPwr { v.pwr with wake := none }).resumeCores.set 0x2120 3 0))
    ∧ (s.pwr.entering = none → s.mayEnter 3 = true → exec .deepSleepEntry s = .next (s.openNotice 3))
    ∧ (s.pwr.entering = some (3, 1) → s.get 0x2D30 4 = 2 → exec .deepSleepEntry s =
        .next (s.stopCores.setPwr { s.stopCores.pwr with entering := some (3, 2), resumeCopy := true }))
    ∧ (s.pwr.entering = some (3, 2) → s.pwr.wake = none → exec .deepSleepEntry s =
        .next (s.setPwr { s.pwr with entering := some (3, 3), controlled := true }))
    ∧ (s.pwr.entering = some (3, 3) → s.pwr.wake = none → exec .deepSleepEntry s =
        .next (s.setPwr { s.pwr with entering := some (3, 4) }))
    ∧ (s.pwr.entering = some (3, 4) → ∃ t : State, t = s.parkPhys.loseOnChip.loseHbm.set 0x2D30 4 0
        ∧ exec .deepSleepEntry s =
          .next ((t.gateIslands.setPwr { t.gateIslands.pwr with entering := none }).set 0x2120 3 3))
    ∧ (∀ (t u : State), s.pwrState = 3 → s.pwr.wake.isSome = true →
        t = s.setTarget (if s.govFixed then s.get 0x2110 5 else s.voltageFor s.ceiling) →
        u = t.regulatorSettled.releaseIslands → exec (.deepSleepExit true) s =
          .next (((u.setPwr { u.pwr with wake := none, resumeCopy := false, controlled := false }).startHarts.setHart 0
            { mode := .hs }).resumeCores.set 0x2120 3 0))
    ∧ (s.pwrState = 3 → s.pwr.wake.isSome = true → exec (.deepSleepExit false) s =
        .next ((s.setPwr { s.pwr with bootRecords := s.pwr.bootRecords ++ [St.deepRestoreFailed] }).resetMain true))
    ∧ (s.pwr.entering = none → s.mayEnter 4 = true → exec .offEntry s = .next (s.openNotice 4))
    ∧ (s.pwr.entering = some (4, 1) → s.get 0x2D30 4 = 2 → exec .offEntry s =
        .next (s.stopCores.setPwr { s.stopCores.pwr with entering := some (4, 2), controlled := true }))
    ∧ (s.pwr.entering = some (4, 2) → s.pwr.wake = none → exec .offEntry s =
        .next (s.setPwr { s.pwr with entering := some (4, 3) }))
    ∧ (s.pwr.entering = some (4, 3) → ∃ t : State,
        t = ((List.range 4).foldl State.linkDown s).parkPhys.loseHbm.set 0x2D30 4 0
        ∧ exec .offEntry s = .next ((t.setPwr { t.pwr with entering := none }).set 0x2120 3 4))
    ∧ (s.pwrState = 4 → s.pwr.wake.isSome = true → exec .offExit s =
        .next (State.setB { s.resetMain true with time := {} } 0x2140 4 (State.lastWakeBytes 0 4 0 0)))
    ∧ (∀ (src edge : Nat), src ≤ 38 → s.sourceEnabled src = true → State.wakesFrom src s.wakeState = true →
        s.pwr.stuck.contains src = false → (src ≤ 9 → s.sourceActive src = true) → (∀ t, NMap.get none s.pwr.lastWake src = some t → t + 100000000 ≤ s.now) →
        exec (.wakeSourceEdge src edge) s = .next (s.acceptWake src edge))
    ∧ (∀ (src edge t : Nat) (u : State), src ≤ 38 → s.sourceEnabled src = true → State.wakesFrom src s.wakeState = true →
        s.pwr.stuck.contains src = false → (src ≤ 9 → s.sourceActive src = true) → NMap.get none s.pwr.lastWake src = some t → s.now < t + 100000000 →
        u = s.countSuppressed src → exec (.wakeSourceEdge src edge) s =
          .next (u.setPwr { s.pwr with held := NMap.set none s.pwr.held src (some edge) }))
    ∧ (s.get 0x2140 3 ≠ 0 → s.get 0x2140 3 ≤ s.now → s.get 0x2140 3 ≠ s.pwr.timerDone → exec .wakeTimer s =
        .next ((s.setPwr { s.pwr with timerDone := s.get 0x2140 3 }).wakeEdge 38 (s.get 0x2140 3)))
    ∧ (∀ (src edge t : Nat) (u : State), NMap.get none s.pwr.held src = some edge → NMap.get none s.pwr.lastWake src = some t →
        t + 100000000 ≤ s.now → u = s.setPwr { s.pwr with held := NMap.set none s.pwr.held src none } →
        exec (.wakeSuppressionEnd src) s = .next (if src ≤ 9 ∧ u.sourceActive src ∧ u.wakeState ≠ 0 ∧
          State.wakesFrom src u.wakeState then u.acceptWake src edge else u))
    ∧ (∀ (f : Nat), 7 ≤ f → s.pwr.shutting.contains f = true → s.pwr.reenable.contains f = false →
        exec (.functionShutdownDone f) s = .next ((s.setPwr { s.pwr with
          shutting := s.pwr.shutting.filter (· ≠ f), reenable := s.pwr.reenable.filter (· ≠ f) }).setFunc f false false))
    ∧ (s.inRun = true → s.workArrives = s)
    ∧ (s.pwr.entering = none → s.pwrState = 1 → s.workArrives = s.leaveIdle)
    ∧ (s.inRun = false → s.pwrState ≠ 1 → s.wakeState = 2 → s.workArrives = s.workWake)
    ∧ (∀ (k : BootImages), s.pwr.inReset = false ∨ s.presentMv ≤ 400 → exec (.mainSideStart k) s = .next s)
    ∧ (∀ (k : BootImages) (v : Nat) (r c t u : State), s.pwr.inReset = true → 400 < s.presentMv →
        r = (if s.gov.gated then s.releaseIslands else s) →
        c = (if r.pwr.cold then (r.set 0x2002 2 (k.compatPin % 2)).set 0x2002 1 (k.compatPin % 2) else r) →
        c.verifyCopies 1 k.kind1 = some v → t = c.loadComm.setRunning 1 v →
        u = State.testUnits.foldl State.droneEnter { t with
          sec := { t.sec with swdStart := some t.now }
          pwr := { t.pwr with inReset := false, cold := false, controlled := false, bootRecords := [], busyAt := t.now } } →
        exec (.mainSideStart k) s = .next (State.startHypervisor (c.pwr.bootRecords.foldl (fun r st =>
          r.addRecord st (if st = St.secureWatchdog then 0x0E else 0x1A) 0xFF) u) k))

/-- SBI calls of the module, firmware start, live update and faults happen. R429 to R436. General HBM for images is log 54,
worker states log 85, the order of return and reset log 21. -/
def Obligations.FirmwareEvents : Prop :=
  ∀ (s : State),
    (∀ (addr len node : Nat), s.nodeOk node = true → (s.fwOf node).1.1 = 0 → (s.fwOf node).2.isHere node = true →
      (s.fwOf node).2.imageOk addr len = true → exec (.skeotLoad .hs addr len node) s =
        .next (((s.fwOf node).2.loadHere ((s.fwOf node).2.readMem addr len)).emit (.sbi 0 0)))
    ∧ (∀ (addr len node : Nat), s.nodeOk node = true → (s.fwOf node).1.1 = 2 → (s.fwOf node).2.isHere node = true →
      (s.fwOf node).2.imageOk addr len = true → exec (.skeotUpdate .hs addr len node) s =
        .next (((s.fwOf node).2.updateHere ((s.fwOf node).2.readMem addr len)).emit (.sbi 0 0)))
    ∧ (∀ (mode : HartMode) (addr len node : Nat), mode ≠ .hs →
      exec (.skeotLoad mode addr len node) s = .next (s.emit (.sbi sbiDenied 0))
      ∧ exec (.skeotUpdate mode addr len node) s = .next (s.emit (.sbi sbiDenied 0))
      ∧ exec (.skeotStatus mode node) s = .next (s.emit (.sbi sbiDenied 0))
      ∧ exec (.moduleReset mode node) s = .next (s.emit (.sbi sbiDenied 0)))
    ∧ (∀ (node : Nat), s.nodeOk node = true → exec (.skeotStatus .hs node) s =
      .next ((s.fwOf node).2.emit (.sbi 0 ((s.fwOf node).1.1 + 4294967296 * (s.fwOf node).1.2))))
    ∧ (∀ (node : Nat), s.nodeOk node = true → s.isHere node = true →
      exec (.moduleReset .hs node) s = .next ((s.emit (.sbi 0 0)).resetMain false))
    ∧ (∀ (t : State), s.fw.state = 1 → s.fw.coresRun = true → s.fw.tables = false →
      t = s.setFw { s.fw with state := 2, abort := 0, paused := false, version := s.fw.nextVersion, tables := true } →
      exec (.firmwareStart true) s = .next (((t.setRunning 4 t.fw.version).set 0x2005 1
        ((t.setRunning 4 t.fw.version).fw.version)).bump 0x2005 2).flushRecords.railSag)
    ∧ (s.fw.state = 3 → s.fw.verified = true → s.fw.paused = false → exec .updatePauseBegin s =
      .next (s.beat.setFw { s.beat.fw with
        paused := true, handoff := true, pauseBegan := s.beat.now, slot := 1 - s.beat.fw.slot }))
    ∧ (∀ (us : Nat) (t u v : State), s.fw.state = 3 → s.fw.paused = true → t = s.skipPause →
      u = t.setFw { t.fw with state := 2, paused := false, handoff := false, verified := false
                              version := t.fw.nextVersion, abort := 0 } →
      v = ((u.setRunning 4 u.fw.version).set 0x2005 1 (u.setRunning 4 u.fw.version).fw.version).bump 0x2005 3 →
      exec (.handoffCheck true us) s = .next (((v.set 0x2005 4 (min us 4294967295)).set 0x2005 5
        (max (v.get 0x2005 5) (min us 4294967295))).flushRecords.beat.railSag))
    ∧ (∀ (us : Nat) (t u : State), s.fw.state = 3 → s.fw.paused = true → t = s.skipPause →
      u = t.setFw { t.fw with state := 2, paused := false, handoff := false, verified := false
                              slot := 1 - t.fw.slot, abort := Ab.refusal St.fwHandoffRejected } →
      exec (.handoffCheck false us) s = .next ((((u.set 0x2005 4 (min us 4294967295)).set 0x2005 5
        (max (u.get 0x2005 5) (min us 4294967295))).flushRecords.addRecord
          St.fwHandoffRejected 0x1C 0xFF).beat.railSag))
    ∧ (s.dic.held = [] → ∀ c, exec (.fwFault c) s = .next s.fwFault)
    ∧ exec (.fwFault false) s = .next s.fwFault

/-- Counter snapshots and dumps, and the tick of the count reference, happen. R441 to R445, R345. -/
def Obligations.CounterEvents : Prop :=
  ∀ (s : State),
    (∀ (r : Nat), s.readsCounters r = true → exec (.pmuSnapshot r) s = .next (State.emit { s with ctr := { s.ctr with
      latch := NMap.set 0 ((List.range 328).foldl (fun l i => NMap.set 0 l (r * 512 + i) (NMap.get 0 s.ctr.counts i))
        s.ctr.latch) (r * 512 + 511) s.now } } (.readData (some s.now))))
    ∧ (∀ (r : Nat), s.readsCounters r = false → exec (.pmuSnapshot r) s = .next (s.emit (.readData none)))
    ∧ (∀ (t : State), s.get 0x2F02 1 ≠ 0 → s.get 0x2F02 3 ≠ 0 → s.ctr.lastDump + 1000 * s.get 0x2F02 3 ≤ s.now →
      t = { s with ctr := { s.ctr with lastDump := s.now } } → exec .counterDump s =
        .next (if State.ringFull (t.get 0x2F02 2) (t.get 0x2F02 4) (t.get 0x2F02 5) then t.bump 0x2F02 6
          else t.ringWrite 0x2F02 1 4 0 4096 (t.get 0x2F02 2) 1 t.dumpBytes))
    ∧ (∀ (issue : List EngineTick) (t : State), s.gov.dark = false → s.get 0x2120 3 ≠ 4 →
      t = State.tickBases { s with rg := { s.rg with time := s.rg.time + 1 } } → t.pwr.inReset = false →
      ∃ u : State, u = (List.range 16).foldl (fun x e => x.engineTick
          ((issue.find? fun k => decide (k.engine = e)).getD { engine := e, steps := 0, ceiling := false })) t
        ∧ exec (.countReferenceTick issue) s = .next
            (u.mem.feedback.foldl (fun x pc => x.count (272 + pc) 1) u).serveEgress.noteBusy)
end

