-- ==== Sys2Proof/Laws/NMap.lean ====
section
/-! SUPPORT. The laws of the sparse table: reading after writing, and its canonical form. -/

namespace Sys2Proof.NMap

variable {α : Type}

theorem get_insert_same (d : α) (m : NMap α) (k : Nat) (v : α) : get d (insert m k v) k = v := by
  induction m with
  | nil => simp [insert, get]
  | cons e m ih =>
    obtain ⟨j, w⟩ := e
    by_cases h1 : j = k
    · simp [insert, get, h1]
    · by_cases h2 : k < j
      · simp [insert, get, h1, h2]
      · simp [insert, get, h1, h2, ih]

theorem get_insert_other (d : α) (m : NMap α) (k l : Nat) (v : α) (h : l ≠ k) : get d (insert m k v) l = get d m l := by
  induction m with
  | nil => simp [insert, get, Ne.symm h]
  | cons e m ih =>
    obtain ⟨j, w⟩ := e
    by_cases h1 : j = k
    · subst h1; simp [insert, get, Ne.symm h]
    · by_cases h2 : k < j
      · simp [insert, get, h1, h2, Ne.symm h]
      · simp [insert, get, h1, h2, ih]

/-- Keeping some keys keeps what they hold. -/
theorem get_filter (d : α) (p : Nat → Bool) (m : NMap α) (k : Nat) :
    get d (m.filter fun e => p e.1) k = if p k then get d m k else d := by
  induction m with
  | nil => simp [get]
  | cons e m ih =>
    obtain ⟨j, v⟩ := e
    by_cases hp : p j = true
    · rw [List.filter_cons_of_pos (by simpa using hp)]
      by_cases hj : j = k
      · subst hj; simp [get, hp]
      · simp only [get, hj, if_false, ih]
    · rw [List.filter_cons_of_neg (by simpa using hp), ih]
      by_cases hj : j = k
      · subst hj; simp [hp]
      · simp only [get, hj, if_false]

theorem get_erase_same (d : α) (m : NMap α) (k : Nat) : get d (erase m k) k = d := by
  simpa [erase] using get_filter d (fun x => decide (x ≠ k)) m k

theorem get_erase_other (d : α) (m : NMap α) (k l : Nat) (hl : l ≠ k) : get d (erase m k) l = get d m l := by
  simpa [erase, hl] using get_filter d (fun x => decide (x ≠ k)) m l

/-- Keys at or above `lo`, strictly rising. -/
def rises : Nat → NMap α → Prop
  | _, [] => True
  | lo, (j, _) :: m => lo ≤ j ∧ rises (j + 1) m

theorem rises_mono {lo lo' : Nat} (m : NMap α) (h : lo' ≤ lo) (hr : rises lo m) : rises lo' m := by
  cases m with
  | nil => trivial
  | cons e m => exact ⟨Nat.le_trans h hr.1, hr.2⟩

theorem rises_insert : ∀ (m : NMap α) (lo k : Nat) (v : α), rises lo m → lo ≤ k → rises lo (insert m k v)
  | [], _, _, _, _, h => ⟨h, trivial⟩
  | (j, w) :: m, lo, k, v, hr, h => by
    by_cases h1 : j = k
    · simpa [insert, h1, rises, h] using h1 ▸ hr.2
    · by_cases h2 : k < j
      · simp only [insert, h1, h2, if_true, if_false]
        exact ⟨h, by omega, hr.2⟩
      · simp only [insert, h1, h2, if_false]
        exact ⟨hr.1, rises_insert m (j + 1) k v hr.2 (by omega)⟩

theorem rises_filter (p : Nat × α → Bool) : ∀ (m : NMap α) (lo : Nat), rises lo m → rises lo (m.filter p)
  | [], _, _ => trivial
  | e :: m, lo, h => by
    have ih := rises_filter p m (e.1 + 1) h.2
    by_cases hp : p e
    · rw [List.filter_cons_of_pos hp]
      exact ⟨h.1, ih⟩
    · rw [List.filter_cons_of_neg hp]
      exact rises_mono _ (by have := h.1; omega) ih

theorem rises_erase (m : NMap α) (lo k : Nat) (hr : rises lo m) : rises lo (erase m k) := rises_filter _ m lo hr

variable [DecidableEq α]

theorem wfFrom_iff (d : α) : ∀ (m : NMap α) (lo : Nat), wfFrom d lo m = true ↔ rises lo m ∧ ∀ e ∈ m, e.2 ≠ d
  | [], _ => by simp [wfFrom, rises]
  | (j, v) :: m, lo => by
    simp only [wfFrom, rises, Bool.and_eq_true, decide_eq_true_eq, wfFrom_iff d m (j + 1), List.mem_cons]
    constructor
    · rintro ⟨⟨h1, h2⟩, h3, h4⟩
      exact ⟨⟨h1, h3⟩, fun e he => he.elim (fun h => h ▸ h2) (h4 e)⟩
    · rintro ⟨⟨h1, h3⟩, h4⟩
      exact ⟨⟨h1, h4 _ (.inl rfl)⟩, h3, fun e he => h4 e (.inr he)⟩

/-- A table reads back what was written last. -/
theorem get_set_same (d : α) (m : NMap α) (k : Nat) (v : α) : get d (set d m k v) k = v := by
  unfold set
  split
  · next hv => rw [hv]; exact get_erase_same d m k
  · exact get_insert_same d m k v

/-- Writing one key leaves the others. -/
theorem get_set_other (d : α) (m : NMap α) (k l : Nat) (v : α) (hl : l ≠ k) : get d (set d m k v) l = get d m l := by
  unfold set
  split
  · exact get_erase_other d m k l hl
  · exact get_insert_other d m k l v hl

theorem mem_erase (m : NMap α) (k : Nat) (e : Nat × α) (h : e ∈ erase m k) : e ∈ m := List.mem_of_mem_filter h

theorem mem_insert (m : NMap α) (k : Nat) (v : α) (e : Nat × α) (h : e ∈ insert m k v) : e = (k, v) ∨ e ∈ m := by
  induction m with
  | nil => simpa [insert] using h
  | cons x m ih =>
    obtain ⟨j, w⟩ := x
    by_cases h1 : j = k
    · rcases (by simpa [insert, h1] using h : e = (k, v) ∨ e ∈ m) with h | h
      · exact .inl h
      · exact .inr (List.mem_cons_of_mem _ h)
    · by_cases h2 : k < j
      · rcases (by simpa [insert, h1, h2] using h : e = (k, v) ∨ e = (j, w) ∨ e ∈ m) with h | h | h
        · exact .inl h
        · exact .inr (h ▸ List.mem_cons_self)
        · exact .inr (List.mem_cons_of_mem _ h)
      · rcases (by simpa [insert, h1, h2] using h : e = (j, w) ∨ e ∈ insert m k v) with h | h
        · exact .inr (h ▸ List.mem_cons_self)
        · exact (ih h).imp_right (List.mem_cons_of_mem _)

/-- Writing keeps the canonical form. -/
theorem wf_set (d : α) (m : NMap α) (k : Nat) (v : α) (h : m.wf d = true) : (set d m k v).wf d = true := by
  obtain ⟨hr, hd⟩ := (wfFrom_iff d m 0).1 h
  refine (wfFrom_iff d _ 0).2 ?_
  unfold set
  split
  · exact ⟨rises_erase m 0 k hr, fun e he => hd e (mem_erase m k e he)⟩
  · next hv =>
    refine ⟨rises_insert m 0 k v hr (Nat.zero_le k), fun e he => ?_⟩
    rcases mem_insert m k v e he with h | h
    · exact h ▸ hv
    · exact hd e h

end Sys2Proof.NMap
end

