-- ==== Sys2Proof/Laws/Keeps.lean ====
section
/-! SUPPORT. What every operation keeps: whatever is closed under storing a byte, filling a range, losing the contents of HBM and
blowing the debug fuse. -/

namespace Sys2Proof.Machine

open Sys2Proof

/-- A property of the queue, of HBM's cells (with what an unlisted byte reads as) and of the debug fuse. -/
abbrev KProp := List Instr → NMap Byte → Nat → List (Nat × Nat × Nat) → Bool → Prop

/-- The property holds of a state. -/
abbrev okS (P : KProp) (s : State) : Prop := P s.pending s.mem.cells s.mem.epoch s.mem.zeroed s.sec.debugFuse

/-- What an unlisted byte reads as, by epoch and filled ranges. -/
abbrev blankOf (e : Nat) (z : List (Nat × Nat × Nat)) (a : Nat) : Byte :=
  match z.find? fun r => decide (r.1 ≤ a ∧ a < r.2.1) with
  | some r => if r.2.2 = 0 then 0 else BitVec.ofNat 8 (Config.fn 0x801 [r.2.2, a])
  | none => if e = 0 then 0 else BitVec.ofNat 8 (Config.fn 0x800 [e, a])

/-- Everything that an operation does to these parts keeps the property. -/
structure Closed (P : KProp) : Prop where
  write : ∀ p c e z f a b, P p c e z f → P p (NMap.set (blankOf e z a) c a b) e z f
  fill : ∀ p c e z f a n seed, P p c e z f → P p (c.filter fun x => decide (x.1 < a ∨ a + n ≤ x.1)) e
    (if e = 0 ∧ seed = 0 ∧ z = [] then [] else (a, a + n, seed) :: z) f
  lose : ∀ p c e z f, P p c e z f → P p [] (e + 1) [] f
  blow : ∀ p c e z f, P p c e z f → P p c e z true

variable {P : KProp} {α β γ : Type}

abbrev okW (P : KProp) (w : Work) : Prop := okS P w.s
abbrev okP (P : KProp) (x : α × State) : Prop := okS P x.2
abbrev okQ (P : KProp) (x : State × α) : Prop := okS P x.1
abbrev okT (P : KProp) (x : α × β × State) : Prop := okS P x.2.2
abbrev okV (P : KProp) (x : α × Work) : Prop := okW P x.2
abbrev okU (P : KProp) (x : α × β × Work) : Prop := okW P x.2.2

def okR (P : KProp) : WRes → Prop
  | .ok s => okS P s
  | .abort _ => True
  | .refuse _ s => okS P s

def okO (P : KProp) : Option State → Prop
  | some s => okS P s
  | none => True

def okOP (P : KProp) : Option (α × State) → Prop
  | some x => okS P x.2
  | none => True

def okOW (P : KProp) : Option Work → Prop
  | some w => okW P w
  | none => True

def okOU (P : KProp) : Option (α × β × Work) → Prop
  | some x => okW P x.2.2
  | none => True

def okOut (P : KProp) : Out → Prop
  | .next s => okS P s
  | .fault _ => True
  | .refused _ => True

theorem okP_elim {x : α × State} {a : α} {t : State} (e : x = (a, t)) (h : okP P x) : okS P t := by subst e; exact h
theorem okQ_elim {x : State × α} {a : α} {t : State} (e : x = (t, a)) (h : okQ P x) : okS P t := by subst e; exact h
theorem okT_elim {x : α × β × State} {a : α} {b : β} {t : State} (e : x = (a, b, t)) (h : okT P x) : okS P t := by subst e; exact h
theorem okV_elim {x : α × Work} {a : α} {t : Work} (e : x = (a, t)) (h : okV P x) : okW P t := by subst e; exact h
theorem okU_elim {x : α × β × Work} {a : α} {b : β} {t : Work} (e : x = (a, b, t)) (h : okU P x) : okW P t := by subst e; exact h
theorem okO_elim {x : Option State} {t : State} (e : x = some t) (h : okO P x) : okS P t := by subst e; exact h
theorem okOP_elim {x : Option (α × State)} {a : α} {t : State} (e : x = some (a, t)) (h : okOP P x) : okS P t := by subst e; exact h
theorem okOW_elim {x : Option Work} {t : Work} (e : x = some t) (h : okOW P x) : okW P t := by subst e; exact h
theorem okOU_elim {x : Option (α × β × Work)} {a : α} {b : β} {t : Work} (e : x = some (a, b, t)) (h : okOU P x) : okW P t := by
  subst e
  exact h
theorem okOW_mk {w : Work} (h : okW P w) : okOW P (some w) := h
theorem okOW_none : okOW P none := trivial
theorem okOU_mk {x : α × β × Work} (h : okW P x.2.2) : okOU P (some x) := h
theorem okOU_none : okOU P (none : Option (α × β × Work)) := trivial
theorem okR_ok {x : WRes} {t : State} (e : x = .ok t) (h : okR P x) : okS P t := by subst e; exact h
theorem okR_refuse {x : WRes} {c : Nat} {t : State} (e : x = .refuse c t) (h : okR P x) : okS P t := by subst e; exact h

theorem keep_foldl (g : State → α → State) (hg : ∀ s a, okS P s → okS P (g s a)) (l : List α) (s : State) (h : okS P s) :
    okS P (l.foldl g s) := by
  induction l generalizing s with
  | nil => exact h
  | cons a l ih => exact ih _ (hg s a h)

theorem keep_foldlW (g : Work → α → Work) (hg : ∀ s a, okW P s → okW P (g s a)) (l : List α) (s : Work) (h : okW P s) :
    okW P (l.foldl g s) := by
  induction l generalizing s with
  | nil => exact h
  | cons a l ih => exact ih _ (hg s a h)

theorem keep_foldlP (g : β × State → α → β × State) (hg : ∀ s a, okP P s → okP P (g s a)) (l : List α) (s : β × State)
    (h : okP P s) : okP P (l.foldl g s) := by
  induction l generalizing s with
  | nil => exact h
  | cons a l ih => exact ih _ (hg s a h)

theorem keep_foldlV (g : β × Work → α → β × Work) (hg : ∀ s a, okV P s → okV P (g s a)) (l : List α) (s : β × Work)
    (h : okV P s) : okV P (l.foldl g s) := by
  induction l generalizing s with
  | nil => exact h
  | cons a l ih => exact ih _ (hg s a h)

theorem okP_pair {a : α} {t : State} (h : okS P t) : okP P (a, t) := h
theorem okV_pair {a : α} {t : Work} (h : okW P t) : okV P (a, t) := h

theorem okR_of_ok {s : State} (h : okR P (.ok s)) : okS P s := h
theorem okR_of_refuse {c : Nat} {s : State} (h : okR P (.refuse c s)) : okS P s := h
theorem okR_mk {s : State} (h : okS P s) : okR P (.ok s) := h
theorem okR_abort {c : Nat} : okR P (.abort c) := trivial
theorem okR_mk2 {c : Nat} {s : State} (h : okS P s) : okR P (.refuse c s) := h
theorem okO_mk {s : State} (h : okS P s) : okO P (some s) := h
theorem okO_none : okO P none := trivial
theorem okOP_mk {x : α × State} (h : okS P x.2) : okOP P (some x) := h
theorem okOP_none : okOP P (none : Option (α × State)) := trivial
theorem okOut_mk {s : State} (h : okS P s) : okOut P (.next s) := h

theorem ite_okS {c : Prop} [Decidable c] {a b : State} (ha : okS P a) (hb : okS P b) : okS P (if c then a else b) := by
  split
  · exact ha
  · exact hb

theorem ite_okW {c : Prop} [Decidable c] {a b : Work} (ha : okW P a) (hb : okW P b) : okW P (if c then a else b) := by
  split
  · exact ha
  · exact hb

theorem ite_okR {c : Prop} [Decidable c] {a b : WRes} (ha : okR P a) (hb : okR P b) : okR P (if c then a else b) := by
  split
  · exact ha
  · exact hb

theorem ite_okO {c : Prop} [Decidable c] {a b : Option State} (ha : okO P a) (hb : okO P b) : okO P (if c then a else b) := by
  split
  · exact ha
  · exact hb

theorem ite_okOut {c : Prop} [Decidable c] {a b : Out} (ha : okOut P a) (hb : okOut P b) : okOut P (if c then a else b) := by
  split
  · exact ha
  · exact hb

theorem ite_okOP {c : Prop} [Decidable c] {a b : Option (α × State)} (ha : okOP P a) (hb : okOP P b) : okOP P (if c then a else b) := by
  split
  · exact ha
  · exact hb

theorem ite_okP {c : Prop} [Decidable c] {a b : α × State} (ha : okP P a) (hb : okP P b) : okP P (if c then a else b) := by
  split
  · exact ha
  · exact hb

theorem ite_okV {c : Prop} [Decidable c] {a b : α × Work} (ha : okV P a) (hb : okV P b) : okV P (if c then a else b) := by
  split
  · exact ha
  · exact hb

theorem ite_okQ {c : Prop} [Decidable c] {a b : State × α} (ha : okQ P a) (hb : okQ P b) : okQ P (if c then a else b) := by
  split
  · exact ha
  · exact hb

theorem ite_okT {c : Prop} [Decidable c] {a b : α × β × State} (ha : okT P a) (hb : okT P b) : okT P (if c then a else b) := by
  split
  · exact ha
  · exact hb

theorem ite_okU {c : Prop} [Decidable c] {a b : α × β × Work} (ha : okU P a) (hb : okU P b) : okU P (if c then a else b) := by
  split
  · exact ha
  · exact hb

theorem ite_okOW {c : Prop} [Decidable c] {a b : Option Work} (ha : okOW P a) (hb : okOW P b) : okOW P (if c then a else b) := by
  split
  · exact ha
  · exact hb

theorem ite_okOU {c : Prop} [Decidable c] {a b : Option (α × β × Work)} (ha : okOU P a) (hb : okOU P b) : okOU P (if c then a else b) := by
  split
  · exact ha
  · exact hb

theorem okOP_map (f : β → α × State) (o : Option β) (h : ∀ i, okS P (f i).2) : okOP P (o.map f) := by
  cases o with
  | none => trivial
  | some i => exact h i

theorem okO_map (f : β → State) (o : Option β) (h : ∀ i, okS P (f i)) : okO P (o.map f) := by
  cases o with
  | none => trivial
  | some i => exact h i

theorem keep_foldlQ (g : State × β → α → State × β) (hg : ∀ s a, okQ P s → okQ P (g s a)) (l : List α) (s : State × β)
    (h : okQ P s) : okQ P (l.foldl g s) := by
  induction l generalizing s with
  | nil => exact h
  | cons a l ih => exact ih _ (hg s a h)

end Sys2Proof.Machine
end

