-- ==== Sys2Proof/Laws/KeepsCore.lean ====
section
/-! SUPPORT. The frame library, continued: what the shared operations keep. -/

set_option linter.unusedVariables false

namespace Sys2Proof.Machine

open Sys2Proof

variable {P : KProp} {α β γ : Type}

theorem keep_State_setVal (C : Closed P) : ∀ a0 a1 a2 a3 a4, okS P a0 → okS P (@State.setVal a0 a1 a2 a3 a4) := by
  intro a0 a1 a2 a3 a4 h0
  unfold State.setVal
  repeat' first | with_reducible assumption

theorem keep_State_set (C : Closed P) : ∀ a0 a1 a2 a3 a4, okS P a0 → okS P (@State.set a0 a1 a2 a3 a4) := by
  intro a0 a1 a2 a3 a4 h0
  unfold State.set
  repeat' first | with_reducible assumption | with_reducible apply keep_State_setVal C

theorem keep_State_setB (C : Closed P) : ∀ a0 a1 a2 a3 a4, okS P a0 → okS P (@State.setB a0 a1 a2 a3 a4) := by
  intro a0 a1 a2 a3 a4 h0
  unfold State.setB
  repeat' first | with_reducible assumption | with_reducible apply keep_State_setVal C

theorem keep_State_clear (C : Closed P) : ∀ a0 a1 a2 a3, okS P a0 → okS P (@State.clear a0 a1 a2 a3) := by
  intro a0 a1 a2 a3 h0
  unfold State.clear
  repeat' first | with_reducible assumption

theorem keep_State_bump (C : Closed P) : ∀ a0 a1 a2 a3 a4, okS P a0 → okS P (@State.bump a0 a1 a2 a3 a4) := by
  intro a0 a1 a2 a3 a4 h0
  unfold State.bump
  dsimp only
  repeat' first | with_reducible assumption | with_reducible apply keep_State_set C

theorem keep_State_bump32 (C : Closed P) : ∀ a0 a1 a2 a3, okS P a0 → okS P (@State.bump32 a0 a1 a2 a3) := by
  intro a0 a1 a2 a3 h0
  unfold State.bump32
  repeat' first | with_reducible assumption | with_reducible apply keep_State_set C

theorem keep_State_fresh (C : Closed P) : ∀ a0 a1, okS P a0 → okP P (@State.fresh a0 a1) := by
  intro a0 a1 h0
  unfold State.fresh
  repeat' first | with_reducible assumption

theorem keep_State_pick (C : Closed P) : ∀ a0 a1 a2, okS P a0 → okP P (@State.pick a0 a1 a2) := by
  intro a0 a1 a2 h0
  unfold State.pick
  dsimp only
  repeat' first | with_reducible assumption | split

theorem keep_State_emit (C : Closed P) : ∀ a0 a1, okS P a0 → okS P (@State.emit a0 a1) := by
  intro a0 a1 h0
  unfold State.emit
  repeat' first | with_reducible assumption

theorem keep_State_count (C : Closed P) : ∀ a0 a1 a2, okS P a0 → okS P (@State.count a0 a1 a2) := by
  intro a0 a1 a2 h0
  unfold State.count
  dsimp only
  repeat' first | with_reducible assumption

theorem keep_State_countFree (C : Closed P) : ∀ a0 a1, okS P a0 → okS P (@State.countFree a0 a1) := by
  intro a0 a1 h0
  unfold State.countFree
  dsimp only
  repeat' first | with_reducible assumption | with_reducible apply keep_State_count C

theorem keep_State_setSlice (C : Closed P) : ∀ a0 a1 a2, okS P a0 → okS P (@State.setSlice a0 a1 a2) := by
  intro a0 a1 a2 h0
  unfold State.setSlice
  dsimp only
  repeat' first | with_reducible assumption

theorem keep_State_setQueue (C : Closed P) : ∀ a0 a1 a2, okS P a0 → okS P (@State.setQueue a0 a1 a2) := by
  intro a0 a1 a2 h0
  unfold State.setQueue
  dsimp only
  repeat' first | with_reducible assumption

theorem keep_State_writeByte (C : Closed P) : ∀ a0 a1 a2, okS P a0 → okS P (@State.writeByte a0 a1 a2) := by
  intro s a b h
  exact C.write _ _ _ _ _ a b h

theorem keep_State_writeMem (C : Closed P) : ∀ a0 a1 a2, okS P a0 → okS P (@State.writeMem a0 a1 a2) := by
  intro s a bs h
  induction bs generalizing s a with
  | nil => exact h
  | cons b bs ih => exact ih _ _ (keep_State_writeByte C _ _ _ h)

theorem keep_State_signalWrite (C : Closed P) : ∀ a0 a1 a2, okS P a0 → okS P (@State.signalWrite a0 a1 a2) := by
  intro a0 a1 a2 h0
  unfold State.signalWrite
  dsimp only
  repeat' first | with_reducible assumption | with_reducible apply ite_okS (P := P)

theorem keep_State_sendMsi (C : Closed P) : ∀ a0 a1 a2 a3, okS P a0 → okS P (@State.sendMsi a0 a1 a2 a3) := by
  intro a0 a1 a2 a3 h0
  unfold State.sendMsi
  dsimp only
  repeat' first | with_reducible assumption | with_reducible apply ite_okS (P := P)
                | with_reducible apply keep_State_signalWrite C | with_reducible apply keep_State_emit C | split

theorem keep_State_msi (C : Closed P) : ∀ a0 a1 a2 a3, okS P a0 → okS P (@State.msi a0 a1 a2 a3) := by
  intro a0 a1 a2 a3 h0
  unfold State.msi
  repeat' first | with_reducible assumption | with_reducible apply ite_okS (P := P)
                | with_reducible apply keep_State_sendMsi C

theorem keep_State_notifyFrame (C : Closed P) : ∀ a0 a1, okS P a0 → okP P (@State.notifyFrame a0 a1) := by
  intro a0 a1 h0
  unfold State.notifyFrame
  dsimp only
  repeat' first | with_reducible assumption

theorem keep_State_enterRecord (C : Closed P) : ∀ a0 a1, okS P a0 → okS P (@State.enterRecord a0 a1) := by
  intro a0 a1 h0
  unfold State.enterRecord
  dsimp only
  repeat' first | with_reducible assumption | with_reducible apply ite_okS (P := P)
                | with_reducible apply keep_State_set C | with_reducible apply keep_State_bump C
                | with_reducible apply keep_State_notifyFrame C | with_reducible apply keep_State_emit C

theorem keep_State_addRecord (C : Closed P) :
    ∀ a0 a1 a2 a3 a4, okS P a0 → okS P (@State.addRecord a0 a1 a2 a3 a4) := by
  intro a0 a1 a2 a3 a4 h0
  unfold State.addRecord
  dsimp only
  repeat' first | with_reducible assumption | with_reducible apply ite_okS (P := P)
                | with_reducible apply keep_State_enterRecord C

theorem keep_State_flushRecords (C : Closed P) : ∀ a0, okS P a0 → okS P (@State.flushRecords a0) := by
  intro a0 h0
  unfold State.flushRecords
  dsimp only
  repeat' first | with_reducible assumption | with_reducible intro _ | with_reducible apply keep_State_bump C
                | with_reducible apply keep_State_enterRecord C | with_reducible apply keep_foldl (P := P)

theorem keep_State_safetyRecord (C : Closed P) :
    ∀ a0 a1 a2 a3 a4 a5 a6, okS P a0 → okS P (@State.safetyRecord a0 a1 a2 a3 a4 a5 a6) := by
  intro a0 a1 a2 a3 a4 a5 a6 h0
  unfold State.safetyRecord
  dsimp only
  repeat' first | with_reducible assumption | with_reducible apply keep_State_addRecord C
                | with_reducible apply keep_State_msi C | with_reducible apply keep_State_bump C
                | with_reducible apply keep_State_set C

theorem keep_State_furtherDoubt (C : Closed P) : ∀ a0 a1, okS P a0 → okS P (@State.furtherDoubt a0 a1) := by
  intro a0 a1 h0
  unfold State.furtherDoubt
  dsimp only
  repeat' first | with_reducible assumption | with_reducible apply ite_okS (P := P)

theorem keep_State_rearguardDoubt (C : Closed P) : ∀ a0 a1, okS P a0 → okS P (@State.rearguardDoubt a0 a1) := by
  intro a0 a1 h0
  unfold State.rearguardDoubt
  dsimp only
  repeat' first | with_reducible assumption | with_reducible apply ite_okS (P := P)
                | with_reducible apply keep_State_furtherDoubt C

theorem keep_State_doubt (C : Closed P) : ∀ a0 a1 a2 a3 a4, okS P a0 → okS P (@State.doubt a0 a1 a2 a3 a4) := by
  intro a0 a1 a2 a3 a4 h0
  unfold State.doubt
  repeat' first | with_reducible assumption | with_reducible apply keep_State_rearguardDoubt C
                | with_reducible apply keep_State_safetyRecord C

theorem keep_State_setBuffer (C : Closed P) : ∀ a0 a1 a2, okS P a0 → okS P (@State.setBuffer a0 a1 a2) := by
  intro a0 a1 a2 h0
  unfold State.setBuffer
  dsimp only
  repeat' first | with_reducible assumption

theorem keep_State_setUsed (C : Closed P) : ∀ a0 a1 a2, okS P a0 → okS P (@State.setUsed a0 a1 a2) := by
  intro a0 a1 a2 h0
  unfold State.setUsed
  dsimp only
  repeat' first | with_reducible assumption

theorem keep_State_leave (C : Closed P) : ∀ a0 a1 a2, okS P a0 → okS P (@State.leave a0 a1 a2) := by
  intro a0 a1 a2 h0
  unfold State.leave
  dsimp only
  repeat' first | with_reducible assumption | with_reducible apply keep_State_count C
                | with_reducible apply keep_State_bump C | with_reducible apply keep_State_emit C
                | with_reducible apply keep_State_setUsed C

theorem keep_State_room (C : Closed P) : ∀ a0 a1 a2, okS P a0 → okP P (@State.room a0 a1 a2) := by
  intro a0 a1 a2 h0
  unfold State.room
  dsimp only
  repeat' first | with_reducible assumption | with_reducible apply ite_okP (P := P)
                | with_reducible apply keep_State_fresh C | with_reducible apply keep_State_setUsed C

theorem keep_State_readyFrame (C : Closed P) : ∀ a0 a1 a2, okS P a2 → okP P (@State.readyFrame a0 a1 a2) := by
  intro a0 a1 a2
  induction a1 generalizing a0 a2 with
  | nil =>
    intro h2
    exact h2
  | cons x l ih =>
    intro h2
    unfold State.readyFrame
    try dsimp only
    repeat' first | with_reducible assumption | with_reducible apply ite_okP (P := P) | with_reducible apply ih
                  | with_reducible apply keep_State_room C | split

theorem keep_State_passTurn (C : Closed P) : ∀ a0 a1 a2, okS P a0 → okS P (@State.passTurn a0 a1 a2) := by
  intro a0 a1 a2 h0
  unfold State.passTurn
  dsimp only
  repeat' first | with_reducible assumption | with_reducible apply ite_okS (P := P)

theorem keep_State_transmit (C : Closed P) : ∀ a0 a1 a2, okS P a2 → okS P (@State.transmit a0 a1 a2) := by
  intro a0 a1 a2
  induction a1 generalizing a0 a2 with
  | zero =>
    intro h2
    exact h2
  | succ n ih =>
    intro h2
    unfold State.transmit
    try dsimp only
    repeat' first | with_reducible assumption | with_reducible apply ih
                  | with_reducible apply keep_State_readyFrame C | with_reducible apply keep_State_leave C
                  | with_reducible apply keep_State_passTurn C | with_reducible apply keep_State_setBuffer C
                  | with_reducible refine okP_elim (P := P) (by assumption) ?_ | split

theorem keep_State_transmitAll (C : Closed P) : ∀ a0, okS P a0 → okS P (@State.transmitAll a0) := by
  intro a0 h0
  unfold State.transmitAll
  repeat' first | with_reducible assumption | with_reducible intro _ | with_reducible apply ite_okS (P := P)
                | with_reducible apply keep_State_transmit C | with_reducible apply keep_foldl (P := P)

theorem keep_State_putFrame (C : Closed P) : ∀ a0 a1 a2 a3 a4, okS P a0 → okS P (@State.putFrame a0 a1 a2 a3 a4) := by
  intro a0 a1 a2 a3 a4 h0
  unfold State.putFrame
  dsimp only
  repeat' first | with_reducible assumption | with_reducible apply ite_okS (P := P)
                | with_reducible apply keep_State_leave C | with_reducible apply keep_State_setBuffer C
                | with_reducible apply keep_State_transmit C

theorem keep_State_dropPort (C : Closed P) : ∀ a0 a1, okS P a0 → okS P (@State.dropPort a0 a1) := by
  intro a0 a1 h0
  unfold State.dropPort
  dsimp only
  repeat' first | with_reducible assumption

theorem keep_State_sendFrame (C : Closed P) : ∀ a0 a1 a2, okS P a0 → okS P (@State.sendFrame a0 a1 a2) := by
  intro a0 a1 a2 h0
  unfold State.sendFrame
  dsimp only
  repeat' first | with_reducible assumption | with_reducible apply ite_okS (P := P)
                | with_reducible apply keep_State_putFrame C

theorem keep_State_freshTag (C : Closed P) : ∀ a0 a1 a2 a3, okS P a0 → okP P (@State.freshTag a0 a1 a2 a3) := by
  intro a0 a1 a2 a3 h0
  unfold State.freshTag
  dsimp only
  repeat' first | with_reducible assumption

theorem keep_State_writeTag (C : Closed P) : ∀ a0 a1, okS P a0 → okP P (@State.writeTag a0 a1) := by
  intro a0 a1 h0
  unfold State.writeTag
  dsimp only
  repeat' first | with_reducible assumption | with_reducible apply keep_State_freshTag C

theorem keep_State_sendWriteC (C : Closed P) :
    ∀ a0 a1 a2 a3 a4 a5, okS P a0 → okS P (@State.sendWriteC a0 a1 a2 a3 a4 a5) := by
  intro a0 a1 a2 a3 a4 a5 h0
  unfold State.sendWriteC
  dsimp only
  repeat' first | with_reducible assumption | with_reducible apply keep_State_writeTag C
                | with_reducible apply keep_State_sendFrame C

theorem keep_State_sendWrites (C : Closed P) :
    ∀ a0 a1 a2 a3 a4 a5, okS P a0 → okS P (@State.sendWrites a0 a1 a2 a3 a4 a5) := by
  intro a0 a1 a2 a3 a4 a5 h0
  unfold State.sendWrites
  repeat' first | with_reducible assumption | with_reducible intro _ | with_reducible apply keep_State_sendWriteC C
                | with_reducible apply keep_foldl (P := P)

theorem keep_State_reserve (C : Closed P) : ∀ a0 a1 a2, okS P a0 → okS P (@State.reserve a0 a1 a2) := by
  intro a0 a1 a2 h0
  unfold State.reserve
  dsimp only
  repeat' first | with_reducible assumption

theorem keep_State_askPiece (C : Closed P) :
    ∀ a0 a1 a2 a3 a4 a5, okS P a0 → okS P (@State.askPiece a0 a1 a2 a3 a4 a5) := by
  intro a0 a1 a2 a3 a4 a5 h0
  unfold State.askPiece
  dsimp only
  repeat' first | with_reducible assumption | with_reducible apply ite_okS (P := P)
                | with_reducible apply keep_State_freshTag C | with_reducible apply keep_State_reserve C
                | with_reducible apply keep_State_sendFrame C
                | with_reducible refine okP_elim (P := P) (by assumption) ?_ | split

theorem keep_State_issueBulk (C : Closed P) : ∀ a0 a1, okS P a0 → okS P (@State.issueBulk a0 a1) := by
  intro a0 a1 h0
  unfold State.issueBulk
  dsimp only
  repeat' first | with_reducible assumption | with_reducible intro _ | with_reducible apply keep_State_askPiece C
                | with_reducible apply keep_foldl (P := P) | split

theorem keep_State_pumpBulk (C : Closed P) : ∀ a0, okS P a0 → okS P (@State.pumpBulk a0) := by
  intro a0 h0
  unfold State.pumpBulk
  dsimp only
  repeat' first | with_reducible assumption | with_reducible intro _ | with_reducible apply keep_State_issueBulk C
                | with_reducible apply keep_foldl (P := P)

theorem keep_State_setHart (C : Closed P) : ∀ a0 a1 a2, okS P a0 → okS P (@State.setHart a0 a1 a2) := by
  intro a0 a1 a2 h0
  unfold State.setHart
  repeat' first | with_reducible assumption

theorem keep_State_noteRefusal (C : Closed P) : ∀ a0 a1 a2, okS P a0 → okS P (@State.noteRefusal a0 a1 a2) := by
  intro a0 a1 a2 h0
  unfold State.noteRefusal
  dsimp only
  repeat' first | with_reducible assumption | with_reducible apply ite_okS (P := P)
                | with_reducible apply keep_State_addRecord C

theorem keep_State_allocate (C : Closed P) : ∀ a0 a1 a2 a3, okS P a0 → okOP P (@State.allocate a0 a1 a2 a3) := by
  intro a0 a1 a2 a3 h0
  unfold State.allocate
  dsimp only
  repeat' first | with_reducible assumption | with_reducible intro _ | with_reducible apply okOP_map (P := P)

theorem keep_State_deallocate (C : Closed P) : ∀ a0 a1, okS P a0 → okS P (@State.deallocate a0 a1) := by
  intro a0 a1 h0
  unfold State.deallocate
  dsimp only
  repeat' first | with_reducible assumption

theorem keep_State_fillMem (C : Closed P) : ∀ a0 a1 a2 a3, okS P a0 → okS P (@State.fillMem a0 a1 a2 a3) := by
  intro s a n seed h
  exact C.fill _ _ _ _ _ a n seed h

theorem keep_State_zeroMem (C : Closed P) : ∀ a0 a1 a2, okS P a0 → okS P (@State.zeroMem a0 a1 a2) := by
  intro a0 a1 a2 h0
  unfold State.zeroMem
  repeat' first | with_reducible assumption | with_reducible apply keep_State_fillMem C

theorem keep_State_setBwClass (C : Closed P) : ∀ a0 a1 a2, okS P a0 → okS P (@State.setBwClass a0 a1 a2) := by
  intro a0 a1 a2 h0
  unfold State.setBwClass
  dsimp only
  repeat' first | with_reducible assumption

theorem keep_State_chargeAs (C : Closed P) : ∀ a0 a1 a2 a3 a4, okS P a0 → okS P (@State.chargeAs a0 a1 a2 a3 a4) := by
  intro a0 a1 a2 a3 a4 h0
  unfold State.chargeAs
  dsimp only
  repeat' first | with_reducible assumption | with_reducible apply ite_okS (P := P)
                | with_reducible apply keep_State_setBwClass C | with_reducible apply keep_State_count C
                | with_reducible apply keep_State_bump C

theorem keep_State_chargeGranule (C : Closed P) :
    ∀ a0 a1 a2 a3, okS P a0 → okS P (@State.chargeGranule a0 a1 a2 a3) := by
  intro a0 a1 a2 a3 h0
  unfold State.chargeGranule
  repeat' first | with_reducible assumption | with_reducible apply keep_State_chargeAs C

theorem keep_State_chargeRangeAs (C : Closed P) :
    ∀ a0 a1 a2 a3 a4, okS P a0 → okS P (@State.chargeRangeAs a0 a1 a2 a3 a4) := by
  intro a0 a1 a2 a3 a4 h0
  unfold State.chargeRangeAs
  repeat' first | with_reducible assumption | with_reducible intro _ | with_reducible apply keep_State_chargeAs C
                | with_reducible apply keep_foldl (P := P)

theorem keep_State_chargeRange (C : Closed P) : ∀ a0 a1 a2 a3, okS P a0 → okS P (@State.chargeRange a0 a1 a2 a3) := by
  intro a0 a1 a2 a3 h0
  unfold State.chargeRange
  repeat' first | with_reducible assumption | with_reducible intro _
                | with_reducible apply keep_State_chargeGranule C | with_reducible apply keep_foldl (P := P)

theorem keep_State_poison (C : Closed P) : ∀ a0 a1, okS P a0 → okS P (@State.poison a0 a1) := by
  intro a0 a1 h0
  unfold State.poison
  dsimp only
  repeat' first | with_reducible assumption | with_reducible apply ite_okS (P := P)
                | with_reducible apply keep_State_bump C | with_reducible apply keep_State_addRecord C

theorem keep_State_deliver (C : Closed P) : ∀ a0 a1 a2 a3 a4, okS P a0 → okS P (@State.deliver a0 a1 a2 a3 a4) := by
  intro a0 a1 a2 a3 a4 h0
  unfold State.deliver
  dsimp only
  repeat' first | with_reducible assumption | with_reducible intro _ | with_reducible apply ite_okS (P := P)
                | with_reducible apply keep_State_emit C | with_reducible apply keep_State_noteRefusal C
                | with_reducible apply keep_State_chargeRange C | with_reducible apply keep_State_poison C
                | with_reducible apply keep_State_bump C | with_reducible apply keep_foldl (P := P) | split

theorem keep_State_storeGranule (C : Closed P) :
    ∀ a0 a1 a2 a3, okS P a0 → okS P (@State.storeGranule a0 a1 a2 a3) := by
  intro a0 a1 a2 a3 h0
  unfold State.storeGranule
  dsimp only
  repeat' first | with_reducible assumption | with_reducible apply ite_okS (P := P)
                | with_reducible apply keep_State_writeMem C | with_reducible apply keep_State_chargeGranule C
                | with_reducible apply keep_State_poison C

theorem keep_State_store (C : Closed P) : ∀ a0 a1 a2 a3, okS P a0 → okS P (@State.store a0 a1 a2 a3) := by
  intro a0 a1 a2 a3 h0
  unfold State.store
  dsimp only
  repeat' first | with_reducible assumption | with_reducible intro _ | with_reducible apply ite_okS (P := P)
                | with_reducible apply keep_State_emit C | with_reducible apply keep_State_noteRefusal C
                | with_reducible apply keep_State_storeGranule C | with_reducible apply keep_foldl (P := P)

theorem keep_State_windowWrite (C : Closed P) :
    ∀ a0 a1 a2 a3 a4, okS P a0 → okS P (@State.windowWrite a0 a1 a2 a3 a4) := by
  intro a0 a1 a2 a3 a4 h0
  unfold State.windowWrite
  repeat' first | with_reducible assumption | with_reducible apply ite_okS (P := P)
                | with_reducible apply keep_State_store C | with_reducible apply keep_State_sendWrites C
                | with_reducible apply keep_State_sendFrame C

theorem keep_State_storeVa (C : Closed P) :
    ∀ a0 a1 a2 a3 a4 a5, okS P a0 → okP P (@State.storeVa a0 a1 a2 a3 a4 a5) := by
  intro a0 a1 a2 a3 a4 a5 h0
  unfold State.storeVa
  repeat' first | with_reducible assumption | with_reducible apply ite_okP (P := P)
                | with_reducible apply keep_State_noteRefusal C | with_reducible apply keep_State_store C
                | with_reducible apply keep_State_windowWrite C | split

theorem keep_State_eventIrq (C : Closed P) : ∀ a0 a1, okS P a0 → okS P (@State.eventIrq a0 a1) := by
  intro a0 a1 h0
  unfold State.eventIrq
  dsimp only
  repeat' first | with_reducible assumption | with_reducible apply ite_okS (P := P)
                | with_reducible apply keep_State_msi C | with_reducible apply keep_State_setSlice C | split

theorem keep_State_postEvent (C : Closed P) :
    ∀ a0 a1 a2 a3 a4 a5, okS P a0 → okS P (@State.postEvent a0 a1 a2 a3 a4 a5) := by
  intro a0 a1 a2 a3 a4 a5 h0
  unfold State.postEvent
  dsimp only
  repeat' first | with_reducible assumption | with_reducible apply ite_okS (P := P)
                | with_reducible apply keep_State_bump C | with_reducible apply keep_State_setSlice C
                | with_reducible apply keep_State_storeVa C | with_reducible apply keep_State_eventIrq C

theorem keep_State_postAll (C : Closed P) : ∀ a0 a1 a2 a3, okS P a0 → okS P (@State.postAll a0 a1 a2 a3) := by
  intro a0 a1 a2 a3 h0
  unfold State.postAll
  repeat' first | with_reducible assumption | with_reducible intro _ | with_reducible apply keep_State_postEvent C
                | with_reducible apply keep_foldl (P := P)

theorem keep_State_noteHeld (C : Closed P) : ∀ a0 a1, okS P a0 → okS P (@State.noteHeld a0 a1) := by
  intro a0 a1 h0
  unfold State.noteHeld
  dsimp only
  repeat' first | with_reducible assumption | with_reducible apply keep_State_setBwClass C

theorem keep_State_holdReq (C : Closed P) : ∀ a0 a1, okS P a0 → okS P (@State.holdReq a0 a1) := by
  intro a0 a1 h0
  unfold State.holdReq
  dsimp only
  repeat' first | with_reducible assumption | with_reducible apply keep_State_noteHeld C

theorem keep_State_perform (C : Closed P) : ∀ a0 a1, okS P a0 → okS P (@State.perform a0 a1) := by
  intro a0 a1 h0
  unfold State.perform
  repeat' first | with_reducible assumption | with_reducible apply ite_okS (P := P)
                | with_reducible apply keep_State_store C | with_reducible apply keep_State_deliver C

theorem keep_State_request (C : Closed P) : ∀ a0 a1, okS P a0 → okS P (@State.request a0 a1) := by
  intro a0 a1 h0
  unfold State.request
  dsimp only
  repeat' first | with_reducible assumption | with_reducible apply ite_okS (P := P)
                | with_reducible apply keep_State_holdReq C | with_reducible apply keep_State_perform C

theorem keep_State_settleHeld (C : Closed P) : ∀ a0 a1, okS P a0 → okS P (@State.settleHeld a0 a1) := by
  intro a0 a1 h0
  unfold State.settleHeld
  dsimp only
  repeat' first | with_reducible assumption | with_reducible apply ite_okS (P := P)
                | with_reducible apply keep_State_bump C | with_reducible apply keep_State_setBwClass C | split

theorem keep_State_serveTiers (C : Closed P) : ∀ a0 a1 a2, okS P a2 → okS P (@State.serveTiers a0 a1 a2) := by
  intro a0
  induction a0 with
  | zero => intro a1 a2 h; exact h
  | succ n ih =>
    intro a1 a2 h
    unfold State.serveTiers
    repeat' first | with_reducible assumption | with_reducible apply ih | with_reducible apply keep_State_request C | split

theorem keep_State_releaseHeld (C : Closed P) : ∀ a0 a1, okS P a0 → okS P (@State.releaseHeld a0 a1) := by
  intro a0 a1 h0
  unfold State.releaseHeld
  dsimp only
  repeat' first | with_reducible assumption | with_reducible intro _ | with_reducible apply keep_State_serveTiers C
                | with_reducible apply keep_State_settleHeld C | with_reducible apply keep_foldl (P := P)

theorem keep_State_feedbackSignal (C : Closed P) : ∀ a0 a1 a2, okS P a0 → okS P (@State.feedbackSignal a0 a1 a2) := by
  intro a0 a1 a2 h0
  unfold State.feedbackSignal
  dsimp only
  repeat' first | with_reducible assumption | with_reducible apply ite_okS (P := P)
                | with_reducible apply keep_State_releaseHeld C

theorem keep_State_guaranteeMissed (C : Closed P) :
    ∀ a0 a1 a2, okS P a0 → okS P (@State.guaranteeMissed a0 a1 a2) := by
  intro a0 a1 a2 h0
  unfold State.guaranteeMissed
  dsimp only
  repeat' first | with_reducible assumption | with_reducible intro _ | with_reducible apply ite_okS (P := P)
                | with_reducible apply keep_State_addRecord C | with_reducible apply keep_State_postEvent C
                | with_reducible apply keep_State_msi C | with_reducible apply keep_State_doubt C
                | with_reducible apply keep_foldl (P := P) | split

theorem keep_State_missedInWindow (C : Closed P) : ∀ a0 a1 a2, okS P a0 → okS P (@State.missedInWindow a0 a1 a2) := by
  intro a0 a1 a2 h0
  unfold State.missedInWindow
  dsimp only
  repeat' first | with_reducible assumption | with_reducible apply ite_okS (P := P)
                | with_reducible apply keep_State_bump C | with_reducible apply keep_State_guaranteeMissed C
                | with_reducible apply keep_State_setBwClass C

theorem keep_State_openClass (C : Closed P) : ∀ a0 a1, okS P a0 → okS P (@State.openClass a0 a1) := by
  intro a0 a1 h0
  unfold State.openClass
  dsimp only
  repeat' first | with_reducible assumption | with_reducible apply ite_okS (P := P)
                | with_reducible apply keep_State_set C | with_reducible apply keep_State_setBwClass C
                | with_reducible apply keep_State_guaranteeMissed C

theorem keep_State_bwBoundary (C : Closed P) : ∀ a0 a1, okS P a0 → okS P (@State.bwBoundary a0 a1) := by
  intro a0 a1 h0
  unfold State.bwBoundary
  dsimp only
  repeat' first | with_reducible assumption | with_reducible intro _ | with_reducible apply ite_okS (P := P)
                | with_reducible apply keep_State_missedInWindow C | with_reducible apply keep_State_setBwClass C
                | with_reducible apply keep_State_openClass C | with_reducible apply keep_State_releaseHeld C
                | with_reducible apply keep_foldl (P := P)

theorem keep_State_hbmTemp (C : Closed P) : ∀ a0 a1, okS P a0 → okS P (@State.hbmTemp a0 a1) := by
  intro a0 a1 h0
  unfold State.hbmTemp
  dsimp only
  repeat' first | with_reducible assumption | with_reducible apply keep_State_set C

theorem keep_State_writeGuarantee (C : Closed P) :
    ∀ a0 a1 a2 a3, okS P a0 → okR P (@State.writeGuarantee a0 a1 a2 a3) := by
  intro a0 a1 a2 a3 h0
  unfold State.writeGuarantee
  dsimp only
  repeat' first | with_reducible assumption | with_reducible apply ite_okR (P := P)
                | with_reducible apply keep_State_set C | with_reducible apply okR_mk
                | with_reducible exact okR_abort

theorem keep_State_bandwidthWrite (C : Closed P) : ∀ a0 a1 a2 a3 a4, okS P a0 → okR P (@State.bandwidthWrite a0 a1 a2 a3 a4) := by
  intro s idx sub n total h
  unfold State.bandwidthWrite
  split
  · split
    · with_reducible exact keep_State_writeGuarantee C _ _ _ _ h
    · split
      · exact trivial
      · with_reducible exact okR_mk (keep_State_set C _ _ _ _ _ h)
  · split
    · refine keep_foldl (P := P) _ ?_ _ _ (keep_foldl (P := P) _ ?_ _ _ h)
      · intro u p hu
        exact keep_State_clear C _ _ _ _ hu
      · intro u c hu
        have h1 := keep_State_clear C u (0x2410 + c) 4 0 hu
        have h2 := keep_State_clear C _ (0x2410 + c) 5 0 h1
        have h3 := keep_State_clear C _ (0x2410 + c) 6 0 h2
        exact keep_State_clear C _ (0x2410 + c) 7 0 h3
    · split
      · exact trivial
      · with_reducible exact okR_mk (keep_State_set C _ _ _ _ _ h)

theorem keep_execHbmRead (C : Closed P) :
    ∀ a0 a1 a2 a3 a4 a5, okS P a5 → okOut P (@execHbmRead a0 a1 a2 a3 a4 a5) := by
  intro a0 a1 a2 a3 a4 a5 h5
  unfold execHbmRead
  repeat' first | with_reducible assumption | with_reducible apply keep_State_request C
                | with_reducible apply keep_State_feedbackSignal C | with_reducible apply okOut_mk

theorem keep_execPartialGranuleWrite (C : Closed P) :
    ∀ a0 a1 a2 a3, okS P a3 → okOut P (@execPartialGranuleWrite a0 a1 a2 a3) := by
  intro a0 a1 a2 a3 h3
  unfold execPartialGranuleWrite
  repeat' first | with_reducible assumption | with_reducible apply keep_State_request C
                | with_reducible apply okOut_mk

theorem keep_execBwWindowBoundary (C : Closed P) : ∀ a0 a1, okS P a1 → okOut P (@execBwWindowBoundary a0 a1) := by
  intro a0 a1 h1
  unfold execBwWindowBoundary
  repeat' first | with_reducible assumption | with_reducible apply keep_State_bwBoundary C
                | with_reducible apply okOut_mk

theorem keep_execHbmTempSample (C : Closed P) : ∀ a0 a1, okS P a1 → okOut P (@execHbmTempSample a0 a1) := by
  intro a0 a1 h1
  unfold execHbmTempSample
  repeat' first | with_reducible assumption | with_reducible apply keep_State_hbmTemp C
                | with_reducible apply okOut_mk

theorem keep_State_touch (C : Closed P) : ∀ a0 a1, okS P a0 → okS P (@State.touch a0 a1) := by
  intro a0 a1 h0
  unfold State.touch
  dsimp only
  repeat' first | with_reducible assumption | with_reducible apply keep_State_setQueue C

theorem keep_State_chargeContext (C : Closed P) : ∀ a0 a1, okS P a0 → okS P (@State.chargeContext a0 a1) := by
  intro a0 a1 h0
  unfold State.chargeContext
  repeat' first | with_reducible assumption | with_reducible apply keep_State_chargeGranule C | split

theorem keep_State_storeContext (C : Closed P) : ∀ a0 a1, okS P a0 → okS P (@State.storeContext a0 a1) := by
  intro a0 a1 h0
  unfold State.storeContext
  dsimp only
  repeat' first | with_reducible assumption | with_reducible apply keep_State_fresh C
                | with_reducible apply keep_State_fillMem C | with_reducible apply keep_State_chargeContext C

theorem keep_State_loadContext (C : Closed P) : ∀ a0 a1, okS P a0 → okS P (@State.loadContext a0 a1) := by
  intro a0 a1 h0
  unfold State.loadContext
  dsimp only
  repeat' first | with_reducible assumption | with_reducible apply keep_State_bump C
                | with_reducible apply keep_State_setQueue C | with_reducible apply keep_State_chargeContext C
                | with_reducible apply keep_State_set C | with_reducible apply keep_State_touch C | split

theorem keep_State_spillContext (C : Closed P) : ∀ a0 a1 a2, okS P a0 → okS P (@State.spillContext a0 a1 a2) := by
  intro a0 a1 a2 h0
  unfold State.spillContext
  dsimp only
  repeat' first | with_reducible assumption | with_reducible apply keep_State_count C
                | with_reducible apply keep_State_bump C | with_reducible apply keep_State_setQueue C
                | with_reducible apply keep_State_storeContext C

theorem keep_State_needContext (C : Closed P) : ∀ a0 a1 a2, okS P a0 → okS P (@State.needContext a0 a1 a2) := by
  intro a0 a1 a2 h0
  unfold State.needContext
  dsimp only
  repeat' first | with_reducible assumption | with_reducible apply ite_okS (P := P)
                | with_reducible apply keep_State_touch C | with_reducible apply keep_State_loadContext C
                | with_reducible apply keep_State_spillContext C | with_reducible apply keep_State_setQueue C
                | with_reducible apply keep_State_bump C | with_reducible apply keep_State_storeContext C
                | with_reducible apply keep_State_chargeContext C | split

theorem keep_State_queueIrq (C : Closed P) : ∀ a0 a1, okS P a0 → okS P (@State.queueIrq a0 a1) := by
  intro a0 a1 h0
  unfold State.queueIrq
  dsimp only
  repeat' first | with_reducible assumption | with_reducible apply ite_okS (P := P)
                | with_reducible apply keep_State_sendMsi C | with_reducible apply keep_State_setQueue C | split

theorem keep_State_holdoffEnd (C : Closed P) : ∀ a0 a1, okS P a0 → okS P (@State.holdoffEnd a0 a1) := by
  intro a0 a1 h0
  unfold State.holdoffEnd
  dsimp only
  repeat' first | with_reducible assumption | with_reducible apply ite_okS (P := P)
                | with_reducible apply keep_State_sendMsi C | with_reducible apply keep_State_setQueue C
                | with_reducible apply keep_State_msi C | with_reducible apply keep_State_setSlice C | split

theorem keep_State_doorbellInvalid (C : Closed P) :
    ∀ a0 a1 a2, okS P a0 → okS P (@State.doorbellInvalid a0 a1 a2) := by
  intro a0 a1 a2 h0
  unfold State.doorbellInvalid
  repeat' first | with_reducible assumption | with_reducible apply keep_State_postEvent C | split

theorem keep_State_doorbell (C : Closed P) : ∀ a0 a1 a2 a3, okS P a0 → okS P (@State.doorbell a0 a1 a2 a3) := by
  intro a0 a1 a2 a3 h0
  unfold State.doorbell
  dsimp only
  repeat' first | with_reducible assumption | with_reducible apply ite_okS (P := P)
                | with_reducible apply keep_State_doorbellInvalid C | with_reducible apply keep_State_setQueue C
                | with_reducible apply keep_State_count C | with_reducible apply keep_State_needContext C

theorem keep_State_queueConfig (C : Closed P) : ∀ a0 a1 a2, okS P a0 → okR P (@State.queueConfig a0 a1 a2) := by
  intro a0 a1 a2 h0
  unfold State.queueConfig
  dsimp only
  repeat' first | with_reducible assumption | with_reducible apply ite_okR (P := P)
                | with_reducible apply keep_State_setQueue C | with_reducible apply okR_mk
                | with_reducible exact okR_abort | split

theorem keep_State_settleDisable (C : Closed P) : ∀ a0 a1, okS P a0 → okS P (@State.settleDisable a0 a1) := by
  intro a0 a1 h0
  unfold State.settleDisable
  dsimp only
  repeat' first | with_reducible assumption | with_reducible apply ite_okS (P := P)
                | with_reducible apply keep_State_setQueue C

theorem keep_State_queueCommand (C : Closed P) : ∀ a0 a1 a2, okS P a0 → okR P (@State.queueCommand a0 a1 a2) := by
  intro a0 a1 a2 h0
  unfold State.queueCommand
  dsimp only
  repeat' first | with_reducible assumption | with_reducible apply ite_okR (P := P)
                | with_reducible apply keep_State_needContext C | with_reducible apply keep_State_setQueue C
                | with_reducible apply keep_State_settleDisable C | with_reducible apply okR_mk
                | with_reducible exact okR_abort | split

theorem keep_State_queueCmd (C : Closed P) : ∀ a0 a1 a2, okS P a0 → okR P (@State.queueCmd a0 a1 a2) := by
  intro a0 a1 a2 h0
  unfold State.queueCmd
  dsimp only
  repeat' first | with_reducible assumption | with_reducible apply keep_State_queueCommand C
                | with_reducible exact okR_abort | split

theorem keep_State_unconfigureBlock (C : Closed P) : ∀ a0 a1, okS P a0 → okS P (@State.unconfigureBlock a0 a1) := by
  intro a0 a1 h0
  unfold State.unconfigureBlock
  dsimp only
  repeat' first | with_reducible assumption

theorem keep_State_quotaSettle (C : Closed P) : ∀ a0 a1, okS P a0 → okS P (@State.quotaSettle a0 a1) := by
  intro a0 a1 h0
  unfold State.quotaSettle
  dsimp only
  repeat' first | with_reducible assumption | with_reducible apply ite_okS (P := P)
                | with_reducible apply keep_State_setSlice C | with_reducible apply keep_State_postEvent C
                | with_reducible apply keep_State_set C

theorem keep_State_useMem (C : Closed P) : ∀ a0 a1 a2, okS P a0 → okS P (@State.useMem a0 a1 a2) := by
  intro a0 a1 a2 h0
  unfold State.useMem
  repeat' first | with_reducible assumption | with_reducible apply keep_State_set C

theorem keep_State_freeMem (C : Closed P) : ∀ a0 a1 a2, okS P a0 → okS P (@State.freeMem a0 a1 a2) := by
  intro a0 a1 a2 h0
  unfold State.freeMem
  repeat' first | with_reducible assumption | with_reducible apply keep_State_quotaSettle C
                | with_reducible apply keep_State_set C

theorem keep_State_suspend (C : Closed P) : ∀ a0 a1, okS P a0 → okS P (@State.suspend a0 a1) := by
  intro a0 a1 h0
  unfold State.suspend
  dsimp only
  repeat' first | with_reducible assumption | with_reducible apply ite_okS (P := P)
                | with_reducible apply keep_State_postEvent C | with_reducible apply keep_State_set C
                | with_reducible apply keep_State_setSlice C

theorem keep_State_writeQuota (C : Closed P) : ∀ a0 a1 a2, okS P a0 → okS P (@State.writeQuota a0 a1 a2) := by
  intro a0 a1 a2 h0
  unfold State.writeQuota
  dsimp only
  repeat' first | with_reducible assumption | with_reducible apply ite_okS (P := P)
                | with_reducible apply keep_State_set C | with_reducible apply keep_State_postEvent C
                | with_reducible apply keep_State_setSlice C | with_reducible apply keep_State_quotaSettle C

theorem keep_State_sliceCreate (C : Closed P) : ∀ a0 a1, okS P a0 → okR P (@State.sliceCreate a0 a1) := by
  intro a0 a1 h0
  unfold State.sliceCreate
  dsimp only
  repeat' first | with_reducible assumption | with_reducible apply ite_okR (P := P)
                | with_reducible apply keep_State_set C | with_reducible apply keep_State_setSlice C
                | with_reducible apply okR_mk | with_reducible exact okR_abort

theorem keep_State_sliceDestroy (C : Closed P) : ∀ a0 a1, okS P a0 → okR P (@State.sliceDestroy a0 a1) := by
  intro a0 a1 h0
  unfold State.sliceDestroy
  dsimp only
  repeat' first | with_reducible assumption | with_reducible apply ite_okR (P := P)
                | with_reducible apply keep_State_set C | with_reducible apply keep_State_setSlice C
                | with_reducible apply okR_mk | with_reducible exact okR_abort

theorem keep_State_writeBlocks (C : Closed P) : ∀ a0 a1 a2, okS P a0 → okR P (@State.writeBlocks a0 a1 a2) := by
  intro s k b h
  unfold State.writeBlocks
  split
  · exact keep_State_setB C _ _ _ _ _ h
  · extract_lets old has added removed
    clear_value added removed
    split
    · exact okR_abort
    · split
      · exact okR_abort
      · refine okR_mk (keep_foldl (P := P) _ ?_ _ _ ?_)
        · intro u n hu
          exact keep_State_unconfigureBlock C _ _ hu
        · exact keep_State_setB C _ _ _ _ _ h

theorem keep_State_writeShare (C : Closed P) : ∀ a0 a1 a2, okS P a0 → okR P (@State.writeShare a0 a1 a2) := by
  intro a0 a1 a2 h0
  unfold State.writeShare
  dsimp only
  repeat' first | with_reducible assumption | with_reducible apply ite_okR (P := P)
                | with_reducible apply keep_State_set C | with_reducible apply okR_mk
                | with_reducible exact okR_abort

theorem keep_State_sliceWrite (C : Closed P) :
    ∀ a0 a1 a2 a3 a4, okS P a0 → okR P (@State.sliceWrite a0 a1 a2 a3 a4) := by
  intro a0 a1 a2 a3 a4 h0
  unfold State.sliceWrite
  dsimp only
  repeat' first | with_reducible assumption | with_reducible apply ite_okR (P := P)
                | with_reducible apply keep_State_writeBlocks C | with_reducible apply keep_State_setB C
                | with_reducible apply keep_State_set C | with_reducible apply keep_State_sliceCreate C
                | with_reducible apply keep_State_sliceDestroy C | with_reducible apply keep_State_writeQuota C
                | with_reducible apply keep_State_suspend C | with_reducible apply keep_State_writeShare C
                | with_reducible apply okR_mk | with_reducible exact okR_abort | split

theorem keep_State_engineWindow (C : Closed P) : ∀ a0, okS P a0 → okS P (@State.engineWindow a0) := by
  intro a0 h0
  unfold State.engineWindow
  dsimp only
  repeat' first | with_reducible assumption | with_reducible intro _ | with_reducible apply keep_State_setSlice C
                | with_reducible apply keep_foldl (P := P)

theorem keep_execContextSpillLoad (C : Closed P) : ∀ a0 a1, okS P a1 → okOut P (@execContextSpillLoad a0 a1) := by
  intro a0 a1 h1
  unfold execContextSpillLoad
  dsimp only
  repeat' first | with_reducible assumption | with_reducible apply ite_okS (P := P)
                | with_reducible apply keep_State_loadContext C | with_reducible apply keep_State_spillContext C
                | with_reducible apply okOut_mk | split

theorem keep_execIrqHoldoffEnd (C : Closed P) : ∀ a0 a1, okS P a1 → okOut P (@execIrqHoldoffEnd a0 a1) := by
  intro a0 a1 h1
  unfold execIrqHoldoffEnd
  repeat' first | with_reducible assumption | with_reducible apply keep_State_holdoffEnd C
                | with_reducible apply okOut_mk

theorem keep_execGraceExpiry (C : Closed P) : ∀ a0 a1, okS P a1 → okOut P (@execGraceExpiry a0 a1) := by
  intro a0 a1 h1
  unfold execGraceExpiry
  repeat' first | with_reducible assumption | with_reducible apply keep_State_suspend C
                | with_reducible apply okOut_mk

theorem keep_execEngineWindowBoundary (C : Closed P) : ∀ a0, okS P a0 → okOut P (@execEngineWindowBoundary a0) := by
  intro a0 h0
  unfold execEngineWindowBoundary
  repeat' first | with_reducible assumption | with_reducible apply keep_State_engineWindow C
                | with_reducible apply okOut_mk

theorem keep_State_raiseWatermark (C : Closed P) : ∀ a0 a1, okS P a0 → okS P (@State.raiseWatermark a0 a1) := by
  intro a0 a1 h0
  unfold State.raiseWatermark
  dsimp only
  repeat' first | with_reducible assumption | with_reducible apply keep_State_set C

theorem keep_State_cancelLower (C : Closed P) : ∀ a0, okS P a0 → okS P (@State.cancelLower a0) := by
  intro a0 h0
  unfold State.cancelLower
  dsimp only
  repeat' first | with_reducible assumption | with_reducible apply keep_State_fresh C
                | with_reducible apply keep_State_zeroMem C | split

theorem keep_State_writeWatermark (C : Closed P) : ∀ a0 a1, okS P a0 → okR P (@State.writeWatermark a0 a1) := by
  intro a0 a1 h0
  unfold State.writeWatermark
  dsimp only
  repeat' first | with_reducible assumption | with_reducible apply ite_okR (P := P)
                | with_reducible apply keep_State_set C | with_reducible apply keep_State_raiseWatermark C
                | with_reducible apply keep_State_cancelLower C | with_reducible apply okR_mk
                | with_reducible exact okR_abort

theorem keep_State_scrubDone (C : Closed P) : ∀ a0, okS P a0 → okS P (@State.scrubDone a0) := by
  intro a0 h0
  unfold State.scrubDone
  dsimp only
  repeat' first | with_reducible assumption | with_reducible apply keep_State_chargeRange C
                | with_reducible apply keep_State_raiseWatermark C
                | with_reducible apply keep_State_zeroMem C | split

theorem keep_State_writeReserve (C : Closed P) : ∀ a0 a1, okS P a0 → okR P (@State.writeReserve a0 a1) := by
  intro a0 a1 h0
  unfold State.writeReserve
  dsimp only
  repeat' first | with_reducible assumption | with_reducible apply ite_okR (P := P)
                | with_reducible apply keep_State_set C | with_reducible apply okR_mk
                | with_reducible exact okR_abort

theorem keep_State_ownGranule (C : Closed P) : ∀ a0 a1 a2, okS P a0 → okS P (@State.ownGranule a0 a1 a2) := by
  intro a0 a1 a2 h0
  unfold State.ownGranule
  repeat' first | with_reducible assumption

theorem keep_State_giveGranules (C : Closed P) : ∀ a0 a1 a2, okS P a0 → okS P (@State.giveGranules a0 a1 a2) := by
  intro a0 a1 a2 h0
  unfold State.giveGranules
  repeat' first | with_reducible assumption | with_reducible apply keep_State_ownGranule C
                | with_reducible intro _ | with_reducible apply keep_State_chargeRange C
                | with_reducible apply keep_State_zeroMem C
                | with_reducible apply keep_foldl (P := P)

theorem keep_State_enclaveCmd (C : Closed P) : ∀ a0 a1, okS P a0 → okR P (@State.enclaveCmd a0 a1) := by
  intro a0 a1 h0
  unfold State.enclaveCmd
  dsimp only
  repeat' first | with_reducible assumption | with_reducible apply ite_okR (P := P)
                | with_reducible apply keep_State_giveGranules C | with_reducible apply okR_mk
                | with_reducible exact okR_abort

theorem keep_State_writeSliceEnclave (C : Closed P) :
    ∀ a0 a1 a2, okS P a0 → okR P (@State.writeSliceEnclave a0 a1 a2) := by
  intro a0 a1 a2 h0
  unfold State.writeSliceEnclave
  repeat' first | with_reducible assumption | with_reducible apply ite_okR (P := P)
                | with_reducible apply keep_State_set C | with_reducible apply okR_mk
                | with_reducible exact okR_abort

theorem keep_State_resumeHart (C : Closed P) : ∀ a0 a1, okS P a0 → okS P (@State.resumeHart a0 a1) := by
  intro a0 a1 h0
  unfold State.resumeHart
  dsimp only
  repeat' first | with_reducible assumption | with_reducible apply ite_okS (P := P)
                | with_reducible apply keep_State_setHart C | split

theorem keep_State_setScope (C : Closed P) : ∀ a0 a1, okS P a0 → okS P (@State.setScope a0 a1) := by
  intro a0 a1 h0
  unfold State.setScope
  dsimp only
  repeat' first | with_reducible assumption | with_reducible intro _ | with_reducible apply ite_okS (P := P)
                | with_reducible apply keep_State_resumeHart C | with_reducible apply keep_foldl (P := P)

theorem keep_State_renewChallenge (C : Closed P) : ∀ a0, okS P a0 → okS P (@State.renewChallenge a0) := by
  intro a0 h0
  unfold State.renewChallenge
  dsimp only
  repeat' first | with_reducible assumption | with_reducible apply keep_State_fresh C

theorem keep_State_endSession (C : Closed P) : ∀ a0, okS P a0 → okS P (@State.endSession a0) := by
  intro a0 h0
  unfold State.endSession
  dsimp only
  repeat' first | with_reducible assumption | with_reducible apply keep_State_setScope C

theorem keep_State_debugResponse (C : Closed P) : ∀ a0 a1, okS P a0 → okQ P (@State.debugResponse a0 a1) := by
  intro a0 a1 h0
  unfold State.debugResponse
  dsimp only
  repeat' first | with_reducible assumption | with_reducible apply ite_okQ (P := P)
                | with_reducible apply keep_State_renewChallenge C | with_reducible apply keep_State_setScope C

theorem keep_State_securityWrite (C : Closed P) :
    ∀ a0 a1 a2 a3, okS P a0 → okR P (@State.securityWrite a0 a1 a2 a3) := by
  intro a0 a1 a2 a3 h0
  unfold State.securityWrite
  dsimp only
  repeat' first | with_reducible assumption | with_reducible apply ite_okR (P := P)
                | with_reducible apply ite_okS (P := P) | with_reducible apply keep_State_writeWatermark C
                | with_reducible apply keep_State_writeReserve C
                | with_reducible apply keep_State_writeSliceEnclave C | with_reducible apply keep_State_set C
                | with_reducible apply keep_State_setScope C | with_reducible apply keep_State_endSession C
                | with_reducible apply keep_State_enclaveCmd C | with_reducible apply keep_State_setB C
                | with_reducible apply keep_State_debugResponse C | with_reducible apply okR_mk
                | with_reducible exact okR_abort | with_reducible apply okR_mk2 | split
                | exact C.blow _ _ _ _ _ (by assumption)

theorem keep_State_mret (C : Closed P) : ∀ a0 a1 a2, okS P a0 → okS P (@State.mret a0 a1 a2) := by
  intro a0 a1 a2 h0
  unfold State.mret
  dsimp only
  repeat' first | with_reducible assumption | with_reducible apply ite_okS (P := P)
                | with_reducible apply keep_State_setHart C

theorem keep_execScrubComplete (C : Closed P) : ∀ a0, okS P a0 → okOut P (@execScrubComplete a0) := by
  intro a0 h0
  unfold execScrubComplete
  repeat' first | with_reducible assumption | with_reducible apply keep_State_scrubDone C
                | with_reducible apply okOut_mk

theorem keep_execMenclaveWrite (C : Closed P) : ∀ a0 a1 a2, okS P a2 → okOut P (@execMenclaveWrite a0 a1 a2) := by
  intro a0 a1 a2 h2
  unfold execMenclaveWrite
  dsimp only
  repeat' first | with_reducible assumption | with_reducible apply ite_okS (P := P)
                | with_reducible apply keep_State_setHart C | with_reducible apply keep_State_emit C
                | with_reducible apply okOut_mk

theorem keep_execMModeTrap (C : Closed P) : ∀ a0 a1, okS P a1 → okOut P (@execMModeTrap a0 a1) := by
  intro a0 a1 h1
  unfold execMModeTrap
  dsimp only
  repeat' first | with_reducible assumption | with_reducible apply keep_State_setHart C
                | with_reducible apply okOut_mk

theorem keep_execMret (C : Closed P) : ∀ a0 a1 a2, okS P a2 → okOut P (@execMret a0 a1 a2) := by
  intro a0 a1 a2 h2
  unfold execMret
  repeat' first | with_reducible assumption | with_reducible apply keep_State_mret C | with_reducible apply okOut_mk

theorem keep_execNoticeTimeout (C : Closed P) : ∀ a0, okS P a0 → okOut P (@execNoticeTimeout a0) := by
  intro a0 h0
  unfold execNoticeTimeout
  repeat' first | with_reducible assumption | with_reducible apply ite_okS (P := P)
                | with_reducible apply keep_State_set C | with_reducible apply okOut_mk | split

theorem keep_execDebugLockoutEnd (C : Closed P) : ∀ a0, okS P a0 → okOut P (@execDebugLockoutEnd a0) := by
  intro a0 h0
  unfold execDebugLockoutEnd
  dsimp only
  repeat' first | with_reducible assumption | with_reducible apply ite_okS (P := P) | with_reducible apply okOut_mk

theorem keep_execJtagTrst (C : Closed P) : ∀ a0, okS P a0 → okOut P (@execJtagTrst a0) := by
  intro a0 h0
  unfold execJtagTrst
  dsimp only
  repeat' first | with_reducible assumption | with_reducible apply keep_State_endSession C
                | with_reducible apply okOut_mk

theorem keep_State_setEngine (C : Closed P) : ∀ a0 a1 a2, okS P a0 → okS P (@State.setEngine a0 a1 a2) := by
  intro a0 a1 a2 h0
  unfold State.setEngine
  dsimp only
  repeat' first | with_reducible assumption

theorem keep_State_setGov (C : Closed P) : ∀ a0 a1, okS P a0 → okS P (@State.setGov a0 a1) := by
  intro a0 a1 h0
  unfold State.setGov
  repeat' first | with_reducible assumption

theorem keep_State_railSag (C : Closed P) : ∀ a0, okS P a0 → okS P (@State.railSag a0) := by
  intro a0 h0
  unfold State.railSag
  dsimp only
  repeat' first | with_reducible assumption | with_reducible apply ite_okS (P := P)
                | with_reducible apply keep_State_addRecord C | with_reducible apply keep_State_setGov C

theorem keep_State_noteRail (C : Closed P) : ∀ a0 a1, okS P a0 → okS P (@State.noteRail a0 a1) := by
  intro a0 a1 h0
  unfold State.noteRail
  repeat' first | with_reducible assumption | with_reducible apply keep_State_railSag C
                | with_reducible apply keep_State_set C

theorem keep_State_railAt (C : Closed P) : ∀ a0 a1, okS P a0 → okS P (@State.railAt a0 a1) := by
  intro a0 a1 h0
  unfold State.railAt
  dsimp only
  repeat' first | with_reducible assumption | with_reducible apply keep_State_noteRail C
                | with_reducible apply keep_State_setGov C

theorem keep_State_setTarget (C : Closed P) : ∀ a0 a1, okS P a0 → okS P (@State.setTarget a0 a1) := by
  intro a0 a1 h0
  unfold State.setTarget
  dsimp only
  repeat' first | with_reducible assumption | with_reducible apply ite_okS (P := P)
                | with_reducible apply keep_State_bump C | with_reducible apply keep_State_setGov C
                | with_reducible apply keep_State_railAt C | with_reducible apply keep_State_set C

theorem keep_State_gateIslands (C : Closed P) : ∀ a0, okS P a0 → okS P (@State.gateIslands a0) := by
  intro a0 h0
  unfold State.gateIslands
  dsimp only
  repeat' first | with_reducible assumption | with_reducible apply keep_State_setGov C
                | with_reducible apply keep_State_setTarget C | split

theorem keep_State_releaseIslands (C : Closed P) : ∀ a0, okS P a0 → okS P (@State.releaseIslands a0) := by
  intro a0 h0
  unfold State.releaseIslands
  dsimp only
  repeat' first | with_reducible assumption | with_reducible apply ite_okS (P := P)
                | with_reducible apply keep_State_setGov C | with_reducible apply keep_State_bump C

theorem keep_State_setPwr (C : Closed P) : ∀ a0 a1, okS P a0 → okS P (@State.setPwr a0 a1) := by
  intro a0 a1 h0
  unfold State.setPwr
  repeat' first | with_reducible assumption

theorem keep_State_leaveIdle (C : Closed P) : ∀ a0, okS P a0 → okS P (@State.leaveIdle a0) := by
  intro a0 h0
  unfold State.leaveIdle
  repeat' first | with_reducible assumption | with_reducible apply ite_okS (P := P)
                | with_reducible apply keep_State_setPwr C | with_reducible apply keep_State_releaseIslands C
                | with_reducible apply keep_State_set C

theorem keep_State_noteBusy (C : Closed P) : ∀ a0, okS P a0 → okS P (@State.noteBusy a0) := by
  intro a0 h0
  unfold State.noteBusy
  repeat' first | with_reducible assumption | with_reducible apply ite_okS (P := P)
                | with_reducible apply keep_State_setPwr C

theorem keep_State_workWake (C : Closed P) : ∀ a0, okS P a0 → okS P (@State.workWake a0) := by
  intro a0 h0
  unfold State.workWake
  dsimp only
  repeat' first | with_reducible assumption | with_reducible apply ite_okS (P := P)
                | with_reducible apply keep_State_setPwr C | with_reducible apply keep_State_setB C

theorem keep_State_workArrives (C : Closed P) : ∀ a0, okS P a0 → okS P (@State.workArrives a0) := by
  intro a0 h0
  unfold State.workArrives
  repeat' first | with_reducible assumption | with_reducible apply ite_okS (P := P)
                | with_reducible apply keep_State_leaveIdle C | with_reducible apply keep_State_workWake C

theorem keep_State_retarget (C : Closed P) : ∀ a0 a1 a2, okS P a0 → okS P (@State.retarget a0 a1 a2) := by
  intro a0 a1 a2 h0
  unfold State.retarget
  dsimp only
  repeat' first | with_reducible assumption | with_reducible apply ite_okS (P := P)
                | with_reducible apply keep_State_setGov C | with_reducible apply keep_State_setTarget C | split

theorem keep_State_aim (C : Closed P) : ∀ a0, okS P a0 → okS P (@State.aim a0) := by
  intro a0 h0
  unfold State.aim
  dsimp only
  repeat' first | with_reducible assumption | with_reducible apply ite_okS (P := P)
                | with_reducible apply keep_State_retarget C | with_reducible apply keep_State_set C

theorem keep_State_liftCap (C : Closed P) : ∀ a0 a1, okS P a0 → okP P (@State.liftCap a0 a1) := by
  intro a0 a1 h0
  unfold State.liftCap
  dsimp only
  repeat' first | with_reducible assumption | with_reducible apply keep_State_fresh C | split

theorem keep_State_powerSample (C : Closed P) : ∀ a0 a1, okS P a0 → okS P (@State.powerSample a0 a1) := by
  intro a0 a1 h0
  unfold State.powerSample
  dsimp only
  repeat' first | with_reducible assumption | with_reducible apply ite_okS (P := P)
                | with_reducible apply keep_State_set C | with_reducible apply keep_State_setGov C
                | with_reducible apply keep_State_liftCap C | with_reducible apply keep_State_aim C

theorem keep_State_powerUnmet (C : Closed P) : ∀ a0, okS P a0 → okS P (@State.powerUnmet a0) := by
  intro a0 h0
  unfold State.powerUnmet
  dsimp only
  repeat' first | with_reducible assumption | with_reducible apply ite_okS (P := P)
                | with_reducible apply keep_State_addRecord C | with_reducible apply keep_State_setGov C

theorem keep_State_thermalHalt (C : Closed P) : ∀ a0 a1, okS P a0 → okS P (@State.thermalHalt a0 a1) := by
  intro a0 a1 h0
  unfold State.thermalHalt
  dsimp only
  repeat' first | with_reducible assumption | with_reducible apply ite_okS (P := P)
                | with_reducible apply keep_State_setGov C | with_reducible apply keep_State_doubt C
                | with_reducible apply keep_State_addRecord C | with_reducible apply keep_State_aim C

theorem keep_State_thermalSubfloor (C : Closed P) : ∀ a0 a1, okS P a0 → okS P (@State.thermalSubfloor a0 a1) := by
  intro a0 a1 h0
  unfold State.thermalSubfloor
  dsimp only
  repeat' first | with_reducible assumption | with_reducible apply ite_okS (P := P)
                | with_reducible apply keep_State_setGov C | with_reducible apply keep_State_addRecord C

theorem keep_State_thermalSample (C : Closed P) : ∀ a0 a1, okS P a0 → okS P (@State.thermalSample a0 a1) := by
  intro a0 a1 h0
  unfold State.thermalSample
  dsimp only
  repeat' first | with_reducible assumption | with_reducible apply ite_okS (P := P)
                | with_reducible apply keep_State_set C | with_reducible apply keep_State_thermalHalt C
                | with_reducible apply keep_State_thermalSubfloor C | with_reducible apply keep_State_setGov C
                | with_reducible apply keep_State_liftCap C | with_reducible apply keep_State_aim C

theorem keep_State_lowerStep (C : Closed P) : ∀ a0, okS P a0 → okS P (@State.lowerStep a0) := by
  intro a0 h0
  unfold State.lowerStep
  dsimp only
  repeat' first | with_reducible assumption | with_reducible apply ite_okS (P := P)
                | with_reducible apply keep_State_aim C | with_reducible apply keep_State_setGov C

theorem keep_State_noteSubfloor (C : Closed P) : ∀ a0, okS P a0 → okS P (@State.noteSubfloor a0) := by
  intro a0 h0
  unfold State.noteSubfloor
  dsimp only
  repeat' first | with_reducible assumption | with_reducible apply ite_okS (P := P)
                | with_reducible apply keep_State_setGov C

theorem keep_State_paceBoundary (C : Closed P) : ∀ a0, okS P a0 → okS P (@State.paceBoundary a0) := by
  intro a0 h0
  unfold State.paceBoundary
  dsimp only
  repeat' first | with_reducible assumption | with_reducible apply ite_okS (P := P)
                | with_reducible apply keep_State_setGov C | with_reducible apply keep_State_set C
                | with_reducible apply keep_State_setTarget C | with_reducible apply keep_State_aim C
                | with_reducible apply keep_State_noteRail C | with_reducible apply keep_State_lowerStep C
                | with_reducible apply keep_State_noteSubfloor C | split

theorem keep_State_regulatorSettled (C : Closed P) : ∀ a0, okS P a0 → okS P (@State.regulatorSettled a0) := by
  intro a0 h0
  unfold State.regulatorSettled
  dsimp only
  repeat' first | with_reducible assumption | with_reducible apply ite_okS (P := P)
                | with_reducible apply keep_State_setGov C | with_reducible apply keep_State_railAt C | split

theorem keep_State_dropLoops (C : Closed P) : ∀ a0, okS P a0 → okS P (@State.dropLoops a0) := by
  intro a0 h0
  unfold State.dropLoops
  dsimp only
  repeat' first | with_reducible assumption | with_reducible apply ite_okS (P := P)
                | with_reducible apply keep_State_setGov C

theorem keep_State_governorWrite (C : Closed P) :
    ∀ a0 a1 a2 a3, okS P a0 → okR P (@State.governorWrite a0 a1 a2 a3) := by
  intro a0 a1 a2 a3 h0
  unfold State.governorWrite
  dsimp only
  repeat' first | with_reducible assumption | with_reducible apply ite_okR (P := P)
                | with_reducible apply ite_okS (P := P) | with_reducible apply keep_State_setGov C
                | with_reducible apply keep_State_set C | with_reducible apply keep_State_aim C
                | with_reducible apply keep_State_dropLoops C | with_reducible apply okR_mk
                | with_reducible exact okR_abort

theorem keep_State_alwaysOnReturn (C : Closed P) : ∀ a0, okS P a0 → okS P (@State.alwaysOnReturn a0) := by
  intro a0 h0
  unfold State.alwaysOnReturn
  dsimp only
  repeat' first | with_reducible assumption

theorem keep_State_supplyChange (C : Closed P) :
    ∀ a0 a1 a2 a3, okS P a0 → okS P (@State.supplyChange a0 a1 a2 a3) := by
  intro a0 a1 a2 a3 h0
  unfold State.supplyChange
  dsimp only
  repeat' first | with_reducible assumption | with_reducible apply ite_okS (P := P)
                | with_reducible apply keep_State_railAt C | with_reducible apply keep_State_setGov C
                | with_reducible apply keep_State_alwaysOnReturn C

theorem keep_execPaceWindowBoundary (C : Closed P) : ∀ a0, okS P a0 → okOut P (@execPaceWindowBoundary a0) := by
  intro a0 h0
  unfold execPaceWindowBoundary
  repeat' first | with_reducible assumption | with_reducible apply keep_State_paceBoundary C
                | with_reducible apply okOut_mk

theorem keep_execPowerLoopSample (C : Closed P) : ∀ a0 a1, okS P a1 → okOut P (@execPowerLoopSample a0 a1) := by
  intro a0 a1 h1
  unfold execPowerLoopSample
  repeat' first | with_reducible assumption | with_reducible apply keep_State_powerSample C
                | with_reducible apply okOut_mk

theorem keep_execPowerLimitUnmet (C : Closed P) : ∀ a0, okS P a0 → okOut P (@execPowerLimitUnmet a0) := by
  intro a0 h0
  unfold execPowerLimitUnmet
  repeat' first | with_reducible assumption | with_reducible apply keep_State_powerUnmet C
                | with_reducible apply okOut_mk

theorem keep_execThermalLoopSample (C : Closed P) : ∀ a0 a1, okS P a1 → okOut P (@execThermalLoopSample a0 a1) := by
  intro a0 a1 h1
  unfold execThermalLoopSample
  repeat' first | with_reducible assumption | with_reducible apply keep_State_thermalSample C
                | with_reducible apply okOut_mk | split

theorem keep_execSubfloorDoubt (C : Closed P) : ∀ a0, okS P a0 → okOut P (@execSubfloorDoubt a0) := by
  intro a0 h0
  unfold execSubfloorDoubt
  dsimp only
  repeat' first | with_reducible assumption | with_reducible apply ite_okS (P := P)
                | with_reducible apply keep_State_doubt C | with_reducible apply keep_State_setGov C
                | with_reducible apply okOut_mk | split

theorem keep_execRegulatorSettled (C : Closed P) : ∀ a0, okS P a0 → okOut P (@execRegulatorSettled a0) := by
  intro a0 h0
  unfold execRegulatorSettled
  repeat' first | with_reducible assumption | with_reducible apply ite_okS (P := P)
                | with_reducible apply keep_State_regulatorSettled C | with_reducible apply okOut_mk

theorem keep_execSupplyInputChange (C : Closed P) :
    ∀ a0 a1 a2 a3, okS P a3 → okOut P (@execSupplyInputChange a0 a1 a2 a3) := by
  intro a0 a1 a2 a3 h3
  unfold execSupplyInputChange
  repeat' first | with_reducible assumption | with_reducible apply keep_State_supplyChange C
                | with_reducible apply okOut_mk

theorem keep_State_setDesc (C : Closed P) : ∀ a0 a1 a2 a3, okS P a0 → okS P (@State.setDesc a0 a1 a2 a3) := by
  intro a0 a1 a2 a3 h0
  unfold State.setDesc
  dsimp only
  repeat' first | with_reducible assumption | with_reducible apply keep_State_setQueue C

theorem keep_State_noteTuning (C : Closed P) : ∀ a0 a1 a2, okS P a0 → okS P (@State.noteTuning a0 a1 a2) := by
  intro a0 a1 a2 h0
  unfold State.noteTuning
  dsimp only
  repeat' first | with_reducible assumption | with_reducible apply ite_okS (P := P)

theorem keep_State_stageTile (C : Closed P) : ∀ a0 a1 a2, okS P a0 → okS P (@State.stageTile a0 a1 a2) := by
  intro a0 a1 a2 h0
  unfold State.stageTile
  repeat' first | with_reducible assumption | with_reducible apply keep_State_setDesc C | split

theorem keep_State_startTile (C : Closed P) : ∀ a0 a1 a2 a3, okS P a0 → okS P (@State.startTile a0 a1 a2 a3) := by
  intro a0 a1 a2 a3 h0
  unfold State.startTile
  dsimp only
  repeat' first | with_reducible assumption | with_reducible apply keep_State_setEngine C
                | with_reducible apply keep_State_stageTile C | with_reducible apply keep_State_noteTuning C

theorem keep_State_steal (C : Closed P) : ∀ a0 a1, okS P a0 → okS P (@State.steal a0 a1) := by
  intro a0 a1 h0
  unfold State.steal
  repeat' first | with_reducible assumption | with_reducible apply keep_State_bump C
                | with_reducible apply keep_State_startTile C | split

theorem keep_State_droneEnter (C : Closed P) : ∀ a0 a1, okS P a0 → okS P (@State.droneEnter a0 a1) := by
  intro a0 a1 h0
  unfold State.droneEnter
  dsimp only
  repeat' first | with_reducible assumption

theorem keep_State_takeWork (C : Closed P) : ∀ a0 a1, okS P a0 → okS P (@State.takeWork a0 a1) := by
  intro a0 a1 h0
  unfold State.takeWork
  dsimp only
  repeat' first | with_reducible assumption | with_reducible apply ite_okS (P := P)
                | with_reducible apply keep_State_startTile C | with_reducible apply keep_State_steal C | split

theorem keep_State_allTakeWork (C : Closed P) : ∀ a0, okS P a0 → okS P (@State.allTakeWork a0) := by
  intro a0 h0
  unfold State.allTakeWork
  repeat' first | with_reducible assumption | with_reducible intro _ | with_reducible apply keep_State_takeWork C
                | with_reducible apply keep_foldl (P := P)

theorem keep_State_chooseVictim (C : Closed P) : ∀ a0 a1, okS P a0 → okP P (@State.chooseVictim a0 a1) := by
  intro a0 a1 h0
  unfold State.chooseVictim
  dsimp only
  repeat' first | with_reducible assumption

theorem keep_State_noteAsked (C : Closed P) : ∀ a0 a1 a2 a3, okS P a0 → okS P (@State.noteAsked a0 a1 a2 a3) := by
  intro a0 a1 a2 a3 h0
  unfold State.noteAsked
  dsimp only
  repeat' first | with_reducible assumption | with_reducible apply keep_State_setEngine C

theorem keep_State_preemptFor (C : Closed P) : ∀ a0 a1 a2, okS P a0 → okS P (@State.preemptFor a0 a1 a2) := by
  intro a0 a1 a2 h0
  unfold State.preemptFor
  dsimp only
  repeat' first | with_reducible assumption | with_reducible apply ite_okS (P := P)
                | with_reducible apply keep_State_bump C | with_reducible apply keep_State_noteAsked C
                | with_reducible apply keep_State_chooseVictim C | with_reducible apply keep_State_setEngine C
                | with_reducible refine okP_elim (P := P) (by assumption) ?_ | split

theorem keep_State_preemptAll (C : Closed P) : ∀ a0, okS P a0 → okS P (@State.preemptAll a0) := by
  intro a0 h0
  unfold State.preemptAll
  repeat' first | with_reducible assumption | with_reducible intro _ | with_reducible apply keep_State_preemptFor C
                | with_reducible apply keep_foldl (P := P)

theorem keep_State_noteLate (C : Closed P) : ∀ a0 a1 a2 a3, okS P a0 → okS P (@State.noteLate a0 a1 a2 a3) := by
  intro a0 a1 a2 a3 h0
  unfold State.noteLate
  dsimp only
  repeat' first | with_reducible assumption | with_reducible apply ite_okS (P := P)
                | with_reducible apply keep_State_bump C | with_reducible apply keep_State_safetyRecord C

theorem keep_State_joinWindow (C : Closed P) : ∀ a0 a1, okS P a0 → okS P (@State.joinWindow a0 a1) := by
  intro a0 a1 h0
  unfold State.joinWindow
  dsimp only
  repeat' first | with_reducible assumption | with_reducible apply ite_okS (P := P)
                | with_reducible apply keep_State_noteLate C | split

theorem keep_State_serveWork (C : Closed P) : ∀ a0 a1, okS P a0 → okS P (@State.serveWork a0 a1) := by
  intro a0 a1 h0
  unfold State.serveWork
  repeat' first | with_reducible assumption | with_reducible apply keep_State_joinWindow C | with_reducible apply keep_State_preemptAll C
                | with_reducible apply keep_State_takeWork C

theorem keep_State_serveAll (C : Closed P) : ∀ a0, okS P a0 → okS P (@State.serveAll a0) := by
  intro a0 h0
  unfold State.serveAll
  repeat' first | with_reducible assumption | with_reducible apply keep_State_preemptAll C
                | with_reducible apply keep_State_allTakeWork C

theorem keep_State_dealTo (C : Closed P) : ∀ a0 a1 a2, okS P a0 → okS P (@State.dealTo a0 a1 a2) := by
  intro a0 a1 a2 h0
  unfold State.dealTo
  dsimp only
  repeat' first | with_reducible assumption | with_reducible intro _ | with_reducible apply ite_okS (P := P)
                | with_reducible apply keep_State_setEngine C | with_reducible apply keep_State_bump C
                | with_reducible apply keep_foldlQ (P := P) | split

theorem keep_State_redeal (C : Closed P) : ∀ a0 a1 a2, okS P a0 → okS P (@State.redeal a0 a1 a2) := by
  intro a0 a1 a2 h0
  unfold State.redeal
  repeat' first | with_reducible assumption | with_reducible apply keep_State_dealTo C

theorem keep_State_redealAll (C : Closed P) : ∀ a0 a1, okS P a0 → okS P (@State.redealAll a0 a1) := by
  intro a0 a1 h0
  unfold State.redealAll
  dsimp only
  repeat' first | with_reducible assumption | with_reducible intro _ | with_reducible apply keep_State_redeal C
                | with_reducible apply keep_foldl (P := P) | split

theorem keep_State_dealWaiting (C : Closed P) : ∀ a0, okS P a0 → okS P (@State.dealWaiting a0) := by
  intro a0 h0
  unfold State.dealWaiting
  dsimp only
  repeat' first | with_reducible assumption | with_reducible intro _ | with_reducible apply keep_State_dealTo C
                | with_reducible apply keep_foldl (P := P) | split

theorem keep_State_setSlot (C : Closed P) : ∀ a0 a1 a2, okS P a0 → okS P (@State.setSlot a0 a1 a2) := by
  intro a0 a1 a2 h0
  unfold State.setSlot
  dsimp only
  repeat' first | with_reducible assumption | with_reducible apply keep_State_set C

theorem keep_State_saveTile (C : Closed P) : ∀ a0 a1 a2 a3 a4, okS P a0 → okS P (@State.saveTile a0 a1 a2 a3 a4) := by
  intro a0 a1 a2 a3 a4 h0
  unfold State.saveTile
  dsimp only
  repeat' first | with_reducible assumption | with_reducible apply keep_State_setEngine C
                | with_reducible apply keep_State_fresh C | with_reducible apply keep_State_chargeRangeAs C
                | with_reducible apply keep_State_fillMem C | with_reducible apply keep_State_bump C
                | with_reducible apply keep_State_setSlot C | split

theorem keep_State_releaseWindowSlot (C : Closed P) : ∀ a0 a1, okS P a0 → okS P (@State.releaseWindowSlot a0 a1) := by
  intro a0 a1 h0
  unfold State.releaseWindowSlot
  repeat' first | with_reducible assumption | with_reducible apply keep_State_setSlot C | split

theorem keep_State_dropEnginePads (C : Closed P) : ∀ a0 a1, okS P a0 → okS P (@State.dropEnginePads a0 a1) := by
  intro a0 a1 h0
  unfold State.dropEnginePads
  dsimp only
  repeat' first | with_reducible assumption

theorem keep_State_degradeOne (C : Closed P) : ∀ a0 a1 a2, okS P a0 → okS P (@State.degradeOne a0 a1 a2) := by
  intro a0 a1 a2 h0
  unfold State.degradeOne
  dsimp only
  repeat' first | with_reducible assumption | with_reducible apply ite_okS (P := P)
                | with_reducible apply keep_State_safetyRecord C | with_reducible apply keep_State_set C
                | with_reducible apply keep_State_doubt C

theorem keep_State_degrade (C : Closed P) : ∀ a0 a1, okS P a0 → okS P (@State.degrade a0 a1) := by
  intro a0 a1 h0
  unfold State.degrade
  repeat' first | with_reducible assumption | with_reducible intro _ | with_reducible apply keep_State_degradeOne C
                | with_reducible apply keep_foldl (P := P)

theorem keep_State_settleDegraded (C : Closed P) : ∀ a0, okS P a0 → okS P (@State.settleDegraded a0) := by
  intro a0 h0
  unfold State.settleDegraded
  dsimp only
  repeat' first | with_reducible assumption | with_reducible intro _ | with_reducible apply ite_okS (P := P)
                | with_reducible apply keep_State_set C | with_reducible apply keep_foldl (P := P)

theorem keep_State_quarantine (C : Closed P) : ∀ a0 a1 a2, okS P a0 → okS P (@State.quarantine a0 a1 a2) := by
  intro a0 a1 a2 h0
  unfold State.quarantine
  dsimp only
  repeat' first | with_reducible assumption | with_reducible apply ite_okS (P := P)
                | with_reducible apply keep_State_setSlot C | with_reducible apply keep_State_aim C
                | with_reducible apply keep_State_droneEnter C | with_reducible apply keep_State_setEngine C
                | with_reducible apply keep_State_releaseWindowSlot C
                | with_reducible apply keep_State_dropEnginePads C | with_reducible apply keep_State_addRecord C
                | with_reducible apply keep_State_postAll C | with_reducible apply keep_State_serveAll C
                | with_reducible apply keep_State_degrade C | with_reducible apply keep_State_redealAll C

theorem keep_State_parityEvent (C : Closed P) : ∀ a0 a1 a2, okS P a0 → okS P (@State.parityEvent a0 a1 a2) := by
  intro a0 a1 a2 h0
  unfold State.parityEvent
  repeat' first | with_reducible assumption | with_reducible apply keep_State_bump C
                | with_reducible apply keep_State_addRecord C

theorem keep_State_parityRepair (C : Closed P) : ∀ a0 a1 a2, okS P a0 → okS P (@State.parityRepair a0 a1 a2) := by
  intro a0 a1 a2 h0
  unfold State.parityRepair
  repeat' first | with_reducible assumption | with_reducible apply keep_State_bump C
                | with_reducible apply keep_State_parityEvent C

theorem keep_State_loseCopy (C : Closed P) : ∀ a0 a1 a2, okS P a0 → okS P (@State.loseCopy a0 a1 a2) := by
  intro a0 a1 a2 h0
  unfold State.loseCopy
  dsimp only
  repeat' first | with_reducible assumption | with_reducible apply ite_okS (P := P)
                | with_reducible apply keep_State_pick C
                | with_reducible refine okP_elim (P := P) (by assumption) ?_ | split | dsimp only [okS]

theorem keep_State_parityLoss (C : Closed P) : ∀ a0 a1 a2, okS P a0 → okS P (@State.parityLoss a0 a1 a2) := by
  intro a0 a1 a2 h0
  unfold State.parityLoss
  dsimp only
  repeat' first | with_reducible assumption | with_reducible apply ite_okS (P := P)
                | with_reducible apply keep_State_setEngine C | with_reducible apply keep_State_quarantine C

theorem keep_State_markTile (C : Closed P) : ∀ a0 a1 a2 a3, okS P a0 → okS P (@State.markTile a0 a1 a2 a3) := by
  intro a0 a1 a2 a3 h0
  unfold State.markTile
  dsimp only
  repeat' first | with_reducible assumption | with_reducible apply keep_State_setDesc C | split

theorem keep_State_tileDone (C : Closed P) : ∀ a0 a1 a2, okS P a0 → okS P (@State.tileDone a0 a1 a2) := by
  intro a0 a1 a2 h0
  unfold State.tileDone
  repeat' first | with_reducible assumption | with_reducible apply keep_State_setDesc C | split

theorem keep_State_settleTicks (C : Closed P) : ∀ a0 a1 a2 a3, okS P a0 → okS P (@State.settleTicks a0 a1 a2 a3) := by
  intro a0 a1 a2 a3 h0
  unfold State.settleTicks
  dsimp only
  repeat' first | with_reducible assumption | with_reducible apply keep_State_setDesc C
                | with_reducible apply keep_State_count C | split

theorem keep_State_noteMismatch (C : Closed P) : ∀ a0 a1 a2, okS P a0 → okS P (@State.noteMismatch a0 a1 a2) := by
  intro a0 a1 a2 h0
  unfold State.noteMismatch
  dsimp only
  repeat' first | with_reducible assumption | with_reducible apply keep_State_safetyRecord C
                | with_reducible apply keep_State_bump C | split

theorem keep_State_secondMismatch (C : Closed P) : ∀ a0 a1 a2, okS P a0 → okS P (@State.secondMismatch a0 a1 a2) := by
  intro a0 a1 a2 h0
  unfold State.secondMismatch
  dsimp only
  repeat' first | with_reducible assumption | with_reducible apply keep_State_doubt C
                | with_reducible apply keep_State_setDesc C | split

theorem keep_State_mismatch (C : Closed P) : ∀ a0 a1 a2, okS P a0 → okS P (@State.mismatch a0 a1 a2) := by
  intro a0 a1 a2 h0
  unfold State.mismatch
  dsimp only
  repeat' first | with_reducible assumption | with_reducible apply ite_okS (P := P)
                | with_reducible apply keep_State_noteMismatch C | with_reducible apply keep_State_settleTicks C
                | with_reducible apply keep_State_setEngine C | with_reducible apply keep_State_secondMismatch C

theorem keep_State_reachA1 (C : Closed P) : ∀ a0 a1, okS P a0 → okS P (@State.reachA1 a0 a1) := by
  intro a0 a1 h0
  unfold State.reachA1
  dsimp only
  repeat' first | with_reducible assumption | with_reducible apply ite_okS (P := P)
                | with_reducible apply keep_State_takeWork C | with_reducible apply keep_State_setEngine C

theorem keep_State_endTile (C : Closed P) : ∀ a0 a1, okS P a0 → okS P (@State.endTile a0 a1) := by
  intro a0 a1 h0
  unfold State.endTile
  repeat' first | with_reducible assumption | with_reducible apply keep_State_serveWork C
                | with_reducible apply keep_State_reachA1 C

theorem keep_State_requestEngine (C : Closed P) : ∀ a0 a1 a2, okS P a0 → okS P (@State.requestEngine a0 a1 a2) := by
  intro a0 a1 a2 h0
  unfold State.requestEngine
  dsimp only
  repeat' first | with_reducible assumption | with_reducible apply ite_okS (P := P)
                | with_reducible apply keep_State_setEngine C | with_reducible apply keep_State_reachA1 C | split

theorem keep_State_writeEngineEnable (C : Closed P) : ∀ a0 a1, okS P a0 → okR P (@State.writeEngineEnable a0 a1) := by
  intro a0 a1 h0
  unfold State.writeEngineEnable
  dsimp only
  repeat' first | with_reducible assumption | with_reducible intro _ | with_reducible apply ite_okR (P := P)
                | with_reducible apply keep_State_requestEngine C | with_reducible apply keep_State_set C
                | with_reducible apply okR_mk | with_reducible exact okR_abort
                | with_reducible apply keep_foldl (P := P)

theorem keep_State_enableDone (C : Closed P) : ∀ a0 a1 a2, okS P a0 → okS P (@State.enableDone a0 a1 a2) := by
  intro a0 a1 a2 h0
  unfold State.enableDone
  dsimp only
  repeat' first | with_reducible assumption | with_reducible apply ite_okS (P := P)
                | with_reducible apply keep_State_dropEnginePads C | with_reducible apply keep_State_setEngine C
                | with_reducible apply keep_State_droneEnter C | with_reducible apply keep_State_settleDegraded C
                | with_reducible apply keep_State_serveAll C | with_reducible apply keep_State_dealWaiting C
                | with_reducible apply keep_State_aim C | with_reducible apply keep_State_quarantine C
                | with_reducible apply keep_State_requestEngine C

theorem keep_State_lostSave (C : Closed P) : ∀ a0 a1 a2 a3, okS P a0 → okS P (@State.lostSave a0 a1 a2 a3) := by
  intro a0 a1 a2 a3 h0
  unfold State.lostSave
  dsimp only
  repeat' first | with_reducible assumption | with_reducible apply ite_okS (P := P)
                | with_reducible apply keep_State_parityEvent C | with_reducible apply keep_State_mismatch C
                | with_reducible apply keep_State_setEngine C | with_reducible apply keep_State_parityLoss C
                | with_reducible apply keep_State_settleTicks C | with_reducible apply keep_State_markTile C
                | with_reducible apply keep_State_tileDone C

theorem keep_State_saveOrLose (C : Closed P) :
    ∀ a0 a1 a2 a3 a4 a5 a6, okS P a0 → okS P (@State.saveOrLose a0 a1 a2 a3 a4 a5 a6) := by
  intro a0 a1 a2 a3 a4 a5 a6 h0
  unfold State.saveOrLose
  repeat' first | with_reducible assumption | with_reducible apply keep_State_lostSave C
                | with_reducible apply keep_State_saveTile C | with_reducible apply keep_State_parityRepair C
                | split

theorem keep_State_reachA2 (C : Closed P) : ∀ a0 a1, okS P a0 → okS P (@State.reachA2 a0 a1) := by
  intro a0 a1 h0
  unfold State.reachA2
  dsimp only
  repeat' first | with_reducible assumption | with_reducible apply ite_okS (P := P)
                | with_reducible apply keep_State_serveWork C | with_reducible apply keep_State_setEngine C

theorem keep_State_disableSaveDone (C : Closed P) :
    ∀ a0 a1 a2 a3, okS P a0 → okS P (@State.disableSaveDone a0 a1 a2 a3) := by
  intro a0 a1 a2 a3 h0
  unfold State.disableSaveDone
  dsimp only
  repeat' first | with_reducible assumption | with_reducible apply ite_okS (P := P)
                | with_reducible apply keep_State_reachA2 C | with_reducible apply keep_State_saveOrLose C | split

theorem keep_State_disableDone (C : Closed P) : ∀ a0 a1, okS P a0 → okS P (@State.disableDone a0 a1) := by
  intro a0 a1 h0
  unfold State.disableDone
  dsimp only
  repeat' first | with_reducible assumption | with_reducible apply ite_okS (P := P)
                | with_reducible apply keep_State_aim C | with_reducible apply keep_State_droneEnter C
                | with_reducible apply keep_State_setEngine C | with_reducible apply keep_State_releaseWindowSlot C
                | with_reducible apply keep_State_dropEnginePads C | with_reducible apply keep_State_serveAll C
                | with_reducible apply keep_State_redealAll C

theorem keep_State_retest (C : Closed P) : ∀ a0 a1, okS P a0 → okS P (@State.retest a0 a1) := by
  intro a0 a1 h0
  unfold State.retest
  dsimp only
  repeat' first | with_reducible assumption | with_reducible intro _ | with_reducible apply ite_okS (P := P)
                | with_reducible apply keep_State_setEngine C | with_reducible apply keep_foldl (P := P)

theorem keep_State_placementWrite (C : Closed P) :
    ∀ a0 a1 a2 a3, okS P a0 → okR P (@State.placementWrite a0 a1 a2 a3) := by
  intro a0 a1 a2 a3 h0
  unfold State.placementWrite
  dsimp only
  repeat' first | with_reducible assumption | with_reducible intro _ | with_reducible apply ite_okR (P := P)
                | with_reducible apply keep_State_writeEngineEnable C | with_reducible apply keep_State_set C
                | with_reducible apply keep_State_retest C | with_reducible apply keep_State_clear C
                | with_reducible apply okR_mk | with_reducible exact okR_abort
                | with_reducible apply keep_foldl (P := P)

theorem keep_State_countDone (C : Closed P) : ∀ a0 a1 a2, okS P a0 → okS P (@State.countDone a0 a1 a2) := by
  intro a0 a1 a2 h0
  unfold State.countDone
  dsimp only
  repeat' first | with_reducible assumption | with_reducible apply keep_State_setEngine C
                | with_reducible apply keep_State_countFree C | with_reducible apply keep_State_count C
                | with_reducible apply keep_State_tileDone C

theorem keep_State_drain (C : Closed P) : ∀ a0 a1 a2, okS P a0 → okS P (@State.drain a0 a1 a2) := by
  intro a0 a1 a2 h0
  unfold State.drain
  dsimp only
  repeat' first | with_reducible assumption | with_reducible apply ite_okS (P := P)
                | with_reducible apply keep_State_parityRepair C | with_reducible apply keep_State_loseCopy C
                | with_reducible apply keep_State_parityEvent C | with_reducible apply keep_State_mismatch C
                | with_reducible apply keep_State_setEngine C | with_reducible apply keep_State_countDone C
                | with_reducible apply keep_State_parityLoss C | with_reducible apply keep_State_settleTicks C
                | with_reducible apply keep_State_markTile C | with_reducible apply keep_State_endTile C | split

theorem keep_State_stopSlot (C : Closed P) : ∀ a0 a1, okS P a0 → okP P (@State.stopSlot a0 a1) := by
  intro a0 a1 h0
  unfold State.stopSlot
  repeat' first | with_reducible assumption | with_reducible apply keep_State_pick C | split

theorem keep_State_pointSave (C : Closed P) : ∀ a0 a1 a2 a3, okS P a0 → okS P (@State.pointSave a0 a1 a2 a3) := by
  intro a0 a1 a2 a3 h0
  unfold State.pointSave
  dsimp only
  repeat' first | with_reducible assumption | with_reducible apply ite_okS (P := P)
                | with_reducible apply keep_State_stopSlot C | with_reducible apply keep_State_saveOrLose C
                | with_reducible apply keep_State_bump C | with_reducible apply keep_State_serveWork C
                | with_reducible refine okP_elim (P := P) (by assumption) ?_ | split

theorem keep_State_chargeRestore (C : Closed P) :
    ∀ a0 a1 a2 a3, okS P a0 → okS P (@State.chargeRestore a0 a1 a2 a3) := by
  intro a0 a1 a2 a3 h0
  unfold State.chargeRestore
  dsimp only
  repeat' first | with_reducible assumption | with_reducible apply keep_State_chargeRangeAs C
                | with_reducible apply keep_State_fresh C | with_reducible apply keep_State_bump C

theorem keep_State_restore (C : Closed P) : ∀ a0 a1 a2, okS P a0 → okS P (@State.restore a0 a1 a2) := by
  intro a0 a1 a2 h0
  unfold State.restore
  dsimp only
  repeat' first | with_reducible assumption | with_reducible apply ite_okS (P := P)
                | with_reducible apply keep_State_setSlot C | with_reducible apply keep_State_chargeRestore C
                | with_reducible apply keep_State_serveAll C | with_reducible apply keep_State_setEngine C | split

theorem keep_execTileDrain (C : Closed P) : ∀ a0 a1 a2, okS P a2 → okOut P (@execTileDrain a0 a1 a2) := by
  intro a0 a1 a2 h2
  unfold execTileDrain
  repeat' first | with_reducible assumption | with_reducible apply keep_State_drain C | with_reducible apply okOut_mk

theorem keep_execPreemptionPointSave (C : Closed P) :
    ∀ a0 a1 a2 a3, okS P a3 → okOut P (@execPreemptionPointSave a0 a1 a2 a3) := by
  intro a0 a1 a2 a3 h3
  unfold execPreemptionPointSave
  repeat' first | with_reducible assumption | with_reducible apply keep_State_pointSave C
                | with_reducible apply okOut_mk

theorem keep_execTileRestore (C : Closed P) : ∀ a0 a1 a2, okS P a2 → okOut P (@execTileRestore a0 a1 a2) := by
  intro a0 a1 a2 h2
  unfold execTileRestore
  repeat' first | with_reducible assumption | with_reducible apply keep_State_restore C
                | with_reducible apply okOut_mk

theorem keep_execEngineEnableDone (C : Closed P) :
    ∀ a0 a1 a2, okS P a2 → okOut P (@execEngineEnableDone a0 a1 a2) := by
  intro a0 a1 a2 h2
  unfold execEngineEnableDone
  repeat' first | with_reducible assumption | with_reducible apply keep_State_enableDone C
                | with_reducible apply okOut_mk

theorem keep_execEngineDisableSaveDone (C : Closed P) :
    ∀ a0 a1, okS P a1 → okOut P (@execEngineDisableSaveDone a0 a1) := by
  intro a0 a1 h1
  unfold execEngineDisableSaveDone
  repeat' first | with_reducible assumption | with_reducible apply keep_State_disableSaveDone C
                | with_reducible apply okOut_mk

theorem keep_execEngineDisableDone (C : Closed P) : ∀ a0 a1, okS P a1 → okOut P (@execEngineDisableDone a0 a1) := by
  intro a0 a1 h1
  unfold execEngineDisableDone
  repeat' first | with_reducible assumption | with_reducible apply keep_State_disableDone C
                | with_reducible apply okOut_mk

theorem keep_State_setTentry (C : Closed P) : ∀ a0 a1 a2, okS P a0 → okS P (@State.setTentry a0 a1 a2) := by
  intro a0 a1 a2 h0
  unfold State.setTentry
  dsimp only
  repeat' first | with_reducible assumption

theorem keep_State_newEntry (C : Closed P) : ∀ a0 a1, okS P a0 → okOP P (@State.newEntry a0 a1) := by
  intro a0 a1 h0
  unfold State.newEntry
  dsimp only
  repeat' first | with_reducible assumption | with_reducible intro _ | with_reducible apply keep_State_setTentry C
                | with_reducible apply okOP_map (P := P)

theorem keep_State_dropPads (C : Closed P) : ∀ a0 a1, okS P a0 → okS P (@State.dropPads a0 a1) := by
  intro a0 a1 h0
  unfold State.dropPads
  dsimp only
  repeat' first | with_reducible assumption

theorem keep_State_writePads (C : Closed P) : ∀ a0 a1 a2 a3, okS P a0 → okS P (@State.writePads a0 a1 a2 a3) := by
  intro a0 a1 a2 a3 h0
  unfold State.writePads
  dsimp only
  repeat' first | with_reducible assumption

theorem keep_State_freeEntry (C : Closed P) : ∀ a0 a1 a2, okS P a0 → okS P (@State.freeEntry a0 a1 a2) := by
  intro a0 a1 a2 h0
  unfold State.freeEntry
  dsimp only
  repeat' first | with_reducible assumption | with_reducible apply ite_okS (P := P)
                | with_reducible apply keep_State_setTentry C | with_reducible apply keep_State_dropPads C
                | with_reducible apply keep_State_freeMem C | with_reducible apply keep_State_deallocate C

theorem keep_State_reapOnce (C : Closed P) : ∀ a0, okS P a0 → okS P (@State.reapOnce a0) := by
  intro a0 h0
  unfold State.reapOnce
  repeat' first | with_reducible assumption | with_reducible intro _ | with_reducible apply ite_okS (P := P)
                | with_reducible apply keep_State_freeEntry C | with_reducible apply keep_foldl (P := P) | split

theorem keep_State_reap (C : Closed P) : ∀ a0, okS P a0 → okS P (@State.reap a0) := by
  intro a0 h0
  unfold State.reap
  repeat' first | with_reducible assumption | with_reducible apply keep_State_reapOnce C

theorem keep_State_setCopy (C : Closed P) : ∀ a0 a1 a2, okS P a0 → okS P (@State.setCopy a0 a1 a2) := by
  intro a0 a1 a2 h0
  unfold State.setCopy
  dsimp only
  repeat' first | with_reducible assumption

theorem keep_State_settleLeaving (C : Closed P) : ∀ a0 a1, okS P a0 → okS P (@State.settleLeaving a0 a1) := by
  intro a0 a1 h0
  unfold State.settleLeaving
  repeat' first | with_reducible assumption | with_reducible apply ite_okS (P := P)
                | with_reducible apply keep_State_setCopy C | split

theorem keep_Work_fail (C : Closed P) : ∀ a0 a1 a2, okW P a0 → okW P (@Work.fail a0 a1 a2) := by
  intro a0 a1 a2 h0
  unfold Work.fail
  repeat' first | with_reducible assumption | with_reducible apply ite_okW (P := P)

theorem keep_Work_failUndef (C : Closed P) : ∀ a0 a1 a2, okW P a0 → okW P (@Work.failUndef a0 a1 a2) := by
  intro a0 a1 a2 h0
  unfold Work.failUndef
  dsimp only
  repeat' first | with_reducible assumption | with_reducible apply keep_Work_fail C

theorem keep_Work_flag (C : Closed P) : ∀ a0 a1, okW P a0 → okW P (@Work.flag a0 a1) := by
  intro a0 a1 h0
  unfold Work.flag
  repeat' first | with_reducible assumption

theorem keep_Work_staged (C : Closed P) : ∀ a0 a1 a2, okW P a0 → okW P (@Work.staged a0 a1 a2) := by
  intro a0 a1 a2 h0
  unfold Work.staged
  repeat' first | with_reducible assumption | with_reducible apply ite_okW (P := P)
                | with_reducible apply keep_State_bump C

theorem keep_Work_readPhys (C : Closed P) : ∀ a0 a1 a2, okW P a0 → okV P (@Work.readPhys a0 a1 a2) := by
  intro a0 a1 a2 h0
  unfold Work.readPhys
  dsimp only
  repeat' first | with_reducible assumption | with_reducible intro _ | with_reducible apply ite_okV (P := P)
                | with_reducible apply keep_State_fresh C | with_reducible apply keep_Work_failUndef C
                | with_reducible apply keep_Work_fail C | with_reducible apply keep_State_noteRefusal C
                | with_reducible apply keep_State_chargeRange C | with_reducible apply keep_State_poison C
                | with_reducible apply keep_foldl (P := P) | split

theorem keep_Work_writePhys (C : Closed P) : ∀ a0 a1 a2, okW P a0 → okW P (@Work.writePhys a0 a1 a2) := by
  intro a0 a1 a2 h0
  unfold Work.writePhys
  dsimp only
  repeat' first | with_reducible assumption | with_reducible apply ite_okW (P := P)
                | with_reducible apply keep_State_windowWrite C | with_reducible apply keep_Work_failUndef C
                | with_reducible apply keep_State_store C | with_reducible apply keep_Work_fail C | split

theorem keep_Work_readPieces (C : Closed P) : ∀ a0 a1, okW P a0 → okV P (@Work.readPieces a0 a1) := by
  intro w ps h
  induction ps generalizing w with
  | nil => exact h
  | cons p ps ih =>
    obtain ⟨a | a, n⟩ := p
    · exact ih _ (keep_Work_failUndef C _ _ _ h)
    · exact ih _ (keep_Work_readPhys C _ _ _ h)

theorem keep_Work_writePieces (C : Closed P) : ∀ a0 a1 a2, okW P a0 → okW P (@Work.writePieces a0 a1 a2) := by
  intro w ps bs h
  induction ps generalizing w bs with
  | nil => exact h
  | cons p ps ih =>
    obtain ⟨a | a, n⟩ := p
    · exact ih _ _ (keep_Work_fail C _ _ _ h)
    · exact ih _ _ (keep_Work_writePhys C _ _ _ h)

theorem keep_Work_writeHome (C : Closed P) : ∀ a0 a1 a2 a3 a4, okW P a0 → okW P (@Work.writeHome a0 a1 a2 a3 a4) := by
  intro a0 a1 a2 a3 a4 h0
  unfold Work.writeHome
  repeat' first | with_reducible assumption | with_reducible apply ite_okW (P := P)
                | with_reducible apply keep_Work_writePieces C | with_reducible apply keep_State_sendWrites C
                | with_reducible apply keep_Work_failUndef C | split

theorem keep_Work_readHome (C : Closed P) : ∀ a0 a1 a2 a3, okW P a0 → okV P (@Work.readHome a0 a1 a2 a3) := by
  intro a0 a1 a2 a3 h0
  unfold Work.readHome
  repeat' first | with_reducible assumption | with_reducible apply ite_okV (P := P)
                | with_reducible apply keep_Work_readPieces C | split

theorem keep_Work_writeBack (C : Closed P) : ∀ a0 a1 a2 a3, okW P a0 → okW P (@Work.writeBack a0 a1 a2 a3) := by
  intro a0 a1 a2 a3 h0
  unfold Work.writeBack
  dsimp only
  repeat' first | with_reducible assumption | with_reducible apply keep_Work_writeHome C
                | with_reducible apply keep_State_bump C

theorem keep_Work_evict (C : Closed P) : ∀ a0 a1 a2, okW P a0 → okW P (@Work.evict a0 a1 a2) := by
  intro a0 a1 a2 h0
  unfold Work.evict
  dsimp only
  repeat' first | with_reducible assumption | with_reducible apply ite_okW (P := P)
                | with_reducible apply keep_State_bump C | with_reducible apply keep_Work_writeBack C
                | with_reducible apply keep_State_setCopy C

theorem keep_Work_makeRoom (C : Closed P) : ∀ a0 a1 a2 a3 a4, okW P a0 → okV P (@Work.makeRoom a0 a1 a2 a3 a4) := by
  intro w sl n ok fuel h
  induction fuel generalizing w with
  | zero => exact h
  | succ k ih =>
    unfold Work.makeRoom
    split
    · exact h
    · split
      · exact h
      · exact ih _ (keep_Work_evict C _ _ _ h)

theorem keep_Work_seraiPlace (C : Closed P) : ∀ a0 a1 a2, okW P a0 → okV P (@Work.seraiPlace a0 a1 a2) := by
  intro a0 a1 a2 h0
  unfold Work.seraiPlace
  dsimp only
  repeat' first | with_reducible assumption | with_reducible apply ite_okV (P := P)
                | with_reducible apply keep_Work_makeRoom C | with_reducible apply keep_Work_readHome C
                | with_reducible apply keep_State_setCopy C | split

theorem keep_Work_touch (C : Closed P) : ∀ a0 a1, okW P a0 → okW P (@Work.touch a0 a1) := by
  intro a0 a1 h0
  unfold Work.touch
  dsimp only
  repeat' first | with_reducible assumption | with_reducible apply keep_State_setCopy C | split

theorem keep_Work_read (C : Closed P) : ∀ a0 a1 a2 a3, okW P a0 → okV P (@Work.read a0 a1 a2 a3) := by
  intro a0 a1 a2 a3 h0
  unfold Work.read
  dsimp only
  repeat' first | with_reducible assumption | with_reducible apply keep_Work_readPieces C
                | with_reducible apply keep_Work_staged C | with_reducible apply keep_Work_touch C
                | with_reducible apply keep_Work_readHome C | split

theorem keep_Work_write (C : Closed P) : ∀ a0 a1 a2 a3 a4, okW P a0 → okW P (@Work.write a0 a1 a2 a3 a4) := by
  intro a0 a1 a2 a3 a4 h0
  unfold Work.write
  dsimp only
  repeat' first | with_reducible assumption | with_reducible apply ite_okV (P := P)
                | with_reducible apply keep_Work_seraiPlace C | with_reducible apply keep_State_writePads C
                | with_reducible apply keep_State_setCopy C | with_reducible apply keep_Work_writeHome C | split

theorem keep_Work_dropCopy (C : Closed P) : ∀ a0 a1, okW P a0 → okW P (@Work.dropCopy a0 a1) := by
  intro a0 a1 h0
  unfold Work.dropCopy
  repeat' first | with_reducible assumption | with_reducible apply keep_State_dropPads C
                | with_reducible apply keep_State_setCopy C | split

theorem keep_Work_flush (C : Closed P) : ∀ a0 a1, okW P a0 → okW P (@Work.flush a0 a1) := by
  intro a0 a1 h0
  unfold Work.flush
  dsimp only
  repeat' first | with_reducible assumption | with_reducible apply ite_okW (P := P)
                | with_reducible apply keep_Work_writeBack C | with_reducible apply keep_State_setCopy C | split

theorem keep_Work_freeBytes (C : Closed P) : ∀ a0 a1, okW P a0 → okV P (@Work.freeBytes a0 a1) := by
  intro a0 a1 h0
  unfold Work.freeBytes
  dsimp only
  repeat' first | with_reducible assumption

theorem keep_Work_freeVal (C : Closed P) : ∀ a0 a1, okW P a0 → okV P (@Work.freeVal a0 a1) := by
  intro a0 a1 h0
  unfold Work.freeVal
  dsimp only
  repeat' first | with_reducible assumption

theorem keep_Work_output (C : Closed P) : ∀ a0 a1 a2 a3 a4, okW P a0 → okW P (@Work.output a0 a1 a2 a3 a4) := by
  intro a0 a1 a2 a3 a4 h0
  unfold Work.output
  dsimp only
  repeat' first | with_reducible assumption | with_reducible apply ite_okW (P := P)
                | with_reducible apply keep_Work_freeBytes C | with_reducible apply keep_Work_write C

theorem keep_Work_readCodes (C : Closed P) : ∀ a0 a1 a2 a3 a4, okW P a0 → okV P (@Work.readCodes a0 a1 a2 a3 a4) := by
  intro a0 a1 a2 a3 a4 h0
  unfold Work.readCodes
  dsimp only
  repeat' first | with_reducible assumption | with_reducible apply keep_Work_read C

theorem keep_Work_readElems (C : Closed P) :
    ∀ a0 a1 a2 a3 a4 a5 a6 a7, okW P a0 → okV P (@Work.readElems a0 a1 a2 a3 a4 a5 a6 a7) := by
  intro a0 a1 a2 a3 a4 a5 a6 a7 h0
  unfold Work.readElems
  dsimp only
  repeat' first | with_reducible assumption | with_reducible apply ite_okV (P := P)
                | with_reducible apply keep_Work_readCodes C | with_reducible apply keep_Work_read C

theorem keep_Work_writeCodes (C : Closed P) :
    ∀ a0 a1 a2 a3 a4 a5 a6, okW P a0 → okW P (@Work.writeCodes a0 a1 a2 a3 a4 a5 a6) := by
  intro a0 a1 a2 a3 a4 a5 a6 h0
  unfold Work.writeCodes
  dsimp only
  repeat' first | with_reducible assumption | with_reducible apply ite_okW (P := P)
                | with_reducible apply keep_Work_write C

theorem keep_Work_writeElems (C : Closed P) :
    ∀ a0 a1 a2 a3 a4 a5 a6 a7 a8 a9, okW P a0 → okW P (@Work.writeElems a0 a1 a2 a3 a4 a5 a6 a7 a8 a9) := by
  intro a0 a1 a2 a3 a4 a5 a6 a7 a8 a9 h0
  unfold Work.writeElems
  dsimp only
  repeat' first | with_reducible assumption | with_reducible apply ite_okW (P := P)
                | with_reducible apply keep_Work_flag C | with_reducible apply keep_Work_writeCodes C
                | with_reducible apply keep_Work_output C

theorem keep_State_noteWork (C : Closed P) : ∀ a0 a1, okS P a0 → okS P (@State.noteWork a0 a1) := by
  intro a0 a1 h0
  unfold State.noteWork
  dsimp only
  repeat' first | with_reducible assumption | with_reducible apply keep_State_setQueue C

theorem keep_State_haltQueue (C : Closed P) : ∀ a0 a1 a2 a3, okS P a0 → okS P (@State.haltQueue a0 a1 a2 a3) := by
  intro a0 a1 a2 a3 h0
  unfold State.haltQueue
  dsimp only
  repeat' first | with_reducible assumption | with_reducible apply ite_okS (P := P)
                | with_reducible apply keep_State_setQueue C | with_reducible apply keep_State_postEvent C | split

theorem keep_State_finish (C : Closed P) :
    ∀ a0 a1 a2 a3 a4 a5, okS P a0 → okS P (@State.finish a0 a1 a2 a3 a4 a5) := by
  intro a0 a1 a2 a3 a4 a5 h0
  unfold State.finish
  dsimp only
  repeat' first | with_reducible assumption | with_reducible apply ite_okS (P := P)
                | with_reducible apply keep_State_setDesc C | with_reducible apply keep_State_noteWork C
                | with_reducible apply keep_State_haltQueue C | split

theorem keep_State_slotLost (C : Closed P) : ∀ a0 a1 a2, okS P a0 → okS P (@State.slotLost a0 a1 a2) := by
  intro a0 a1 a2 h0
  unfold State.slotLost
  dsimp only
  repeat' first | with_reducible assumption | with_reducible apply keep_State_fresh C
                | with_reducible apply keep_State_haltQueue C

theorem keep_State_recordLost (C : Closed P) : ∀ a0 a1 a2, okS P a0 → okS P (@State.recordLost a0 a1 a2) := by
  intro a0 a1 a2 h0
  unfold State.recordLost
  dsimp only
  repeat' first | with_reducible assumption | with_reducible apply keep_State_haltQueue C
                | with_reducible apply keep_State_postEvent C | split

theorem keep_State_fetchInputs (C : Closed P) : ∀ a0 a1 a2 a3, okS P a0 → okO P (@State.fetchInputs a0 a1 a2 a3) := by
  intro a0 a1 a2 a3 h0
  unfold State.fetchInputs
  dsimp only
  repeat' first | with_reducible assumption | with_reducible apply ite_okO (P := P)
                | with_reducible apply keep_State_pumpBulk C | with_reducible apply okO_mk
                | with_reducible exact okO_none

theorem keep_State_startWork (C : Closed P) : ∀ a0 a1 a2 a3, okS P a0 → okW P (@State.startWork a0 a1 a2 a3) := by
  intro a0 a1 a2 a3 h0
  unfold State.startWork
  repeat' first | with_reducible assumption

theorem keep_State_noteWait (C : Closed P) : ∀ a0 a1 a2, okS P a0 → okS P (@State.noteWait a0 a1 a2) := by
  intro a0 a1 a2 h0
  unfold State.noteWait
  repeat' first | with_reducible assumption | with_reducible apply ite_okS (P := P)
                | with_reducible apply keep_State_noteHeld C

theorem keep_State_runDesc (C : Closed P) :
    ∀ a0 a1 a2 a3 a4, okS P a0 → (∀ x0 x1, okW P x0 → okW P (a4 x0 x1)) → okS P (@State.runDesc a0 a1 a2 a3 a4) := by
  intro a0 a1 a2 a3 a4 h0 h4
  unfold State.runDesc
  dsimp only
  repeat' first | with_reducible assumption | with_reducible apply h4 | with_reducible apply keep_State_noteWait C
                | with_reducible apply keep_State_startWork C | with_reducible apply keep_State_finish C | split

theorem keep_State_beginDirect (C : Closed P) :
    ∀ a0 a1 a2 a3, okS P a0 → okOP P (@State.beginDirect a0 a1 a2 a3) := by
  intro a0 a1 a2 a3 h0
  unfold State.beginDirect
  repeat' first | with_reducible assumption | with_reducible apply ite_okOP (P := P)
                | with_reducible apply keep_State_setDesc C | with_reducible apply okOP_mk
                | with_reducible exact okOP_none | split

theorem keep_State_runDirect (C : Closed P) :
    ∀ a0 a1 a2 a3 a4, okS P a0 → (∀ x0 x1, okW P x0 → okW P (a4 x0 x1)) → okS P (@State.runDirect a0 a1 a2 a3 a4) := by
  intro a0 a1 a2 a3 a4 h0 h4
  unfold State.runDirect
  dsimp only
  repeat' first | with_reducible assumption | with_reducible apply h4
                | with_reducible apply keep_State_beginDirect C | with_reducible apply keep_State_noteWait C
                | with_reducible apply keep_State_startWork C | with_reducible apply keep_State_finish C
                | with_reducible refine okOP_elim (P := P) (by assumption) ?_ | split

theorem keep_State_readyDirect (C : Closed P) : ∀ a0 a1 a2 a3, okS P a0 → okP P (@State.readyDirect a0 a1 a2 a3) := by
  intro a0 a1 a2 a3 h0
  unfold State.readyDirect
  dsimp only
  repeat' first | with_reducible assumption | with_reducible apply keep_State_beginDirect C
                | with_reducible apply keep_State_noteWait C | with_reducible apply keep_State_fetchInputs C
                | with_reducible apply keep_State_finish C
                | with_reducible refine okO_elim (P := P) (by assumption) ?_
                | with_reducible refine okOP_elim (P := P) (by assumption) ?_ | split

theorem keep_Work_groupM (C : Closed P) :
    ∀ a0 a1 a2 a3 a4 a5, okW P a1 → (∀ x0, okW P x0 → okV P (a5 x0)) → okV P (@Work.groupM a0 a1 a2 a3 a4 a5) := by
  intro a0 a1 a2 a3 a4 a5 h1 h5
  unfold Work.groupM
  dsimp only
  repeat' first | with_reducible assumption | with_reducible apply ite_okV (P := P) | with_reducible apply h5

theorem keep_Work_group (C : Closed P) :
    ∀ a0 a1 a2 a3, okW P a0 → (∀ x0, okW P x0 → okW P (a3 x0)) → okW P (@Work.group a0 a1 a2 a3) := by
  intro a0 a1 a2 a3 h0 h3
  unfold Work.group
  repeat' first | with_reducible assumption | with_reducible apply keep_Work_groupM C

theorem keep_Work_tiles (C : Closed P) :
    ∀ a0 a1 a2, okW P a0 → (∀ x0 x1, okW P x0 → okW P (a2 x0 x1)) → okW P (@Work.tiles a0 a1 a2) := by
  intro a0 a1 a2 h0 h2
  unfold Work.tiles
  repeat' first | with_reducible assumption | with_reducible intro _ | with_reducible apply h2
                | with_reducible apply keep_Work_group C | with_reducible apply keep_foldlW (P := P)

theorem keep_Work_settleState (C : Closed P) : ∀ a0 a1, okW P a0 → okW P (@Work.settleState a0 a1) := by
  intro a0 a1 h0
  unfold Work.settleState
  repeat' first | with_reducible assumption | with_reducible apply ite_okW (P := P)
                | with_reducible apply keep_Work_flush C

end Sys2Proof.Machine
end

