-- ==== Sys2Proof/Laws/KeepsCompute.lean ====
section
/-! SUPPORT. The frame library, continued: what the engines and the cache keep. -/

set_option linter.unusedVariables false

namespace Sys2Proof.Machine

open Sys2Proof

variable {P : KProp} {α β γ : Type}

theorem keep_Work_mapM (C : Closed P) :
    ∀ a0 a1 a2 a3 a4, okW P a2 → (∀ x0 x1, okW P x0 → okV P (a3 x0 x1)) → okV P (@Work.mapM a0 a1 a2 a3 a4) := by
  intro a0 a1 a2 a3 a4
  induction a4 generalizing a2 with
  | nil =>
    intro h2 h3
    exact h2
  | cons x l ih =>
    intro h2 h3
    unfold Work.mapM
    try dsimp only
    repeat' first | with_reducible assumption | with_reducible apply ih | with_reducible apply h3

theorem keep_Work_bColumns (C : Closed P) : ∀ a0 a1 a2 a3 a4, okW P a0 → okV P (@Work.bColumns a0 a1 a2 a3 a4) := by
  intro a0 a1 a2 a3 a4 h0
  unfold Work.bColumns
  dsimp only
  repeat' first | with_reducible assumption | with_reducible intro _ | with_reducible apply ite_okV (P := P)
                | with_reducible apply keep_Work_mapM C | with_reducible apply keep_Work_readElems C
                | with_reducible apply keep_Work_readCodes C | with_reducible apply keep_Work_read C

theorem keep_Work_arrival (C : Closed P) : ∀ a0 a1 a2, okW P a0 → okV P (@Work.arrival a0 a1 a2) := by
  intro w pair l h
  induction l generalizing w with
  | nil => exact h
  | cons a l ih =>
    cases l with
    | nil => exact h
    | cons b l =>
      unfold Work.arrival
      split
      · exact h
      · exact ih _ (keep_Work_freeVal C _ _ h)

theorem keep_Work_gemmTile (C : Closed P) :
    ∀ a0 a1 a2 a3 a4 a5 a6 a7 a8, okW P a0 → okW P (@Work.gemmTile a0 a1 a2 a3 a4 a5 a6 a7 a8) := by
  intro a0 a1 a2 a3 a4 a5 a6 a7 a8 h0
  unfold Work.gemmTile
  dsimp only
  repeat' first | with_reducible assumption | with_reducible intro _ | with_reducible apply ite_okV (P := P)
                | with_reducible apply keep_Work_bColumns C | with_reducible apply keep_Work_readElems C
                | with_reducible apply keep_Work_arrival C | with_reducible apply keep_Work_writeElems C
                | with_reducible apply keep_foldlW (P := P)

theorem keep_Work_gemm (C : Closed P) : ∀ a0 a1 a2, okW P a0 → okW P (@Work.gemm a0 a1 a2) := by
  intro a0 a1 a2 h0
  unfold Work.gemm
  dsimp only
  repeat' first | with_reducible assumption | with_reducible intro _ | with_reducible apply keep_Work_group C
                | with_reducible apply keep_Work_gemmTile C | with_reducible apply keep_Work_settleState C
                | with_reducible apply keep_foldlW (P := P)

theorem keep_execGemm (C : Closed P) : ∀ a0 a1 a2, okS P a2 → okOut P (@execGemm a0 a1 a2) := by
  intro a0 a1 a2 h2
  unfold execGemm
  repeat' first | with_reducible assumption | with_reducible intro _ | with_reducible apply keep_State_runDesc C
                | with_reducible apply keep_Work_gemm C | with_reducible apply okOut_mk

theorem keep_execGemmBatched (C : Closed P) : ∀ a0 a1 a2, okS P a2 → okOut P (@execGemmBatched a0 a1 a2) := by
  intro a0 a1 a2 h2
  unfold execGemmBatched
  repeat' first | with_reducible assumption | with_reducible intro _ | with_reducible apply keep_State_runDesc C
                | with_reducible apply keep_Work_gemm C | with_reducible apply okOut_mk

theorem keep_execGemmAcc (C : Closed P) : ∀ a0 a1 a2, okS P a2 → okOut P (@execGemmAcc a0 a1 a2) := by
  intro a0 a1 a2 h2
  unfold execGemmAcc
  repeat' first | with_reducible assumption | with_reducible intro _ | with_reducible apply keep_State_runDesc C
                | with_reducible apply keep_Work_gemm C | with_reducible apply okOut_mk

theorem keep_Work_xRow (C : Closed P) : ∀ a0 a1 a2, okW P a0 → okV P (@Work.xRow a0 a1 a2) := by
  intro a0 a1 a2 h0
  unfold Work.xRow
  repeat' first | with_reducible assumption | with_reducible apply keep_Work_readElems C

theorem keep_Work_yRow (C : Closed P) : ∀ a0 a1 a2, okW P a0 → okV P (@Work.yRow a0 a1 a2) := by
  intro a0 a1 a2 h0
  unfold Work.yRow
  dsimp only
  repeat' first | with_reducible assumption | with_reducible apply ite_okV (P := P)
                | with_reducible apply keep_Work_readElems C

theorem keep_Work_zRow (C : Closed P) : ∀ a0 a1 a2 a3 a4, okW P a0 → okW P (@Work.zRow a0 a1 a2 a3 a4) := by
  intro a0 a1 a2 a3 a4 h0
  unfold Work.zRow
  repeat' first | with_reducible assumption | with_reducible apply keep_Work_writeElems C

theorem keep_Work_elementwiseRow (C : Closed P) :
    ∀ a0 a1 a2 a3, okW P a0 → okW P (@Work.elementwiseRow a0 a1 a2 a3) := by
  intro a0 a1 a2 a3 h0
  unfold Work.elementwiseRow
  dsimp only
  repeat' first | with_reducible assumption | with_reducible apply ite_okV (P := P)
                | with_reducible apply keep_Work_xRow C | with_reducible apply keep_Work_yRow C
                | with_reducible apply keep_Work_zRow C

theorem keep_Work_normaliseRow (C : Closed P) : ∀ a0 a1 a2 a3, okW P a0 → okW P (@Work.normaliseRow a0 a1 a2 a3) := by
  intro a0 a1 a2 a3 h0
  unfold Work.normaliseRow
  dsimp only
  repeat' first | with_reducible assumption | with_reducible apply ite_okV (P := P)
                | with_reducible apply keep_Work_xRow C | with_reducible apply keep_Work_readElems C
                | with_reducible apply keep_Work_zRow C

theorem keep_Work_softmaxRow (C : Closed P) : ∀ a0 a1 a2 a3, okW P a0 → okW P (@Work.softmaxRow a0 a1 a2 a3) := by
  intro a0 a1 a2 a3 h0
  unfold Work.softmaxRow
  dsimp only
  repeat' first | with_reducible assumption | with_reducible apply keep_Work_xRow C
                | with_reducible apply keep_Work_zRow C

theorem keep_Work_convertRow (C : Closed P) : ∀ a0 a1 a2 a3, okW P a0 → okW P (@Work.convertRow a0 a1 a2 a3) := by
  intro a0 a1 a2 a3 h0
  unfold Work.convertRow
  dsimp only
  repeat' first | with_reducible assumption | with_reducible apply keep_Work_xRow C
                | with_reducible apply keep_Work_zRow C

theorem keep_Work_topkRow (C : Closed P) : ∀ a0 a1 a2 a3, okW P a0 → okW P (@Work.topkRow a0 a1 a2 a3) := by
  intro a0 a1 a2 a3 h0
  unfold Work.topkRow
  dsimp only
  repeat' first | with_reducible assumption | with_reducible apply keep_Work_xRow C
                | with_reducible apply keep_Work_writeElems C | with_reducible apply keep_Work_writeCodes C
                | with_reducible apply keep_Work_output C

theorem keep_Work_gatherRow (C : Closed P) : ∀ a0 a1 a2 a3, okW P a0 → okW P (@Work.gatherRow a0 a1 a2 a3) := by
  intro a0 a1 a2 a3 h0
  unfold Work.gatherRow
  dsimp only
  repeat' first | with_reducible assumption | with_reducible apply ite_okW (P := P)
                | with_reducible apply keep_Work_read C | with_reducible apply keep_Work_readElems C
                | with_reducible apply keep_Work_zRow C | with_reducible apply keep_Work_fail C

theorem keep_Work_reduceAll (C : Closed P) : ∀ a0 a1 a2, okW P a0 → okW P (@Work.reduceAll a0 a1 a2) := by
  intro a0 a1 a2 h0
  unfold Work.reduceAll
  dsimp only
  repeat' first | with_reducible assumption | with_reducible intro _ | with_reducible apply ite_okW (P := P)
                | with_reducible apply ite_okV (P := P) | with_reducible apply keep_Work_mapM C
                | with_reducible apply keep_Work_xRow C | with_reducible apply keep_Work_writeElems C
                | with_reducible apply keep_Work_tiles C

theorem keep_Work_rowWise (C : Closed P) :
    ∀ a0 a1 a2 a3, okW P a0 → (∀ x0 x1 x2 x3, okW P x0 → okW P (a3 x0 x1 x2 x3)) → okW P (@Work.rowWise a0 a1 a2 a3) := by
  intro a0 a1 a2 a3 h0 h3
  unfold Work.rowWise
  dsimp only
  repeat' first | with_reducible assumption | with_reducible intro _ | with_reducible apply ite_okW (P := P)
                | with_reducible apply h3 | with_reducible apply keep_Work_tiles C
                | with_reducible apply keep_Work_settleState C | with_reducible apply keep_foldlW (P := P)

theorem keep_execElementwise (C : Closed P) : ∀ a0 a1 a2, okS P a2 → okOut P (@execElementwise a0 a1 a2) := by
  intro a0 a1 a2 h2
  unfold execElementwise
  repeat' first | with_reducible assumption | with_reducible intro _ | with_reducible apply keep_State_runDesc C
                | with_reducible apply keep_Work_rowWise C | with_reducible apply keep_Work_elementwiseRow C
                | with_reducible apply okOut_mk

theorem keep_execReduce (C : Closed P) : ∀ a0 a1 a2, okS P a2 → okOut P (@execReduce a0 a1 a2) := by
  intro a0 a1 a2 h2
  unfold execReduce
  dsimp only
  repeat' first | with_reducible assumption | with_reducible intro _ | with_reducible apply ite_okW (P := P)
                | with_reducible apply keep_State_runDesc C | with_reducible apply keep_Work_settleState C
                | with_reducible apply keep_Work_reduceAll C | with_reducible apply okOut_mk

theorem keep_execNormalise (C : Closed P) : ∀ a0 a1 a2, okS P a2 → okOut P (@execNormalise a0 a1 a2) := by
  intro a0 a1 a2 h2
  unfold execNormalise
  repeat' first | with_reducible assumption | with_reducible intro _ | with_reducible apply keep_State_runDesc C
                | with_reducible apply keep_Work_rowWise C | with_reducible apply keep_Work_normaliseRow C
                | with_reducible apply okOut_mk

theorem keep_execConvert (C : Closed P) : ∀ a0 a1 a2, okS P a2 → okOut P (@execConvert a0 a1 a2) := by
  intro a0 a1 a2 h2
  unfold execConvert
  repeat' first | with_reducible assumption | with_reducible intro _ | with_reducible apply keep_State_runDesc C
                | with_reducible apply keep_Work_rowWise C | with_reducible apply keep_Work_convertRow C
                | with_reducible apply okOut_mk

theorem keep_execSoftmax (C : Closed P) : ∀ a0 a1 a2, okS P a2 → okOut P (@execSoftmax a0 a1 a2) := by
  intro a0 a1 a2 h2
  unfold execSoftmax
  repeat' first | with_reducible assumption | with_reducible intro _ | with_reducible apply keep_State_runDesc C
                | with_reducible apply keep_Work_rowWise C | with_reducible apply keep_Work_softmaxRow C
                | with_reducible apply okOut_mk

theorem keep_execTopk (C : Closed P) : ∀ a0 a1 a2, okS P a2 → okOut P (@execTopk a0 a1 a2) := by
  intro a0 a1 a2 h2
  unfold execTopk
  repeat' first | with_reducible assumption | with_reducible intro _ | with_reducible apply keep_State_runDesc C
                | with_reducible apply keep_Work_rowWise C | with_reducible apply keep_Work_topkRow C
                | with_reducible apply okOut_mk

theorem keep_execGather (C : Closed P) : ∀ a0 a1 a2, okS P a2 → okOut P (@execGather a0 a1 a2) := by
  intro a0 a1 a2 h2
  unfold execGather
  repeat' first | with_reducible assumption | with_reducible intro _ | with_reducible apply keep_State_runDesc C
                | with_reducible apply keep_Work_rowWise C | with_reducible apply keep_Work_gatherRow C
                | with_reducible apply okOut_mk

theorem keep_Work_openDst (C : Closed P) : ∀ a0 a1, okW P a0 → okW P (@Work.openDst a0 a1) := by
  intro a0 a1 h0
  unfold Work.openDst
  repeat' first | with_reducible assumption | with_reducible apply ite_okW (P := P)
                | with_reducible apply keep_Work_dropCopy C

theorem keep_Work_copy (C : Closed P) : ∀ a0 a1, okW P a0 → okW P (@Work.copy a0 a1) := by
  intro a0 a1 h0
  unfold Work.copy
  dsimp only
  repeat' first | with_reducible assumption | with_reducible intro _ | with_reducible apply keep_Work_tiles C
                | with_reducible apply keep_Work_openDst C | with_reducible apply keep_Work_read C
                | with_reducible apply keep_Work_output C | with_reducible apply keep_Work_settleState C
                | with_reducible apply keep_foldlW (P := P)

theorem keep_Work_fill (C : Closed P) : ∀ a0 a1, okW P a0 → okW P (@Work.fill a0 a1) := by
  intro a0 a1 h0
  unfold Work.fill
  dsimp only
  repeat' first | with_reducible assumption | with_reducible intro _ | with_reducible apply keep_Work_tiles C
                | with_reducible apply keep_Work_openDst C | with_reducible apply keep_Work_output C
                | with_reducible apply keep_Work_settleState C | with_reducible apply keep_foldlW (P := P)

theorem keep_Work_transpose (C : Closed P) : ∀ a0 a1, okW P a0 → okW P (@Work.transpose a0 a1) := by
  intro a0 a1 h0
  unfold Work.transpose
  dsimp only
  repeat' first | with_reducible assumption | with_reducible intro _ | with_reducible apply keep_Work_tiles C
                | with_reducible apply keep_Work_openDst C | with_reducible apply keep_Work_mapM C
                | with_reducible apply keep_Work_read C | with_reducible apply keep_Work_output C
                | with_reducible apply keep_Work_settleState C | with_reducible apply keep_foldlW (P := P)

theorem keep_Work_padRoom (C : Closed P) : ∀ a0 a1 a2 a3, okW P a0 → okV P (@Work.padRoom a0 a1 a2 a3) := by
  intro a0 a1 a2 a3 h0
  unfold Work.padRoom
  dsimp only
  repeat' first | with_reducible assumption | with_reducible apply ite_okV (P := P)

theorem keep_Work_bring (C : Closed P) : ∀ a0 a1 a2 a3, okW P a0 → okW P (@Work.bring a0 a1 a2 a3) := by
  intro a0 a1 a2 a3 h0
  unfold Work.bring
  dsimp only
  repeat' first | with_reducible assumption | with_reducible apply ite_okW (P := P)
                | with_reducible apply keep_Work_seraiPlace C | with_reducible apply keep_Work_padRoom C
                | with_reducible apply keep_Work_staged C | with_reducible apply keep_Work_touch C
                | with_reducible apply keep_Work_readHome C | split

theorem keep_Work_prefetch (C : Closed P) : ∀ a0 a1, okW P a0 → okW P (@Work.prefetch a0 a1) := by
  intro a0 a1 h0
  unfold Work.prefetch
  dsimp only
  repeat' first | with_reducible assumption | with_reducible apply keep_Work_bring C
                | with_reducible apply keep_State_bump C | split

theorem keep_Work_exportOut (C : Closed P) : ∀ a0 a1, okW P a0 → okW P (@Work.exportOut a0 a1) := by
  intro a0 a1 h0
  unfold Work.exportOut
  dsimp only
  repeat' first | with_reducible assumption | with_reducible apply ite_okW (P := P)
                | with_reducible apply keep_Work_flush C | with_reducible apply keep_State_settleLeaving C
                | with_reducible apply keep_State_dropPads C | with_reducible apply keep_State_setCopy C
                | with_reducible apply keep_Work_dropCopy C | split

theorem keep_execCopy (C : Closed P) : ∀ a0 a1 a2, okS P a2 → okOut P (@execCopy a0 a1 a2) := by
  intro a0 a1 a2 h2
  unfold execCopy
  repeat' first | with_reducible assumption | with_reducible intro _ | with_reducible apply keep_State_runDesc C
                | with_reducible apply keep_Work_copy C | with_reducible apply okOut_mk

theorem keep_execFill (C : Closed P) : ∀ a0 a1 a2, okS P a2 → okOut P (@execFill a0 a1 a2) := by
  intro a0 a1 a2 h2
  unfold execFill
  repeat' first | with_reducible assumption | with_reducible intro _ | with_reducible apply keep_State_runDesc C
                | with_reducible apply keep_Work_fill C | with_reducible apply okOut_mk

theorem keep_execTranspose (C : Closed P) : ∀ a0 a1 a2, okS P a2 → okOut P (@execTranspose a0 a1 a2) := by
  intro a0 a1 a2 h2
  unfold execTranspose
  repeat' first | with_reducible assumption | with_reducible intro _ | with_reducible apply keep_State_runDesc C
                | with_reducible apply keep_Work_transpose C | with_reducible apply okOut_mk

theorem keep_execPrefetchTensor (C : Closed P) : ∀ a0 a1 a2, okS P a2 → okOut P (@execPrefetchTensor a0 a1 a2) := by
  intro a0 a1 a2 h2
  unfold execPrefetchTensor
  repeat' first | with_reducible assumption | with_reducible intro _ | with_reducible apply keep_State_runDesc C
                | with_reducible apply keep_Work_prefetch C | with_reducible apply okOut_mk

theorem keep_execExportTensor (C : Closed P) : ∀ a0 a1 a2, okS P a2 → okOut P (@execExportTensor a0 a1 a2) := by
  intro a0 a1 a2 h2
  unfold execExportTensor
  repeat' first | with_reducible assumption | with_reducible intro _ | with_reducible apply keep_State_runDesc C
                | with_reducible apply keep_Work_exportOut C | with_reducible apply okOut_mk

theorem keep_State_setBase (C : Closed P) : ∀ a0 a1 a2, okS P a0 → okS P (@State.setBase a0 a1 a2) := by
  intro a0 a1 a2 h0
  unfold State.setBase
  dsimp only
  repeat' first | with_reducible assumption

theorem keep_State_stepBase (C : Closed P) : ∀ a0 a1 a2, okS P a0 → okS P (@State.stepBase a0 a1 a2) := by
  intro a0 a1 a2 h0
  unfold State.stepBase
  dsimp only
  repeat' first | with_reducible assumption | with_reducible apply keep_State_setBase C
                | with_reducible apply keep_State_set C | with_reducible apply keep_State_addRecord C

theorem keep_State_tickBase (C : Closed P) : ∀ a0 a1, okS P a0 → okS P (@State.tickBase a0 a1) := by
  intro a0 a1 h0
  unfold State.tickBase
  dsimp only
  repeat' first | with_reducible assumption | with_reducible apply keep_State_set C
                | with_reducible apply keep_State_setBase C | with_reducible apply keep_State_stepBase C | split

theorem keep_State_tickBases (C : Closed P) : ∀ a0, okS P a0 → okS P (@State.tickBases a0) := by
  intro a0 h0
  unfold State.tickBases
  repeat' first | with_reducible assumption | with_reducible intro _ | with_reducible apply keep_State_tickBase C
                | with_reducible apply keep_foldl (P := P)

theorem keep_State_writeMode (C : Closed P) : ∀ a0 a1 a2, okS P a0 → okS P (@State.writeMode a0 a1 a2) := by
  intro a0 a1 a2 h0
  unfold State.writeMode
  dsimp only
  repeat' first | with_reducible assumption | with_reducible apply ite_okS (P := P)
                | with_reducible apply keep_State_set C | with_reducible apply keep_State_setBase C

theorem keep_State_timeWrite (C : Closed P) : ∀ a0 a1 a2 a3, okS P a0 → okR P (@State.timeWrite a0 a1 a2 a3) := by
  intro a0 a1 a2 a3 h0
  unfold State.timeWrite
  dsimp only
  repeat' first | with_reducible assumption | with_reducible apply ite_okR (P := P)
                | with_reducible apply keep_State_setVal C | with_reducible apply keep_State_writeMode C
                | with_reducible apply keep_State_setBase C | with_reducible apply keep_State_set C
                | with_reducible apply keep_State_setB C | with_reducible apply okR_mk
                | with_reducible exact okR_abort | split

theorem keep_State_servo (C : Closed P) : ∀ a0 a1 a2 a3, okS P a0 → okS P (@State.servo a0 a1 a2 a3) := by
  intro a0 a1 a2 a3 h0
  unfold State.servo
  dsimp only
  repeat' first | with_reducible assumption | with_reducible apply ite_okS (P := P)
                | with_reducible apply keep_State_set C | with_reducible apply keep_State_stepBase C
                | with_reducible apply keep_State_addRecord C | with_reducible apply keep_State_fresh C

theorem keep_State_holdover (C : Closed P) : ∀ a0 a1, okS P a0 → okS P (@State.holdover a0 a1) := by
  intro a0 a1 h0
  unfold State.holdover
  repeat' first | with_reducible assumption | with_reducible apply ite_okS (P := P)
                | with_reducible apply keep_State_set C

theorem keep_State_snapSec (C : Closed P) : ∀ a0 a1 a2, okS P a0 → okS P (@State.snapSec a0 a1 a2) := by
  intro a0 a1 a2 h0
  unfold State.snapSec
  dsimp only
  repeat' first | with_reducible assumption

theorem keep_State_jointSnap (C : Closed P) : ∀ a0 a1, okS P a0 → okS P (@State.jointSnap a0 a1) := by
  intro a0 a1 h0
  unfold State.jointSnap
  dsimp only
  repeat' first | with_reducible assumption | with_reducible intro _ | with_reducible apply keep_foldl (P := P)

theorem keep_State_readTimeReg (C : Closed P) : ∀ a0 a1 a2, okS P a0 → okP P (@State.readTimeReg a0 a1 a2) := by
  intro a0 a1 a2 h0
  unfold State.readTimeReg
  dsimp only
  repeat' first | with_reducible assumption | with_reducible apply ite_okP (P := P)
                | with_reducible apply keep_State_snapSec C | with_reducible apply keep_State_jointSnap C | split

theorem keep_State_readTime (C : Closed P) : ∀ a0 a1 a2 a3, okS P a0 → okP P (@State.readTime a0 a1 a2 a3) := by
  intro a0 a1 a2 a3 h0
  unfold State.readTime
  dsimp only
  repeat' first | with_reducible assumption | with_reducible intro _ | with_reducible apply keep_State_readTimeReg C
                | with_reducible apply keep_foldlP (P := P)

theorem keep_execSnapSec (C : Closed P) : ∀ a0 a1 a2, okS P a2 → okOut P (@execSnapSec a0 a1 a2) := by
  intro a0 a1 a2 h2
  unfold execSnapSec
  repeat' first | with_reducible assumption | with_reducible apply ite_okS (P := P)
                | with_reducible apply keep_State_emit C | with_reducible apply keep_State_snapSec C
                | with_reducible apply okOut_mk

theorem keep_execJointSnapshot (C : Closed P) : ∀ a0 a1, okS P a1 → okOut P (@execJointSnapshot a0 a1) := by
  intro a0 a1 h1
  unfold execJointSnapshot
  repeat' first | with_reducible assumption | with_reducible apply keep_State_emit C
                | with_reducible apply keep_State_jointSnap C | with_reducible apply okOut_mk

theorem keep_execServoMeasurement (C : Closed P) :
    ∀ a0 a1 a2 a3, okS P a3 → okOut P (@execServoMeasurement a0 a1 a2 a3) := by
  intro a0 a1 a2 a3 h3
  unfold execServoMeasurement
  repeat' first | with_reducible assumption | with_reducible apply keep_State_servo C | with_reducible apply okOut_mk

theorem keep_execTb0SyncLost (C : Closed P) : ∀ a0, okS P a0 → okOut P (@execTb0SyncLost a0) := by
  intro a0 h0
  unfold execTb0SyncLost
  repeat' first | with_reducible assumption | with_reducible apply keep_State_holdover C
                | with_reducible apply keep_State_bump C | with_reducible apply keep_State_addRecord C
                | with_reducible apply okOut_mk

theorem keep_State_releaseWaits (C : Closed P) : ∀ a0 a1, okS P a0 → okS P (@State.releaseWaits a0 a1) := by
  intro a0 a1 h0
  unfold State.releaseWaits
  repeat' first | with_reducible assumption | with_reducible intro _ | with_reducible apply ite_okS (P := P)
                | with_reducible apply keep_State_needContext C | with_reducible apply keep_State_finish C
                | with_reducible apply keep_foldl (P := P) | split

theorem keep_State_setSync (C : Closed P) : ∀ a0 a1 a2 a3, okS P a0 → okS P (@State.setSync a0 a1 a2 a3) := by
  intro a0 a1 a2 a3 h0
  unfold State.setSync
  dsimp only
  repeat' first | with_reducible assumption | with_reducible apply keep_State_releaseWaits C
                | with_reducible apply keep_State_setSlice C

theorem keep_State_addSync (C : Closed P) : ∀ a0 a1 a2 a3, okS P a0 → okS P (@State.addSync a0 a1 a2 a3) := by
  intro a0 a1 a2 a3 h0
  unfold State.addSync
  repeat' first | with_reducible assumption | with_reducible apply keep_State_setSync C

theorem keep_State_beginWait (C : Closed P) : ∀ a0 a1 a2, okS P a0 → okS P (@State.beginWait a0 a1 a2) := by
  intro a0 a1 a2 h0
  unfold State.beginWait
  repeat' first | with_reducible assumption | with_reducible apply ite_okS (P := P)
                | with_reducible apply keep_State_beginDirect C | with_reducible apply keep_State_finish C
                | with_reducible apply keep_State_setDesc C
                | with_reducible refine okOP_elim (P := P) (by assumption) ?_ | split

theorem keep_State_waitExpired (C : Closed P) : ∀ a0 a1 a2, okS P a0 → okS P (@State.waitExpired a0 a1 a2) := by
  intro a0 a1 a2 h0
  unfold State.waitExpired
  repeat' first | with_reducible assumption | with_reducible apply ite_okS (P := P)
                | with_reducible apply keep_State_finish C | split

theorem keep_Work_signal (C : Closed P) : ∀ a0 a1, okW P a0 → okW P (@Work.signal a0 a1) := by
  intro a0 a1 h0
  unfold Work.signal
  dsimp only
  repeat' first | with_reducible assumption | with_reducible apply ite_okS (P := P)
                | with_reducible apply keep_State_addSync C | with_reducible apply keep_State_setSync C

theorem keep_Work_timestamp (C : Closed P) : ∀ a0 a1, okW P a0 → okW P (@Work.timestamp a0 a1) := by
  intro a0 a1 h0
  unfold Work.timestamp
  repeat' first | with_reducible assumption | with_reducible apply keep_Work_settleState C
                | with_reducible apply keep_Work_write C

theorem keep_Work_allocHome (C : Closed P) : ∀ a0 a1, okW P a0 → okV P (@Work.allocHome a0 a1) := by
  intro a0 a1 h0
  unfold Work.allocHome
  repeat' first | with_reducible assumption | with_reducible apply ite_okV (P := P)
                | with_reducible apply keep_Work_fail C | split

theorem keep_Work_enter (C : Closed P) : ∀ a0 a1 a2, okW P a0 → okW P a2 → okW P (@Work.enter a0 a1 a2) := by
  intro a0 a1 a2 h0 h2
  unfold Work.enter
  repeat' first | with_reducible assumption | with_reducible apply keep_State_newEntry C
                | with_reducible apply keep_Work_fail C
                | with_reducible refine okOP_elim (P := P) (by assumption) ?_ | split

theorem keep_Work_tensorCreate (C : Closed P) : ∀ a0 a1, okW P a0 → okW P (@Work.tensorCreate a0 a1) := by
  intro w d h
  have ha : ∀ b w' v, w.allocHome (d.fld 127 64) = (some (b, w'), v) → okW P w' := by
    intro b w' v e
    unfold Work.allocHome at e
    split at e
    · cases e
    · split at e
      · cases e
      · rename_i x t ht
        cases e
        exact keep_State_useMem C _ _ _ (keep_State_zeroMem C _ _ _ (okOP_elim ht (keep_State_allocate C _ _ _ _ h)))
  have h1 := keep_Work_freeVal C w .choice h
  have h2 := keep_Work_freeVal C _ .address h1
  unfold Work.tensorCreate
  dsimp only
  split
  · exact keep_Work_enter C _ _ _ h h
  · split
    · split
      · rename_i e
        exact keep_Work_enter C _ _ _ (ha _ _ _ e) (okV_elim e (keep_Work_allocHome C _ _ h))
      · rename_i e
        exact okV_elim e (keep_Work_allocHome C _ _ h)
    · split
      · exact keep_Work_fail C _ _ _ h2
      · exact keep_Work_enter C _ _ _ h h2

theorem keep_Work_tensorRelease (C : Closed P) : ∀ a0 a1, okW P a0 → okW P (@Work.tensorRelease a0 a1) := by
  intro a0 a1 h0
  unfold Work.tensorRelease
  dsimp only
  repeat' first | with_reducible assumption | with_reducible apply keep_State_setTentry C | split

theorem keep_Work_tensorView (C : Closed P) : ∀ a0 a1, okW P a0 → okW P (@Work.tensorView a0 a1) := by
  intro a0 a1 h0
  unfold Work.tensorView
  repeat' first | with_reducible assumption | with_reducible apply keep_Work_enter C | split

theorem keep_execNop (C : Closed P) : ∀ a0 a1 a2, okS P a2 → okOut P (@execNop a0 a1 a2) := by
  intro a0 a1 a2 h2
  unfold execNop
  repeat' first | with_reducible assumption | with_reducible intro _ | with_reducible apply keep_State_runDirect C
                | with_reducible apply okOut_mk

theorem keep_execSignal (C : Closed P) : ∀ a0 a1 a2, okS P a2 → okOut P (@execSignal a0 a1 a2) := by
  intro a0 a1 a2 h2
  unfold execSignal
  repeat' first | with_reducible assumption | with_reducible intro _ | with_reducible apply keep_State_runDirect C
                | with_reducible apply keep_Work_signal C | with_reducible apply okOut_mk

theorem keep_execWait (C : Closed P) : ∀ a0 a1 a2, okS P a2 → okOut P (@execWait a0 a1 a2) := by
  intro a0 a1 a2 h2
  unfold execWait
  repeat' first | with_reducible assumption | with_reducible apply keep_State_beginWait C
                | with_reducible apply okOut_mk

theorem keep_execWaitTimeout (C : Closed P) : ∀ a0 a1 a2, okS P a2 → okOut P (@execWaitTimeout a0 a1 a2) := by
  intro a0 a1 a2 h2
  unfold execWaitTimeout
  repeat' first | with_reducible assumption | with_reducible apply keep_State_waitExpired C
                | with_reducible apply okOut_mk

theorem keep_execTimestamp (C : Closed P) : ∀ a0 a1 a2, okS P a2 → okOut P (@execTimestamp a0 a1 a2) := by
  intro a0 a1 a2 h2
  unfold execTimestamp
  repeat' first | with_reducible assumption | with_reducible intro _ | with_reducible apply keep_State_runDirect C
                | with_reducible apply keep_Work_timestamp C | with_reducible apply okOut_mk

theorem keep_execTensorCreate (C : Closed P) : ∀ a0 a1 a2, okS P a2 → okOut P (@execTensorCreate a0 a1 a2) := by
  intro a0 a1 a2 h2
  unfold execTensorCreate
  repeat' first | with_reducible assumption | with_reducible intro _ | with_reducible apply keep_State_runDirect C
                | with_reducible apply keep_Work_tensorCreate C | with_reducible apply okOut_mk

theorem keep_execTensorRelease (C : Closed P) : ∀ a0 a1 a2, okS P a2 → okOut P (@execTensorRelease a0 a1 a2) := by
  intro a0 a1 a2 h2
  unfold execTensorRelease
  repeat' first | with_reducible assumption | with_reducible intro _ | with_reducible apply keep_State_runDirect C
                | with_reducible apply keep_Work_tensorRelease C | with_reducible apply okOut_mk

theorem keep_execTensorView (C : Closed P) : ∀ a0 a1 a2, okS P a2 → okOut P (@execTensorView a0 a1 a2) := by
  intro a0 a1 a2 h2
  unfold execTensorView
  repeat' first | with_reducible assumption | with_reducible intro _ | with_reducible apply keep_State_runDirect C
                | with_reducible apply keep_Work_tensorView C | with_reducible apply okOut_mk

theorem keep_Work_gather (C : Closed P) : ∀ a0 a1 a2 a3 a4 a5 a6 a7 a8, okW P a0 → okV P (@Work.gather a0 a1 a2 a3 a4 a5 a6 a7 a8) := by
  intro w h fmt chans c0 cc sh ps m hw
  induction ps generalizing w m with
  | nil => exact hw
  | cons p ps ih =>
    unfold Work.gather
    split
    · exact ih _ _ hw
    · exact ih _ _ (keep_Work_readElems C _ _ _ _ _ _ _ _ hw)

theorem keep_Work_nhwcBytes (C : Closed P) : ∀ a0 a1, okW P a0 → okV P (@Work.nhwcBytes a0 a1) := by
  intro a0 a1 h0
  unfold Work.nhwcBytes
  dsimp only
  repeat' first | with_reducible assumption | with_reducible intro _ | with_reducible apply keep_Work_mapM C
                | with_reducible apply keep_Work_readCodes C

theorem keep_Work_gatherCopy (C : Closed P) :
    ∀ a0 a1 a2 a3 a4 a5, okW P a0 → okV P (@Work.gatherCopy a0 a1 a2 a3 a4 a5) := by
  intro a0 a1 a2 a3 a4 a5 h0
  unfold Work.gatherCopy
  dsimp only
  repeat' first | with_reducible assumption | with_reducible intro _ | with_reducible apply ite_okV (P := P)
                | with_reducible apply keep_Work_readPhys C | with_reducible apply keep_Work_staged C
                | with_reducible apply keep_foldlV (P := P)

theorem keep_Work_scaleKernel (C : Closed P) : ∀ a0 a1 a2 a3, okW P a0 → okV P (@Work.scaleKernel a0 a1 a2 a3) := by
  intro a0 a1 a2 a3 h0
  unfold Work.scaleKernel
  dsimp only
  repeat' first | with_reducible assumption | with_reducible apply ite_okV (P := P)
                | with_reducible apply keep_Work_read C

theorem keep_Work_kernelOf (C : Closed P) : ∀ a0 a1 a2, okW P a0 → okV P (@Work.kernelOf a0 a1 a2) := by
  intro a0 a1 a2 h0
  unfold Work.kernelOf
  dsimp only
  repeat' first | with_reducible assumption | with_reducible intro _ | with_reducible apply ite_okV (P := P)
                | with_reducible apply keep_Work_readCodes C | with_reducible apply keep_Work_scaleKernel C
                | with_reducible apply keep_Work_mapM C

theorem keep_Work_convTile (C : Closed P) :
    ∀ a0 a1 a2 a3 a4 a5 a6 a7, okW P a0 → okV P (@Work.convTile a0 a1 a2 a3 a4 a5 a6 a7) := by
  intro a0 a1 a2 a3 a4 a5 a6 a7 h0
  unfold Work.convTile
  dsimp only
  repeat' first | with_reducible assumption | with_reducible intro _ | with_reducible apply ite_okV (P := P)
                | with_reducible apply keep_Work_gatherCopy C | with_reducible apply keep_Work_gather C
                | with_reducible apply keep_Work_mapM C | with_reducible apply keep_Work_kernelOf C
                | with_reducible apply keep_Work_readElems C | with_reducible apply keep_Work_arrival C

theorem keep_Work_writeBlocked (C : Closed P) :
    ∀ a0 a1 a2 a3 a4, okW P a0 → okW P (@Work.writeBlocked a0 a1 a2 a3 a4) := by
  intro a0 a1 a2 a3 a4 h0
  unfold Work.writeBlocked
  dsimp only
  repeat' first | with_reducible assumption | with_reducible intro _ | with_reducible apply ite_okW (P := P)
                | with_reducible apply keep_Work_writeElems C | with_reducible apply keep_foldlW (P := P)

theorem keep_Work_conv (C : Closed P) : ∀ a0 a1, okW P a0 → okW P (@Work.conv a0 a1) := by
  intro a0 a1 h0
  unfold Work.conv
  dsimp only
  repeat' first | with_reducible assumption | with_reducible intro _ | with_reducible apply ite_okW (P := P)
                | with_reducible apply ite_okV (P := P) | with_reducible apply keep_Work_groupM C
                | with_reducible apply keep_Work_convTile C | with_reducible apply keep_Work_writeElems C
                | with_reducible apply keep_Work_writeBlocked C | with_reducible apply keep_Work_settleState C
                | with_reducible apply keep_foldlW (P := P) | with_reducible apply keep_foldlV (P := P)

theorem keep_State_convBegin (C : Closed P) : ∀ a0 a1 a2 a3, okS P a0 → okO P (@State.convBegin a0 a1 a2 a3) := by
  intro s q n d h
  unfold State.convBegin
  dsimp only
  split
  · exact h
  · split
    · exact trivial
    · have ha := keep_State_allocate C s (s.queueSlice q) (cdiv (fmtBytes (fmtCode (convOf d).xf) (convOf d).xElems) 64 * 64) 3 h
      generalize s.allocate _ _ _ = o at ha ⊢
      cases o with
      | none => exact trivial
      | some p => exact keep_State_setDesc C _ _ _ _ (keep_State_useMem C _ _ _ ha)

theorem keep_State_convert (C : Closed P) : ∀ a0 a1 a2, okS P a0 → okS P (@State.convert a0 a1 a2) := by
  intro a0 a1 a2 h0
  unfold State.convert
  dsimp only
  repeat' first | with_reducible assumption | with_reducible apply ite_okS (P := P)
                | with_reducible apply keep_Work_nhwcBytes C | with_reducible apply keep_State_startWork C
                | with_reducible apply keep_Work_writePhys C | with_reducible apply keep_State_setDesc C | split

theorem keep_State_convEnd (C : Closed P) : ∀ a0 a1 a2, okS P a0 → okS P (@State.convEnd a0 a1 a2) := by
  intro a0 a1 a2 h0
  unfold State.convEnd
  repeat' first | with_reducible assumption | with_reducible apply keep_State_setDesc C
                | with_reducible apply keep_State_freeMem C | with_reducible apply keep_State_deallocate C | split

theorem keep_execConv (C : Closed P) : ∀ a0 a1 a2, okS P a2 → okOut P (@execConv a0 a1 a2) := by
  intro a0 a1 a2 h2
  unfold execConv
  repeat' first | with_reducible assumption | with_reducible intro _ | with_reducible apply keep_State_convEnd C
                | with_reducible apply keep_State_runDesc C | with_reducible apply keep_Work_conv C
                | with_reducible apply okOut_mk | split

theorem keep_Work_pixels (C : Closed P) : ∀ a0 a1 a2, okW P a0 → okV P (@Work.pixels a0 a1 a2) := by
  intro a0 a1 a2 h0
  unfold Work.pixels
  repeat' first | with_reducible assumption | with_reducible apply keep_Work_gather C

theorem keep_Work_putPixel (C : Closed P) : ∀ a0 a1 a2 a3 a4, okW P a0 → okW P (@Work.putPixel a0 a1 a2 a3 a4) := by
  intro a0 a1 a2 a3 a4 h0
  unfold Work.putPixel
  repeat' first | with_reducible assumption | with_reducible apply keep_Work_writeElems C

theorem keep_Work_poolRow (C : Closed P) : ∀ a0 a1 a2 a3 a4, okW P a0 → okW P (@Work.poolRow a0 a1 a2 a3 a4) := by
  intro a0 a1 a2 a3 a4 h0
  unfold Work.poolRow
  dsimp only
  repeat' first | with_reducible assumption | with_reducible intro _ | with_reducible apply keep_Work_pixels C
                | with_reducible apply keep_Work_putPixel C | with_reducible apply keep_foldlW (P := P)

theorem keep_Work_sample (C : Closed P) : ∀ a0 a1 a2 a3 a4, okW P a0 → okV P (@Work.sample a0 a1 a2 a3 a4) := by
  intro a0 a1 a2 a3 a4 h0
  unfold Work.sample
  dsimp only
  repeat' first | with_reducible assumption | with_reducible apply keep_Work_pixels C

theorem keep_Work_resizeRow (C : Closed P) : ∀ a0 a1 a2 a3 a4, okW P a0 → okW P (@Work.resizeRow a0 a1 a2 a3 a4) := by
  intro a0 a1 a2 a3 a4 h0
  unfold Work.resizeRow
  dsimp only
  repeat' first | with_reducible assumption | with_reducible intro _ | with_reducible apply ite_okV (P := P)
                | with_reducible apply keep_Work_sample C | with_reducible apply keep_Work_pixels C
                | with_reducible apply keep_Work_putPixel C | with_reducible apply keep_foldlW (P := P)

theorem keep_Work_cropRow (C : Closed P) : ∀ a0 a1 a2 a3 a4, okW P a0 → okW P (@Work.cropRow a0 a1 a2 a3 a4) := by
  intro a0 a1 a2 a3 a4 h0
  unfold Work.cropRow
  dsimp only
  repeat' first | with_reducible assumption | with_reducible intro _ | with_reducible apply ite_okW (P := P)
                | with_reducible apply keep_Work_read C | with_reducible apply keep_Work_fail C
                | with_reducible apply keep_Work_flag C | with_reducible apply keep_Work_putPixel C
                | with_reducible apply keep_Work_sample C | with_reducible apply keep_foldlW (P := P) | split

theorem keep_Work_regroupRow (C : Closed P) :
    ∀ a0 a1 a2 a3 a4, okW P a0 → okW P (@Work.regroupRow a0 a1 a2 a3 a4) := by
  intro a0 a1 a2 a3 a4 h0
  unfold Work.regroupRow
  dsimp only
  repeat' first | with_reducible assumption | with_reducible intro _ | with_reducible apply ite_okW (P := P)
                | with_reducible apply keep_Work_readCodes C | with_reducible apply keep_Work_writeCodes C
                | with_reducible apply keep_foldlW (P := P)

theorem keep_Work_image (C : Closed P) :
    ∀ a0 a1 a2 a3, (∀ x0 x1 x2 x3 x4, okW P x0 → okW P (a1 x0 x1 x2 x3 x4)) → okW P a2 → okW P (@Work.image a0 a1 a2 a3) := by
  intro a0 a1 a2 a3 h1 h2
  unfold Work.image
  dsimp only
  repeat' first | with_reducible assumption | with_reducible intro _ | with_reducible apply h1
                | with_reducible apply keep_Work_tiles C | with_reducible apply keep_Work_settleState C
                | with_reducible apply keep_foldlW (P := P)

theorem keep_execPool (C : Closed P) : ∀ a0 a1 a2, okS P a2 → okOut P (@execPool a0 a1 a2) := by
  intro a0 a1 a2 h2
  unfold execPool
  repeat' first | with_reducible assumption | with_reducible intro _ | with_reducible apply keep_State_runDesc C
                | with_reducible apply keep_Work_image C | with_reducible apply keep_Work_poolRow C
                | with_reducible apply okOut_mk

theorem keep_execResize (C : Closed P) : ∀ a0 a1 a2, okS P a2 → okOut P (@execResize a0 a1 a2) := by
  intro a0 a1 a2 h2
  unfold execResize
  repeat' first | with_reducible assumption | with_reducible intro _ | with_reducible apply keep_State_runDesc C
                | with_reducible apply keep_Work_image C | with_reducible apply keep_Work_resizeRow C
                | with_reducible apply okOut_mk

theorem keep_execCrop (C : Closed P) : ∀ a0 a1 a2, okS P a2 → okOut P (@execCrop a0 a1 a2) := by
  intro a0 a1 a2 h2
  unfold execCrop
  repeat' first | with_reducible assumption | with_reducible intro _ | with_reducible apply keep_State_runDesc C
                | with_reducible apply keep_Work_image C | with_reducible apply keep_Work_cropRow C
                | with_reducible apply okOut_mk

theorem keep_execRegroup (C : Closed P) : ∀ a0 a1 a2, okS P a2 → okOut P (@execRegroup a0 a1 a2) := by
  intro a0 a1 a2 h2
  unfold execRegroup
  repeat' first | with_reducible assumption | with_reducible intro _ | with_reducible apply keep_State_runDesc C
                | with_reducible apply keep_Work_image C | with_reducible apply keep_Work_regroupRow C
                | with_reducible apply okOut_mk

theorem keep_State_setLattice (C : Closed P) : ∀ a0 a1 a2 a3, okS P a0 → okS P (@State.setLattice a0 a1 a2 a3) := by
  intro a0 a1 a2 a3 h0
  unfold State.setLattice
  dsimp only
  repeat' first | with_reducible assumption

theorem keep_Work_latticeLoad (C : Closed P) : ∀ a0 a1, okW P a0 → okW P (@Work.latticeLoad a0 a1) := by
  intro a0 a1 h0
  unfold Work.latticeLoad
  dsimp only
  repeat' first | with_reducible assumption | with_reducible apply ite_okW (P := P)
                | with_reducible apply keep_Work_fail C | with_reducible apply keep_Work_read C
                | with_reducible apply keep_State_pick C | with_reducible apply keep_State_setLattice C
                | with_reducible refine okP_elim (P := P) (by assumption) ?_ | split

theorem keep_Work_latticeFree (C : Closed P) : ∀ a0 a1, okW P a0 → okW P (@Work.latticeFree a0 a1) := by
  intro a0 a1 h0
  unfold Work.latticeFree
  dsimp only
  repeat' first | with_reducible assumption | with_reducible apply ite_okW (P := P)
                | with_reducible apply keep_Work_fail C | with_reducible apply keep_State_setLattice C

theorem keep_Work_occUpdate (C : Closed P) : ∀ a0 a1, okW P a0 → okW P (@Work.occUpdate a0 a1) := by
  intro a0 a1 h0
  unfold Work.occUpdate
  dsimp only
  repeat' first | with_reducible assumption | with_reducible intro _ | with_reducible apply keep_Work_read C
                | with_reducible apply keep_Work_output C | with_reducible apply keep_Work_write C
                | with_reducible apply keep_Work_settleState C | with_reducible apply keep_foldlW (P := P)

theorem keep_State_setPlan (C : Closed P) : ∀ a0 a1, okS P a0 → okS P (@State.setPlan a0 a1) := by
  intro a0 a1 h0
  unfold State.setPlan
  dsimp only
  repeat' first | with_reducible assumption

theorem keep_State_planWork (C : Closed P) : ∀ a0 a1, okS P a0 → okW P (@State.planWork a0 a1) := by
  intro a0 a1 h0
  unfold State.planWork
  repeat' first | with_reducible assumption

theorem keep_State_planWorld (C : Closed P) : ∀ a0 a1, okS P a0 → okV P (@State.planWorld a0 a1) := by
  intro a0 a1 h0
  unfold State.planWorld
  dsimp only
  repeat' first | with_reducible assumption | with_reducible apply keep_State_planWork C
                | with_reducible apply keep_Work_read C

theorem keep_State_planBegin (C : Closed P) : ∀ a0 a1 a2, okS P a0 → okS P (@State.planBegin a0 a1 a2) := by
  intro a0 a1 a2 h0
  unfold State.planBegin
  dsimp only
  repeat' first | with_reducible assumption | with_reducible apply ite_okS (P := P)
                | with_reducible apply keep_State_readyDirect C
                | with_reducible refine okP_elim (P := P) (by assumption) ?_ | split | dsimp only [okS]

theorem keep_State_stopCheck (C : Closed P) : ∀ a0 a1 a2, okW P a0 → okV P (@State.stopCheck a0 a1 a2) := by
  intro a0 a1 a2 h0
  unfold State.stopCheck
  dsimp only
  repeat' first | with_reducible assumption | with_reducible apply ite_okV (P := P)
                | with_reducible apply keep_Work_freeVal C

theorem keep_State_planGrant (C : Closed P) : ∀ a0, okS P a0 → okS P (@State.planGrant a0) := by
  intro a0 h0
  unfold State.planGrant
  dsimp only
  repeat' first | with_reducible assumption | with_reducible apply ite_okS (P := P)
                | with_reducible apply keep_State_planWorld C | with_reducible apply keep_State_stopCheck C
                | with_reducible apply keep_State_setPlan C | split

theorem keep_State_searchRound (C : Closed P) : ∀ a0 a1 a2, okS P a0 → okS P (@State.searchRound a0 a1 a2) := by
  intro a0 a1 a2 h0
  unfold State.searchRound
  dsimp only
  repeat' first | with_reducible assumption | with_reducible apply ite_okS (P := P)
                | with_reducible apply keep_State_planWorld C | with_reducible apply keep_State_countFree C
                | with_reducible apply keep_State_count C | with_reducible apply keep_State_setPlan C | split

theorem keep_State_searchExpired (C : Closed P) : ∀ a0 a1 a2, okS P a0 → okS P (@State.searchExpired a0 a1 a2) := by
  intro a0 a1 a2 h0
  unfold State.searchExpired
  repeat' first | with_reducible assumption | with_reducible apply ite_okS (P := P)
                | with_reducible apply keep_State_setPlan C | split

theorem keep_freePoints (C : Closed P) : ∀ a0 a1 a2 a3 a4, okW P a4 → okV P (@freePoints a0 a1 a2 a3 a4) := by
  intro p kappa k i w h
  induction k generalizing i w with
  | zero => exact h
  | succ k ih =>
    unfold freePoints
    refine ih _ _ ?_
    apply keep_foldlV (P := P)
    · intro s _ hs
      exact keep_Work_freeVal C s.2 .result hs
    · exact h

theorem keep_tryCandidates (C : Closed P) : ∀ a0 a1 a2 a3 a4, okW P a4 → okV P (@tryCandidates a0 a1 a2 a3 a4) := by
  intro p wd late l w h
  induction l generalizing w with
  | nil => exact h
  | cons c cs ih =>
    obtain ⟨rank, i⟩ := c
    have h1 := keep_Work_freeVal C w .choice h
    have h2 := keep_Work_freeVal C _ .result h1
    have h3 := keep_freePoints C p none (((w.freeVal .choice).2.freeVal .result).1 % maxPoints p.req) 1 _ h2
    have h4 := keep_Work_freeVal C _ .choice h3
    have h5 := keep_Work_freeVal C _ .result h4
    have h6 := keep_Work_freeVal C _ .result h5
    unfold tryCandidates
    dsimp only
    split
    · exact h1
    · split
      · split
        · exact h6
        · exact ih _ h6
      · split
        · exact h6
        · exact ih _ h6

theorem keep_State_planEnd (C : Closed P) :
    ∀ a0 a1 a2 a3 a4 a5, okW P a0 → okS P (@State.planEnd a0 a1 a2 a3 a4 a5) := by
  intro a0 a1 a2 a3 a4 a5 h0
  unfold State.planEnd
  dsimp only
  repeat' first | with_reducible assumption | with_reducible apply ite_okS (P := P)
                | with_reducible apply keep_Work_freeBytes C | with_reducible apply keep_Work_write C
                | with_reducible apply keep_Work_settleState C | with_reducible apply keep_Work_output C
                | with_reducible apply keep_State_bump C | with_reducible apply keep_State_finish C

theorem keep_State_finalPhase (C : Closed P) : ∀ a0 a1 a2, okS P a0 → okS P (@State.finalPhase a0 a1 a2) := by
  intro a0 a1 a2 h0
  unfold State.finalPhase
  dsimp only
  repeat' first | with_reducible assumption | with_reducible apply ite_okS (P := P)
                | with_reducible apply ite_okV (P := P) | with_reducible apply keep_State_planWorld C
                | with_reducible apply keep_tryCandidates C | with_reducible apply keep_State_planEnd C
                | with_reducible apply keep_State_stopCheck C | with_reducible apply keep_freePoints C
                | with_reducible refine okV_elim (P := P) (by assumption) ?_ | split

theorem keep_State_lanesWrite (C : Closed P) : ∀ a0 a1 a2, okS P a0 → okR P (@State.lanesWrite a0 a1 a2) := by
  intro a0 a1 a2 h0
  unfold State.lanesWrite
  repeat' first | with_reducible assumption | with_reducible apply ite_okR (P := P)
                | with_reducible apply keep_State_set C | with_reducible apply okR_mk
                | with_reducible exact okR_abort

theorem keep_State_runPlanner (C : Closed P) :
    ∀ a0 a1 a2 a3 a4, okS P a0 → (∀ x0 x1, okW P x0 → okW P (a4 x0 x1)) → okS P (@State.runPlanner a0 a1 a2 a3 a4) := by
  intro a0 a1 a2 a3 a4 h0 h4
  unfold State.runPlanner
  dsimp only
  repeat' first | with_reducible assumption | with_reducible apply h4
                | with_reducible apply keep_State_readyDirect C | with_reducible apply keep_State_startWork C
                | with_reducible apply keep_State_finish C
                | with_reducible refine okP_elim (P := P) (by assumption) ?_ | split

theorem keep_execPlnPlan (C : Closed P) : ∀ a0 a1 a2, okS P a2 → okOut P (@execPlnPlan a0 a1 a2) := by
  intro a0 a1 a2 h2
  unfold execPlnPlan
  repeat' first | with_reducible assumption | with_reducible apply keep_State_planBegin C
                | with_reducible apply okOut_mk

theorem keep_execPlanGrant (C : Closed P) : ∀ a0, okS P a0 → okOut P (@execPlanGrant a0) := by
  intro a0 h0
  unfold execPlanGrant
  repeat' first | with_reducible assumption | with_reducible apply ite_okS (P := P)
                | with_reducible apply keep_State_planGrant C | with_reducible apply okOut_mk

theorem keep_execSearchRound (C : Closed P) : ∀ a0 a1 a2, okS P a2 → okOut P (@execSearchRound a0 a1 a2) := by
  intro a0 a1 a2 h2
  unfold execSearchRound
  repeat' first | with_reducible assumption | with_reducible apply ite_okS (P := P)
                | with_reducible apply keep_State_searchRound C | with_reducible apply okOut_mk

theorem keep_execSearchWindowExpired (C : Closed P) :
    ∀ a0 a1 a2, okS P a2 → okOut P (@execSearchWindowExpired a0 a1 a2) := by
  intro a0 a1 a2 h2
  unfold execSearchWindowExpired
  repeat' first | with_reducible assumption | with_reducible apply keep_State_searchExpired C
                | with_reducible apply okOut_mk

theorem keep_execFinalPhase (C : Closed P) : ∀ a0 a1 a2, okS P a2 → okOut P (@execFinalPhase a0 a1 a2) := by
  intro a0 a1 a2 h2
  unfold execFinalPhase
  repeat' first | with_reducible assumption | with_reducible apply ite_okS (P := P)
                | with_reducible apply keep_State_finalPhase C | with_reducible apply okOut_mk

theorem keep_execPlnLatticeLoad (C : Closed P) : ∀ a0 a1 a2, okS P a2 → okOut P (@execPlnLatticeLoad a0 a1 a2) := by
  intro a0 a1 a2 h2
  unfold execPlnLatticeLoad
  repeat' first | with_reducible assumption | with_reducible intro _ | with_reducible apply keep_State_runPlanner C
                | with_reducible apply keep_Work_latticeLoad C | with_reducible apply okOut_mk

theorem keep_execPlnLatticeFree (C : Closed P) : ∀ a0 a1 a2, okS P a2 → okOut P (@execPlnLatticeFree a0 a1 a2) := by
  intro a0 a1 a2 h2
  unfold execPlnLatticeFree
  repeat' first | with_reducible assumption | with_reducible intro _ | with_reducible apply ite_okS (P := P)
                | with_reducible apply keep_State_readyDirect C | with_reducible apply keep_State_runPlanner C
                | with_reducible apply keep_Work_latticeFree C
                | with_reducible refine okP_elim (P := P) (by assumption) ?_ | with_reducible apply okOut_mk | split

theorem keep_execPlnOccUpdate (C : Closed P) : ∀ a0 a1 a2, okS P a2 → okOut P (@execPlnOccUpdate a0 a1 a2) := by
  intro a0 a1 a2 h2
  unfold execPlnOccUpdate
  repeat' first | with_reducible assumption | with_reducible intro _ | with_reducible apply keep_State_runPlanner C
                | with_reducible apply keep_Work_occUpdate C | with_reducible apply okOut_mk

theorem keep_State_setAcu (C : Closed P) : ∀ a0 a1 a2 a3, okS P a0 → okS P (@State.setAcu a0 a1 a2 a3) := by
  intro a0 a1 a2 a3 h0
  unfold State.setAcu
  repeat' first | with_reducible assumption | with_reducible apply keep_State_set C | split

theorem keep_State_bumpAcu (C : Closed P) : ∀ a0 a1 a2, okS P a0 → okS P (@State.bumpAcu a0 a1 a2) := by
  intro a0 a1 a2 h0
  unfold State.bumpAcu
  repeat' first | with_reducible assumption | with_reducible apply keep_State_bump C | split

theorem keep_State_setCoef (C : Closed P) : ∀ a0 a1 a2, okS P a0 → okS P (@State.setCoef a0 a1 a2) := by
  intro a0 a1 a2 h0
  unfold State.setCoef
  dsimp only
  repeat' first | with_reducible assumption

theorem keep_State_setShadow (C : Closed P) : ∀ a0 a1 a2, okS P a0 → okS P (@State.setShadow a0 a1 a2) := by
  intro a0 a1 a2 h0
  unfold State.setShadow
  dsimp only
  repeat' first | with_reducible assumption

theorem keep_State_swapCoef (C : Closed P) : ∀ a0 a1, okS P a0 → okS P (@State.swapCoef a0 a1) := by
  intro a0 a1 h0
  unfold State.swapCoef
  repeat' first | with_reducible assumption | with_reducible apply keep_State_setShadow C
                | with_reducible apply keep_State_setCoef C | split

theorem keep_Work_coefLoad (C : Closed P) : ∀ a0 a1, okW P a0 → okW P (@Work.coefLoad a0 a1) := by
  intro a0 a1 h0
  unfold Work.coefLoad
  dsimp only
  repeat' first | with_reducible assumption | with_reducible apply ite_okW (P := P)
                | with_reducible apply ite_okS (P := P) | with_reducible apply keep_Work_fail C
                | with_reducible apply keep_Work_read C | with_reducible apply keep_State_setShadow C
                | with_reducible apply keep_State_setCoef C

theorem keep_State_enterSample (C : Closed P) : ∀ a0 a1 a2, okS P a0 → okS P (@State.enterSample a0 a1 a2) := by
  intro a0 a1 a2 h0
  unfold State.enterSample
  dsimp only
  repeat' first | with_reducible assumption

theorem keep_State_ancBoundary (C : Closed P) : ∀ a0, okS P a0 → okS P (@State.ancBoundary a0) := by
  intro a0 h0
  unfold State.ancBoundary
  dsimp only
  repeat' first | with_reducible assumption | with_reducible apply ite_okS (P := P)
                | with_reducible apply keep_State_bumpAcu C

theorem keep_State_ancFrame (C : Closed P) : ∀ a0, okS P a0 → okP P (@State.ancFrame a0) := by
  intro a0 h0
  unfold State.ancFrame
  dsimp only
  repeat' first | with_reducible assumption | with_reducible apply ite_okP (P := P)
                | with_reducible apply ite_okS (P := P) | with_reducible apply keep_State_ancBoundary C

theorem keep_State_tdmFrame (C : Closed P) : ∀ a0 a1, okS P a0 → okS P (@State.tdmFrame a0 a1) := by
  intro a0 a1 h0
  unfold State.tdmFrame
  dsimp only
  repeat' first | with_reducible assumption | with_reducible intro _ | with_reducible apply ite_okS (P := P)
                | with_reducible apply keep_State_enterSample C | with_reducible apply keep_State_ancFrame C
                | with_reducible apply keep_State_emit C | with_reducible apply keep_foldl (P := P) | split

theorem keep_State_aafSample (C : Closed P) : ∀ a0 a1 a2 a3, okS P a0 → okS P (@State.aafSample a0 a1 a2 a3) := by
  intro a0 a1 a2 a3 h0
  unfold State.aafSample
  dsimp only
  repeat' first | with_reducible assumption | with_reducible intro _ | with_reducible apply ite_okS (P := P)
                | with_reducible apply ite_okP (P := P) | with_reducible apply keep_State_bump C
                | with_reducible apply keep_State_fresh C | with_reducible apply keep_State_enterSample C
                | with_reducible apply keep_foldl (P := P)

theorem keep_State_aafFault (C : Closed P) : ∀ a0 a1, okS P a0 → okS P (@State.aafFault a0 a1) := by
  intro a0 a1 h0
  unfold State.aafFault
  dsimp only
  repeat' first | with_reducible assumption | with_reducible apply ite_okS (P := P)
                | with_reducible apply keep_State_addRecord C

theorem keep_State_beginFade (C : Closed P) : ∀ a0 a1, okS P a0 → okS P (@State.beginFade a0 a1) := by
  intro a0 a1 h0
  unfold State.beginFade
  dsimp only
  repeat' first | with_reducible assumption | with_reducible apply keep_State_setAcu C

theorem keep_State_ancCmd (C : Closed P) : ∀ a0 a1, okS P a0 → okR P (@State.ancCmd a0 a1) := by
  intro a0 a1 h0
  unfold State.ancCmd
  dsimp only
  repeat' first | with_reducible assumption | with_reducible apply ite_okR (P := P)
                | with_reducible apply ite_okS (P := P) | with_reducible apply keep_State_setAcu C
                | with_reducible apply keep_State_beginFade C | with_reducible apply okR_mk
                | with_reducible exact okR_abort

theorem keep_State_adapt (C : Closed P) : ∀ a0, okS P a0 → okS P (@State.adapt a0) := by
  intro a0 h0
  unfold State.adapt
  dsimp only
  repeat' first | with_reducible assumption | with_reducible apply ite_okS (P := P)

theorem keep_State_ancStep (C : Closed P) : ∀ a0 a1, okS P a0 → okP P (@State.ancStep a0 a1) := by
  intro a0 a1 h0
  unfold State.ancStep
  dsimp only
  repeat' first | with_reducible assumption

theorem keep_State_ancBlock (C : Closed P) : ∀ a0, okS P a0 → okS P (@State.ancBlock a0) := by
  intro a0 h0
  unfold State.ancBlock
  dsimp only
  repeat' first | with_reducible assumption | with_reducible intro _ | with_reducible apply ite_okS (P := P)
                | with_reducible apply keep_State_swapCoef C | with_reducible apply keep_State_ancStep C
                | with_reducible apply keep_State_adapt C | with_reducible apply keep_State_addRecord C
                | with_reducible apply keep_State_bumpAcu C | with_reducible apply keep_State_beginFade C
                | with_reducible apply keep_foldlP (P := P) | split

theorem keep_State_inputStuck (C : Closed P) : ∀ a0 a1, okS P a0 → okS P (@State.inputStuck a0 a1) := by
  intro a0 a1 h0
  unfold State.inputStuck
  dsimp only
  repeat' first | with_reducible assumption | with_reducible apply ite_okS (P := P)
                | with_reducible apply keep_State_addRecord C | with_reducible apply keep_State_beginFade C

theorem keep_State_inputRecovered (C : Closed P) : ∀ a0 a1, okS P a0 → okS P (@State.inputRecovered a0 a1) := by
  intro a0 a1 h0
  unfold State.inputRecovered
  dsimp only
  repeat' first | with_reducible assumption | with_reducible apply ite_okS (P := P)

theorem keep_State_outputFault (C : Closed P) : ∀ a0 a1, okS P a0 → okS P (@State.outputFault a0 a1) := by
  intro a0 a1 h0
  unfold State.outputFault
  repeat' first | with_reducible assumption | with_reducible apply ite_okS (P := P)
                | with_reducible apply keep_State_addRecord C | with_reducible apply keep_State_set C

theorem keep_State_voiceCmd (C : Closed P) : ∀ a0 a1, okS P a0 → okR P (@State.voiceCmd a0 a1) := by
  intro a0 a1 h0
  unfold State.voiceCmd
  dsimp only
  repeat' first | with_reducible assumption | with_reducible apply ite_okR (P := P)
                | with_reducible apply keep_State_setAcu C | with_reducible apply okR_mk
                | with_reducible exact okR_abort

theorem keep_State_voiceFrame (C : Closed P) : ∀ a0, okS P a0 → okS P (@State.voiceFrame a0) := by
  intro a0 h0
  unfold State.voiceFrame
  dsimp only
  repeat' first | with_reducible assumption | with_reducible apply ite_okS (P := P)
                | with_reducible apply ite_okW (P := P) | with_reducible apply keep_State_swapCoef C
                | with_reducible apply keep_Work_freeBytes C | with_reducible apply keep_Work_write C
                | with_reducible apply keep_State_addSync C | with_reducible apply keep_State_setAcu C | split

theorem keep_State_playFrame (C : Closed P) : ∀ a0, okS P a0 → okS P (@State.playFrame a0) := by
  intro a0 h0
  unfold State.playFrame
  dsimp only
  repeat' first | with_reducible assumption | with_reducible apply ite_okS (P := P)
                | with_reducible apply ite_okV (P := P) | with_reducible apply keep_Work_read C
                | with_reducible apply keep_State_bumpAcu C | split

theorem keep_State_acuOwnWrite (C : Closed P) : ∀ a0 a1 a2 a3, okS P a0 → okR P (@State.acuOwnWrite a0 a1 a2 a3) := by
  intro a0 a1 a2 a3 h0
  unfold State.acuOwnWrite
  dsimp only
  repeat' first | with_reducible assumption | with_reducible apply ite_okR (P := P)
                | with_reducible apply keep_State_ancCmd C | with_reducible apply keep_State_voiceCmd C
                | with_reducible apply keep_State_set C | with_reducible apply okR_mk
                | with_reducible exact okR_abort | split

theorem keep_State_acuLineWrite (C : Closed P) :
    ∀ a0 a1 a2 a3, okS P a0 → okR P (@State.acuLineWrite a0 a1 a2 a3) := by
  intro a0 a1 a2 a3 h0
  unfold State.acuLineWrite
  dsimp only
  repeat' first | with_reducible assumption | with_reducible apply ite_okR (P := P)
                | with_reducible apply ite_okS (P := P) | with_reducible apply keep_State_set C
                | with_reducible apply okR_mk | with_reducible exact okR_abort

theorem keep_State_acuWrite (C : Closed P) : ∀ a0 a1 a2 a3 a4, okS P a0 → okR P (@State.acuWrite a0 a1 a2 a3 a4) := by
  intro a0 a1 a2 a3 a4 h0
  unfold State.acuWrite
  repeat' first | with_reducible assumption | with_reducible apply ite_okR (P := P)
                | with_reducible apply keep_State_acuOwnWrite C | with_reducible apply keep_State_acuLineWrite C
                | with_reducible exact okR_abort | split

theorem keep_execTdmFrame (C : Closed P) : ∀ a0 a1, okS P a1 → okOut P (@execTdmFrame a0 a1) := by
  intro a0 a1 h1
  unfold execTdmFrame
  repeat' first | with_reducible assumption | with_reducible apply keep_State_tdmFrame C
                | with_reducible apply okOut_mk

theorem keep_execAafSampleArrival (C : Closed P) :
    ∀ a0 a1 a2 a3 a4, okS P a4 → okOut P (@execAafSampleArrival a0 a1 a2 a3 a4) := by
  intro a0 a1 a2 a3 a4 h4
  unfold execAafSampleArrival
  repeat' first | with_reducible assumption | with_reducible apply keep_State_aafSample C
                | with_reducible apply okOut_mk

theorem keep_execAafRateFault (C : Closed P) : ∀ a0 a1, okS P a1 → okOut P (@execAafRateFault a0 a1) := by
  intro a0 a1 h1
  unfold execAafRateFault
  repeat' first | with_reducible assumption | with_reducible apply keep_State_aafFault C
                | with_reducible apply okOut_mk

theorem keep_execAncBlock (C : Closed P) : ∀ a0, okS P a0 → okOut P (@execAncBlock a0) := by
  intro a0 h0
  unfold execAncBlock
  repeat' first | with_reducible assumption | with_reducible apply keep_State_ancBlock C
                | with_reducible apply okOut_mk

theorem keep_execInputStuck (C : Closed P) : ∀ a0 a1, okS P a1 → okOut P (@execInputStuck a0 a1) := by
  intro a0 a1 h1
  unfold execInputStuck
  repeat' first | with_reducible assumption | with_reducible apply keep_State_inputStuck C
                | with_reducible apply okOut_mk

theorem keep_execInputRecovered (C : Closed P) : ∀ a0 a1, okS P a1 → okOut P (@execInputRecovered a0 a1) := by
  intro a0 a1 h1
  unfold execInputRecovered
  repeat' first | with_reducible assumption | with_reducible apply keep_State_inputRecovered C
                | with_reducible apply okOut_mk

theorem keep_execOutputReadbackFault (C : Closed P) :
    ∀ a0 a1, okS P a1 → okOut P (@execOutputReadbackFault a0 a1) := by
  intro a0 a1 h1
  unfold execOutputReadbackFault
  repeat' first | with_reducible assumption | with_reducible apply keep_State_outputFault C
                | with_reducible apply okOut_mk

theorem keep_execVoiceFrame (C : Closed P) : ∀ a0, okS P a0 → okOut P (@execVoiceFrame a0) := by
  intro a0 h0
  unfold execVoiceFrame
  repeat' first | with_reducible assumption | with_reducible apply keep_State_voiceFrame C
                | with_reducible apply okOut_mk

theorem keep_execPlayFrame (C : Closed P) : ∀ a0, okS P a0 → okOut P (@execPlayFrame a0) := by
  intro a0 h0
  unfold execPlayFrame
  repeat' first | with_reducible assumption | with_reducible apply keep_State_playFrame C
                | with_reducible apply okOut_mk

theorem keep_execAcuCoefLoad (C : Closed P) : ∀ a0 a1 a2, okS P a2 → okOut P (@execAcuCoefLoad a0 a1 a2) := by
  intro a0 a1 a2 h2
  unfold execAcuCoefLoad
  dsimp only
  repeat' first | with_reducible assumption | with_reducible apply keep_State_readyDirect C
                | with_reducible apply keep_Work_coefLoad C | with_reducible apply keep_State_startWork C
                | with_reducible apply keep_State_finish C
                | with_reducible refine okP_elim (P := P) (by assumption) ?_ | with_reducible apply okOut_mk | split

theorem keep_State_setKernel (C : Closed P) : ∀ a0 a1 a2 a3, okS P a0 → okS P (@State.setKernel a0 a1 a2 a3) := by
  intro a0 a1 a2 a3 h0
  unfold State.setKernel
  dsimp only
  repeat' first | with_reducible assumption

theorem keep_Work_kernelLoad (C : Closed P) : ∀ a0 a1, okW P a0 → okW P (@Work.kernelLoad a0 a1) := by
  intro a0 a1 h0
  unfold Work.kernelLoad
  dsimp only
  repeat' first | with_reducible assumption | with_reducible apply keep_Work_read C
                | with_reducible apply keep_Work_freeVal C | with_reducible apply keep_State_pick C
                | with_reducible apply keep_Work_fail C | with_reducible apply keep_State_setKernel C
                | with_reducible refine okP_elim (P := P) (by assumption) ?_ | split

theorem keep_Work_kernelAccess (C : Closed P) :
    ∀ a0 a1 a2 a3 a4, okW P a0 → okV P (@Work.kernelAccess a0 a1 a2 a3 a4) := by
  intro a0 a1 a2 a3 a4 h0
  unfold Work.kernelAccess
  dsimp only
  repeat' first | with_reducible assumption | with_reducible apply ite_okV (P := P)
                | with_reducible apply ite_okW (P := P) | with_reducible apply keep_Work_read C
                | with_reducible apply keep_Work_fail C | with_reducible apply keep_Work_output C | split

theorem keep_Work_runKernel (C : Closed P) : ∀ a0 a1 a2 a3 a4, okW P a4 → okW P (@Work.runKernel a0 a1 a2 a3 a4) := by
  intro a0 a1 a2 a3 a4
  induction a2 generalizing a0 a1 a3 a4 with
  | zero =>
    intro h4
    exact h4
  | succ n ih =>
    intro h4
    unfold Work.runKernel
    try dsimp only
    repeat' first | with_reducible assumption | with_reducible intro _ | with_reducible apply ih
                  | with_reducible apply keep_Work_freeVal C | with_reducible apply keep_Work_groupM C
                  | with_reducible apply keep_Work_kernelAccess C

theorem keep_Work_dispatch (C : Closed P) : ∀ a0 a1, okW P a0 → okW P (@Work.dispatch a0 a1) := by
  intro a0 a1 h0
  unfold Work.dispatch
  dsimp only
  repeat' first | with_reducible assumption | with_reducible intro _ | with_reducible apply keep_Work_fail C
                | with_reducible apply keep_Work_freeVal C | with_reducible apply keep_Work_settleState C
                | with_reducible apply keep_Work_runKernel C | with_reducible apply keep_foldlW (P := P) | split

theorem keep_Work_kernelFree (C : Closed P) : ∀ a0 a1, okW P a0 → okW P (@Work.kernelFree a0 a1) := by
  intro a0 a1 h0
  unfold Work.kernelFree
  dsimp only
  repeat' first | with_reducible assumption | with_reducible apply ite_okW (P := P)
                | with_reducible apply keep_Work_fail C | with_reducible apply keep_State_setKernel C

theorem keep_execDispatch (C : Closed P) : ∀ a0 a1 a2, okS P a2 → okOut P (@execDispatch a0 a1 a2) := by
  intro a0 a1 a2 h2
  unfold execDispatch
  repeat' first | with_reducible assumption | with_reducible intro _ | with_reducible apply keep_State_runDesc C
                | with_reducible apply keep_Work_dispatch C | with_reducible apply okOut_mk

theorem keep_execKernelLoad (C : Closed P) : ∀ a0 a1 a2, okS P a2 → okOut P (@execKernelLoad a0 a1 a2) := by
  intro a0 a1 a2 h2
  unfold execKernelLoad
  repeat' first | with_reducible assumption | with_reducible intro _ | with_reducible apply keep_State_runDesc C
                | with_reducible apply keep_Work_kernelLoad C | with_reducible apply okOut_mk

theorem keep_execKernelFree (C : Closed P) : ∀ a0 a1 a2, okS P a2 → okOut P (@execKernelFree a0 a1 a2) := by
  intro a0 a1 a2 h2
  unfold execKernelFree
  repeat' first | with_reducible assumption | with_reducible intro _ | with_reducible apply ite_okS (P := P)
                | with_reducible apply keep_State_runDesc C | with_reducible apply keep_Work_kernelFree C
                | with_reducible apply okOut_mk | split

theorem keep_State_setPool (C : Closed P) : ∀ a0 a1 a2, okS P a0 → okS P (@State.setPool a0 a1 a2) := by
  intro a0 a1 a2 h0
  unfold State.setPool
  dsimp only
  repeat' first | with_reducible assumption | with_reducible apply keep_State_set C

theorem keep_State_objectHandle (C : Closed P) : ∀ a0 a1, okS P a0 → okP P (@State.objectHandle a0 a1) := by
  intro a0 a1 h0
  unfold State.objectHandle
  dsimp only
  repeat' first | with_reducible assumption

theorem keep_State_newPages (C : Closed P) : ∀ a0 a1 a2, okS P a0 → okOP P (@State.newPages a0 a1 a2) := by
  intro s sl n h
  induction n generalizing s with
  | zero => exact h
  | succ n ih =>
    unfold State.newPages
    split
    · exact trivial
    · rename_i b t e
      have hn := ih t (okOP_elim e (keep_State_allocate C s _ _ _ h))
      cases hp : t.newPages sl n with
      | none => exact trivial
      | some r => rw [hp] at hn; exact hn

theorem keep_State_dropPages (C : Closed P) : ∀ a0 a1 a2, okS P a0 → okS P (@State.dropPages a0 a1 a2) := by
  intro a0 a1 a2 h0
  unfold State.dropPages
  repeat' first | with_reducible assumption | with_reducible intro _ | with_reducible apply keep_State_freeMem C
                | with_reducible apply keep_State_deallocate C | with_reducible apply keep_foldl (P := P)

theorem keep_State_setNode (C : Closed P) : ∀ a0 a1 a2, okS P a0 → okS P (@State.setNode a0 a1 a2) := by
  intro a0 a1 a2 h0
  unfold State.setNode
  dsimp only
  repeat' first | with_reducible assumption

theorem keep_State_deleteNode (C : Closed P) : ∀ a0 a1 a2, okS P a0 → okS P (@State.deleteNode a0 a1 a2) := by
  intro a0 a1 a2 h0
  unfold State.deleteNode
  dsimp only
  repeat' first | with_reducible assumption | with_reducible apply keep_State_setPool C
                | with_reducible apply keep_State_setNode C | with_reducible apply keep_State_set C

theorem keep_State_reclaimOne (C : Closed P) : ∀ a0 a1, okS P a0 → okO P (@State.reclaimOne a0 a1) := by
  intro a0 a1 h0
  unfold State.reclaimOne
  repeat' first | with_reducible assumption | with_reducible intro _ | with_reducible apply keep_State_bump C
                | with_reducible apply keep_State_deleteNode C | with_reducible apply okO_map (P := P)

theorem keep_State_growOne (C : Closed P) : ∀ a0 a1, okS P a0 → okO P (@State.growOne a0 a1) := by
  intro s key h
  unfold State.growOne
  dsimp only
  split
  · exact trivial
  · have hn := keep_State_newPages C s (key / 16) 1 h
    cases hp : s.newPages (key / 16) 1 with
    | none => exact trivial
    | some r =>
      rw [hp] at hn
      exact keep_State_setPool C _ _ _ (keep_State_useMem C _ _ _ hn)

theorem keep_State_growPool (C : Closed P) : ∀ a0 a1 a2, okS P a0 → okS P (@State.growPool a0 a1 a2) := by
  intro a0 a1 a2
  induction a2 generalizing a0 a1 with
  | zero =>
    intro h0
    exact h0
  | succ n ih =>
    intro h0
    unfold State.growPool
    try dsimp only
    repeat' first | with_reducible assumption | with_reducible apply ih | with_reducible apply keep_State_growOne C
                  | with_reducible refine okO_elim (P := P) (by assumption) ?_ | split

theorem keep_State_takeFree (C : Closed P) : ∀ a0 a1 a2, okS P a0 → okP P (@State.takeFree a0 a1 a2) := by
  intro a0 a1 a2 h0
  unfold State.takeFree
  dsimp only
  repeat' first | with_reducible assumption | with_reducible intro _ | with_reducible apply keep_State_zeroMem C
                | with_reducible apply keep_State_setPool C | with_reducible apply keep_foldl (P := P)

theorem keep_State_takePages (C : Closed P) : ∀ a0 a1 a2 a3 a4, okS P a0 → okP P (@State.takePages a0 a1 a2 a3 a4) := by
  intro s key n mine fuel h
  induction fuel generalizing s with
  | zero => exact h
  | succ k ih =>
    have hg := keep_State_growPool C s key (n - State.openTo (s.kvPool key) mine) h
    have ht := keep_State_takeFree C _ key n hg
    unfold State.takePages
    dsimp only
    split
    · exact ht
    · split
      · rename_i t e
        exact ih _ (okO_elim e (keep_State_reclaimOne C _ _ hg))
      · split
        · exact ht
        · exact hg

theorem keep_State_pagesFor (C : Closed P) : ∀ a0 a1 a2 a3, okS P a0 → okP P (@State.pagesFor a0 a1 a2 a3) := by
  intro a0 a1 a2 a3 h0
  unfold State.pagesFor
  repeat' first | with_reducible assumption | with_reducible apply keep_State_takePages C

theorem keep_State_keepSeq (C : Closed P) : ∀ a0 a1 a2, okS P a0 → okS P (@State.keepSeq a0 a1 a2) := by
  intro a0 a1 a2 h0
  unfold State.keepSeq
  dsimp only
  repeat' first | with_reducible assumption

theorem keep_State_setSeq (C : Closed P) : ∀ a0 a1 a2, okS P a0 → okS P (@State.setSeq a0 a1 a2) := by
  intro a0 a1 a2 h0
  unfold State.setSeq
  dsimp only
  repeat' first | with_reducible assumption | with_reducible apply keep_State_keepSeq C
                | with_reducible apply keep_State_writeMem C | with_reducible apply keep_State_set C

theorem keep_State_freeSeq (C : Closed P) : ∀ a0 a1 a2, okS P a0 → okS P (@State.freeSeq a0 a1 a2) := by
  intro a0 a1 a2 h0
  unfold State.freeSeq
  dsimp only
  repeat' first | with_reducible assumption | with_reducible apply keep_State_setPool C
                | with_reducible apply keep_State_set C

theorem keep_State_reapSeqs (C : Closed P) : ∀ a0, okS P a0 → okS P (@State.reapSeqs a0) := by
  intro a0 h0
  unfold State.reapSeqs
  repeat' first | with_reducible assumption | with_reducible intro _ | with_reducible apply ite_okS (P := P)
                | with_reducible apply keep_State_freeSeq C | with_reducible apply keep_foldl (P := P) | split

theorem keep_State_poolCreate (C : Closed P) : ∀ a0 a1, okS P a0 → okR P (@State.poolCreate a0 a1) := by
  intro a0 a1 h0
  unfold State.poolCreate
  dsimp only
  repeat' first | with_reducible assumption | with_reducible apply ite_okR (P := P)
                | with_reducible apply keep_State_newPages C | with_reducible apply keep_State_objectHandle C
                | with_reducible apply keep_State_setPool C | with_reducible apply keep_State_useMem C
                | with_reducible apply keep_State_set C
                | with_reducible refine okOP_elim (P := P) (by assumption) ?_ | with_reducible apply okR_mk
                | with_reducible exact okR_abort | split

theorem keep_State_poolRemove (C : Closed P) : ∀ a0 a1, okS P a0 → okS P (@State.poolRemove a0 a1) := by
  intro a0 a1 h0
  unfold State.poolRemove
  dsimp only
  repeat' first | with_reducible assumption | with_reducible intro _ | with_reducible apply ite_okS (P := P)
                | with_reducible apply keep_State_deleteNode C | with_reducible apply keep_State_dropPages C
                | with_reducible apply keep_State_setPool C | with_reducible apply keep_State_clear C
                | with_reducible apply keep_foldl (P := P) | split

theorem keep_State_poolDestroy (C : Closed P) : ∀ a0 a1, okS P a0 → okR P (@State.poolDestroy a0 a1) := by
  intro a0 a1 h0
  unfold State.poolDestroy
  repeat' first | with_reducible assumption | with_reducible apply ite_okR (P := P)
                | with_reducible apply keep_State_poolRemove C | with_reducible apply okR_mk
                | with_reducible exact okR_abort

theorem keep_State_poolTrim (C : Closed P) : ∀ a0 a1, okS P a0 → okS P (@State.poolTrim a0 a1) := by
  intro a0 a1 h0
  unfold State.poolTrim
  dsimp only
  repeat' first | with_reducible assumption | with_reducible apply ite_okS (P := P)
                | with_reducible apply keep_State_setPool C | with_reducible apply keep_State_dropPages C

theorem keep_State_poolWrite (C : Closed P) :
    ∀ a0 a1 a2 a3 a4, okS P a0 → okR P (@State.poolWrite a0 a1 a2 a3 a4) := by
  intro a0 a1 a2 a3 a4 h0
  unfold State.poolWrite
  dsimp only
  repeat' first | with_reducible assumption | with_reducible apply ite_okR (P := P)
                | with_reducible apply keep_State_poolCreate C | with_reducible apply keep_State_poolDestroy C
                | with_reducible apply keep_State_poolTrim C | with_reducible apply keep_State_set C
                | with_reducible apply okR_mk | with_reducible exact okR_abort

theorem keep_Work_writePages (C : Closed P) : ∀ a0 a1 a2 a3, okW P a0 → okW P (@Work.writePages a0 a1 a2 a3) := by
  intro a0 a1 a2 a3 h0
  unfold Work.writePages
  repeat' first | with_reducible assumption | with_reducible apply keep_Work_writePieces C

theorem keep_Work_backWith (C : Closed P) :
    ∀ a0 a1 a2 a3 a4, okW P a0 → okP P a4 → okV P (@Work.backWith a0 a1 a2 a3 a4) := by
  intro a0 a1 a2 a3 a4 h0 h4
  unfold Work.backWith
  dsimp only
  repeat' first | with_reducible assumption | with_reducible apply keep_State_setPool C | split

theorem keep_Work_backAll (C : Closed P) : ∀ a0 a1 a2 a3, okW P a0 → okV P (@Work.backAll a0 a1 a2 a3) := by
  intro a0 a1 a2 a3 h0
  unfold Work.backAll
  dsimp only
  repeat' first | with_reducible assumption | with_reducible apply keep_Work_backWith C
                | with_reducible apply keep_State_pagesFor C | with_reducible apply keep_State_keepSeq C

theorem keep_Work_turnOver (C : Closed P) : ∀ a0 a1 a2 a3, okW P a0 → okV P (@Work.turnOver a0 a1 a2 a3) := by
  intro a0 a1 a2 a3 h0
  unfold Work.turnOver
  dsimp only
  repeat' first | with_reducible assumption | with_reducible intro _ | with_reducible apply ite_okV (P := P)
                | with_reducible apply keep_State_zeroMem C | with_reducible apply keep_foldl (P := P)
                | with_reducible apply keep_foldlV (P := P) | split

theorem keep_Work_putRow (C : Closed P) :
    ∀ a0 a1 a2 a3 a4 a5 a6 a7, okW P a0 → okW P (@Work.putRow a0 a1 a2 a3 a4 a5 a6 a7) := by
  intro a0 a1 a2 a3 a4 a5 a6 a7 h0
  unfold Work.putRow
  dsimp only
  repeat' first | with_reducible assumption | with_reducible intro _ | with_reducible apply ite_okW (P := P)
                | with_reducible apply keep_Work_writePages C | with_reducible apply keep_foldlW (P := P)

theorem keep_Work_putRows (C : Closed P) :
    ∀ a0 a1 a2 a3 a4 a5, okW P a0 → okW P (@Work.putRows a0 a1 a2 a3 a4 a5) := by
  intro a0 a1 a2 a3 a4 a5 h0
  unfold Work.putRows
  dsimp only
  repeat' first | with_reducible assumption | with_reducible intro _ | with_reducible apply keep_Work_readElems C
                | with_reducible apply keep_Work_putRow C | with_reducible apply keep_Work_flag C
                | with_reducible apply keep_foldlW (P := P)

theorem keep_Work_clearSlot (C : Closed P) : ∀ a0 a1, okW P a0 → okW P (@Work.clearSlot a0 a1) := by
  intro a0 a1 h0
  unfold Work.clearSlot
  repeat' first | with_reducible assumption | with_reducible intro _ | with_reducible apply keep_State_zeroMem C
                | with_reducible apply keep_foldlW (P := P) | split

theorem keep_Work_freeze (C : Closed P) :
    ∀ a0 a1 a2 a3 a4 a5 a6 a7, okW P a0 → okW P (@Work.freeze a0 a1 a2 a3 a4 a5 a6 a7) := by
  intro a0 a1 a2 a3 a4 a5 a6 a7 h0
  unfold Work.freeze
  dsimp only
  repeat' first | with_reducible assumption | with_reducible apply keep_Work_putRows C
                | with_reducible apply keep_Work_clearSlot C | with_reducible apply keep_State_setSeq C

theorem keep_Work_countDenied (C : Closed P) : ∀ a0 a1, okW P a0 → okW P (@Work.countDenied a0 a1) := by
  intro a0 a1 h0
  unfold Work.countDenied
  repeat' first | with_reducible assumption | with_reducible apply keep_State_bump C

theorem keep_Work_appendBacked (C : Closed P) :
    ∀ a0 a1 a2 a3 a4 a5 a6, okV P a6 → okV P (@Work.appendBacked a0 a1 a2 a3 a4 a5 a6) := by
  intro a0 a1 a2 a3 a4 a5 a6 h6
  unfold Work.appendBacked
  dsimp only
  repeat' first | with_reducible assumption | with_reducible apply ite_okV (P := P)
                | with_reducible apply keep_Work_countDenied C | with_reducible apply keep_Work_freeze C
                | with_reducible apply keep_State_setSeq C | with_reducible apply keep_Work_turnOver C
                | with_reducible apply keep_Work_putRows C | split

theorem keep_Work_appendRec (C : Closed P) : ∀ a0 a1 a2 a3 a4, okW P a0 → okV P (@Work.appendRec a0 a1 a2 a3 a4) := by
  intro a0 a1 a2 a3 a4 h0
  unfold Work.appendRec
  dsimp only
  repeat' first | with_reducible assumption | with_reducible apply ite_okV (P := P)
                | with_reducible apply keep_Work_putRows C | with_reducible apply keep_State_setSeq C
                | with_reducible apply keep_Work_countDenied C | with_reducible apply keep_Work_freeze C
                | with_reducible apply keep_Work_appendBacked C | with_reducible apply keep_Work_backAll C | split

theorem keep_Work_settleList (C : Closed P) : ∀ a0 a1 a2, okW P a0 → okW P (@Work.settleList a0 a1 a2) := by
  intro a0 a1 a2 h0
  unfold Work.settleList
  dsimp only
  repeat' first | with_reducible assumption | with_reducible intro _ | with_reducible apply keep_Work_write C
                | with_reducible apply keep_Work_fail C | with_reducible apply keep_foldlW (P := P) | split

theorem keep_Work_append (C : Closed P) : ∀ a0 a1, okW P a0 → okW P (@Work.append a0 a1) := by
  intro w d h
  have hf : ∀ (pool : Nat) (l : List ListRec) (z : List Work.RecRes × Nat × Work), okU P z → okU P (l.foldl (fun a x =>
      (a.1 ++ [(a.2.2.appendRec d pool x a.2.1).1], a.2.1 + x.count, (a.2.2.appendRec d pool x a.2.1).2)) z) := by
    intro pool l
    induction l with
    | nil => intro z hz; exact hz
    | cons x l ih => intro z hz; exact ih _ (keep_Work_appendRec C _ _ _ _ _ hz)
  unfold Work.append
  dsimp only
  split
  · exact h
  · split
    · exact h
    · exact keep_Work_settleList C _ _ _ (hf _ _ _ h)

theorem keep_Work_touchNode (C : Closed P) : ∀ a0 a1, okW P a0 → okW P (@Work.touchNode a0 a1) := by
  intro a0 a1 h0
  unfold Work.touchNode
  dsimp only
  repeat' first | with_reducible assumption | with_reducible apply keep_State_setNode C | split

theorem keep_Work_openPages (C : Closed P) : ∀ a0 a1 a2, okW P a0 → okV P (@Work.openPages a0 a1 a2) := by
  intro a0 a1 a2 h0
  unfold Work.openPages
  dsimp only
  repeat' first | with_reducible assumption | with_reducible intro _ | with_reducible apply ite_okV (P := P)
                | with_reducible apply keep_State_zeroMem C | with_reducible apply keep_State_setPool C
                | with_reducible apply keep_State_pagesFor C
                | with_reducible refine okP_elim (P := P) (by assumption) ?_
                | with_reducible apply keep_foldl (P := P) | split

theorem keep_Work_opened (C : Closed P) : ∀ a0 a1 a2 a3, okV P a3 → okW P (@Work.opened a0 a1 a2 a3) := by
  intro a0 a1 a2 a3 h3
  unfold Work.opened
  dsimp only
  repeat' first | with_reducible assumption | with_reducible intro _ | with_reducible apply keep_Work_fail C
                | with_reducible apply keep_State_setSeq C | with_reducible apply keep_Work_touchNode C
                | with_reducible apply keep_foldlW (P := P) | split

theorem keep_Work_seqOpen (C : Closed P) : ∀ a0 a1, okW P a0 → okW P (@Work.seqOpen a0 a1) := by
  intro a0 a1 h0
  unfold Work.seqOpen
  dsimp only
  repeat' first | with_reducible assumption | with_reducible apply ite_okW (P := P)
                | with_reducible apply keep_Work_fail C | with_reducible apply keep_Work_read C
                | with_reducible apply keep_State_objectHandle C | with_reducible apply keep_State_keepSeq C
                | with_reducible apply keep_Work_opened C | with_reducible apply keep_Work_openPages C | split

theorem keep_Work_seqClose (C : Closed P) : ∀ a0 a1, okW P a0 → okW P (@Work.seqClose a0 a1) := by
  intro a0 a1 h0
  unfold Work.seqClose
  repeat' first | with_reducible assumption | with_reducible apply keep_State_keepSeq C | split

theorem keep_Work_landPending (C : Closed P) : ∀ a0 a1 a2, okW P a0 → okW P (@Work.landPending a0 a1 a2) := by
  intro a0 a1 a2 h0
  unfold Work.landPending
  dsimp only
  repeat' first | with_reducible assumption | with_reducible intro _ | with_reducible apply keep_Work_readPieces C
                | with_reducible apply keep_Work_writePages C | with_reducible apply keep_foldlW (P := P)

theorem keep_Work_resumeBacked (C : Closed P) : ∀ a0 a1 a2 a3, okV P a3 → okW P (@Work.resumeBacked a0 a1 a2 a3) := by
  intro a0 a1 a2 a3 h3
  unfold Work.resumeBacked
  dsimp only
  repeat' first | with_reducible assumption | with_reducible apply keep_Work_fail C
                | with_reducible apply keep_State_setSeq C | with_reducible apply keep_Work_landPending C | split

theorem keep_Work_resume (C : Closed P) : ∀ a0 a1, okW P a0 → okW P (@Work.resume a0 a1) := by
  intro a0 a1 h0
  unfold Work.resume
  dsimp only
  repeat' first | with_reducible assumption | with_reducible apply ite_okW (P := P)
                | with_reducible apply keep_Work_fail C | with_reducible apply keep_Work_resumeBacked C
                | with_reducible apply keep_Work_backAll C | split

theorem keep_Work_nodeRoom (C : Closed P) : ∀ a0 a1 a2, okW P a0 → okV P (@Work.nodeRoom a0 a1 a2) := by
  intro a0 a1 a2
  induction a2 generalizing a0 a1 with
  | zero =>
    intro h0
    exact h0
  | succ n ih =>
    intro h0
    unfold Work.nodeRoom
    try dsimp only
    repeat' first | with_reducible assumption | with_reducible apply ite_okV (P := P) | with_reducible apply ih
                  | with_reducible apply keep_State_reclaimOne C
                  | with_reducible refine okO_elim (P := P) (by assumption) ?_ | split

theorem keep_Work_makeNode (C : Closed P) :
    ∀ a0 a1 a2 a3 a4 a5 a6 a7, okW P a0 → okW P (@Work.makeNode a0 a1 a2 a3 a4 a5 a6 a7) := by
  intro a0 a1 a2 a3 a4 a5 a6 a7 h0
  unfold Work.makeNode
  dsimp only
  repeat' first | with_reducible assumption | with_reducible apply keep_State_setNode C
                | with_reducible apply keep_State_set C | with_reducible apply keep_State_setPool C
                | with_reducible apply keep_State_setSeq C

theorem keep_Work_publishChunk (C : Closed P) :
    ∀ a0 a1 a2 a3 a4 a5, okW P a0 → okV P (@Work.publishChunk a0 a1 a2 a3 a4 a5) := by
  intro a0 a1 a2 a3 a4 a5 h0
  unfold Work.publishChunk
  dsimp only
  repeat' first | with_reducible assumption | with_reducible apply ite_okV (P := P)
                | with_reducible apply keep_Work_touchNode C | with_reducible apply keep_Work_nodeRoom C
                | with_reducible apply keep_Work_makeNode C | split

theorem keep_Work_publishFrom (C : Closed P) :
    ∀ a0 a1 a2 a3 a4 a5 a6, okW P a0 → okV P (@Work.publishFrom a0 a1 a2 a3 a4 a5 a6) := by
  intro a0 a1 a2 a3 a4 a5 a6
  induction a3 generalizing a0 a1 a2 a4 a5 a6 with
  | zero =>
    intro h0
    exact h0
  | succ n ih =>
    intro h0
    unfold Work.publishFrom
    try dsimp only
    repeat' first | with_reducible assumption | with_reducible apply ih
                  | with_reducible apply keep_Work_publishChunk C
                  | with_reducible refine okV_elim (P := P) (by assumption) ?_ | split

theorem keep_Work_publish (C : Closed P) : ∀ a0 a1, okW P a0 → okW P (@Work.publish a0 a1) := by
  intro a0 a1 h0
  unfold Work.publish
  dsimp only
  repeat' first | with_reducible assumption | with_reducible apply keep_Work_read C
                | with_reducible apply keep_Work_publishFrom C | split

theorem keep_execKvAppend (C : Closed P) : ∀ a0 a1 a2, okS P a2 → okOut P (@execKvAppend a0 a1 a2) := by
  intro a0 a1 a2 h2
  unfold execKvAppend
  repeat' first | with_reducible assumption | with_reducible intro _ | with_reducible apply keep_State_runDesc C
                | with_reducible apply keep_Work_append C | with_reducible apply okOut_mk

theorem keep_execKvSeqOpen (C : Closed P) : ∀ a0 a1 a2, okS P a2 → okOut P (@execKvSeqOpen a0 a1 a2) := by
  intro a0 a1 a2 h2
  unfold execKvSeqOpen
  repeat' first | with_reducible assumption | with_reducible intro _ | with_reducible apply keep_State_runDesc C
                | with_reducible apply keep_Work_seqOpen C | with_reducible apply okOut_mk

theorem keep_execKvSeqClose (C : Closed P) : ∀ a0 a1 a2, okS P a2 → okOut P (@execKvSeqClose a0 a1 a2) := by
  intro a0 a1 a2 h2
  unfold execKvSeqClose
  repeat' first | with_reducible assumption | with_reducible intro _ | with_reducible apply keep_State_runDesc C
                | with_reducible apply keep_Work_seqClose C | with_reducible apply okOut_mk

theorem keep_execKvResume (C : Closed P) : ∀ a0 a1 a2, okS P a2 → okOut P (@execKvResume a0 a1 a2) := by
  intro a0 a1 a2 h2
  unfold execKvResume
  repeat' first | with_reducible assumption | with_reducible intro _ | with_reducible apply keep_State_runDesc C
                | with_reducible apply keep_Work_resume C | with_reducible apply okOut_mk

theorem keep_execKvPrefixPublish (C : Closed P) : ∀ a0 a1 a2, okS P a2 → okOut P (@execKvPrefixPublish a0 a1 a2) := by
  intro a0 a1 a2 h2
  unfold execKvPrefixPublish
  repeat' first | with_reducible assumption | with_reducible intro _ | with_reducible apply keep_State_runDesc C
                | with_reducible apply keep_Work_publish C | with_reducible apply okOut_mk

theorem keep_Work_kvRow (C : Closed P) : ∀ a0 a1 a2 a3 a4 a5, okW P a0 → okV P (@Work.kvRow a0 a1 a2 a3 a4 a5) := by
  intro a0 a1 a2 a3 a4 a5 h0
  unfold Work.kvRow
  dsimp only
  repeat' first | with_reducible assumption | with_reducible apply ite_okV (P := P)
                | with_reducible apply keep_Work_readPieces C | with_reducible apply keep_Work_staged C
                | with_reducible apply keep_Work_read C | split

theorem keep_Work_fetchKv (C : Closed P) :
    ∀ a0 a1 a2 a3 a4 a5, okW P a0 → okV P (@Work.fetchKv a0 a1 a2 a3 a4 a5) := by
  intro a0 a1 a2 a3 a4 a5 h0
  unfold Work.fetchKv
  dsimp only
  repeat' first | with_reducible assumption | with_reducible intro _ | with_reducible apply keep_Work_kvRow C
                | with_reducible apply keep_foldlV (P := P)

theorem keep_Work_attnChunk (C : Closed P) :
    ∀ a0 a1 a2 a3 a4 a5 a6 a7, okW P a0 → okW P (@Work.attnChunk a0 a1 a2 a3 a4 a5 a6 a7) := by
  intro a0 a1 a2 a3 a4 a5 a6 a7 h0
  unfold Work.attnChunk
  dsimp only
  repeat' first | with_reducible assumption | with_reducible intro _ | with_reducible apply ite_okW (P := P)
                | with_reducible apply ite_okV (P := P) | with_reducible apply keep_Work_arrival C
                | with_reducible apply keep_Work_fetchKv C | with_reducible apply keep_Work_readElems C
                | with_reducible apply keep_Work_flag C | with_reducible apply keep_Work_writeElems C
                | with_reducible apply keep_foldlW (P := P)

theorem keep_Work_attnSeq (C : Closed P) :
    ∀ a0 a1 a2 a3 a4 a5 a6, okW P a0 → okW P (@Work.attnSeq a0 a1 a2 a3 a4 a5 a6) := by
  intro a0 a1 a2 a3 a4 a5 a6 h0
  unfold Work.attnSeq
  dsimp only
  repeat' first | with_reducible assumption | with_reducible intro _ | with_reducible apply keep_Work_group C
                | with_reducible apply keep_Work_attnChunk C | with_reducible apply keep_foldlW (P := P)

theorem keep_Work_attnPool (C : Closed P) : ∀ a0 a1 a2, okW P a0 → okW P (@Work.attnPool a0 a1 a2) := by
  intro w a d h
  unfold Work.attnPool
  dsimp only
  split
  · exact h
  · refine keep_Work_settleList C _ _ _ ?_
    have hf : ∀ (g : (List (Nat × Nat) × Nat × Nat × Work) → ListRec → List (Nat × Nat) × Nat × Nat × Work)
        (_ : ∀ z x, okW P z.2.2.2 → okW P (g z x).2.2.2) (l : List ListRec) (z : List (Nat × Nat) × Nat × Nat × Work),
        okW P z.2.2.2 → okW P (l.foldl g z).2.2.2 := by
      intro g hg l
      induction l with
      | nil => intro z hz; exact hz
      | cons x l ih => intro z hz; exact ih _ (hg _ _ hz)
    refine hf _ ?_ _ _ h
    intro z x hz
    split
    · exact hz
    · split
      · exact hz
      · split
        · exact hz
        · exact keep_Work_attnSeq C _ _ _ _ _ _ _ hz

theorem keep_Work_attnBlock (C : Closed P) : ∀ a0 a1 a2, okW P a0 → okW P (@Work.attnBlock a0 a1 a2) := by
  intro a0 a1 a2 h0
  unfold Work.attnBlock
  dsimp only
  repeat' first | with_reducible assumption | with_reducible apply ite_okW (P := P)
                | with_reducible apply keep_Work_read C | with_reducible apply keep_Work_fail C
                | with_reducible apply keep_Work_attnSeq C | split

theorem keep_Work_attention (C : Closed P) : ∀ a0 a1, okW P a0 → okW P (@Work.attention a0 a1) := by
  intro a0 a1 h0
  unfold Work.attention
  dsimp only
  repeat' first | with_reducible assumption | with_reducible apply ite_okW (P := P)
                | with_reducible apply keep_Work_attnBlock C | with_reducible apply keep_Work_attnPool C
                | with_reducible apply keep_Work_settleState C

theorem keep_Work_attnCombine (C : Closed P) : ∀ a0 a1, okW P a0 → okW P (@Work.attnCombine a0 a1) := by
  intro a0 a1 h0
  unfold Work.attnCombine
  dsimp only
  repeat' first | with_reducible assumption | with_reducible intro _ | with_reducible apply ite_okW (P := P)
                | with_reducible apply ite_okV (P := P) | with_reducible apply keep_Work_readElems C
                | with_reducible apply keep_Work_tiles C | with_reducible apply keep_Work_writeElems C
                | with_reducible apply keep_Work_settleState C | with_reducible apply keep_foldlW (P := P)

theorem keep_Work_blockExport (C : Closed P) : ∀ a0 a1, okW P a0 → okW P (@Work.blockExport a0 a1) := by
  intro a0 a1 h0
  unfold Work.blockExport
  dsimp only
  repeat' first | with_reducible assumption | with_reducible intro _ | with_reducible apply ite_okW (P := P)
                | with_reducible apply keep_Work_fail C | with_reducible apply keep_Work_write C
                | with_reducible apply keep_Work_readPieces C | with_reducible apply keep_Work_staged C
                | with_reducible apply keep_Work_output C | with_reducible apply keep_Work_settleState C
                | with_reducible apply keep_foldlW (P := P) | split

theorem keep_execAttention (C : Closed P) : ∀ a0 a1 a2, okS P a2 → okOut P (@execAttention a0 a1 a2) := by
  intro a0 a1 a2 h2
  unfold execAttention
  repeat' first | with_reducible assumption | with_reducible intro _ | with_reducible apply keep_State_runDesc C
                | with_reducible apply keep_Work_attention C | with_reducible apply okOut_mk

theorem keep_execAttnCombine (C : Closed P) : ∀ a0 a1 a2, okS P a2 → okOut P (@execAttnCombine a0 a1 a2) := by
  intro a0 a1 a2 h2
  unfold execAttnCombine
  repeat' first | with_reducible assumption | with_reducible intro _ | with_reducible apply keep_State_runDesc C
                | with_reducible apply keep_Work_attnCombine C | with_reducible apply okOut_mk

theorem keep_execKvBlockExport (C : Closed P) : ∀ a0 a1 a2, okS P a2 → okOut P (@execKvBlockExport a0 a1 a2) := by
  intro a0 a1 a2 h2
  unfold execKvBlockExport
  repeat' first | with_reducible assumption | with_reducible intro _ | with_reducible apply keep_State_runDesc C
                | with_reducible apply keep_Work_blockExport C | with_reducible apply okOut_mk

end Sys2Proof.Machine
end

