-- ==== Sys2Proof/Laws/KeepsService.lean ====
section
/-! SUPPORT. The frame library, continued: what counters, governor, firmware, links, graphics, display and power keep. -/

set_option linter.unusedVariables false

namespace Sys2Proof.Machine

open Sys2Proof

variable {P : KProp} {α β γ : Type}

theorem keep_State_clearCounters (C : Closed P) : ∀ a0, okS P a0 → okS P (@State.clearCounters a0) := by
  intro a0 h0
  unfold State.clearCounters
  dsimp only
  repeat' first | with_reducible assumption

theorem keep_State_snapshot (C : Closed P) : ∀ a0 a1, okS P a0 → okS P (@State.snapshot a0 a1) := by
  intro a0 a1 h0
  unfold State.snapshot
  dsimp only
  repeat' first | with_reducible assumption

theorem keep_State_ringWrite (C : Closed P) :
    ∀ a0 a1 a2 a3 a4 a5 a6 a7 a8, okS P a0 → okS P (@State.ringWrite a0 a1 a2 a3 a4 a5 a6 a7 a8) := by
  intro a0 a1 a2 a3 a4 a5 a6 a7 a8 h0
  unfold State.ringWrite
  dsimp only
  repeat' first | with_reducible assumption | with_reducible apply ite_okS (P := P)
                | with_reducible apply keep_State_addRecord C | with_reducible apply keep_State_set C
                | with_reducible apply keep_State_noteRefusal C | with_reducible apply keep_State_count C
                | with_reducible apply keep_State_bump32 C | with_reducible apply keep_State_writeMem C
                | with_reducible apply keep_State_chargeRange C

theorem keep_State_counterDump (C : Closed P) : ∀ a0, okS P a0 → okS P (@State.counterDump a0) := by
  intro a0 h0
  unfold State.counterDump
  dsimp only
  repeat' first | with_reducible assumption | with_reducible apply ite_okS (P := P)
                | with_reducible apply keep_State_bump C | with_reducible apply keep_State_ringWrite C

theorem keep_State_drawTag (C : Closed P) : ∀ a0, okS P a0 → okS P (@State.drawTag a0) := by
  intro a0 h0
  unfold State.drawTag
  dsimp only
  repeat' first | with_reducible assumption | with_reducible apply keep_State_fresh C

theorem keep_State_counterWrite (C : Closed P) :
    ∀ a0 a1 a2 a3, okS P a0 → okR P (@State.counterWrite a0 a1 a2 a3) := by
  intro a0 a1 a2 a3 h0
  unfold State.counterWrite
  dsimp only
  repeat' first | with_reducible assumption | with_reducible apply ite_okR (P := P)
                | with_reducible apply ite_okS (P := P) | with_reducible apply keep_State_clearCounters C
                | with_reducible apply keep_State_set C | with_reducible apply keep_State_drawTag C
                | with_reducible apply okR_mk | with_reducible exact okR_abort

theorem keep_State_countFetch (C : Closed P) : ∀ a0, okS P a0 → okP P (@State.countFetch a0) := by
  intro a0 h0
  unfold State.countFetch
  dsimp only
  repeat' first | with_reducible assumption | with_reducible apply ite_okP (P := P)
                | with_reducible apply keep_State_count C | with_reducible apply keep_State_drawTag C

theorem keep_State_tagRecord (C : Closed P) :
    ∀ a0 a1 a2 a3 a4 a5 a6, okS P a0 → okS P (@State.tagRecord a0 a1 a2 a3 a4 a5 a6) := by
  intro a0 a1 a2 a3 a4 a5 a6 h0
  unfold State.tagRecord
  dsimp only
  repeat' first | with_reducible assumption | with_reducible apply ite_okS (P := P)
                | with_reducible apply keep_State_ringWrite C

theorem keep_State_engineTick (C : Closed P) : ∀ a0 a1, okS P a0 → okS P (@State.engineTick a0 a1) := by
  intro a0 a1 h0
  unfold State.engineTick
  dsimp only
  repeat' first | with_reducible assumption | with_reducible apply ite_okS (P := P)
                | with_reducible apply keep_State_count C | with_reducible apply keep_State_setSlice C
                | with_reducible apply keep_State_bump C | with_reducible apply keep_State_setDesc C | split

theorem keep_execPmuSnapshot (C : Closed P) : ∀ a0 a1, okS P a1 → okOut P (@execPmuSnapshot a0 a1) := by
  intro a0 a1 h1
  unfold execPmuSnapshot
  repeat' first | with_reducible assumption | with_reducible apply ite_okS (P := P)
                | with_reducible apply keep_State_emit C | with_reducible apply keep_State_snapshot C
                | with_reducible apply okOut_mk

theorem keep_execCounterDump (C : Closed P) : ∀ a0, okS P a0 → okOut P (@execCounterDump a0) := by
  intro a0 h0
  unfold execCounterDump
  repeat' first | with_reducible assumption | with_reducible apply keep_State_counterDump C
                | with_reducible apply okOut_mk

theorem keep_State_setDbg (C : Closed P) : ∀ a0 a1, okS P a0 → okS P (@State.setDbg a0 a1) := by
  intro a0 a1 h0
  unfold State.setDbg
  repeat' first | with_reducible assumption

theorem keep_State_setCmderr (C : Closed P) : ∀ a0 a1, okS P a0 → okS P (@State.setCmderr a0 a1) := by
  intro a0 a1 h0
  unfold State.setCmderr
  dsimp only
  repeat' first | with_reducible assumption | with_reducible apply ite_okS (P := P)
                | with_reducible apply keep_State_setDbg C

theorem keep_State_dmHalt (C : Closed P) : ∀ a0 a1, okS P a0 → okS P (@State.dmHalt a0 a1) := by
  intro a0 a1 h0
  unfold State.dmHalt
  dsimp only
  repeat' first | with_reducible assumption | with_reducible apply ite_okS (P := P)
                | with_reducible apply keep_State_setCmderr C | with_reducible apply keep_State_setHart C

theorem keep_State_dmResume (C : Closed P) : ∀ a0 a1, okS P a0 → okS P (@State.dmResume a0 a1) := by
  intro a0 a1 h0
  unfold State.dmResume
  dsimp only
  repeat' first | with_reducible assumption | with_reducible apply ite_okS (P := P)
                | with_reducible apply keep_State_setCmderr C | with_reducible apply keep_State_resumeHart C
                | with_reducible apply keep_State_setHart C

theorem keep_State_accessRegister (C : Closed P) :
    ∀ a0 a1 a2 a3 a4, okS P a0 → okP P (@State.accessRegister a0 a1 a2 a3 a4) := by
  intro a0 a1 a2 a3 a4 h0
  unfold State.accessRegister
  dsimp only
  repeat' first | with_reducible assumption | with_reducible apply ite_okP (P := P)
                | with_reducible apply ite_okS (P := P) | with_reducible apply keep_State_setCmderr C
                | with_reducible apply keep_State_setHart C

theorem keep_State_dmStep (C : Closed P) : ∀ a0 a1 a2, okS P a0 → okS P (@State.dmStep a0 a1 a2) := by
  intro a0 a1 a2 h0
  unfold State.dmStep
  dsimp only
  repeat' first | with_reducible assumption | with_reducible apply ite_okS (P := P)
                | with_reducible apply keep_State_setCmderr C | with_reducible apply keep_State_setHart C

theorem keep_State_sbaTagWrite (C : Closed P) : ∀ a0 a1, okS P a0 → okR P (@State.sbaTagWrite a0 a1) := by
  intro a0 a1 h0
  unfold State.sbaTagWrite
  repeat' first | with_reducible assumption | with_reducible apply ite_okR (P := P)
                | with_reducible apply keep_State_set C | with_reducible apply okR_mk
                | with_reducible exact okR_abort

theorem keep_State_setSberror (C : Closed P) : ∀ a0 a1, okS P a0 → okS P (@State.setSberror a0 a1) := by
  intro a0 a1 h0
  unfold State.setSberror
  dsimp only
  repeat' first | with_reducible assumption | with_reducible apply ite_okS (P := P)
                | with_reducible apply keep_State_setDbg C

theorem keep_State_systemBus (C : Closed P) :
    ∀ a0 a1 a2 a3 a4, okS P a0 → okP P (@State.systemBus a0 a1 a2 a3 a4) := by
  intro a0 a1 a2 a3 a4 h0
  unfold State.systemBus
  dsimp only
  repeat' first | with_reducible assumption | with_reducible apply ite_okP (P := P)
                | with_reducible apply ite_okS (P := P) | with_reducible apply keep_State_setSberror C
                | with_reducible apply keep_State_noteRefusal C | with_reducible apply keep_State_request C

theorem keep_State_runCommand (C : Closed P) : ∀ a0, okS P a0 → okS P (@State.runCommand a0) := by
  intro a0 h0
  unfold State.runCommand
  dsimp only
  repeat' first | with_reducible assumption | with_reducible apply ite_okS (P := P)
                | with_reducible apply keep_State_setCmderr C | with_reducible apply keep_State_accessRegister C
                | with_reducible apply keep_State_setDbg C | with_reducible apply keep_State_fresh C | split

theorem keep_State_sbRun (C : Closed P) : ∀ a0 a1, okS P a0 → okS P (@State.sbRun a0 a1) := by
  intro a0 a1 h0
  unfold State.sbRun
  dsimp only
  repeat' first | with_reducible assumption | with_reducible apply ite_okS (P := P)
                | with_reducible apply keep_State_systemBus C | with_reducible apply keep_State_setDbg C | split

theorem keep_State_dmcontrol (C : Closed P) : ∀ a0 a1, okS P a0 → okS P (@State.dmcontrol a0 a1) := by
  intro a0 a1 h0
  unfold State.dmcontrol
  dsimp only
  repeat' first | with_reducible assumption | with_reducible intro _ | with_reducible apply ite_okS (P := P)
                | with_reducible apply keep_State_setDbg C | with_reducible apply keep_State_setHart C
                | with_reducible apply keep_State_dmHalt C | with_reducible apply keep_State_dmResume C
                | with_reducible apply keep_foldl (P := P)

theorem keep_State_autoexec (C : Closed P) : ∀ a0 a1, okS P a0 → okS P (@State.autoexec a0 a1) := by
  intro a0 a1 h0
  unfold State.autoexec
  repeat' first | with_reducible assumption | with_reducible apply ite_okS (P := P)
                | with_reducible apply keep_State_runCommand C

theorem keep_State_dmWrite (C : Closed P) : ∀ a0 a1 a2, okS P a0 → okS P (@State.dmWrite a0 a1 a2) := by
  intro a0 a1 a2 h0
  unfold State.dmWrite
  dsimp only
  repeat' first | with_reducible assumption | with_reducible apply ite_okS (P := P)
                | with_reducible apply keep_State_dmcontrol C | with_reducible apply keep_State_autoexec C
                | with_reducible apply keep_State_setDbg C | with_reducible apply keep_State_runCommand C
                | with_reducible apply keep_State_sbRun C

theorem keep_State_dmRead (C : Closed P) : ∀ a0 a1, okS P a0 → okP P (@State.dmRead a0 a1) := by
  intro a0 a1 h0
  unfold State.dmRead
  dsimp only
  repeat' first | with_reducible assumption | with_reducible apply ite_okP (P := P)
                | with_reducible apply ite_okS (P := P) | with_reducible apply keep_State_autoexec C
                | with_reducible apply keep_State_sbRun C

theorem keep_State_dmi (C : Closed P) : ∀ a0 a1 a2 a3, okS P a0 → okS P (@State.dmi a0 a1 a2 a3) := by
  intro a0 a1 a2 a3 h0
  unfold State.dmi
  dsimp only
  repeat' first | with_reducible assumption | with_reducible apply ite_okS (P := P)
                | with_reducible apply keep_State_setDbg C | with_reducible apply keep_State_dmWrite C
                | with_reducible apply keep_State_dmRead C | with_reducible apply keep_State_emit C

theorem keep_State_tapSelect (C : Closed P) : ∀ a0 a1 a2, okS P a0 → okS P (@State.tapSelect a0 a1 a2) := by
  intro a0 a1 a2 h0
  unfold State.tapSelect
  dsimp only
  repeat' first | with_reducible assumption | with_reducible apply keep_State_emit C
                | with_reducible apply keep_State_setDbg C

theorem keep_State_debugWrite (C : Closed P) : ∀ a0 a1 a2, okS P a0 → okR P (@State.debugWrite a0 a1 a2) := by
  intro a0 a1 a2 h0
  unfold State.debugWrite
  repeat' first | with_reducible assumption | with_reducible apply ite_okR (P := P)
                | with_reducible apply keep_State_sbaTagWrite C | with_reducible apply okR_mk

theorem keep_execIdcode (C : Closed P) : ∀ a0, okS P a0 → okOut P (@execIdcode a0) := by
  intro a0 h0
  unfold execIdcode
  repeat' first | with_reducible assumption | with_reducible apply keep_State_tapSelect C
                | with_reducible apply okOut_mk

theorem keep_execDtmcs (C : Closed P) : ∀ a0, okS P a0 → okOut P (@execDtmcs a0) := by
  intro a0 h0
  unfold execDtmcs
  repeat' first | with_reducible assumption | with_reducible apply keep_State_tapSelect C
                | with_reducible apply okOut_mk

theorem keep_execBypass (C : Closed P) : ∀ a0 a1, okS P a1 → okOut P (@execBypass a0 a1) := by
  intro a0 a1 h1
  unfold execBypass
  repeat' first | with_reducible assumption | with_reducible apply ite_okS (P := P)
                | with_reducible apply keep_State_tapSelect C | with_reducible apply okOut_mk

theorem keep_execDmi (C : Closed P) : ∀ a0 a1 a2 a3, okS P a3 → okOut P (@execDmi a0 a1 a2 a3) := by
  intro a0 a1 a2 a3 h3
  unfold execDmi
  repeat' first | with_reducible assumption | with_reducible apply keep_State_dmi C | with_reducible apply okOut_mk

theorem keep_execDmHalt (C : Closed P) : ∀ a0 a1, okS P a1 → okOut P (@execDmHalt a0 a1) := by
  intro a0 a1 h1
  unfold execDmHalt
  repeat' first | with_reducible assumption | with_reducible apply keep_State_dmHalt C | with_reducible apply okOut_mk

theorem keep_execDmResume (C : Closed P) : ∀ a0 a1, okS P a1 → okOut P (@execDmResume a0 a1) := by
  intro a0 a1 h1
  unfold execDmResume
  repeat' first | with_reducible assumption | with_reducible apply keep_State_dmResume C
                | with_reducible apply okOut_mk

theorem keep_execDmSingleStep (C : Closed P) : ∀ a0 a1 a2, okS P a2 → okOut P (@execDmSingleStep a0 a1 a2) := by
  intro a0 a1 a2 h2
  unfold execDmSingleStep
  repeat' first | with_reducible assumption | with_reducible apply keep_State_dmStep C | with_reducible apply okOut_mk

theorem keep_execAccessRegister (C : Closed P) :
    ∀ a0 a1 a2 a3 a4, okS P a4 → okOut P (@execAccessRegister a0 a1 a2 a3 a4) := by
  intro a0 a1 a2 a3 a4 h4
  unfold execAccessRegister
  dsimp only
  repeat' first | with_reducible assumption | with_reducible apply ite_okS (P := P)
                | with_reducible apply keep_State_accessRegister C | with_reducible apply keep_State_emit C
                | with_reducible apply okOut_mk

theorem keep_execSystemBusAccess (C : Closed P) :
    ∀ a0 a1 a2 a3 a4, okS P a4 → okOut P (@execSystemBusAccess a0 a1 a2 a3 a4) := by
  intro a0 a1 a2 a3 a4 h4
  unfold execSystemBusAccess
  dsimp only
  repeat' first | with_reducible assumption | with_reducible apply ite_okS (P := P)
                | with_reducible apply keep_State_systemBus C | with_reducible apply keep_State_emit C
                | with_reducible apply okOut_mk

theorem keep_State_loseHbm (C : Closed P) : ∀ a0, okS P a0 → okS P (@State.loseHbm a0) := by
  intro s h
  exact C.lose _ _ _ _ _ h

theorem keep_State_resetMain (C : Closed P) : ∀ a0 a1, okS P a0 → okS P (@State.resetMain a0 a1) := by
  intro s cold h
  unfold State.resetMain
  dsimp only
  apply keep_State_renewChallenge C
  apply keep_State_aim C
  apply keep_State_set C
  refine keep_foldl (P := P) _ ?_ _ _ ?_
  · intro u z hu
    exact keep_State_zeroMem C _ _ _ hu
  · exact C.lose _ _ _ _ _ h

theorem keep_State_loadComm (C : Closed P) : ∀ a0, okS P a0 → okS P (@State.loadComm a0) := by
  intro a0 h0
  unfold State.loadComm
  dsimp only
  repeat' first | with_reducible assumption | with_reducible intro _ | with_reducible apply ite_okS (P := P)
                | with_reducible apply keep_foldl (P := P) | split

theorem keep_State_setRunning (C : Closed P) : ∀ a0 a1 a2, okS P a0 → okS P (@State.setRunning a0 a1 a2) := by
  intro a0 a1 a2 h0
  unfold State.setRunning
  dsimp only
  repeat' first | with_reducible assumption

theorem keep_State_startHarts (C : Closed P) : ∀ a0, okS P a0 → okS P (@State.startHarts a0) := by
  intro a0 h0
  unfold State.startHarts
  repeat' first | with_reducible assumption | with_reducible intro _ | with_reducible apply keep_State_setHart C
                | with_reducible apply keep_foldl (P := P)

theorem keep_State_startHypervisor (C : Closed P) : ∀ a0 a1, okS P a0 → okS P (@State.startHypervisor a0 a1) := by
  intro a0 a1 h0
  unfold State.startHypervisor
  dsimp only
  repeat' first | with_reducible assumption | with_reducible apply keep_State_addRecord C
                | with_reducible apply keep_State_startHarts C | with_reducible apply keep_State_setRunning C
                | with_reducible apply keep_State_setHart C | split

theorem keep_State_mainStart (C : Closed P) : ∀ a0 a1, okS P a0 → okS P (@State.mainStart a0 a1) := by
  intro a0 a1 h0
  unfold State.mainStart
  dsimp only
  repeat' first | with_reducible assumption | with_reducible intro _ | with_reducible apply ite_okS (P := P)
                | with_reducible apply keep_State_releaseIslands C | with_reducible apply keep_State_set C
                | with_reducible apply keep_State_setRunning C | with_reducible apply keep_State_loadComm C
                | with_reducible apply keep_State_droneEnter C | with_reducible apply keep_State_startHypervisor C
                | with_reducible apply keep_State_addRecord C | with_reducible apply keep_foldl (P := P) | split

theorem keep_execCoreRailPowerOnReset (C : Closed P) :
    ∀ a0 a1, okS P a1 → okOut P (@execCoreRailPowerOnReset a0 a1) := by
  intro a0 a1 h1
  unfold execCoreRailPowerOnReset
  repeat' first | with_reducible assumption | with_reducible apply ite_okS (P := P)
                | with_reducible apply keep_State_railAt C | with_reducible apply keep_State_resetMain C
                | with_reducible apply okOut_mk

theorem keep_execMainSideStart (C : Closed P) : ∀ a0 a1, okS P a1 → okOut P (@execMainSideStart a0 a1) := by
  intro a0 a1 h1
  unfold execMainSideStart
  repeat' first | with_reducible assumption | with_reducible apply keep_State_mainStart C
                | with_reducible apply okOut_mk

theorem keep_execSecureWatchdog (C : Closed P) : ∀ a0, okS P a0 → okOut P (@execSecureWatchdog a0) := by
  intro a0 h0
  unfold execSecureWatchdog
  dsimp only
  repeat' first | with_reducible assumption | with_reducible apply ite_okS (P := P)
                | with_reducible apply keep_State_resetMain C | with_reducible apply okOut_mk | split

theorem keep_State_setFw (C : Closed P) : ∀ a0 a1, okS P a0 → okS P (@State.setFw a0 a1) := by
  intro a0 a1 h0
  unfold State.setFw
  repeat' first | with_reducible assumption

theorem keep_State_fwOf (C : Closed P) : ∀ a0 a1, okS P a0 → okP P (@State.fwOf a0 a1) := by
  intro a0 a1 h0
  unfold State.fwOf
  dsimp only
  repeat' first | with_reducible assumption | with_reducible apply ite_okP (P := P)
                | with_reducible apply keep_State_fresh C

theorem keep_State_nodeLost (C : Closed P) : ∀ a0 a1, okS P a0 → okS P (@State.nodeLost a0 a1) := by
  intro a0 a1 h0
  unfold State.nodeLost
  dsimp only
  repeat' first | with_reducible assumption | with_reducible apply keep_State_setFw C

theorem keep_State_sendImage (C : Closed P) : ∀ a0 a1 a2 a3, okS P a0 → okS P (@State.sendImage a0 a1 a2 a3) := by
  intro a0 a1 a2 a3 h0
  unfold State.sendImage
  dsimp only
  repeat' first | with_reducible assumption | with_reducible intro _ | with_reducible apply ite_okS (P := P)
                | with_reducible apply keep_State_sendFrame C | with_reducible apply keep_State_setFw C
                | with_reducible apply keep_State_nodeLost C | with_reducible apply keep_foldl (P := P)

theorem keep_State_copyImage (C : Closed P) : ∀ a0 a1 a2, okS P a0 → okP P (@State.copyImage a0 a1 a2) := by
  intro a0 a1 a2 h0
  unfold State.copyImage
  dsimp only
  repeat' first | with_reducible assumption | with_reducible apply keep_State_writeMem C

theorem keep_State_loadHere (C : Closed P) : ∀ a0 a1, okS P a0 → okS P (@State.loadHere a0 a1) := by
  intro a0 a1 h0
  unfold State.loadHere
  dsimp only
  repeat' first | with_reducible assumption | with_reducible apply keep_State_setFw C
                | with_reducible apply keep_State_copyImage C
                | with_reducible refine okP_elim (P := P) (by assumption) ?_ | split

theorem keep_State_updateHere (C : Closed P) : ∀ a0 a1, okS P a0 → okS P (@State.updateHere a0 a1) := by
  intro a0 a1 h0
  unfold State.updateHere
  dsimp only
  repeat' first | with_reducible assumption | with_reducible apply keep_State_setFw C
                | with_reducible apply keep_State_copyImage C
                | with_reducible refine okP_elim (P := P) (by assumption) ?_ | split

theorem keep_State_skeot (C : Closed P) :
    ∀ a0 a1 a2 a3 a4 a5 a6, okS P a0 → (∀ x0, okS P x0 → okS P (a6 x0)) → okS P (@State.skeot a0 a1 a2 a3 a4 a5 a6) := by
  intro a0 a1 a2 a3 a4 a5 a6 h0 h6
  unfold State.skeot
  dsimp only
  repeat' first | with_reducible assumption | with_reducible apply ite_okS (P := P) | with_reducible apply h6
                | with_reducible apply keep_State_emit C | with_reducible apply keep_State_fwOf C
                | with_reducible apply keep_State_sendImage C

theorem keep_State_skeotStatus (C : Closed P) : ∀ a0 a1 a2, okS P a0 → okS P (@State.skeotStatus a0 a1 a2) := by
  intro a0 a1 a2 h0
  unfold State.skeotStatus
  repeat' first | with_reducible assumption | with_reducible apply ite_okS (P := P)
                | with_reducible apply keep_State_emit C | with_reducible apply keep_State_fwOf C

theorem keep_State_imageArrived (C : Closed P) : ∀ a0 a1, okS P a0 → okS P (@State.imageArrived a0 a1) := by
  intro a0 a1 h0
  unfold State.imageArrived
  dsimp only
  repeat' first | with_reducible assumption | with_reducible apply ite_okS (P := P)
                | with_reducible apply keep_State_setFw C | with_reducible apply keep_State_updateHere C
                | with_reducible apply keep_State_loadHere C

theorem keep_State_imageBytes (C : Closed P) : ∀ a0 a1, okS P a0 → okS P (@State.imageBytes a0 a1) := by
  intro a0 a1 h0
  unfold State.imageBytes
  dsimp only
  repeat' first | with_reducible assumption | with_reducible apply ite_okS (P := P)
                | with_reducible apply keep_State_setFw C | with_reducible apply keep_State_imageArrived C

theorem keep_State_imageLost (C : Closed P) : ∀ a0, okS P a0 → okS P (@State.imageLost a0) := by
  intro a0 h0
  unfold State.imageLost
  dsimp only
  repeat' first | with_reducible assumption | with_reducible apply ite_okS (P := P)
                | with_reducible apply keep_State_setFw C

theorem keep_State_moduleReset (C : Closed P) : ∀ a0 a1 a2, okS P a0 → okS P (@State.moduleReset a0 a1 a2) := by
  intro a0 a1 a2 h0
  unfold State.moduleReset
  dsimp only
  repeat' first | with_reducible assumption | with_reducible apply ite_okS (P := P)
                | with_reducible apply keep_State_emit C | with_reducible apply keep_State_resetMain C
                | with_reducible apply keep_State_fresh C | with_reducible apply keep_State_sendFrame C

theorem keep_State_beat (C : Closed P) : ∀ a0, okS P a0 → okS P (@State.beat a0) := by
  intro a0 h0
  unfold State.beat
  dsimp only
  repeat' first | with_reducible assumption

theorem keep_State_firmwareStart (C : Closed P) : ∀ a0 a1, okS P a0 → okS P (@State.firmwareStart a0 a1) := by
  intro a0 a1 h0
  unfold State.firmwareStart
  dsimp only
  repeat' first | with_reducible assumption | with_reducible apply ite_okS (P := P)
                | with_reducible apply keep_State_setFw C | with_reducible apply keep_State_bump C
                | with_reducible apply keep_State_set C | with_reducible apply keep_State_setRunning C
                | with_reducible apply keep_State_flushRecords C | with_reducible apply keep_State_addRecord C
                | with_reducible apply keep_State_railSag C

theorem keep_State_pauseBegin (C : Closed P) : ∀ a0, okS P a0 → okS P (@State.pauseBegin a0) := by
  intro a0 h0
  unfold State.pauseBegin
  dsimp only
  repeat' first | with_reducible assumption | with_reducible apply ite_okS (P := P)
                | with_reducible apply keep_State_beat C | with_reducible apply keep_State_setFw C

theorem keep_State_skipPause (C : Closed P) : ∀ a0, okS P a0 → okS P (@State.skipPause a0) := by
  intro a0 h0
  unfold State.skipPause
  dsimp only
  repeat' first | with_reducible assumption

theorem keep_State_handoffCheck (C : Closed P) : ∀ a0 a1 a2, okS P a0 → okS P (@State.handoffCheck a0 a1 a2) := by
  intro a0 a1 a2 h0
  unfold State.handoffCheck
  dsimp only
  repeat' first | with_reducible assumption | with_reducible apply ite_okS (P := P)
                | with_reducible apply keep_State_skipPause C | with_reducible apply keep_State_setFw C
                | with_reducible apply keep_State_bump C | with_reducible apply keep_State_set C
                | with_reducible apply keep_State_setRunning C | with_reducible apply keep_State_flushRecords C
                | with_reducible apply keep_State_addRecord C | with_reducible apply keep_State_railSag C
                | with_reducible apply keep_State_beat C

theorem keep_State_fwFault (C : Closed P) : ∀ a0, okS P a0 → okS P (@State.fwFault a0) := by
  intro a0 h0
  unfold State.fwFault
  dsimp only
  repeat' first | with_reducible assumption | with_reducible apply ite_okS (P := P)
                | with_reducible apply keep_State_addRecord C | with_reducible apply keep_State_setFw C

theorem keep_execSkeotLoad (C : Closed P) : ∀ a0 a1 a2 a3 a4, okS P a4 → okOut P (@execSkeotLoad a0 a1 a2 a3 a4) := by
  intro a0 a1 a2 a3 a4 h4
  unfold execSkeotLoad
  repeat' first | with_reducible assumption | with_reducible intro _ | with_reducible apply keep_State_skeot C
                | with_reducible apply keep_State_loadHere C | with_reducible apply okOut_mk

theorem keep_execSkeotUpdate (C : Closed P) :
    ∀ a0 a1 a2 a3 a4, okS P a4 → okOut P (@execSkeotUpdate a0 a1 a2 a3 a4) := by
  intro a0 a1 a2 a3 a4 h4
  unfold execSkeotUpdate
  repeat' first | with_reducible assumption | with_reducible intro _ | with_reducible apply keep_State_skeot C
                | with_reducible apply keep_State_updateHere C | with_reducible apply okOut_mk

theorem keep_execSkeotStatus (C : Closed P) : ∀ a0 a1 a2, okS P a2 → okOut P (@execSkeotStatus a0 a1 a2) := by
  intro a0 a1 a2 h2
  unfold execSkeotStatus
  repeat' first | with_reducible assumption | with_reducible apply keep_State_skeotStatus C
                | with_reducible apply okOut_mk

theorem keep_execModuleReset (C : Closed P) : ∀ a0 a1 a2, okS P a2 → okOut P (@execModuleReset a0 a1 a2) := by
  intro a0 a1 a2 h2
  unfold execModuleReset
  repeat' first | with_reducible assumption | with_reducible apply keep_State_moduleReset C
                | with_reducible apply okOut_mk

theorem keep_execFirmwareStart (C : Closed P) : ∀ a0 a1, okS P a1 → okOut P (@execFirmwareStart a0 a1) := by
  intro a0 a1 h1
  unfold execFirmwareStart
  repeat' first | with_reducible assumption | with_reducible apply keep_State_firmwareStart C
                | with_reducible apply okOut_mk

theorem keep_execUpdatePauseBegin (C : Closed P) : ∀ a0, okS P a0 → okOut P (@execUpdatePauseBegin a0) := by
  intro a0 h0
  unfold execUpdatePauseBegin
  repeat' first | with_reducible assumption | with_reducible apply keep_State_pauseBegin C
                | with_reducible apply okOut_mk

theorem keep_execHandoffCheck (C : Closed P) : ∀ a0 a1 a2, okS P a2 → okOut P (@execHandoffCheck a0 a1 a2) := by
  intro a0 a1 a2 h2
  unfold execHandoffCheck
  repeat' first | with_reducible assumption | with_reducible apply keep_State_handoffCheck C
                | with_reducible apply okOut_mk

theorem keep_State_cacheReply (C : Closed P) : ∀ a0 a1, okS P a0 → okS P (@State.cacheReply a0 a1) := by
  intro a0 a1 h0
  unfold State.cacheReply
  dsimp only
  repeat' first | with_reducible assumption

theorem keep_State_fmpReply (C : Closed P) : ∀ a0 a1 a2 a3, okS P a0 → okS P (@State.fmpReply a0 a1 a2 a3) := by
  intro a0 a1 a2 a3 h0
  unfold State.fmpReply
  dsimp only
  repeat' first | with_reducible assumption | with_reducible apply keep_State_emit C
                | with_reducible apply keep_State_cacheReply C

theorem keep_State_fmpRefuse (C : Closed P) : ∀ a0 a1 a2 a3, okS P a0 → okS P (@State.fmpRefuse a0 a1 a2 a3) := by
  intro a0 a1 a2 a3 h0
  unfold State.fmpRefuse
  repeat' first | with_reducible assumption | with_reducible apply keep_State_fmpReply C

theorem keep_State_setPresent (C : Closed P) : ∀ a0 a1, okS P a0 → okS P (@State.setPresent a0 a1) := by
  intro a0 a1 h0
  unfold State.setPresent
  repeat' first | with_reducible assumption | with_reducible apply keep_State_setB C

theorem keep_State_hello (C : Closed P) : ∀ a0 a1, okS P a0 → okS P (@State.hello a0 a1) := by
  intro a0 a1 h0
  unfold State.hello
  dsimp only
  repeat' first | with_reducible assumption | with_reducible apply keep_State_putFrame C

theorem keep_State_helloAll (C : Closed P) : ∀ a0, okS P a0 → okS P (@State.helloAll a0) := by
  intro a0 h0
  unfold State.helloAll
  repeat' first | with_reducible assumption | with_reducible intro _ | with_reducible apply keep_State_hello C
                | with_reducible apply keep_foldl (P := P)

theorem keep_State_assign (C : Closed P) : ∀ a0 a1 a2, okS P a0 → okS P (@State.assign a0 a1 a2) := by
  intro a0 a1 a2 h0
  unfold State.assign
  dsimp only
  repeat' first | with_reducible assumption | with_reducible apply keep_State_sendFrame C

theorem keep_State_enumerate (C : Closed P) : ∀ a0 a1, okS P a0 → okS P (@State.enumerate a0 a1) := by
  intro a0 a1 h0
  unfold State.enumerate
  dsimp only
  repeat' first | with_reducible assumption | with_reducible intro _ | with_reducible apply ite_okS (P := P)
                | with_reducible apply keep_State_set C | with_reducible apply keep_State_setB C
                | with_reducible apply keep_State_setPresent C | with_reducible apply keep_State_helloAll C
                | with_reducible apply keep_State_assign C | with_reducible apply keep_State_addRecord C
                | with_reducible apply keep_foldl (P := P)

theorem keep_State_topologyCmd (C : Closed P) : ∀ a0 a1, okS P a0 → okR P (@State.topologyCmd a0 a1) := by
  intro a0 a1 h0
  unfold State.topologyCmd
  repeat' first | with_reducible assumption | with_reducible apply ite_okR (P := P)
                | with_reducible apply keep_State_enumerate C | with_reducible apply okR_mk
                | with_reducible exact okR_abort

theorem keep_State_retrain (C : Closed P) : ∀ a0 a1, okS P a0 → okS P (@State.retrain a0 a1) := by
  intro a0 a1 h0
  unfold State.retrain
  dsimp only
  repeat' first | with_reducible assumption | with_reducible apply ite_okS (P := P)
                | with_reducible apply keep_State_set C

theorem keep_State_portARole (C : Closed P) : ∀ a0 a1, okS P a0 → okR P (@State.portARole a0 a1) := by
  intro a0 a1 h0
  unfold State.portARole
  repeat' first | with_reducible assumption | with_reducible apply ite_okR (P := P)
                | with_reducible apply keep_State_retrain C | with_reducible apply keep_State_set C
                | with_reducible apply okR_mk | with_reducible exact okR_abort

theorem keep_State_tellNeighbours (C : Closed P) : ∀ a0 a1, okS P a0 → okS P (@State.tellNeighbours a0 a1) := by
  intro a0 a1 h0
  unfold State.tellNeighbours
  dsimp only
  repeat' first | with_reducible assumption | with_reducible intro _ | with_reducible apply ite_okS (P := P)
                | with_reducible apply keep_State_putFrame C | with_reducible apply keep_foldl (P := P) | split

theorem keep_State_linkTrained (C : Closed P) :
    ∀ a0 a1 a2 a3 a4, okS P a0 → okS P (@State.linkTrained a0 a1 a2 a3 a4) := by
  intro a0 a1 a2 a3 a4 h0
  unfold State.linkTrained
  dsimp only
  repeat' first | with_reducible assumption | with_reducible apply ite_okS (P := P)
                | with_reducible apply keep_State_retrain C | with_reducible apply keep_State_set C
                | with_reducible apply keep_State_tellNeighbours C | with_reducible apply keep_State_setPresent C

theorem keep_State_writeOutWin (C : Closed P) : ∀ a0 a1 a2, okS P a0 → okR P (@State.writeOutWin a0 a1 a2) := by
  intro a0 a1 a2 h0
  unfold State.writeOutWin
  dsimp only
  repeat' first | with_reducible assumption | with_reducible apply ite_okR (P := P)
                | with_reducible apply keep_State_setB C | with_reducible apply okR_mk
                | with_reducible exact okR_abort

theorem keep_State_spoil (C : Closed P) : ∀ a0 a1 a2 a3, okS P a0 → okS P (@State.spoil a0 a1 a2 a3) := by
  intro a0 a1 a2 a3 h0
  unfold State.spoil
  dsimp only
  repeat' first | with_reducible assumption | with_reducible apply keep_State_setDesc C | split

theorem keep_State_endsNow (C : Closed P) : ∀ a0 a1 a2 a3, okS P a0 → okS P (@State.endsNow a0 a1 a2 a3) := by
  intro a0 a1 a2 a3 h0
  unfold State.endsNow
  repeat' first | with_reducible assumption | with_reducible apply ite_okS (P := P)
                | with_reducible apply keep_State_finish C | split

theorem keep_State_landed (C : Closed P) : ∀ a0 a1 a2, okS P a0 → okS P (@State.landed a0 a1 a2) := by
  intro a0 a1 a2 h0
  unfold State.landed
  repeat' first | with_reducible assumption | with_reducible apply ite_okS (P := P)
                | with_reducible apply keep_State_serveAll C | with_reducible apply keep_State_convert C

theorem keep_State_bulkFails (C : Closed P) : ∀ a0 a1 a2, okS P a0 → okS P (@State.bulkFails a0 a1 a2) := by
  intro a0 a1 a2 h0
  unfold State.bulkFails
  dsimp only
  repeat' first | with_reducible assumption | with_reducible apply keep_State_landed C
                | with_reducible apply keep_State_pumpBulk C | with_reducible apply keep_State_endsNow C
                | with_reducible apply keep_State_spoil C

theorem keep_State_readerFails (C : Closed P) : ∀ a0 a1 a2, okS P a0 → okS P (@State.readerFails a0 a1 a2) := by
  intro a0 a1 a2 h0
  unfold State.readerFails
  repeat' first | with_reducible assumption | with_reducible apply keep_State_emit C | split

theorem keep_State_smallFails (C : Closed P) : ∀ a0 a1 a2 a3, okS P a0 → okS P (@State.smallFails a0 a1 a2 a3) := by
  intro a0 a1 a2 a3 h0
  unfold State.smallFails
  dsimp only
  repeat' first | with_reducible assumption | with_reducible apply keep_State_readerFails C
                | with_reducible apply keep_State_fmpRefuse C | with_reducible apply keep_State_slotLost C | split

theorem keep_State_backFails (C : Closed P) : ∀ a0 a1, okS P a0 → okS P (@State.backFails a0 a1) := by
  intro a0 a1 h0
  unfold State.backFails
  repeat' first | with_reducible assumption | with_reducible apply keep_State_setCopy C | split

theorem keep_State_dropFrames (C : Closed P) : ∀ a0 a1, okS P a0 → okS P (@State.dropFrames a0 a1) := by
  intro a0 a1 h0
  unfold State.dropFrames
  dsimp only
  repeat' first | with_reducible assumption

theorem keep_State_eventLost (C : Closed P) : ∀ a0 a1, okS P a0 → okS P (@State.eventLost a0 a1) := by
  intro a0 a1 h0
  unfold State.eventLost
  dsimp only
  repeat' first | with_reducible assumption | with_reducible apply keep_State_bump C
                | with_reducible apply keep_State_setSlice C

theorem keep_State_noteFailed (C : Closed P) : ∀ a0 a1 a2, okS P a0 → okS P (@State.noteFailed a0 a1 a2) := by
  intro a0 a1 a2 h0
  unfold State.noteFailed
  repeat' first | with_reducible assumption | with_reducible apply keep_State_addRecord C

theorem keep_State_ackEnds (C : Closed P) : ∀ a0 a1 a2 a3, okS P a0 → okS P (@State.ackEnds a0 a1 a2 a3) := by
  intro a0 a1 a2 a3 h0
  unfold State.ackEnds
  dsimp only
  repeat' first | with_reducible assumption | with_reducible apply ite_okS (P := P)
                | with_reducible apply keep_State_emit C | with_reducible apply keep_State_noteFailed C
                | with_reducible apply keep_State_settleLeaving C | with_reducible apply keep_State_backFails C
                | with_reducible apply keep_State_setDesc C | with_reducible apply keep_State_finish C
                | with_reducible apply keep_State_dropFrames C | with_reducible apply keep_State_recordLost C
                | with_reducible apply keep_State_eventLost C | split

theorem keep_State_setSendLane (C : Closed P) : ∀ a0 a1 a2 a3, okS P a0 → okS P (@State.setSendLane a0 a1 a2 a3) := by
  intro a0 a1 a2 a3 h0
  unfold State.setSendLane
  dsimp only
  repeat' first | with_reducible assumption

theorem keep_Work_batchBytes (C : Closed P) : ∀ a0 a1 a2, okW P a0 → okV P (@Work.batchBytes a0 a1 a2) := by
  intro a0 a1 a2 h0
  unfold Work.batchBytes
  dsimp only
  repeat' first | with_reducible assumption | with_reducible intro _ | with_reducible apply ite_okV (P := P)
                | with_reducible apply keep_Work_read C | with_reducible apply keep_Work_mapM C
                | with_reducible apply keep_Work_fail C | split

theorem keep_Work_sendBatch (C : Closed P) : ∀ a0 a1, okW P a0 → okW P (@Work.sendBatch a0 a1) := by
  intro a0 a1 h0
  unfold Work.sendBatch
  dsimp only
  repeat' first | with_reducible assumption | with_reducible intro _ | with_reducible apply keep_Work_batchBytes C
                | with_reducible apply keep_State_setSendLane C | with_reducible apply keep_State_writeTag C
                | with_reducible apply keep_State_sendFrame C | with_reducible apply keep_foldl (P := P)

theorem keep_State_startSend (C : Closed P) : ∀ a0 a1 a2, okS P a0 → okS P (@State.startSend a0 a1 a2) := by
  intro a0 a1 a2 h0
  unfold State.startSend
  dsimp only
  repeat' first | with_reducible assumption | with_reducible apply keep_Work_sendBatch C
                | with_reducible apply keep_State_startWork C | with_reducible apply keep_State_setDesc C | split

theorem keep_State_pumpSends (C : Closed P) : ∀ a0 a1, okS P a1 → okS P (@State.pumpSends a0 a1) := by
  intro k s h
  induction k generalizing s with
  | zero => exact h
  | succ k ih =>
    unfold State.pumpSends
    split
    · exact h
    · split
      · exact h
      · exact ih _ (keep_State_startSend C _ _ _ h)

theorem keep_State_runSends (C : Closed P) : ∀ a0, okS P a0 → okS P (@State.runSends a0) := by
  intro a0 h0
  unfold State.runSends
  repeat' first | with_reducible assumption | with_reducible apply keep_State_pumpSends C

theorem keep_State_queueSend (C : Closed P) : ∀ a0 a1 a2 a3, okS P a0 → okS P (@State.queueSend a0 a1 a2 a3) := by
  intro a0 a1 a2 a3 h0
  unfold State.queueSend
  dsimp only
  repeat' first | with_reducible assumption | with_reducible apply keep_State_finish C
                | with_reducible apply keep_State_runSends C | split

theorem keep_State_beginSend (C : Closed P) : ∀ a0 a1 a2, okS P a0 → okS P (@State.beginSend a0 a1 a2) := by
  intro a0 a1 a2 h0
  unfold State.beginSend
  repeat' first | with_reducible assumption | with_reducible apply ite_okS (P := P)
                | with_reducible apply keep_State_queueSend C | with_reducible apply keep_State_beginDirect C
                | with_reducible apply keep_State_finish C | with_reducible apply keep_State_fetchInputs C
                | with_reducible refine okO_elim (P := P) (by assumption) ?_
                | with_reducible refine okOP_elim (P := P) (by assumption) ?_ | split

theorem keep_State_sendExpired (C : Closed P) : ∀ a0 a1 a2, okS P a0 → okS P (@State.sendExpired a0 a1 a2) := by
  intro a0 a1 a2 h0
  unfold State.sendExpired
  dsimp only
  repeat' first | with_reducible assumption | with_reducible apply ite_okS (P := P)
                | with_reducible apply keep_State_runSends C | with_reducible apply keep_State_finish C | split

theorem keep_State_stagingFit (C : Closed P) : ∀ a0 a1, okS P a0 → okP P (@State.stagingFit a0 a1) := by
  intro a0 a1 h0
  unfold State.stagingFit
  dsimp only
  repeat' first | with_reducible assumption

theorem keep_State_sendCredit (C : Closed P) : ∀ a0 a1, okS P a0 → okS P (@State.sendCredit a0 a1) := by
  intro a0 a1 h0
  unfold State.sendCredit
  dsimp only
  repeat' first | with_reducible assumption | with_reducible apply keep_State_fresh C
                | with_reducible apply keep_State_sendFrame C

theorem keep_State_laneOpen (C : Closed P) : ∀ a0 a1, okS P a0 → okR P (@State.laneOpen a0 a1) := by
  intro a0 a1 h0
  unfold State.laneOpen
  dsimp only
  repeat' first | with_reducible assumption | with_reducible apply ite_okR (P := P)
                | with_reducible apply keep_State_stagingFit C | with_reducible apply keep_State_newEntry C
                | with_reducible apply keep_State_sendCredit C | with_reducible apply keep_State_set C
                | with_reducible refine okP_elim (P := P) (by assumption) ?_
                | with_reducible refine okOP_elim (P := P) (by assumption) ?_ | with_reducible apply okR_mk
                | with_reducible exact okR_abort | split | dsimp only [okS]

theorem keep_State_laneClose (C : Closed P) : ∀ a0 a1, okS P a0 → okS P (@State.laneClose a0 a1) := by
  intro a0 a1 h0
  unfold State.laneClose
  dsimp only
  repeat' first | with_reducible assumption | with_reducible apply ite_okS (P := P)
                | with_reducible apply keep_State_setTentry C | with_reducible apply keep_State_reap C
                | with_reducible apply keep_State_set C | split

theorem keep_State_lend (C : Closed P) : ∀ a0 a1, okS P a0 → okR P (@State.lend a0 a1) := by
  intro a0 a1 h0
  unfold State.lend
  dsimp only
  repeat' first | with_reducible assumption | with_reducible apply ite_okR (P := P)
                | with_reducible apply keep_State_deallocate C | with_reducible apply keep_State_set C
                | with_reducible apply keep_State_allocate C
                | with_reducible refine okOP_elim (P := P) (by assumption) ?_ | with_reducible apply okR_mk
                | with_reducible exact okR_abort | split

theorem keep_State_linkWrite (C : Closed P) : ∀ a0 a1 a2 a3, okS P a0 → okR P (@State.linkWrite a0 a1 a2 a3) := by
  intro a0 a1 a2 a3 h0
  unfold State.linkWrite
  repeat' first | with_reducible assumption | with_reducible apply ite_okR (P := P)
                | with_reducible apply keep_State_writeOutWin C | with_reducible apply keep_State_setB C
                | with_reducible apply keep_State_topologyCmd C | with_reducible apply keep_State_portARole C
                | with_reducible apply keep_State_lend C | with_reducible apply keep_State_laneOpen C
                | with_reducible apply keep_State_laneClose C | with_reducible apply keep_State_set C
                | with_reducible apply okR_mk | with_reducible exact okR_abort | split

theorem keep_Work_releaseLane (C : Closed P) : ∀ a0 a1, okW P a0 → okW P (@Work.releaseLane a0 a1) := by
  intro a0 a1 h0
  unfold Work.releaseLane
  dsimp only
  repeat' first | with_reducible assumption | with_reducible apply ite_okW (P := P)
                | with_reducible apply keep_Work_fail C | with_reducible apply keep_State_sendCredit C
                | with_reducible apply keep_State_set C

theorem keep_State_linkDown (C : Closed P) : ∀ a0 a1, okS P a0 → okS P (@State.linkDown a0 a1) := by
  intro a0 a1 h0
  unfold State.linkDown
  dsimp only
  repeat' first | with_reducible assumption | with_reducible intro _ | with_reducible apply ite_okS (P := P)
                | with_reducible apply keep_State_dropPort C | with_reducible apply keep_State_set C
                | with_reducible apply keep_State_addRecord C | with_reducible apply keep_State_bump C
                | with_reducible apply keep_State_setPresent C | with_reducible apply keep_State_tellNeighbours C
                | with_reducible apply keep_State_nodeLost C | with_reducible apply keep_State_imageLost C
                | with_reducible apply keep_State_smallFails C | with_reducible apply keep_State_ackEnds C
                | with_reducible apply keep_State_bulkFails C | with_reducible apply keep_State_finish C
                | with_reducible apply keep_State_runSends C | with_reducible apply keep_foldl (P := P) | split

theorem keep_State_smallTag (C : Closed P) : ∀ a0 a1, okS P a0 → okP P (@State.smallTag a0 a1) := by
  intro a0 a1 h0
  unfold State.smallTag
  dsimp only
  repeat' first | with_reducible assumption | with_reducible apply keep_State_freshTag C
                | with_reducible refine okP_elim (P := P) (by assumption) ?_ | split
                | dsimp only [okV, okW, okS, okP]

theorem keep_State_signalRc (C : Closed P) : ∀ a0 a1 a2, okS P a0 → okS P (@State.signalRc a0 a1 a2) := by
  intro a0 a1 a2 h0
  unfold State.signalRc
  dsimp only
  repeat' first | with_reducible assumption | with_reducible apply keep_State_smallTag C
                | with_reducible apply keep_State_fresh C | with_reducible apply keep_State_sendFrame C
                | with_reducible refine okP_elim (P := P) (by assumption) ?_ | split

theorem keep_State_deliverWord (C : Closed P) : ∀ a0 a1 a2 a3, okS P a0 → okS P (@State.deliverWord a0 a1 a2 a3) := by
  intro a0 a1 a2 a3 h0
  unfold State.deliverWord
  dsimp only
  repeat' first | with_reducible assumption | with_reducible intro _ | with_reducible apply keep_State_msi C
                | with_reducible apply keep_foldl (P := P)

theorem keep_State_serveNode (C : Closed P) : ∀ a0 a1, okS P a0 → okS P (@State.serveNode a0 a1) := by
  intro a0 a1 h0
  unfold State.serveNode
  dsimp only
  repeat' first | with_reducible assumption | with_reducible intro _ | with_reducible apply ite_okS (P := P)
                | with_reducible apply keep_State_deliverWord C | with_reducible apply keep_State_signalRc C
                | with_reducible apply keep_foldl (P := P)

theorem keep_State_servePending (C : Closed P) : ∀ a0, okS P a0 → okS P (@State.servePending a0) := by
  intro a0 h0
  unfold State.servePending
  repeat' first | with_reducible assumption | with_reducible intro _ | with_reducible apply ite_okS (P := P)
                | with_reducible apply keep_State_serveNode C | with_reducible apply keep_foldl (P := P)

theorem keep_State_signalPoll (C : Closed P) : ∀ a0, okS P a0 → okS P (@State.signalPoll a0) := by
  intro a0 h0
  unfold State.signalPoll
  dsimp only
  repeat' first | with_reducible assumption | with_reducible intro _ | with_reducible apply keep_State_signalRc C
                | with_reducible apply keep_State_servePending C | with_reducible apply keep_foldl (P := P)

theorem keep_State_discardStale (C : Closed P) : ∀ a0 a1 a2, okS P a0 → okS P (@State.discardStale a0 a1 a2) := by
  intro a0 a1 a2 h0
  unfold State.discardStale
  repeat' first | with_reducible assumption | with_reducible apply keep_State_bump C
                | with_reducible apply keep_State_setBuffer C | split

theorem keep_execLinkTrained (C : Closed P) :
    ∀ a0 a1 a2 a3 a4, okS P a4 → okOut P (@execLinkTrained a0 a1 a2 a3 a4) := by
  intro a0 a1 a2 a3 a4 h4
  unfold execLinkTrained
  repeat' first | with_reducible assumption | with_reducible apply ite_okS (P := P)
                | with_reducible apply keep_State_linkTrained C | with_reducible apply okOut_mk

theorem keep_execLinkDown (C : Closed P) : ∀ a0 a1, okS P a1 → okOut P (@execLinkDown a0 a1) := by
  intro a0 a1 h1
  unfold execLinkDown
  repeat' first | with_reducible assumption | with_reducible apply ite_okS (P := P)
                | with_reducible apply keep_State_linkDown C | with_reducible apply okOut_mk

theorem keep_execCaravanSend (C : Closed P) : ∀ a0 a1 a2, okS P a2 → okOut P (@execCaravanSend a0 a1 a2) := by
  intro a0 a1 a2 h2
  unfold execCaravanSend
  repeat' first | with_reducible assumption | with_reducible apply keep_State_beginSend C
                | with_reducible apply okOut_mk

theorem keep_execCaravanWaitTimeout (C : Closed P) :
    ∀ a0 a1 a2, okS P a2 → okOut P (@execCaravanWaitTimeout a0 a1 a2) := by
  intro a0 a1 a2 h2
  unfold execCaravanWaitTimeout
  repeat' first | with_reducible assumption | with_reducible apply keep_State_sendExpired C
                | with_reducible apply okOut_mk

theorem keep_execCaravanRelease (C : Closed P) : ∀ a0 a1 a2, okS P a2 → okOut P (@execCaravanRelease a0 a1 a2) := by
  intro a0 a1 a2 h2
  unfold execCaravanRelease
  repeat' first | with_reducible assumption | with_reducible intro _ | with_reducible apply keep_State_runDirect C
                | with_reducible apply keep_Work_releaseLane C | with_reducible apply okOut_mk

theorem keep_execConfirmedWriteTimeout (C : Closed P) :
    ∀ a0 a1, okS P a1 → okOut P (@execConfirmedWriteTimeout a0 a1) := by
  intro a0 a1 h1
  unfold execConfirmedWriteTimeout
  repeat' first | with_reducible assumption | with_reducible apply ite_okS (P := P)
                | with_reducible apply keep_State_runSends C | with_reducible apply keep_State_ackEnds C
                | with_reducible apply okOut_mk | split

theorem keep_execReadDiscardTimeout (C : Closed P) : ∀ a0 a1, okS P a1 → okOut P (@execReadDiscardTimeout a0 a1) := by
  intro a0 a1 h1
  unfold execReadDiscardTimeout
  repeat' first | with_reducible assumption | with_reducible apply ite_okS (P := P)
                | with_reducible apply keep_State_bump C | with_reducible apply keep_State_smallFails C
                | with_reducible apply okOut_mk | split

theorem keep_execBulkReadTimeout (C : Closed P) : ∀ a0 a1, okS P a1 → okOut P (@execBulkReadTimeout a0 a1) := by
  intro a0 a1 h1
  unfold execBulkReadTimeout
  repeat' first | with_reducible assumption | with_reducible apply ite_okS (P := P)
                | with_reducible apply keep_State_bulkFails C | with_reducible apply okOut_mk | split

theorem keep_execBufferedCompletionDiscard (C : Closed P) :
    ∀ a0 a1 a2, okS P a2 → okOut P (@execBufferedCompletionDiscard a0 a1 a2) := by
  intro a0 a1 a2 h2
  unfold execBufferedCompletionDiscard
  repeat' first | with_reducible assumption | with_reducible apply keep_State_discardStale C
                | with_reducible apply okOut_mk

theorem keep_execSignalPageWrite (C : Closed P) : ∀ a0 a1 a2, okS P a2 → okOut P (@execSignalPageWrite a0 a1 a2) := by
  intro a0 a1 a2 h2
  unfold execSignalPageWrite
  repeat' first | with_reducible assumption | with_reducible apply keep_State_signalWrite C
                | with_reducible apply okOut_mk

theorem keep_execSignalPoll (C : Closed P) : ∀ a0, okS P a0 → okOut P (@execSignalPoll a0) := by
  intro a0 h0
  unfold execSignalPoll
  repeat' first | with_reducible assumption | with_reducible apply keep_State_signalPoll C
                | with_reducible apply okOut_mk

theorem keep_Work_loadTile (C : Closed P) : ∀ a0 a1 a2, okW P a0 → okV P (@Work.loadTile a0 a1 a2) := by
  intro a0 a1 a2 h0
  unfold Work.loadTile
  dsimp only
  repeat' first | with_reducible assumption | with_reducible intro _ | with_reducible apply ite_okV (P := P)
                | with_reducible apply keep_Work_read C | with_reducible apply keep_foldlV (P := P)

theorem keep_Work_shaderAccess (C : Closed P) :
    ∀ a0 a1 a2 a3 a4, okW P a0 → okV P (@Work.shaderAccess a0 a1 a2 a3 a4) := by
  intro a0 a1 a2 a3 a4 h0
  unfold Work.shaderAccess
  dsimp only
  repeat' first | with_reducible assumption | with_reducible apply ite_okV (P := P)
                | with_reducible apply ite_okW (P := P) | with_reducible apply keep_Work_read C
                | with_reducible apply keep_Work_fail C | with_reducible apply keep_Work_output C | split

theorem keep_Work_shaderAccesses (C : Closed P) :
    ∀ a0 a1 a2 a3 a4 a5, okW P a5 → okV P (@Work.shaderAccesses a0 a1 a2 a3 a4 a5) := by
  intro a0 a1 a2 a3 a4 a5
  induction a3 generalizing a0 a1 a2 a4 a5 with
  | zero =>
    intro h5
    exact h5
  | succ n ih =>
    intro h5
    unfold Work.shaderAccesses
    try dsimp only
    repeat' first | with_reducible assumption | with_reducible apply ih
                  | with_reducible apply keep_Work_shaderAccess C

theorem keep_Work_drawIndices (C : Closed P) : ∀ a0 a1, okW P a0 → okV P (@Work.drawIndices a0 a1) := by
  intro a0 a1 h0
  unfold Work.drawIndices
  dsimp only
  repeat' first | with_reducible assumption | with_reducible apply ite_okV (P := P)
                | with_reducible apply ite_okW (P := P) | with_reducible apply keep_Work_read C
                | with_reducible apply keep_Work_freeVal C | with_reducible apply keep_Work_fail C | split

theorem keep_Work_tileDraws (C : Closed P) : ∀ a0 a1 a2, okW P a0 → okV P (@Work.tileDraws a0 a1 a2) := by
  intro a0 a1 a2 h0
  unfold Work.tileDraws
  dsimp only
  repeat' first | with_reducible assumption | with_reducible intro _ | with_reducible apply keep_Work_drawIndices C
                | with_reducible apply keep_Work_freeVal C | with_reducible apply keep_Work_shaderAccesses C
                | with_reducible apply keep_foldlV (P := P)

theorem keep_Work_storeTile (C : Closed P) :
    ∀ a0 a1 a2 a3 a4 a5, okW P a0 → okW P (@Work.storeTile a0 a1 a2 a3 a4 a5) := by
  intro a0 a1 a2 a3 a4 a5 h0
  unfold Work.storeTile
  dsimp only
  repeat' first | with_reducible assumption | with_reducible intro _ | with_reducible apply ite_okV (P := P)
                | with_reducible apply keep_Work_read C | with_reducible apply keep_Work_output C
                | with_reducible apply keep_foldlW (P := P)

theorem keep_State_setShader (C : Closed P) : ∀ a0 a1 a2 a3, okS P a0 → okS P (@State.setShader a0 a1 a2 a3) := by
  intro a0 a1 a2 a3 h0
  unfold State.setShader
  dsimp only
  repeat' first | with_reducible assumption

theorem keep_Work_shaderLoad (C : Closed P) : ∀ a0 a1, okW P a0 → okW P (@Work.shaderLoad a0 a1) := by
  intro a0 a1 h0
  unfold Work.shaderLoad
  dsimp only
  repeat' first | with_reducible assumption | with_reducible apply keep_Work_read C
                | with_reducible apply keep_Work_freeVal C | with_reducible apply keep_State_pick C
                | with_reducible apply keep_Work_fail C | with_reducible apply keep_State_setShader C
                | with_reducible refine okP_elim (P := P) (by assumption) ?_ | split

theorem keep_Work_shaderFree (C : Closed P) : ∀ a0 a1, okW P a0 → okW P (@Work.shaderFree a0 a1) := by
  intro a0 a1 h0
  unfold Work.shaderFree
  dsimp only
  repeat' first | with_reducible assumption | with_reducible apply ite_okW (P := P)
                | with_reducible apply keep_Work_fail C | with_reducible apply keep_State_setShader C

theorem keep_State_setPass (C : Closed P) : ∀ a0 a1, okS P a0 → okS P (@State.setPass a0 a1) := by
  intro a0 a1 h0
  unfold State.setPass
  dsimp only
  repeat' first | with_reducible assumption

theorem keep_State_setPipe (C : Closed P) : ∀ a0 a1 a2, okS P a0 → okS P (@State.setPipe a0 a1 a2) := by
  intro a0 a1 a2 h0
  unfold State.setPipe
  dsimp only
  repeat' first | with_reducible assumption

theorem keep_State_dropParams (C : Closed P) : ∀ a0 a1, okS P a0 → okS P (@State.dropParams a0 a1) := by
  intro a0 a1 h0
  unfold State.dropParams
  dsimp only
  repeat' first | with_reducible assumption | with_reducible apply keep_State_deallocate C | split

theorem keep_State_takeParams (C : Closed P) : ∀ a0 a1, okS P a0 → okS P (@State.takeParams a0 a1) := by
  intro a0 a1 h0
  unfold State.takeParams
  dsimp only
  repeat' first | with_reducible assumption | with_reducible apply ite_okS (P := P)
                | with_reducible apply keep_State_allocate C
                | with_reducible refine okOP_elim (P := P) (by assumption) ?_ | split | dsimp only [okS]

theorem keep_State_writeParams (C : Closed P) : ∀ a0 a1 a2, okS P a0 → okR P (@State.writeParams a0 a1 a2) := by
  intro a0 a1 a2 h0
  unfold State.writeParams
  dsimp only
  repeat' first | with_reducible assumption | with_reducible apply ite_okR (P := P)
                | with_reducible apply keep_State_set C | with_reducible apply okR_mk
                | with_reducible exact okR_abort

theorem keep_State_listsFit (C : Closed P) : ∀ a0 a1 a2 a3, okS P a0 → okP P (@State.listsFit a0 a1 a2 a3) := by
  intro a0 a1 a2 a3 h0
  unfold State.listsFit
  dsimp only
  repeat' first | with_reducible assumption | with_reducible apply ite_okP (P := P)
                | with_reducible apply keep_State_fresh C

theorem keep_State_noteWalk (C : Closed P) : ∀ a0 a1, okS P a0 → okP P (@State.noteWalk a0 a1) := by
  intro a0 a1 h0
  unfold State.noteWalk
  repeat' first | with_reducible assumption | with_reducible apply ite_okS (P := P)
                | with_reducible apply keep_State_bump C

theorem keep_State_binBand (C : Closed P) :
    ∀ a0 a1 a2 a3 a4 a5, okS P a0 → okP P (@State.binBand a0 a1 a2 a3 a4 a5) := by
  intro a0 a1 a2 a3 a4 a5
  induction a5 generalizing a0 a1 a2 a3 a4 with
  | zero =>
    intro h0
    exact h0
  | succ n ih =>
    intro h0
    unfold State.binBand
    try dsimp only
    repeat' first | with_reducible assumption | with_reducible apply ite_okP (P := P) | with_reducible apply ih
                  | with_reducible apply keep_State_noteWalk C | with_reducible apply keep_State_listsFit C
                  | with_reducible apply keep_State_fresh C | with_reducible apply keep_State_bump C | split

theorem keep_State_dirtyParams (C : Closed P) : ∀ a0 a1 a2, okS P a0 → okS P (@State.dirtyParams a0 a1 a2) := by
  intro a0 a1 a2 h0
  unfold State.dirtyParams
  dsimp only
  repeat' first | with_reducible assumption | with_reducible apply keep_State_store C | split

theorem keep_State_startBand (C : Closed P) : ∀ a0 a1 a2, okS P a0 → okS P (@State.startBand a0 a1 a2) := by
  intro a0 a1 a2 h0
  unfold State.startBand
  dsimp only
  repeat' first | with_reducible assumption | with_reducible apply keep_State_binBand C
                | with_reducible apply keep_State_setPass C | with_reducible apply keep_State_dirtyParams C

theorem keep_State_passWork (C : Closed P) : ∀ a0 a1, okS P a0 → okW P (@State.passWork a0 a1) := by
  intro a0 a1 h0
  unfold State.passWork
  repeat' first | with_reducible assumption

theorem keep_State_endPass (C : Closed P) : ∀ a0 a1 a2, okS P a0 → okS P (@State.endPass a0 a1 a2) := by
  intro a0 a1 a2 h0
  unfold State.endPass
  dsimp only
  repeat' first | with_reducible assumption | with_reducible intro _ | with_reducible apply keep_State_passWork C
                | with_reducible apply keep_Work_settleState C | with_reducible apply keep_State_finish C
                | with_reducible apply keep_foldlW (P := P)

theorem keep_State_bandDone (C : Closed P) : ∀ a0 a1 a2, okS P a0 → okS P (@State.bandDone a0 a1 a2) := by
  intro a0 a1 a2 h0
  unfold State.bandDone
  repeat' first | with_reducible assumption | with_reducible apply ite_okS (P := P)
                | with_reducible apply keep_State_startBand C | with_reducible apply keep_State_endPass C | split

theorem keep_State_loadFor (C : Closed P) : ∀ a0 a1 a2, okS P a0 → okP P (@State.loadFor a0 a1 a2) := by
  intro a0 a1 a2 h0
  unfold State.loadFor
  dsimp only
  repeat' first | with_reducible assumption | with_reducible apply keep_State_passWork C
                | with_reducible apply keep_Work_loadTile C | with_reducible apply keep_State_setPass C | split

theorem keep_State_fillPipe (C : Closed P) :
    ∀ a0 a1 a2 a3 a4 a5, okS P a0 → okS P (@State.fillPipe a0 a1 a2 a3 a4 a5) := by
  intro a0 a1 a2 a3 a4 a5
  induction a5 generalizing a0 a1 a2 a3 a4 with
  | zero =>
    intro h0
    exact h0
  | succ n ih =>
    intro h0
    unfold State.fillPipe
    try dsimp only
    repeat' first | with_reducible assumption | with_reducible apply ite_okS (P := P) | with_reducible apply ih
                  | with_reducible apply keep_State_loadFor C | with_reducible apply keep_State_setPass C
                  | with_reducible apply keep_State_setPipe C | split

theorem keep_State_dropAhead (C : Closed P) : ∀ a0 a1 a2 a3, okS P a0 → okS P (@State.dropAhead a0 a1 a2 a3) := by
  intro a0 a1 a2 a3 h0
  unfold State.dropAhead
  dsimp only
  repeat' first | with_reducible assumption | with_reducible intro _ | with_reducible apply keep_State_setPipe C
                | with_reducible apply keep_State_setPass C | with_reducible apply keep_foldl (P := P) | split

theorem keep_State_stealTail (C : Closed P) : ∀ a0 a1 a2 a3, okS P a0 → okS P (@State.stealTail a0 a1 a2 a3) := by
  intro a0 a1 a2 a3 h0
  unfold State.stealTail
  dsimp only
  repeat' first | with_reducible assumption | with_reducible apply keep_State_setPipe C
                | with_reducible apply keep_State_setPass C | split

theorem keep_State_beginTile (C : Closed P) : ∀ a0 a1 a2, okS P a0 → okS P (@State.beginTile a0 a1 a2) := by
  intro a0 a1 a2 h0
  unfold State.beginTile
  dsimp only
  repeat' first | with_reducible assumption | with_reducible apply keep_State_setPipe C
                | with_reducible apply keep_State_fillPipe C | split

theorem keep_State_pipeTake (C : Closed P) : ∀ a0 a1, okS P a0 → okS P (@State.pipeTake a0 a1) := by
  intro a0 a1 h0
  unfold State.pipeTake
  dsimp only
  repeat' first | with_reducible assumption | with_reducible apply ite_okS (P := P)
                | with_reducible apply keep_State_dropAhead C | with_reducible apply keep_State_beginTile C
                | with_reducible apply keep_State_setPipe C | with_reducible apply keep_State_loadFor C
                | with_reducible apply keep_State_setPass C | with_reducible apply keep_State_bump C
                | with_reducible apply keep_State_stealTail C | split

theorem keep_State_allPipesTake (C : Closed P) : ∀ a0, okS P a0 → okS P (@State.allPipesTake a0) := by
  intro a0 h0
  unfold State.allPipesTake
  repeat' first | with_reducible assumption | with_reducible intro _ | with_reducible apply keep_State_pipeTake C
                | with_reducible apply keep_foldl (P := P)

theorem keep_State_pipeDone (C : Closed P) : ∀ a0 a1 a2, okS P a0 → okS P (@State.pipeDone a0 a1 a2) := by
  intro a0 a1 a2 h0
  unfold State.pipeDone
  dsimp only
  repeat' first | with_reducible assumption | with_reducible apply ite_okS (P := P)
                | with_reducible apply ite_okW (P := P) | with_reducible apply keep_State_noteWait C
                | with_reducible apply keep_State_countFree C | with_reducible apply keep_State_setPipe C
                | with_reducible apply keep_Work_tileDraws C | with_reducible apply keep_State_passWork C
                | with_reducible apply keep_Work_fail C | with_reducible apply keep_Work_storeTile C
                | with_reducible apply keep_State_setPass C | with_reducible apply keep_State_allPipesTake C
                | with_reducible apply keep_State_bandDone C | split

theorem keep_State_startPass (C : Closed P) : ∀ a0 a1 a2 a3, okS P a0 → okS P (@State.startPass a0 a1 a2 a3) := by
  intro a0 a1 a2 a3 h0
  unfold State.startPass
  dsimp only
  repeat' first | with_reducible assumption | with_reducible apply ite_okS (P := P)
                | with_reducible apply keep_State_takeParams C | with_reducible apply keep_State_dropParams C
                | with_reducible apply keep_State_finish C | with_reducible apply keep_Work_read C
                | with_reducible apply keep_State_passWork C | with_reducible apply keep_State_allPipesTake C
                | with_reducible apply keep_State_startBand C | split

theorem keep_State_gfxPass (C : Closed P) : ∀ a0 a1 a2, okS P a0 → okS P (@State.gfxPass a0 a1 a2) := by
  intro a0 a1 a2 h0
  unfold State.gfxPass
  dsimp only
  repeat' first | with_reducible assumption | with_reducible apply ite_okS (P := P)
                | with_reducible apply keep_State_readyDirect C | with_reducible apply keep_State_startPass C
                | with_reducible refine okP_elim (P := P) (by assumption) ?_ | split

theorem keep_execGfxPass (C : Closed P) : ∀ a0 a1 a2, okS P a2 → okOut P (@execGfxPass a0 a1 a2) := by
  intro a0 a1 a2 h2
  unfold execGfxPass
  repeat' first | with_reducible assumption | with_reducible apply ite_okS (P := P)
                | with_reducible apply keep_State_gfxPass C | with_reducible apply okOut_mk

theorem keep_State_runShader (C : Closed P) :
    ∀ a0 a1 a2 a3 a4, okS P a0 → (∀ x0 x1, okW P x0 → okW P (a4 x0 x1)) → okS P (@State.runShader a0 a1 a2 a3 a4) := by
  intro a0 a1 a2 a3 a4 h0 h4
  unfold State.runShader
  repeat' first | with_reducible assumption | with_reducible apply keep_State_runDesc C
                | with_reducible apply keep_State_readyDirect C

theorem keep_execGfxShaderLoad (C : Closed P) : ∀ a0 a1 a2, okS P a2 → okOut P (@execGfxShaderLoad a0 a1 a2) := by
  intro a0 a1 a2 h2
  unfold execGfxShaderLoad
  repeat' first | with_reducible assumption | with_reducible intro _ | with_reducible apply keep_State_runShader C
                | with_reducible apply keep_Work_shaderLoad C | with_reducible apply okOut_mk

theorem keep_execGfxShaderFree (C : Closed P) : ∀ a0 a1 a2, okS P a2 → okOut P (@execGfxShaderFree a0 a1 a2) := by
  intro a0 a1 a2 h2
  unfold execGfxShaderFree
  repeat' first | with_reducible assumption | with_reducible intro _ | with_reducible apply ite_okS (P := P)
                | with_reducible apply keep_State_readyDirect C | with_reducible apply keep_State_runDesc C
                | with_reducible apply keep_Work_shaderFree C
                | with_reducible refine okP_elim (P := P) (by assumption) ?_ | with_reducible apply okOut_mk | split

theorem keep_execGfxTileDone (C : Closed P) : ∀ a0 a1, okS P a1 → okOut P (@execGfxTileDone a0 a1) := by
  intro a0 a1 h1
  unfold execGfxTileDone
  repeat' first | with_reducible assumption | with_reducible apply ite_okS (P := P)
                | with_reducible apply keep_State_pipeDone C | with_reducible apply okOut_mk

theorem keep_execTileTimeout (C : Closed P) : ∀ a0 a1, okS P a1 → okOut P (@execTileTimeout a0 a1) := by
  intro a0 a1 h1
  unfold execTileTimeout
  repeat' first | with_reducible assumption | with_reducible apply ite_okS (P := P)
                | with_reducible apply keep_State_pipeDone C | with_reducible apply okOut_mk

theorem keep_State_setLayer (C : Closed P) : ∀ a0 a1 a2 a3, okS P a0 → okS P (@State.setLayer a0 a1 a2 a3) := by
  intro a0 a1 a2 a3 h0
  unfold State.setLayer
  dsimp only
  repeat' first | with_reducible assumption

theorem keep_State_present (C : Closed P) : ∀ a0 a1 a2, okS P a0 → okS P (@State.present a0 a1 a2) := by
  intro a0 a1 a2 h0
  unfold State.present
  dsimp only
  repeat' first | with_reducible assumption | with_reducible apply ite_okS (P := P)
                | with_reducible apply keep_State_beginDirect C | with_reducible apply keep_State_finish C
                | with_reducible apply keep_State_setLayer C
                | with_reducible refine okOP_elim (P := P) (by assumption) ?_ | split

theorem keep_State_supersede (C : Closed P) : ∀ a0 a1, okS P a0 → okS P (@State.supersede a0 a1) := by
  intro a0 a1 h0
  unfold State.supersede
  dsimp only
  repeat' first | with_reducible assumption | with_reducible apply keep_State_fresh C
                | with_reducible apply keep_State_finish C

theorem keep_State_latestPose (C : Closed P) : ∀ a0, okS P a0 → okP P (@State.latestPose a0) := by
  intro a0 h0
  unfold State.latestPose
  dsimp only
  repeat' first | with_reducible assumption | with_reducible apply ite_okP (P := P)
                | with_reducible apply keep_Work_read C

theorem keep_State_missLayer (C : Closed P) :
    ∀ a0 a1 a2 a3 a4, okS P a0 → okS P (@State.missLayer a0 a1 a2 a3 a4) := by
  intro a0 a1 a2 a3 a4 h0
  unfold State.missLayer
  dsimp only
  repeat' first | with_reducible assumption | with_reducible apply ite_okS (P := P)
                | with_reducible apply keep_State_bump C | with_reducible apply keep_State_setLayer C
                | with_reducible apply keep_State_latestPose C
                | with_reducible refine okP_elim (P := P) (by assumption) ?_ | split

theorem keep_State_latchLayer (C : Closed P) : ∀ a0 a1 a2, okS P a0 → okS P (@State.latchLayer a0 a1 a2) := by
  intro a0 a1 a2 h0
  unfold State.latchLayer
  dsimp only
  repeat' first | with_reducible assumption | with_reducible intro _ | with_reducible apply ite_okS (P := P)
                | with_reducible apply keep_State_setLayer C | with_reducible apply keep_State_supersede C
                | with_reducible apply keep_State_reap C | with_reducible apply keep_State_missLayer C
                | with_reducible apply keep_foldl (P := P) | split

theorem keep_State_latchPoint (C : Closed P) : ∀ a0 a1, okS P a0 → okS P (@State.latchPoint a0 a1) := by
  intro a0 a1 h0
  unfold State.latchPoint
  dsimp only
  repeat' first | with_reducible assumption | with_reducible intro _ | with_reducible apply ite_okS (P := P)
                | with_reducible apply keep_State_latchLayer C | with_reducible apply keep_foldl (P := P)

theorem keep_State_layerImage (C : Closed P) : ∀ a0 a1, okS P a0 → okP P (@State.layerImage a0 a1) := by
  intro a0 a1 h0
  unfold State.layerImage
  dsimp only
  repeat' first | with_reducible assumption | with_reducible apply keep_Work_read C | split

theorem keep_State_showLayer (C : Closed P) : ∀ a0 a1 a2, okS P a0 → okS P (@State.showLayer a0 a1 a2) := by
  intro a0 a1 a2 h0
  unfold State.showLayer
  dsimp only
  repeat' first | with_reducible assumption | with_reducible apply ite_okS (P := P)
                | with_reducible apply keep_State_reap C | with_reducible apply keep_State_finish C
                | with_reducible apply keep_State_setLayer C | split

theorem keep_State_scanOut (C : Closed P) : ∀ a0 a1 a2, okS P a0 → okS P (@State.scanOut a0 a1 a2) := by
  intro a0 a1 a2 h0
  unfold State.scanOut
  dsimp only
  repeat' first | with_reducible assumption | with_reducible intro _ | with_reducible apply ite_okS (P := P)
                | with_reducible apply keep_State_bump C | with_reducible apply keep_State_layerImage C
                | with_reducible apply keep_State_emit C | with_reducible apply keep_State_addRecord C
                | with_reducible apply keep_State_showLayer C | with_reducible apply keep_foldl (P := P)
                | with_reducible apply keep_foldlP (P := P)

theorem keep_State_displayWrite (C : Closed P) :
    ∀ a0 a1 a2 a3 a4, okS P a0 → okR P (@State.displayWrite a0 a1 a2 a3 a4) := by
  intro a0 a1 a2 a3 a4 h0
  unfold State.displayWrite
  repeat' first | with_reducible assumption | with_reducible apply ite_okR (P := P)
                | with_reducible apply keep_State_set C | with_reducible apply okR_mk
                | with_reducible exact okR_abort | split

theorem keep_State_displayLink (C : Closed P) : ∀ a0 a1 a2, okS P a0 → okS P (@State.displayLink a0 a1 a2) := by
  intro a0 a1 a2 h0
  unfold State.displayLink
  repeat' first | with_reducible assumption | with_reducible apply ite_okS (P := P)
                | with_reducible apply keep_State_set C | with_reducible apply keep_State_addRecord C

theorem keep_execGfxPresent (C : Closed P) : ∀ a0 a1 a2, okS P a2 → okOut P (@execGfxPresent a0 a1 a2) := by
  intro a0 a1 a2 h2
  unfold execGfxPresent
  repeat' first | with_reducible assumption | with_reducible apply keep_State_present C
                | with_reducible apply okOut_mk

theorem keep_execLatchPoint (C : Closed P) : ∀ a0 a1, okS P a1 → okOut P (@execLatchPoint a0 a1) := by
  intro a0 a1 h1
  unfold execLatchPoint
  repeat' first | with_reducible assumption | with_reducible apply keep_State_latchPoint C
                | with_reducible apply okOut_mk

theorem keep_execScanOutStart (C : Closed P) : ∀ a0 a1 a2, okS P a2 → okOut P (@execScanOutStart a0 a1 a2) := by
  intro a0 a1 a2 h2
  unfold execScanOutStart
  repeat' first | with_reducible assumption | with_reducible apply keep_State_scanOut C
                | with_reducible apply okOut_mk

theorem keep_execDisplayLinkDown (C : Closed P) : ∀ a0 a1, okS P a1 → okOut P (@execDisplayLinkDown a0 a1) := by
  intro a0 a1 h1
  unfold execDisplayLinkDown
  repeat' first | with_reducible assumption | with_reducible apply keep_State_displayLink C
                | with_reducible apply okOut_mk

theorem keep_execDisplayLinkUp (C : Closed P) : ∀ a0 a1, okS P a1 → okOut P (@execDisplayLinkUp a0 a1) := by
  intro a0 a1 h1
  unfold execDisplayLinkUp
  repeat' first | with_reducible assumption | with_reducible apply keep_State_displayLink C
                | with_reducible apply okOut_mk

theorem keep_State_harnessReversed (C : Closed P) :
    ∀ a0 a1 a2 a3 a4, okS P a0 → okS P (@State.harnessReversed a0 a1 a2 a3 a4) := by
  intro a0 a1 a2 a3 a4 h0
  unfold State.harnessReversed
  dsimp only
  repeat' first | with_reducible assumption | with_reducible apply ite_okS (P := P)
                | with_reducible apply keep_State_addRecord C

theorem keep_State_cableResult (C : Closed P) : ∀ a0 a1 a2, okS P a0 → okS P (@State.cableResult a0 a1 a2) := by
  intro a0 a1 a2 h0
  unfold State.cableResult
  dsimp only
  repeat' first | with_reducible assumption | with_reducible apply ite_okS (P := P)
                | with_reducible apply keep_State_set C | with_reducible apply keep_State_addRecord C

theorem keep_State_ethDown (C : Closed P) : ∀ a0 a1 a2, okS P a0 → okS P (@State.ethDown a0 a1 a2) := by
  intro a0 a1 a2 h0
  unfold State.ethDown
  repeat' first | with_reducible assumption | with_reducible apply ite_okS (P := P)
                | with_reducible apply keep_State_cableResult C | with_reducible apply keep_State_addRecord C
                | with_reducible apply keep_State_set C

theorem keep_State_ethUp (C : Closed P) : ∀ a0 a1 a2 a3, okS P a0 → okS P (@State.ethUp a0 a1 a2 a3) := by
  intro a0 a1 a2 a3 h0
  unfold State.ethUp
  dsimp only
  repeat' first | with_reducible assumption | with_reducible apply ite_okS (P := P)
                | with_reducible apply keep_State_set C | with_reducible apply keep_State_harnessReversed C

theorem keep_State_cableDiag (C : Closed P) : ∀ a0 a1 a2, okS P a0 → okS P (@State.cableDiag a0 a1 a2) := by
  intro a0 a1 a2 h0
  unfold State.cableDiag
  repeat' first | with_reducible assumption | with_reducible apply ite_okS (P := P)
                | with_reducible apply keep_State_cableResult C | with_reducible apply keep_State_set C

theorem keep_State_ethWrite (C : Closed P) : ∀ a0 a1 a2 a3, okS P a0 → okR P (@State.ethWrite a0 a1 a2 a3) := by
  intro a0 a1 a2 a3 h0
  unfold State.ethWrite
  dsimp only
  repeat' first | with_reducible assumption | with_reducible intro _ | with_reducible apply ite_okR (P := P)
                | with_reducible apply ite_okS (P := P) | with_reducible apply keep_State_set C
                | with_reducible apply keep_State_fresh C | with_reducible apply keep_State_cableDiag C
                | with_reducible apply okR_mk | with_reducible exact okR_abort
                | with_reducible apply keep_foldl (P := P)

theorem keep_State_startShapers (C : Closed P) : ∀ a0 a1, okS P a0 → okS P (@State.startShapers a0 a1) := by
  intro a0 a1 h0
  unfold State.startShapers
  repeat' first | with_reducible assumption

theorem keep_State_switchWrite (C : Closed P) : ∀ a0 a1 a2, okS P a0 → okR P (@State.switchWrite a0 a1 a2) := by
  intro a0 a1 a2 h0
  unfold State.switchWrite
  repeat' first | with_reducible assumption | with_reducible apply ite_okS (P := P)
                | with_reducible apply keep_State_startShapers C | with_reducible apply ite_okR (P := P)
                | with_reducible apply keep_State_setB C | with_reducible apply okR_mk
                | with_reducible exact okR_abort

theorem keep_State_gclCommit (C : Closed P) : ∀ a0 a1, okS P a0 → okR P (@State.gclCommit a0 a1) := by
  intro a0 a1 h0
  unfold State.gclCommit
  dsimp only
  repeat' first | with_reducible assumption | with_reducible apply ite_okR (P := P)
                | with_reducible apply keep_State_set C | with_reducible apply okR_mk
                | with_reducible exact okR_abort

theorem keep_State_gclWrite (C : Closed P) : ∀ a0 a1 a2 a3, okS P a0 → okR P (@State.gclWrite a0 a1 a2 a3) := by
  intro a0 a1 a2 a3 h0
  unfold State.gclWrite
  repeat' first | with_reducible assumption | with_reducible apply ite_okR (P := P)
                | with_reducible apply keep_State_setB C | with_reducible apply keep_State_gclCommit C
                | with_reducible apply keep_State_set C | with_reducible apply okR_mk
                | with_reducible exact okR_abort | split

theorem keep_State_setEgress (C : Closed P) : ∀ a0 a1 a2, okS P a0 → okS P (@State.setEgress a0 a1 a2) := by
  intro a0 a1 a2 h0
  unfold State.setEgress
  dsimp only
  repeat' first | with_reducible assumption

theorem keep_State_settleCredit (C : Closed P) :
    ∀ a0 a1 a2 a3, okS P a0 → okS P (@State.settleCredit a0 a1 a2 a3) := by
  intro a0 a1 a2 a3 h0
  unfold State.settleCredit
  dsimp only
  repeat' first | with_reducible assumption

theorem keep_State_sendEgress (C : Closed P) : ∀ a0 a1 a2 a3, okS P a0 → okS P (@State.sendEgress a0 a1 a2 a3) := by
  intro a0 a1 a2 a3 h0
  unfold State.sendEgress
  dsimp only
  repeat' first | with_reducible assumption | with_reducible intro _ | with_reducible apply keep_State_emit C
                | with_reducible apply keep_State_setEgress C | with_reducible apply keep_foldl (P := P)

theorem keep_State_drainEgress (C : Closed P) : ∀ a0 a1 a2, okS P a0 → okS P (@State.drainEgress a0 a1 a2) := by
  intro a0 a1 a2 h0
  unfold State.drainEgress
  dsimp only
  repeat' first | with_reducible assumption | with_reducible intro _ | with_reducible apply ite_okS (P := P)
                | with_reducible apply keep_State_sendEgress C | split
                | with_reducible exact keep_State_settleCredit C _ _ _ _ h0

theorem keep_State_serveEgress (C : Closed P) : ∀ a0, okS P a0 → okS P (@State.serveEgress a0) := by
  intro a0 h0
  unfold State.serveEgress
  repeat' first | with_reducible assumption | with_reducible intro _ | with_reducible apply keep_State_drainEgress C
                | with_reducible apply keep_foldl (P := P)

theorem keep_State_drainPort (C : Closed P) : ∀ a0 a1, okS P a0 → okS P (@State.drainPort a0 a1) := by
  intro a0 a1 h0
  unfold State.drainPort
  repeat' first | with_reducible assumption | with_reducible intro _ | with_reducible apply keep_State_drainEgress C
                | with_reducible apply keep_foldl (P := P)

theorem keep_State_bufferFrame (C : Closed P) : ∀ a0 a1, okS P a0 → okS P (@State.bufferFrame a0 a1) := by
  intro a0 a1 h0
  unfold State.bufferFrame
  dsimp only
  repeat' first | with_reducible assumption | with_reducible apply keep_State_fresh C
                | with_reducible apply keep_State_chargeRange C
                | with_reducible apply keep_State_leaveIdle C

theorem keep_State_countDrop (C : Closed P) : ∀ a0 a1 a2, okS P a0 → okS P (@State.countDrop a0 a1 a2) := by
  intro a0 a1 a2 h0
  unfold State.countDrop
  dsimp only
  repeat' first | with_reducible assumption | with_reducible apply keep_State_setB C

theorem keep_State_enqueueAt (C : Closed P) : ∀ a0 a1 a2 a3, okS P a0 → okS P (@State.enqueueAt a0 a1 a2 a3) := by
  intro a0 a1 a2 a3 h0
  unfold State.enqueueAt
  dsimp only
  repeat' first | with_reducible assumption | with_reducible apply ite_okS (P := P)
                | with_reducible apply keep_State_countDrop C | with_reducible apply keep_State_drainEgress C
                | with_reducible apply keep_State_setEgress C | with_reducible apply keep_State_bufferFrame C
                | with_reducible apply keep_State_settleCredit C | split

theorem keep_State_learn (C : Closed P) : ∀ a0 a1 a2 a3, okS P a0 → okS P (@State.learn a0 a1 a2 a3) := by
  intro a0 a1 a2 a3 h0
  unfold State.learn
  dsimp only
  repeat' first | with_reducible assumption | with_reducible apply ite_okS (P := P)

theorem keep_State_switchIngress (C : Closed P) : ∀ a0 a1 a2, okS P a0 → okS P (@State.switchIngress a0 a1 a2) := by
  intro a0 a1 a2 h0
  unfold State.switchIngress
  dsimp only
  repeat' first | with_reducible assumption | with_reducible intro _ | with_reducible apply ite_okS (P := P)
                | with_reducible apply ite_okP (P := P) | with_reducible apply keep_State_learn C
                | with_reducible apply keep_State_fresh C | with_reducible apply keep_State_enqueueAt C
                | with_reducible apply keep_foldl (P := P)

theorem keep_State_gclCycle (C : Closed P) : ∀ a0 a1, okS P a0 → okS P (@State.gclCycle a0 a1) := by
  intro a0 a1 h0
  unfold State.gclCycle
  dsimp only
  repeat' first | with_reducible assumption | with_reducible apply ite_okS (P := P)
                | with_reducible apply keep_State_set C | with_reducible apply keep_State_drainPort C | split

theorem keep_State_refTick (C : Closed P) : ∀ a0 a1, okS P a0 → okS P (@State.refTick a0 a1) := by
  intro a0 a1 h0
  unfold State.refTick
  dsimp only
  repeat' first | with_reducible assumption | with_reducible intro _ | with_reducible apply ite_okS (P := P)
                | with_reducible apply keep_State_tickBases C | with_reducible apply keep_State_engineTick C
                | with_reducible apply keep_State_count C | with_reducible apply keep_State_serveEgress C
                | with_reducible apply keep_State_noteBusy C
                | with_reducible apply keep_foldl (P := P)

theorem keep_execCountReferenceTick (C : Closed P) : ∀ a0 a1, okS P a1 → okOut P (@execCountReferenceTick a0 a1) := by
  intro a0 a1 h1
  unfold execCountReferenceTick
  repeat' first | with_reducible assumption | with_reducible apply keep_State_refTick C
                | with_reducible apply okOut_mk

theorem keep_execEthLinkDown (C : Closed P) : ∀ a0 a1 a2, okS P a2 → okOut P (@execEthLinkDown a0 a1 a2) := by
  intro a0 a1 a2 h2
  unfold execEthLinkDown
  repeat' first | with_reducible assumption | with_reducible apply keep_State_ethDown C
                | with_reducible apply okOut_mk

theorem keep_execEthLinkUp (C : Closed P) : ∀ a0 a1 a2 a3, okS P a3 → okOut P (@execEthLinkUp a0 a1 a2 a3) := by
  intro a0 a1 a2 a3 h3
  unfold execEthLinkUp
  repeat' first | with_reducible assumption | with_reducible apply keep_State_ethUp C | with_reducible apply okOut_mk

theorem keep_execSwitchFrameIngress (C : Closed P) :
    ∀ a0 a1 a2, okS P a2 → okOut P (@execSwitchFrameIngress a0 a1 a2) := by
  intro a0 a1 a2 h2
  unfold execSwitchFrameIngress
  repeat' first | with_reducible assumption | with_reducible apply keep_State_switchIngress C
                | with_reducible apply okOut_mk

theorem keep_execGclCycleStart (C : Closed P) : ∀ a0 a1, okS P a1 → okOut P (@execGclCycleStart a0 a1) := by
  intro a0 a1 h1
  unfold execGclCycleStart
  repeat' first | with_reducible assumption | with_reducible apply keep_State_gclCycle C
                | with_reducible apply okOut_mk

theorem keep_execDoorbellWrite (C : Closed P) :
    ∀ a0 a1 a2 a3, okS P a3 → okOut P (@execDoorbellWrite a0 a1 a2 a3) := by
  intro a0 a1 a2 a3 h3
  unfold execDoorbellWrite
  repeat' first | with_reducible assumption | with_reducible apply ite_okS (P := P)
                | with_reducible apply keep_State_doorbell C | with_reducible apply keep_State_workArrives C
                | with_reducible apply okOut_mk

theorem keep_State_dwellOver (C : Closed P) : ∀ a0, okS P a0 → okS P (@State.dwellOver a0) := by
  intro a0 h0
  unfold State.dwellOver
  dsimp only
  repeat' first | with_reducible assumption | with_reducible apply ite_okS (P := P)
                | with_reducible apply keep_State_setPwr C

theorem keep_State_noteStuck (C : Closed P) : ∀ a0, okS P a0 → okS P (@State.noteStuck a0) := by
  intro a0 h0
  unfold State.noteStuck
  dsimp only
  repeat' first | with_reducible assumption | with_reducible intro _ | with_reducible apply keep_State_set C
                | with_reducible apply keep_State_setPwr C | with_reducible apply keep_State_addRecord C
                | with_reducible apply keep_foldl (P := P)

theorem keep_State_resumeCores (C : Closed P) : ∀ a0, okS P a0 → okS P (@State.resumeCores a0) := by
  intro a0 h0
  unfold State.resumeCores
  dsimp only
  repeat' first | with_reducible assumption | with_reducible apply ite_okS (P := P)
                | with_reducible apply keep_State_setPwr C | with_reducible apply keep_State_railSag C
                | with_reducible apply keep_State_flushRecords C

theorem keep_State_stopCores (C : Closed P) : ∀ a0, okS P a0 → okS P (@State.stopCores a0) := by
  intro a0 h0
  unfold State.stopCores
  dsimp only
  repeat' first | with_reducible assumption | with_reducible apply keep_State_setPwr C

theorem keep_State_parkPhys (C : Closed P) : ∀ a0, okS P a0 → okS P (@State.parkPhys a0) := by
  intro a0 h0
  unfold State.parkPhys
  repeat' first | with_reducible assumption | with_reducible intro _ | with_reducible apply keep_State_holdover C
                | with_reducible apply keep_State_set C | with_reducible apply keep_foldl (P := P)

theorem keep_State_abandonEntry (C : Closed P) : ∀ a0 a1, okS P a0 → okS P (@State.abandonEntry a0 a1) := by
  intro a0 a1 h0
  unfold State.abandonEntry
  dsimp only
  repeat' first | with_reducible assumption | with_reducible apply ite_okS (P := P)
                | with_reducible apply keep_State_emit C | with_reducible apply keep_State_set C
                | with_reducible apply keep_State_setPwr C | with_reducible apply keep_State_resumeCores C
                | with_reducible apply keep_State_bump C

theorem keep_State_acceptWake (C : Closed P) : ∀ a0 a1 a2, okS P a0 → okS P (@State.acceptWake a0 a1 a2) := by
  intro a0 a1 a2 h0
  unfold State.acceptWake
  dsimp only
  repeat' first | with_reducible assumption | with_reducible apply ite_okS (P := P)
                | with_reducible apply keep_State_setPwr C | with_reducible apply keep_State_leaveIdle C
                | with_reducible apply keep_State_setB C | with_reducible apply keep_State_abandonEntry C | split

theorem keep_State_countSuppressed (C : Closed P) : ∀ a0 a1, okS P a0 → okS P (@State.countSuppressed a0 a1) := by
  intro a0 a1 h0
  unfold State.countSuppressed
  dsimp only
  repeat' first | with_reducible assumption | with_reducible apply keep_State_setB C

theorem keep_State_wakeEdge (C : Closed P) : ∀ a0 a1 a2, okS P a0 → okS P (@State.wakeEdge a0 a1 a2) := by
  intro a0 a1 a2 h0
  unfold State.wakeEdge
  dsimp only
  repeat' first | with_reducible assumption | with_reducible apply ite_okS (P := P)
                | with_reducible apply keep_State_setPwr C | with_reducible apply keep_State_countSuppressed C
                | with_reducible apply keep_State_acceptWake C

theorem keep_State_wakeTimer (C : Closed P) : ∀ a0, okS P a0 → okS P (@State.wakeTimer a0) := by
  intro a0 h0
  unfold State.wakeTimer
  dsimp only
  repeat' first | with_reducible assumption | with_reducible apply ite_okS (P := P)
                | with_reducible apply keep_State_wakeEdge C | with_reducible apply keep_State_setPwr C

theorem keep_State_suppressionEnd (C : Closed P) : ∀ a0 a1, okS P a0 → okS P (@State.suppressionEnd a0 a1) := by
  intro a0 a1 h0
  unfold State.suppressionEnd
  dsimp only
  repeat' first | with_reducible assumption | with_reducible apply ite_okS (P := P)
                | with_reducible apply keep_State_setPwr C | with_reducible apply keep_State_acceptWake C | split

theorem keep_State_settleInput (C : Closed P) : ∀ a0 a1 a2, okS P a0 → okS P (@State.settleInput a0 a1 a2) := by
  intro a0 a1 a2 h0
  unfold State.settleInput
  dsimp only
  repeat' first | with_reducible assumption | with_reducible apply ite_okS (P := P)
                | with_reducible apply keep_State_set C | with_reducible apply keep_State_setPwr C

theorem keep_State_enterIdle (C : Closed P) : ∀ a0, okS P a0 → okS P (@State.enterIdle a0) := by
  intro a0 h0
  unfold State.enterIdle
  repeat' first | with_reducible assumption | with_reducible apply ite_okS (P := P)
                | with_reducible apply keep_State_set C | with_reducible apply keep_State_gateIslands C

theorem keep_State_enterSleep (C : Closed P) : ∀ a0, okS P a0 → okS P (@State.enterSleep a0) := by
  intro a0 h0
  unfold State.enterSleep
  dsimp only
  repeat' first | with_reducible assumption | with_reducible apply ite_okS (P := P)
                | with_reducible apply keep_State_abandonEntry C | with_reducible apply keep_State_setPwr C
                | with_reducible apply keep_State_set C | with_reducible apply keep_State_setTarget C
                | with_reducible apply keep_State_gateIslands C | with_reducible apply keep_State_parkPhys C
                | with_reducible apply keep_State_stopCores C | with_reducible apply keep_State_noteStuck C
                | with_reducible apply keep_State_leaveIdle C | split

theorem keep_State_openNotice (C : Closed P) : ∀ a0 a1, okS P a0 → okS P (@State.openNotice a0 a1) := by
  intro a0 a1 h0
  unfold State.openNotice
  dsimp only
  repeat' first | with_reducible assumption | with_reducible apply keep_State_emit C
                | with_reducible apply keep_State_noteStuck C | with_reducible apply keep_State_leaveIdle C
                | with_reducible apply keep_State_set C

theorem keep_State_loseOnChip (C : Closed P) : ∀ a0, okS P a0 → okS P (@State.loseOnChip a0) := by
  intro a0 h0
  unfold State.loseOnChip
  dsimp only
  repeat' first | with_reducible assumption | with_reducible intro _ | with_reducible apply keep_State_linkDown C
                | with_reducible apply keep_foldl (P := P)

theorem keep_State_enterDeep (C : Closed P) : ∀ a0, okS P a0 → okS P (@State.enterDeep a0) := by
  intro a0 h0
  unfold State.enterDeep
  dsimp only
  repeat' first | with_reducible assumption | with_reducible apply ite_okS (P := P)
                | with_reducible apply keep_State_openNotice C | with_reducible apply keep_State_stopCores C | with_reducible apply keep_State_abandonEntry C
                | with_reducible apply keep_State_setPwr C | with_reducible apply keep_State_set C
                | with_reducible apply keep_State_loseHbm C
                | with_reducible apply keep_State_loseOnChip C | with_reducible apply keep_State_parkPhys C
                | with_reducible apply keep_State_gateIslands C | split

theorem keep_State_enterOff (C : Closed P) : ∀ a0, okS P a0 → okS P (@State.enterOff a0) := by
  intro a0 h0
  unfold State.enterOff
  dsimp only
  repeat' first | with_reducible assumption | with_reducible apply ite_okS (P := P)
                | with_reducible apply keep_State_openNotice C | with_reducible apply keep_State_stopCores C
                | with_reducible apply keep_State_linkDown C | with_reducible apply keep_foldl (P := P) | with_reducible intro _
                | with_reducible apply keep_State_setPwr C | with_reducible apply keep_State_abandonEntry C
                | with_reducible apply keep_State_set C | with_reducible apply keep_State_loseHbm C
                | with_reducible apply keep_State_parkPhys C | split

theorem keep_State_noteWorkWake (C : Closed P) : ∀ a0, okS P a0 → okS P (@State.noteWorkWake a0) := by
  intro a0 h0
  unfold State.noteWorkWake
  repeat' first | with_reducible assumption | with_reducible apply ite_okS (P := P)
                | with_reducible apply keep_State_setB C

theorem keep_State_exitSleep (C : Closed P) : ∀ a0, okS P a0 → okS P (@State.exitSleep a0) := by
  intro a0 h0
  unfold State.exitSleep
  dsimp only
  repeat' first | with_reducible assumption | with_reducible apply ite_okS (P := P)
                | with_reducible apply keep_State_noteWorkWake C | with_reducible apply keep_State_setTarget C
                | with_reducible apply keep_State_releaseIslands C
                | with_reducible apply keep_State_regulatorSettled C | with_reducible apply keep_State_set C
                | with_reducible apply keep_State_resumeCores C | with_reducible apply keep_State_setPwr C

theorem keep_State_exitDeep (C : Closed P) : ∀ a0 a1, okS P a0 → okS P (@State.exitDeep a0 a1) := by
  intro a0 a1 h0
  unfold State.exitDeep
  dsimp only
  repeat' first | with_reducible assumption | with_reducible apply ite_okS (P := P)
                | with_reducible apply keep_State_setTarget C | with_reducible apply keep_State_releaseIslands C
                | with_reducible apply keep_State_regulatorSettled C | with_reducible apply keep_State_setPwr C
                | with_reducible apply keep_State_setHart C | with_reducible apply keep_State_startHarts C
                | with_reducible apply keep_State_set C | with_reducible apply keep_State_resumeCores C
                | with_reducible apply keep_State_resetMain C

theorem keep_State_exitOff (C : Closed P) : ∀ a0, okS P a0 → okS P (@State.exitOff a0) := by
  intro a0 h0
  unfold State.exitOff
  dsimp only
  repeat' first | with_reducible assumption | with_reducible apply ite_okS (P := P)
                | with_reducible apply keep_State_resetMain C | with_reducible apply keep_State_setB C

theorem keep_State_setFunc (C : Closed P) : ∀ a0 a1 a2 a3, okS P a0 → okS P (@State.setFunc a0 a1 a2 a3) := by
  intro a0 a1 a2 a3 h0
  unfold State.setFunc
  dsimp only
  repeat' first | with_reducible assumption | with_reducible apply keep_State_set C

theorem keep_State_driveFunc (C : Closed P) : ∀ a0 a1 a2, okS P a0 → okS P (@State.driveFunc a0 a1 a2) := by
  intro a0 a1 a2 h0
  unfold State.driveFunc
  dsimp only
  repeat' first | with_reducible assumption | with_reducible apply ite_okS (P := P)
                | with_reducible apply keep_State_fresh C | with_reducible apply keep_State_bump C
                | with_reducible apply keep_State_setFunc C | with_reducible apply keep_State_setPwr C

theorem keep_State_funcWrite (C : Closed P) : ∀ a0 a1 a2 a3, okS P a0 → okR P (@State.funcWrite a0 a1 a2 a3) := by
  intro a0 a1 a2 a3 h0
  unfold State.funcWrite
  dsimp only
  repeat' first | with_reducible assumption | with_reducible intro _ | with_reducible apply ite_okR (P := P)
                | with_reducible apply keep_State_driveFunc C | with_reducible apply keep_State_set C
                | with_reducible apply okR_mk | with_reducible exact okR_abort
                | with_reducible apply keep_foldl (P := P)

theorem keep_State_funcDone (C : Closed P) : ∀ a0 a1, okS P a0 → okS P (@State.funcDone a0 a1) := by
  intro a0 a1 h0
  unfold State.funcDone
  dsimp only
  repeat' first | with_reducible assumption | with_reducible intro _ | with_reducible apply ite_okS (P := P)
                | with_reducible apply keep_State_setPwr C | with_reducible apply keep_State_setFunc C
                | with_reducible apply keep_State_setHart C | with_reducible apply keep_State_linkDown C
                | with_reducible apply keep_foldl (P := P)

theorem keep_State_powerWrite (C : Closed P) :
    ∀ a0 a1 a2 a3 a4, okS P a0 → okR P (@State.powerWrite a0 a1 a2 a3 a4) := by
  intro a0 a1 a2 a3 a4 h0
  unfold State.powerWrite
  repeat' first | with_reducible assumption | with_reducible apply ite_okR (P := P)
                | with_reducible apply keep_State_funcWrite C | with_reducible apply keep_State_set C
                | with_reducible apply okR_mk

theorem keep_execDwellExpiry (C : Closed P) : ∀ a0, okS P a0 → okOut P (@execDwellExpiry a0) := by
  intro a0 h0
  unfold execDwellExpiry
  repeat' first | with_reducible assumption | with_reducible apply keep_State_dwellOver C
                | with_reducible apply okOut_mk

theorem keep_execIdleEntry (C : Closed P) : ∀ a0, okS P a0 → okOut P (@execIdleEntry a0) := by
  intro a0 h0
  unfold execIdleEntry
  repeat' first | with_reducible assumption | with_reducible apply keep_State_enterIdle C
                | with_reducible apply okOut_mk

theorem keep_execSleepEntry (C : Closed P) : ∀ a0, okS P a0 → okOut P (@execSleepEntry a0) := by
  intro a0 h0
  unfold execSleepEntry
  repeat' first | with_reducible assumption | with_reducible apply keep_State_enterSleep C
                | with_reducible apply okOut_mk

theorem keep_execDeepSleepEntry (C : Closed P) : ∀ a0, okS P a0 → okOut P (@execDeepSleepEntry a0) := by
  intro a0 h0
  unfold execDeepSleepEntry
  repeat' first | with_reducible assumption | with_reducible apply keep_State_enterDeep C
                | with_reducible apply okOut_mk

theorem keep_execOffEntry (C : Closed P) : ∀ a0, okS P a0 → okOut P (@execOffEntry a0) := by
  intro a0 h0
  unfold execOffEntry
  repeat' first | with_reducible assumption | with_reducible apply keep_State_enterOff C
                | with_reducible apply okOut_mk

theorem keep_execWakeSourceEdge (C : Closed P) : ∀ a0 a1 a2, okS P a2 → okOut P (@execWakeSourceEdge a0 a1 a2) := by
  intro a0 a1 a2 h2
  unfold execWakeSourceEdge
  repeat' first | with_reducible assumption | with_reducible apply keep_State_wakeEdge C
                | with_reducible apply okOut_mk

theorem keep_execWakeTimer (C : Closed P) : ∀ a0, okS P a0 → okOut P (@execWakeTimer a0) := by
  intro a0 h0
  unfold execWakeTimer
  repeat' first | with_reducible assumption | with_reducible apply keep_State_wakeTimer C
                | with_reducible apply okOut_mk

theorem keep_execWakeSuppressionEnd (C : Closed P) : ∀ a0 a1, okS P a1 → okOut P (@execWakeSuppressionEnd a0 a1) := by
  intro a0 a1 h1
  unfold execWakeSuppressionEnd
  repeat' first | with_reducible assumption | with_reducible apply keep_State_suppressionEnd C
                | with_reducible apply okOut_mk

theorem keep_execIdleExit (C : Closed P) : ∀ a0, okS P a0 → okOut P (@execIdleExit a0) := by
  intro a0 h0
  unfold execIdleExit
  repeat' first | with_reducible assumption | with_reducible apply keep_State_leaveIdle C
                | with_reducible apply okOut_mk

theorem keep_execSleepExit (C : Closed P) : ∀ a0, okS P a0 → okOut P (@execSleepExit a0) := by
  intro a0 h0
  unfold execSleepExit
  repeat' first | with_reducible assumption | with_reducible apply keep_State_exitSleep C
                | with_reducible apply okOut_mk

theorem keep_execDeepSleepExit (C : Closed P) : ∀ a0 a1, okS P a1 → okOut P (@execDeepSleepExit a0 a1) := by
  intro a0 a1 h1
  unfold execDeepSleepExit
  repeat' first | with_reducible assumption | with_reducible apply keep_State_exitDeep C
                | with_reducible apply okOut_mk

theorem keep_execOffExit (C : Closed P) : ∀ a0, okS P a0 → okOut P (@execOffExit a0) := by
  intro a0 h0
  unfold execOffExit
  repeat' first | with_reducible assumption | with_reducible apply keep_State_exitOff C
                | with_reducible apply okOut_mk

theorem keep_execFunctionShutdownDone (C : Closed P) :
    ∀ a0 a1, okS P a1 → okOut P (@execFunctionShutdownDone a0 a1) := by
  intro a0 a1 h1
  unfold execFunctionShutdownDone
  repeat' first | with_reducible assumption | with_reducible apply keep_State_funcDone C
                | with_reducible apply okOut_mk

theorem keep_execInputFilterSettle (C : Closed P) :
    ∀ a0 a1 a2, okS P a2 → okOut P (@execInputFilterSettle a0 a1 a2) := by
  intro a0 a1 a2 h2
  unfold execInputFilterSettle
  repeat' first | with_reducible assumption | with_reducible apply keep_State_settleInput C
                | with_reducible apply okOut_mk

end Sys2Proof.Machine
end

