-- ==== Sys2Proof/Laws/KeepsSafety.lean ====
section
/-! SUPPORT. The frame library, continued: what partitions, Drone, gateway, hardware and Rearguard keep. -/

set_option linter.unusedVariables false

namespace Sys2Proof.Machine

open Sys2Proof

variable {P : KProp} {α β γ : Type}

theorem keep_State_chargeLookahead (C : Closed P) :
    ∀ a0 a1 a2, okS P a0 → okS P (@State.chargeLookahead a0 a1 a2) := by
  intro a0 a1 a2 h0
  unfold State.chargeLookahead
  dsimp only
  repeat' first | with_reducible assumption | with_reducible intro _ | with_reducible apply ite_okS (P := P)
                | with_reducible apply keep_State_noteRefusal C | with_reducible apply keep_State_poison C
                | with_reducible apply keep_State_chargeRange C | with_reducible apply keep_foldl (P := P)

theorem keep_State_countSlot (C : Closed P) : ∀ a0 a1, okS P a0 → okP P (@State.countSlot a0 a1) := by
  intro a0 a1 h0
  unfold State.countSlot
  dsimp only
  repeat' first | with_reducible assumption | with_reducible apply keep_State_setQueue C

theorem keep_State_reject (C : Closed P) :
    ∀ a0 a1 a2 a3 a4 a5, okS P a0 → okS P (@State.reject a0 a1 a2 a3 a4 a5) := by
  intro a0 a1 a2 a3 a4 a5 h0
  unfold State.reject
  dsimp only
  repeat' first | with_reducible assumption | with_reducible apply ite_okS (P := P)
                | with_reducible apply keep_State_setDesc C | with_reducible apply keep_State_haltQueue C

theorem keep_State_acceptRead (C : Closed P) :
    ∀ a0 a1 a2 a3 a4, okS P a0 → okW P (@State.acceptRead a0 a1 a2 a3 a4) := by
  intro a0 a1 a2 a3 a4 h0
  unfold State.acceptRead
  dsimp only
  repeat' first | with_reducible assumption | with_reducible apply ite_okW (P := P)
                | with_reducible apply keep_State_startWork C | with_reducible apply keep_Work_read C

theorem keep_State_accept (C : Closed P) :
    ∀ a0 a1 a2 a3 a4 a5, okS P a0 → okS P (@State.accept a0 a1 a2 a3 a4 a5) := by
  intro a0 a1 a2 a3 a4 a5 h0
  unfold State.accept
  dsimp only
  repeat' first | with_reducible assumption | with_reducible apply ite_okS (P := P)
                | with_reducible apply keep_State_chargeLookahead C | with_reducible apply keep_State_acceptRead C
                | with_reducible apply keep_State_noteWork C | with_reducible apply keep_State_setDesc C
                | with_reducible apply keep_State_takeParams C

theorem keep_State_judge (C : Closed P) : ∀ a0 a1 a2 a3, okS P a0 → okS P (@State.judge a0 a1 a2 a3) := by
  intro a0 a1 a2 a3 h0
  unfold State.judge
  dsimp only
  repeat' first | with_reducible assumption | with_reducible apply ite_okS (P := P)
                | with_reducible apply keep_State_reject C | with_reducible apply keep_State_accept C | split

theorem keep_State_takeSlot (C : Closed P) : ∀ a0 a1 a2, okS P a0 → okS P (@State.takeSlot a0 a1 a2) := by
  intro a0 a1 a2 h0
  unfold State.takeSlot
  dsimp only
  repeat' first | with_reducible assumption | with_reducible apply keep_State_countSlot C
                | with_reducible apply keep_State_countFetch C | with_reducible apply keep_State_judge C

theorem keep_State_readSlot (C : Closed P) : ∀ a0 a1 a2, okS P a0 → okS P (@State.readSlot a0 a1 a2) := by
  intro a0 a1 a2 h0
  unfold State.readSlot
  dsimp only
  repeat' first | with_reducible assumption | with_reducible intro _ | with_reducible apply ite_okS (P := P)
                | with_reducible apply keep_State_slotLost C | with_reducible apply keep_State_noteRefusal C
                | with_reducible apply keep_State_chargeRange C | with_reducible apply keep_State_poison C
                | with_reducible apply keep_State_takeSlot C | with_reducible apply keep_foldl (P := P)

theorem keep_State_askSlot (C : Closed P) : ∀ a0 a1 a2, okS P a0 → okS P (@State.askSlot a0 a1 a2) := by
  intro a0 a1 a2 h0
  unfold State.askSlot
  repeat' first | with_reducible assumption | with_reducible apply ite_okS (P := P)
                | with_reducible apply keep_State_slotLost C | with_reducible apply keep_State_readSlot C
                | with_reducible apply keep_State_smallTag C | with_reducible apply keep_State_sendFrame C
                | with_reducible refine okP_elim (P := P) (by assumption) ?_ | split

theorem keep_State_noteFront (C : Closed P) : ∀ a0 a1, okS P a0 → okS P (@State.noteFront a0 a1) := by
  intro a0 a1 h0
  unfold State.noteFront
  repeat' first | with_reducible assumption | with_reducible apply keep_State_noteHeld C

theorem keep_State_fetch (C : Closed P) : ∀ a0 a1, okS P a0 → okS P (@State.fetch a0 a1) := by
  intro a0 a1 h0
  unfold State.fetch
  repeat' first | with_reducible assumption | with_reducible apply ite_okS (P := P)
                | with_reducible apply keep_State_noteFront C | with_reducible apply keep_State_slotLost C
                | with_reducible apply keep_State_readSlot C | with_reducible apply keep_State_askSlot C | split

theorem keep_State_dealKept (C : Closed P) : ∀ a0 a1 a2, okS P a0 → okS P (@State.dealKept a0 a1 a2) := by
  intro a0 a1 a2 h0
  unfold State.dealKept
  dsimp only
  repeat' first | with_reducible assumption | with_reducible intro _ | with_reducible apply keep_State_bump C
                | with_reducible apply keep_State_setEngine C | with_reducible apply keep_foldl (P := P)

theorem keep_State_dealTiles (C : Closed P) :
    ∀ a0 a1 a2 a3 a4 a5 a6, okS P a0 → okS P (@State.dealTiles a0 a1 a2 a3 a4 a5 a6) := by
  intro a0 a1 a2 a3 a4 a5 a6 h0
  unfold State.dealTiles
  dsimp only
  repeat' first | with_reducible assumption | with_reducible apply keep_State_dealTo C
                | with_reducible apply keep_State_dealKept C | with_reducible apply keep_State_serveAll C

theorem keep_State_beginTiles (C : Closed P) :
    ∀ a0 a1 a2 a3 a4, okS P a0 → okP P (@State.beginTiles a0 a1 a2 a3 a4) := by
  intro a0 a1 a2 a3 a4 h0
  unfold State.beginTiles
  dsimp only
  repeat' first | with_reducible assumption | with_reducible apply keep_State_noteWork C
                | with_reducible apply keep_State_convert C | with_reducible apply keep_State_setDesc C

theorem keep_State_deal (C : Closed P) : ∀ a0 a1 a2, okS P a0 → okS P (@State.deal a0 a1 a2) := by
  intro a0 a1 a2 h0
  unfold State.deal
  dsimp only
  repeat' first | with_reducible assumption | with_reducible apply ite_okS (P := P)
                | with_reducible apply keep_State_fetchInputs C | with_reducible apply keep_State_finish C
                | with_reducible apply keep_State_convBegin C | with_reducible apply keep_State_beginTiles C
                | with_reducible apply keep_State_dealTiles C
                | with_reducible refine okO_elim (P := P) (by assumption) ?_ | split

theorem keep_State_putRecord (C : Closed P) : ∀ a0 a1 a2, okS P a0 → okS P (@State.putRecord a0 a1 a2) := by
  intro a0 a1 a2 h0
  unfold State.putRecord
  dsimp only
  repeat' first | with_reducible assumption | with_reducible apply ite_okS (P := P)
                | with_reducible apply keep_State_storeVa C | with_reducible apply keep_State_setQueue C
                | with_reducible apply keep_State_queueIrq C | with_reducible apply keep_State_recordLost C

theorem keep_State_forget (C : Closed P) : ∀ a0 a1 a2, okS P a0 → okS P (@State.forget a0 a1 a2) := by
  intro a0 a1 a2 h0
  unfold State.forget
  dsimp only
  repeat' first | with_reducible assumption | with_reducible apply keep_State_setQueue C
                | with_reducible apply keep_State_noteWork C | with_reducible apply keep_State_settleDisable C
                | with_reducible apply keep_State_reapSeqs C | with_reducible apply keep_State_reap C

theorem keep_State_complete (C : Closed P) : ∀ a0 a1, okS P a0 → okS P (@State.complete a0 a1) := by
  intro a0 a1 h0
  unfold State.complete
  dsimp only
  repeat' first | with_reducible assumption | with_reducible apply ite_okS (P := P)
                | with_reducible apply keep_State_noteFront C | with_reducible apply keep_State_putRecord C
                | with_reducible apply keep_State_tagRecord C | with_reducible apply keep_State_forget C | split

theorem keep_execDescriptorFetch (C : Closed P) : ∀ a0 a1, okS P a1 → okOut P (@execDescriptorFetch a0 a1) := by
  intro a0 a1 h1
  unfold execDescriptorFetch
  repeat' first | with_reducible assumption | with_reducible apply keep_State_fetch C | with_reducible apply okOut_mk

theorem keep_execCompletionRecordWrite (C : Closed P) :
    ∀ a0 a1, okS P a1 → okOut P (@execCompletionRecordWrite a0 a1) := by
  intro a0 a1 h1
  unfold execCompletionRecordWrite
  repeat' first | with_reducible assumption | with_reducible apply keep_State_complete C
                | with_reducible apply okOut_mk

theorem keep_State_setTframe (C : Closed P) : ∀ a0 a1 a2, okS P a0 → okS P (@State.setTframe a0 a1 a2) := by
  intro a0 a1 a2 h0
  unfold State.setTframe
  dsimp only
  repeat' first | with_reducible assumption

theorem keep_State_setWin (C : Closed P) : ∀ a0 a1 a2, okS P a0 → okS P (@State.setWin a0 a1 a2) := by
  intro a0 a1 a2 h0
  unfold State.setWin
  dsimp only
  repeat' first | with_reducible assumption

theorem keep_State_activate (C : Closed P) : ∀ a0 a1, okS P a0 → okR P (@State.activate a0 a1) := by
  intro a0 a1 h0
  unfold State.activate
  dsimp only
  repeat' first | with_reducible assumption | with_reducible intro _ | with_reducible apply ite_okR (P := P)
                | with_reducible apply keep_State_set C | with_reducible apply keep_State_setTframe C
                | with_reducible apply keep_State_degradeOne C | with_reducible apply okR_mk
                | with_reducible apply okR_mk2 | with_reducible apply keep_foldl (P := P)

theorem keep_State_deactivate (C : Closed P) : ∀ a0 a1, okS P a0 → okS P (@State.deactivate a0 a1) := by
  intro a0 a1 h0
  unfold State.deactivate
  dsimp only
  repeat' first | with_reducible assumption | with_reducible apply keep_State_setTframe C
                | with_reducible apply keep_State_set C

theorem keep_State_deactivateCmd (C : Closed P) : ∀ a0 a1, okS P a0 → okS P (@State.deactivateCmd a0 a1) := by
  intro a0 a1 h0
  unfold State.deactivateCmd
  dsimp only
  repeat' first | with_reducible assumption | with_reducible apply ite_okS (P := P)
                | with_reducible apply keep_State_deactivate C

theorem keep_State_frameBoundary (C : Closed P) : ∀ a0, okS P a0 → okS P (@State.frameBoundary a0) := by
  intro a0 h0
  unfold State.frameBoundary
  dsimp only
  repeat' first | with_reducible assumption | with_reducible intro _ | with_reducible apply ite_okS (P := P)
                | with_reducible apply keep_State_deactivate C | with_reducible apply keep_State_bump C
                | with_reducible apply keep_State_setTframe C | with_reducible apply keep_State_setWin C
                | with_reducible apply keep_State_serveAll C | with_reducible apply keep_State_dealWaiting C
                | with_reducible apply keep_foldl (P := P) | split

theorem keep_State_clearEngine (C : Closed P) : ∀ a0 a1 a2, okS P a0 → okS P (@State.clearEngine a0 a1 a2) := by
  intro a0 a1 a2 h0
  unfold State.clearEngine
  dsimp only
  repeat' first | with_reducible assumption | with_reducible apply keep_State_redealAll C
                | with_reducible apply keep_State_setEngine C

theorem keep_State_leadStart (C : Closed P) : ∀ a0 a1, okS P a0 → okS P (@State.leadStart a0 a1) := by
  intro a0 a1 h0
  unfold State.leadStart
  dsimp only
  repeat' first | with_reducible assumption | with_reducible intro _ | with_reducible apply ite_okS (P := P)
                | with_reducible apply keep_State_setWin C | with_reducible apply keep_State_serveAll C
                | with_reducible apply keep_State_dealWaiting C | with_reducible apply keep_State_clearEngine C
                | with_reducible apply keep_foldl (P := P) | split

theorem keep_State_windowBegin (C : Closed P) : ∀ a0 a1, okS P a0 → okS P (@State.windowBegin a0 a1) := by
  intro a0 a1 h0
  unfold State.windowBegin
  repeat' first | with_reducible assumption | with_reducible apply ite_okS (P := P)
                | with_reducible apply keep_State_setWin C | split

theorem keep_State_frameUnverified (C : Closed P) : ∀ a0 a1, okS P a0 → okS P (@State.frameUnverified a0 a1) := by
  intro a0 a1 h0
  unfold State.frameUnverified
  dsimp only
  repeat' first | with_reducible assumption | with_reducible apply ite_okS (P := P)
                | with_reducible apply keep_State_safetyRecord C | with_reducible apply keep_State_setTframe C
                | with_reducible apply keep_State_doubt C | with_reducible apply keep_State_set C

theorem keep_State_windowFinish (C : Closed P) : ∀ a0 a1, okS P a0 → okS P (@State.windowFinish a0 a1) := by
  intro a0 a1 h0
  unfold State.windowFinish
  dsimp only
  repeat' first | with_reducible assumption | with_reducible apply ite_okS (P := P)
                | with_reducible apply keep_State_setWin C | with_reducible apply keep_State_frameUnverified C
                | with_reducible apply keep_State_noteLate C | with_reducible apply keep_State_serveAll C | with_reducible apply keep_State_dealWaiting C | split

theorem keep_State_issueFrame (C : Closed P) : ∀ a0 a1 a2, okS P a0 → okS P (@State.issueFrame a0 a1 a2) := by
  intro a0 a1 a2 h0
  unfold State.issueFrame
  dsimp only
  repeat' first | with_reducible assumption | with_reducible intro _ | with_reducible apply keep_State_accept C
                | with_reducible apply keep_State_setDesc C | with_reducible apply keep_foldl (P := P) | split

theorem keep_State_dealFrame (C : Closed P) : ∀ a0 a1 a2, okS P a0 → okS P (@State.dealFrame a0 a1 a2) := by
  intro a0 a1 a2 h0
  unfold State.dealFrame
  dsimp only
  repeat' first | with_reducible assumption | with_reducible apply ite_okS (P := P)
                | with_reducible apply keep_State_fetchInputs C | with_reducible apply keep_State_finish C
                | with_reducible apply keep_State_convBegin C | with_reducible apply keep_State_beginTiles C
                | with_reducible apply keep_State_dealTiles C
                | with_reducible refine okO_elim (P := P) (by assumption) ?_ | split

theorem keep_State_dealFrames (C : Closed P) : ∀ a0 a1, okS P a0 → okS P (@State.dealFrames a0 a1) := by
  intro a0 a1 h0
  unfold State.dealFrames
  repeat' first | with_reducible assumption | with_reducible intro _ | with_reducible apply keep_State_dealFrame C
                | with_reducible apply keep_foldl (P := P)

theorem keep_State_tuningStart (C : Closed P) : ∀ a0 a1, okS P a0 → okS P (@State.tuningStart a0 a1) := by
  intro a0 a1 h0
  unfold State.tuningStart
  dsimp only
  repeat' first | with_reducible assumption | with_reducible apply ite_okS (P := P)
                | with_reducible apply keep_State_dealFrames C | with_reducible apply keep_State_issueFrame C
                | with_reducible apply keep_State_setTframe C

theorem keep_State_tuningLatest (C : Closed P) : ∀ a0 a1, okS P a0 → okS P (@State.tuningLatest a0 a1) := by
  intro a0 a1 h0
  unfold State.tuningLatest
  dsimp only
  repeat' first | with_reducible assumption | with_reducible intro _ | with_reducible apply ite_okS (P := P)
                | with_reducible apply keep_State_setEngine C | with_reducible apply keep_State_setDesc C
                | with_reducible apply keep_State_serveAll C | with_reducible apply keep_State_frameUnverified C
                | with_reducible apply keep_foldl (P := P) | split

theorem keep_State_frameCrc (C : Closed P) : ∀ a0 a1, okS P a0 → okP P (@State.frameCrc a0 a1) := by
  intro a0 a1 h0
  unfold State.frameCrc
  dsimp only
  repeat' first | with_reducible assumption | with_reducible apply keep_Work_read C
                | with_reducible apply keep_State_set C

theorem keep_State_judgeFrame (C : Closed P) : ∀ a0 a1, okS P a0 → okS P (@State.judgeFrame a0 a1) := by
  intro a0 a1 h0
  unfold State.judgeFrame
  dsimp only
  repeat' first | with_reducible assumption | with_reducible apply ite_okS (P := P)
                | with_reducible apply keep_State_frameCrc C | with_reducible apply keep_State_set C
                | with_reducible apply keep_State_bump C | with_reducible apply keep_State_doubt C
                | with_reducible apply keep_State_safetyRecord C

theorem keep_State_tuningDone (C : Closed P) : ∀ a0 a1, okS P a0 → okS P (@State.tuningDone a0 a1) := by
  intro a0 a1 h0
  unfold State.tuningDone
  dsimp only
  repeat' first | with_reducible assumption | with_reducible apply ite_okS (P := P)
                | with_reducible apply keep_State_frameCrc C | with_reducible apply keep_State_judgeFrame C
                | with_reducible apply keep_State_setTframe C | with_reducible apply keep_State_serveAll C
                | with_reducible apply keep_State_reapSeqs C | with_reducible apply keep_State_reap C

theorem keep_State_calibrate (C : Closed P) : ∀ a0 a1, okS P a0 → okR P (@State.calibrate a0 a1) := by
  intro a0 a1 h0
  unfold State.calibrate
  dsimp only
  repeat' first | with_reducible assumption | with_reducible apply ite_okR (P := P)
                | with_reducible apply keep_State_dealFrames C | with_reducible apply keep_State_issueFrame C
                | with_reducible apply keep_State_setTframe C | with_reducible apply okR_mk
                | with_reducible exact okR_abort

theorem keep_familyWork (C : Closed P) : ∀ a0 a1 a2, okW P a1 → okW P (@familyWork a0 a1 a2) := by
  intro a0 a1 a2 h1
  unfold familyWork
  dsimp only
  repeat' first | with_reducible assumption | with_reducible intro _ | with_reducible apply ite_okW (P := P)
                | with_reducible apply keep_Work_gemm C | with_reducible apply keep_Work_conv C
                | with_reducible apply keep_Work_image C | with_reducible apply keep_Work_poolRow C
                | with_reducible apply keep_Work_resizeRow C | with_reducible apply keep_Work_cropRow C
                | with_reducible apply keep_Work_regroupRow C | with_reducible apply keep_Work_attention C
                | with_reducible apply keep_Work_append C | with_reducible apply keep_Work_attnCombine C
                | with_reducible apply keep_Work_rowWise C | with_reducible apply keep_Work_elementwiseRow C
                | with_reducible apply keep_Work_reduceAll C | with_reducible apply keep_Work_normaliseRow C
                | with_reducible apply keep_Work_convertRow C | with_reducible apply keep_Work_softmaxRow C
                | with_reducible apply keep_Work_topkRow C | with_reducible apply keep_Work_gatherRow C | split

theorem keep_State_pairCompare (C : Closed P) :
    ∀ a0 a1 a2 a3 a4, okS P a0 → okS P (@State.pairCompare a0 a1 a2 a3 a4) := by
  intro a0 a1 a2 a3 a4 h0
  unfold State.pairCompare
  dsimp only
  repeat' first | with_reducible assumption | with_reducible apply ite_okS (P := P)
                | with_reducible apply keep_State_loseCopy C | with_reducible apply keep_State_parityEvent C
                | with_reducible apply keep_State_parityRepair C | with_reducible apply keep_State_reachA1 C
                | with_reducible apply keep_State_mismatch C | with_reducible apply keep_State_poison C
                | with_reducible apply keep_State_endTile C | with_reducible apply keep_State_settleTicks C
                | with_reducible apply keep_State_countDone C | split

theorem keep_State_selftestDone (C : Closed P) : ∀ a0 a1 a2, okS P a0 → okS P (@State.selftestDone a0 a1 a2) := by
  intro a0 a1 a2 h0
  unfold State.selftestDone
  dsimp only
  repeat' first | with_reducible assumption | with_reducible apply ite_okS (P := P)
                | with_reducible apply keep_State_quarantine C | with_reducible apply keep_State_setEngine C
                | with_reducible apply keep_State_stageTile C | with_reducible apply keep_State_endTile C | split

theorem keep_State_partitionWrite (C : Closed P) :
    ∀ a0 a1 a2 a3, okS P a0 → okR P (@State.partitionWrite a0 a1 a2 a3) := by
  intro a0 a1 a2 a3 h0
  unfold State.partitionWrite
  dsimp only
  repeat' first | with_reducible assumption | with_reducible apply ite_okR (P := P)
                | with_reducible apply keep_State_setB C | with_reducible apply keep_State_activate C
                | with_reducible apply keep_State_deactivateCmd C | with_reducible apply keep_State_set C
                | with_reducible apply keep_State_calibrate C | with_reducible apply okR_mk
                | with_reducible exact okR_abort | split

theorem keep_execMajorFrameBoundary (C : Closed P) : ∀ a0, okS P a0 → okOut P (@execMajorFrameBoundary a0) := by
  intro a0 h0
  unfold execMajorFrameBoundary
  repeat' first | with_reducible assumption | with_reducible apply keep_State_frameBoundary C
                | with_reducible apply okOut_mk

theorem keep_execWindowLeadStart (C : Closed P) : ∀ a0 a1, okS P a1 → okOut P (@execWindowLeadStart a0 a1) := by
  intro a0 a1 h1
  unfold execWindowLeadStart
  repeat' first | with_reducible assumption | with_reducible apply keep_State_leadStart C
                | with_reducible apply okOut_mk

theorem keep_execWindowStart (C : Closed P) : ∀ a0 a1, okS P a1 → okOut P (@execWindowStart a0 a1) := by
  intro a0 a1 h1
  unfold execWindowStart
  repeat' first | with_reducible assumption | with_reducible apply keep_State_windowBegin C
                | with_reducible apply okOut_mk

theorem keep_execWindowEnd (C : Closed P) : ∀ a0 a1, okS P a1 → okOut P (@execWindowEnd a0 a1) := by
  intro a0 a1 h1
  unfold execWindowEnd
  repeat' first | with_reducible assumption | with_reducible apply keep_State_windowFinish C
                | with_reducible apply okOut_mk

theorem keep_execPairCompare (C : Closed P) :
    ∀ a0 a1 a2 a3, okS P a3 → okOut P (@execPairCompare a0 a1 a2 a3) := by
  intro a0 a1 a2 a3 h3
  unfold execPairCompare
  repeat' first | with_reducible assumption | with_reducible apply keep_State_pairCompare C
                | with_reducible apply okOut_mk

theorem keep_execMismatchSelftestDone (C : Closed P) :
    ∀ a0 a1 a2, okS P a2 → okOut P (@execMismatchSelftestDone a0 a1 a2) := by
  intro a0 a1 a2 h2
  unfold execMismatchSelftestDone
  repeat' first | with_reducible assumption | with_reducible apply keep_State_selftestDone C
                | with_reducible apply okOut_mk

theorem keep_execTuningFrameStart (C : Closed P) : ∀ a0 a1, okS P a1 → okOut P (@execTuningFrameStart a0 a1) := by
  intro a0 a1 h1
  unfold execTuningFrameStart
  repeat' first | with_reducible assumption | with_reducible apply keep_State_tuningStart C
                | with_reducible apply okOut_mk

theorem keep_execTuningFrameLatest (C : Closed P) : ∀ a0 a1, okS P a1 → okOut P (@execTuningFrameLatest a0 a1) := by
  intro a0 a1 h1
  unfold execTuningFrameLatest
  repeat' first | with_reducible assumption | with_reducible apply keep_State_tuningLatest C
                | with_reducible apply okOut_mk

theorem keep_execTuningFrameDone (C : Closed P) : ∀ a0 a1, okS P a1 → okOut P (@execTuningFrameDone a0 a1) := by
  intro a0 a1 h1
  unfold execTuningFrameDone
  repeat' first | with_reducible assumption | with_reducible apply keep_State_tuningDone C
                | with_reducible apply okOut_mk

theorem keep_execTileDeal (C : Closed P) : ∀ a0 a1 a2, okS P a2 → okOut P (@execTileDeal a0 a1 a2) := by
  intro a0 a1 a2 h2
  unfold execTileDeal
  repeat' first | with_reducible assumption | with_reducible apply ite_okS (P := P)
                | with_reducible apply keep_State_deal C | with_reducible apply keep_State_dealFrame C
                | with_reducible apply okOut_mk

theorem keep_State_setDrone (C : Closed P) : ∀ a0 a1 a2, okS P a0 → okS P (@State.setDrone a0 a1 a2) := by
  intro a0 a1 a2 h0
  unfold State.setDrone
  dsimp only
  repeat' first | with_reducible assumption

theorem keep_State_emptyRegion (C : Closed P) : ∀ a0, okS P a0 → okS P (@State.emptyRegion a0) := by
  intro a0 h0
  unfold State.emptyRegion
  dsimp only
  repeat' first | with_reducible assumption | with_reducible intro _ | with_reducible apply ite_okS (P := P)
                | with_reducible apply keep_State_fresh C | with_reducible apply keep_Work_evict C
                | with_reducible apply keep_foldl (P := P) | split

theorem keep_State_sliceStart (C : Closed P) : ∀ a0 a1, okS P a0 → okS P (@State.sliceStart a0 a1) := by
  intro a0 a1 h0
  unfold State.sliceStart
  dsimp only
  repeat' first | with_reducible assumption | with_reducible apply keep_State_emptyRegion C | with_reducible apply ite_okS (P := P)
                | with_reducible apply keep_State_setDrone C
                | with_reducible apply keep_State_leaveIdle C | with_reducible apply keep_State_noteBusy C

theorem keep_State_unitTakes (C : Closed P) : ∀ a0 a1, okS P a0 → okS P (@State.unitTakes a0 a1) := by
  intro a0 a1 h0
  unfold State.unitTakes
  repeat' first | with_reducible assumption | with_reducible apply keep_State_serveWork C
                | with_reducible apply keep_State_pipeTake C | with_reducible apply keep_State_planGrant C | split

theorem keep_State_checkpoint (C : Closed P) : ∀ a0 a1, okS P a0 → okS P (@State.checkpoint a0 a1) := by
  intro a0 a1 h0
  unfold State.checkpoint
  dsimp only
  repeat' first | with_reducible assumption | with_reducible apply ite_okS (P := P)
                | with_reducible apply keep_State_unitTakes C | with_reducible apply keep_State_bump32 C
                | with_reducible apply keep_State_setDrone C

theorem keep_State_passDone (C : Closed P) : ∀ a0 a1, okS P a0 → okS P (@State.passDone a0 a1) := by
  intro a0 a1 h0
  unfold State.passDone
  dsimp only
  repeat' first | with_reducible assumption | with_reducible apply ite_okS (P := P)
                | with_reducible apply keep_State_bump C | with_reducible apply keep_State_setDrone C
                | with_reducible apply keep_State_set C

theorem keep_State_sliceDone (C : Closed P) : ∀ a0 a1 a2, okS P a0 → okS P (@State.sliceDone a0 a1 a2) := by
  intro a0 a1 a2 h0
  unfold State.sliceDone
  dsimp only
  repeat' first | with_reducible assumption | with_reducible apply ite_okS (P := P)
                | with_reducible apply keep_State_setDrone C | with_reducible apply keep_State_doubt C
                | with_reducible apply keep_State_safetyRecord C | with_reducible apply keep_State_unitTakes C
                | with_reducible apply keep_State_passDone C

theorem keep_State_intervalExceeded (C : Closed P) : ∀ a0 a1, okS P a0 → okS P (@State.intervalExceeded a0 a1) := by
  intro a0 a1 h0
  unfold State.intervalExceeded
  dsimp only
  repeat' first | with_reducible assumption | with_reducible apply ite_okS (P := P)
                | with_reducible apply keep_State_safetyRecord C | with_reducible apply keep_State_setDrone C
                | with_reducible apply keep_State_doubt C

theorem keep_State_claim (C : Closed P) : ∀ a0 a1, okS P a0 → okS P (@State.claim a0 a1) := by
  intro a0 a1 h0
  unfold State.claim
  dsimp only
  repeat' first | with_reducible assumption | with_reducible apply ite_okS (P := P)
                | with_reducible apply keep_State_setDrone C

theorem keep_State_writeDroneEnable (C : Closed P) : ∀ a0 a1, okS P a0 → okR P (@State.writeDroneEnable a0 a1) := by
  intro a0 a1 h0
  unfold State.writeDroneEnable
  repeat' first | with_reducible assumption | with_reducible intro _ | with_reducible apply ite_okR (P := P)
                | with_reducible apply keep_State_allPipesTake C | with_reducible apply keep_State_allTakeWork C
                | with_reducible apply keep_State_droneEnter C | with_reducible apply keep_State_set C
                | with_reducible apply okR_mk | with_reducible exact okR_abort
                | with_reducible apply keep_foldl (P := P)

theorem keep_execDroneSliceStart (C : Closed P) : ∀ a0 a1, okS P a1 → okOut P (@execDroneSliceStart a0 a1) := by
  intro a0 a1 h1
  unfold execDroneSliceStart
  repeat' first | with_reducible assumption | with_reducible apply keep_State_sliceStart C
                | with_reducible apply okOut_mk

theorem keep_execDroneCheckpoint (C : Closed P) : ∀ a0 a1, okS P a1 → okOut P (@execDroneCheckpoint a0 a1) := by
  intro a0 a1 h1
  unfold execDroneCheckpoint
  repeat' first | with_reducible assumption | with_reducible apply keep_State_checkpoint C
                | with_reducible apply okOut_mk

theorem keep_execDroneSliceDone (C : Closed P) : ∀ a0 a1 a2, okS P a2 → okOut P (@execDroneSliceDone a0 a1 a2) := by
  intro a0 a1 a2 h2
  unfold execDroneSliceDone
  repeat' first | with_reducible assumption | with_reducible apply keep_State_sliceDone C
                | with_reducible apply okOut_mk

theorem keep_execDroneIntervalExceeded (C : Closed P) :
    ∀ a0 a1, okS P a1 → okOut P (@execDroneIntervalExceeded a0 a1) := by
  intro a0 a1 h1
  unfold execDroneIntervalExceeded
  repeat' first | with_reducible assumption | with_reducible apply keep_State_intervalExceeded C
                | with_reducible apply okOut_mk

theorem keep_execDroneClaim (C : Closed P) : ∀ a0 a1, okS P a1 → okOut P (@execDroneClaim a0 a1) := by
  intro a0 a1 h1
  unfold execDroneClaim
  repeat' first | with_reducible assumption | with_reducible apply keep_State_claim C | with_reducible apply okOut_mk

theorem keep_State_setCan (C : Closed P) : ∀ a0 a1 a2, okS P a0 → okS P (@State.setCan a0 a1 a2) := by
  intro a0 a1 a2 h0
  unfold State.setCan
  dsimp only
  repeat' first | with_reducible assumption

theorem keep_State_txDropped (C : Closed P) : ∀ a0 a1 a2, okS P a0 → okS P (@State.txDropped a0 a1 a2) := by
  intro a0 a1 a2 h0
  unfold State.txDropped
  repeat' first | with_reducible assumption | with_reducible apply keep_State_bump C

theorem keep_State_canQueue (C : Closed P) : ∀ a0 a1 a2 a3, okS P a0 → okS P (@State.canQueue a0 a1 a2 a3) := by
  intro a0 a1 a2 a3 h0
  unfold State.canQueue
  dsimp only
  repeat' first | with_reducible assumption | with_reducible apply ite_okS (P := P)
                | with_reducible apply keep_State_bump C | with_reducible apply keep_State_txDropped C
                | with_reducible apply keep_State_setCan C

theorem keep_State_busOff (C : Closed P) : ∀ a0 a1, okS P a0 → okS P (@State.busOff a0 a1) := by
  intro a0 a1 h0
  unfold State.busOff
  dsimp only
  repeat' first | with_reducible assumption | with_reducible apply keep_State_addRecord C
                | with_reducible apply keep_State_txDropped C | with_reducible apply keep_State_setCan C

theorem keep_State_canSent (C : Closed P) : ∀ a0 a1 a2, okS P a0 → okS P (@State.canSent a0 a1 a2) := by
  intro a0 a1 a2 h0
  unfold State.canSent
  dsimp only
  repeat' first | with_reducible assumption | with_reducible apply ite_okS (P := P)
                | with_reducible apply keep_State_emit C | with_reducible apply keep_State_bump C
                | with_reducible apply keep_State_setCan C | with_reducible apply keep_State_busOff C | split

theorem keep_State_canFault (C : Closed P) : ∀ a0 a1 a2 a3, okS P a0 → okS P (@State.canFault a0 a1 a2 a3) := by
  intro a0 a1 a2 a3 h0
  unfold State.canFault
  dsimp only
  repeat' first | with_reducible assumption | with_reducible apply ite_okS (P := P)
                | with_reducible apply keep_State_addRecord C | with_reducible apply keep_State_setCan C

theorem keep_State_canRecovered (C : Closed P) : ∀ a0 a1, okS P a0 → okS P (@State.canRecovered a0 a1) := by
  intro a0 a1 h0
  unfold State.canRecovered
  dsimp only
  repeat' first | with_reducible assumption | with_reducible apply ite_okS (P := P)
                | with_reducible apply keep_State_setCan C

theorem keep_State_canCmd (C : Closed P) : ∀ a0 a1 a2, okS P a0 → okS P (@State.canCmd a0 a1 a2) := by
  intro a0 a1 a2 h0
  unfold State.canCmd
  dsimp only
  repeat' first | with_reducible assumption | with_reducible apply ite_okS (P := P)
                | with_reducible apply keep_State_setCan C | with_reducible apply keep_State_txDropped C

theorem keep_State_canMode (C : Closed P) : ∀ a0 a1 a2, okS P a0 → okR P (@State.canMode a0 a1 a2) := by
  intro a0 a1 a2 h0
  unfold State.canMode
  dsimp only
  repeat' first | with_reducible assumption | with_reducible apply ite_okR (P := P)
                | with_reducible apply ite_okS (P := P) | with_reducible apply keep_State_set C
                | with_reducible apply keep_State_txDropped C | with_reducible apply keep_State_setCan C
                | with_reducible apply okR_mk | with_reducible exact okR_abort

theorem keep_State_canWrite (C : Closed P) : ∀ a0 a1 a2 a3, okS P a0 → okR P (@State.canWrite a0 a1 a2 a3) := by
  intro a0 a1 a2 a3 h0
  unfold State.canWrite
  dsimp only
  repeat' first | with_reducible assumption | with_reducible apply ite_okR (P := P)
                | with_reducible apply keep_State_canMode C | with_reducible apply keep_State_canCmd C
                | with_reducible apply keep_State_set C | with_reducible apply okR_mk
                | with_reducible exact okR_abort

theorem keep_State_setLin (C : Closed P) : ∀ a0 a1 a2, okS P a0 → okS P (@State.setLin a0 a1 a2) := by
  intro a0 a1 a2 h0
  unfold State.setLin
  dsimp only
  repeat' first | with_reducible assumption

theorem keep_State_linAnswer (C : Closed P) : ∀ a0 a1 a2, okS P a0 → okS P (@State.linAnswer a0 a1 a2) := by
  intro a0 a1 a2 h0
  unfold State.linAnswer
  repeat' first | with_reducible assumption | with_reducible apply keep_State_emit C | split

theorem keep_State_linSlot (C : Closed P) : ∀ a0 a1, okS P a0 → okS P (@State.linSlot a0 a1) := by
  intro a0 a1 h0
  unfold State.linSlot
  dsimp only
  repeat' first | with_reducible assumption | with_reducible apply ite_okS (P := P)
                | with_reducible apply keep_State_linAnswer C | with_reducible apply keep_State_emit C
                | with_reducible apply keep_State_setLin C | split

theorem keep_State_linCmd (C : Closed P) : ∀ a0 a1 a2, okS P a0 → okS P (@State.linCmd a0 a1 a2) := by
  intro a0 a1 a2 h0
  unfold State.linCmd
  dsimp only
  repeat' first | with_reducible assumption | with_reducible apply ite_okS (P := P)
                | with_reducible apply keep_State_set C | with_reducible apply keep_State_emit C

theorem keep_State_linWrite (C : Closed P) : ∀ a0 a1 a2 a3, okS P a0 → okR P (@State.linWrite a0 a1 a2 a3) := by
  intro a0 a1 a2 a3 h0
  unfold State.linWrite
  dsimp only
  repeat' first | with_reducible assumption | with_reducible apply ite_okR (P := P)
                | with_reducible apply keep_State_setB C | with_reducible apply keep_State_linCmd C
                | with_reducible apply keep_State_set C | with_reducible apply keep_State_setLin C
                | with_reducible apply okR_mk | with_reducible exact okR_abort | split

theorem keep_State_sendAvtpdu (C : Closed P) : ∀ a0 a1, okS P a0 → okS P (@State.sendAvtpdu a0 a1) := by
  intro a0 a1 h0
  unfold State.sendAvtpdu
  dsimp only
  repeat' first | with_reducible assumption | with_reducible apply ite_okS (P := P)
                | with_reducible apply keep_State_switchIngress C | with_reducible apply keep_State_emit C

theorem keep_State_appendAcf (C : Closed P) : ∀ a0 a1 a2, okS P a0 → okS P (@State.appendAcf a0 a1 a2) := by
  intro a0 a1 a2 h0
  unfold State.appendAcf
  dsimp only
  repeat' first | with_reducible assumption | with_reducible apply ite_okS (P := P)
                | with_reducible apply keep_State_sendAvtpdu C

theorem keep_State_routeDrop (C : Closed P) : ∀ a0, okS P a0 → okS P (@State.routeDrop a0) := by
  intro a0 h0
  unfold State.routeDrop
  repeat' first | with_reducible assumption | with_reducible apply keep_State_bump C

theorem keep_State_mapLin (C : Closed P) : ∀ a0 a1 a2 a3, okS P a0 → okS P (@State.mapLin a0 a1 a2 a3) := by
  intro a0 a1 a2 a3 h0
  unfold State.mapLin
  dsimp only
  repeat' first | with_reducible assumption | with_reducible apply ite_okS (P := P)
                | with_reducible apply keep_State_routeDrop C | with_reducible apply keep_State_setLin C | split

theorem keep_State_tunnel (C : Closed P) : ∀ a0 a1 a2 a3 a4, okS P a0 → okS P (@State.tunnel a0 a1 a2 a3 a4) := by
  intro a0 a1 a2 a3 a4 h0
  unfold State.tunnel
  repeat' first | with_reducible assumption | with_reducible apply ite_okS (P := P)
                | with_reducible apply keep_State_routeDrop C | with_reducible apply keep_State_appendAcf C

theorem keep_State_applyRoute (C : Closed P) :
    ∀ a0 a1 a2 a3 a4 a5, okS P a0 → okS P (@State.applyRoute a0 a1 a2 a3 a4 a5) := by
  intro a0 a1 a2 a3 a4 a5 h0
  unfold State.applyRoute
  dsimp only
  repeat' first | with_reducible assumption | with_reducible apply ite_okS (P := P)
                | with_reducible apply keep_State_tunnel C | with_reducible apply keep_State_routeDrop C
                | with_reducible apply keep_State_canQueue C | with_reducible apply keep_State_mapLin C | split

theorem keep_State_routeFrame (C : Closed P) : ∀ a0 a1 a2 a3, okS P a0 → okS P (@State.routeFrame a0 a1 a2 a3) := by
  intro a0 a1 a2 a3 h0
  unfold State.routeFrame
  dsimp only
  repeat' first | with_reducible assumption | with_reducible intro _ | with_reducible apply ite_okS (P := P)
                | with_reducible apply keep_State_applyRoute C | with_reducible apply keep_State_bump C
                | with_reducible apply keep_foldl (P := P)

theorem keep_State_busReceive (C : Closed P) : ∀ a0 a1 a2 a3, okS P a0 → okS P (@State.busReceive a0 a1 a2 a3) := by
  intro a0 a1 a2 a3 h0
  unfold State.busReceive
  dsimp only
  repeat' first | with_reducible assumption | with_reducible apply ite_okS (P := P)
                | with_reducible apply keep_State_harnessReversed C | with_reducible apply keep_State_routeFrame C
                | with_reducible apply keep_State_bump C | with_reducible apply keep_State_linAnswer C
                | with_reducible apply keep_State_set C

theorem keep_State_avtpduReceive (C : Closed P) :
    ∀ a0 a1 a2 a3 a4, okS P a0 → okS P (@State.avtpduReceive a0 a1 a2 a3 a4) := by
  intro a0 a1 a2 a3 a4 h0
  unfold State.avtpduReceive
  dsimp only
  repeat' first | with_reducible assumption | with_reducible intro _ | with_reducible apply ite_okS (P := P)
                | with_reducible apply keep_State_bump C | with_reducible apply keep_State_routeFrame C
                | with_reducible apply keep_foldl (P := P) | split

theorem keep_State_routeCommit (C : Closed P) : ∀ a0, okS P a0 → okR P (@State.routeCommit a0) := by
  intro a0 h0
  unfold State.routeCommit
  dsimp only
  repeat' first | with_reducible assumption | with_reducible apply ite_okR (P := P)
                | with_reducible apply keep_State_set C | with_reducible apply keep_State_setB C
                | with_reducible apply okR_mk | with_reducible exact okR_abort | with_reducible apply okR_mk2
                | split

theorem keep_State_raiseFence (C : Closed P) : ∀ a0, okS P a0 → okS P (@State.raiseFence a0) := by
  intro a0 h0
  unfold State.raiseFence
  dsimp only
  repeat' first | with_reducible assumption | with_reducible apply ite_okS (P := P)
                | with_reducible apply keep_State_setCan C | with_reducible apply keep_State_set C

theorem keep_State_dropFence (C : Closed P) : ∀ a0, okS P a0 → okS P (@State.dropFence a0) := by
  intro a0 h0
  unfold State.dropFence
  dsimp only
  repeat' first | with_reducible assumption | with_reducible apply keep_State_set C

theorem keep_State_gatewayWrite (C : Closed P) : ∀ a0 a1 a2 a3, okS P a0 → okR P (@State.gatewayWrite a0 a1 a2 a3) := by
  intro a0 a1 a2 a3 h0
  unfold State.gatewayWrite
  split
  · with_reducible apply ite_okR (P := P)
    · with_reducible exact keep_State_routeCommit C _ h0
    · with_reducible apply ite_okR (P := P)
      · with_reducible exact keep_State_canWrite C _ _ _ _ h0
      · with_reducible apply ite_okR (P := P)
        · with_reducible exact keep_State_linWrite C _ _ _ _ h0
        · with_reducible apply ite_okR (P := P)
          · with_reducible exact keep_State_ethWrite C _ _ _ _ h0
          · with_reducible apply ite_okR (P := P)
            · with_reducible exact keep_State_gclWrite C _ _ _ _ h0
            · with_reducible apply ite_okR (P := P)
              · with_reducible exact okR_abort
              · with_reducible apply okR_mk
                with_reducible exact keep_State_set C _ _ _ _ _ h0
  · repeat' first | with_reducible assumption | with_reducible apply ite_okR (P := P)
                  | with_reducible apply keep_State_routeCommit C | with_reducible apply keep_State_canWrite C
                  | with_reducible apply keep_State_linWrite C | with_reducible apply keep_State_ethWrite C
                  | with_reducible apply keep_State_gclWrite C | with_reducible apply keep_State_set C
                  | with_reducible apply keep_State_setB C | with_reducible apply keep_State_switchWrite C
                  | with_reducible apply okR_mk | with_reducible exact okR_abort

theorem keep_execCanFrameRx (C : Closed P) : ∀ a0 a1 a2 a3, okS P a3 → okOut P (@execCanFrameRx a0 a1 a2 a3) := by
  intro a0 a1 a2 a3 h3
  unfold execCanFrameRx
  repeat' first | with_reducible assumption | with_reducible apply keep_State_busReceive C
                | with_reducible apply okOut_mk

theorem keep_execCanFrameTx (C : Closed P) : ∀ a0 a1 a2, okS P a2 → okOut P (@execCanFrameTx a0 a1 a2) := by
  intro a0 a1 a2 h2
  unfold execCanFrameTx
  repeat' first | with_reducible assumption | with_reducible apply keep_State_canSent C
                | with_reducible apply okOut_mk

theorem keep_execCanBusOff (C : Closed P) : ∀ a0 a1, okS P a1 → okOut P (@execCanBusOff a0 a1) := by
  intro a0 a1 h1
  unfold execCanBusOff
  repeat' first | with_reducible assumption | with_reducible apply ite_okS (P := P)
                | with_reducible apply keep_State_busOff C | with_reducible apply okOut_mk

theorem keep_execBusoffRecoveryDone (C : Closed P) : ∀ a0 a1, okS P a1 → okOut P (@execBusoffRecoveryDone a0 a1) := by
  intro a0 a1 h1
  unfold execBusoffRecoveryDone
  repeat' first | with_reducible assumption | with_reducible apply keep_State_canRecovered C
                | with_reducible apply okOut_mk

theorem keep_execCanDominantTimeout (C : Closed P) : ∀ a0 a1, okS P a1 → okOut P (@execCanDominantTimeout a0 a1) := by
  intro a0 a1 h1
  unfold execCanDominantTimeout
  repeat' first | with_reducible assumption | with_reducible apply keep_State_canFault C
                | with_reducible apply okOut_mk

theorem keep_execCanBusFault (C : Closed P) : ∀ a0 a1 a2, okS P a2 → okOut P (@execCanBusFault a0 a1 a2) := by
  intro a0 a1 a2 h2
  unfold execCanBusFault
  repeat' first | with_reducible assumption | with_reducible apply ite_okS (P := P)
                | with_reducible apply keep_State_canFault C | with_reducible apply okOut_mk

theorem keep_execCanFaultRetry (C : Closed P) : ∀ a0 a1 a2, okS P a2 → okOut P (@execCanFaultRetry a0 a1 a2) := by
  intro a0 a1 a2 h2
  unfold execCanFaultRetry
  dsimp only
  repeat' first | with_reducible assumption | with_reducible apply ite_okS (P := P)
                | with_reducible apply keep_State_setCan C | with_reducible apply okOut_mk

theorem keep_execLinScheduleSlot (C : Closed P) : ∀ a0 a1, okS P a1 → okOut P (@execLinScheduleSlot a0 a1) := by
  intro a0 a1 h1
  unfold execLinScheduleSlot
  repeat' first | with_reducible assumption | with_reducible apply keep_State_linSlot C
                | with_reducible apply okOut_mk

theorem keep_execLinBusFault (C : Closed P) : ∀ a0 a1, okS P a1 → okOut P (@execLinBusFault a0 a1) := by
  intro a0 a1 h1
  unfold execLinBusFault
  repeat' first | with_reducible assumption | with_reducible apply ite_okS (P := P)
                | with_reducible apply keep_State_addRecord C | with_reducible apply keep_State_set C
                | with_reducible apply okOut_mk

theorem keep_execLinBusRecessive (C : Closed P) : ∀ a0 a1, okS P a1 → okOut P (@execLinBusRecessive a0 a1) := by
  intro a0 a1 h1
  unfold execLinBusRecessive
  repeat' first | with_reducible assumption | with_reducible apply ite_okS (P := P)
                | with_reducible apply keep_State_set C | with_reducible apply okOut_mk

theorem keep_execAvtpduSend (C : Closed P) : ∀ a0 a1, okS P a1 → okOut P (@execAvtpduSend a0 a1) := by
  intro a0 a1 h1
  unfold execAvtpduSend
  repeat' first | with_reducible assumption | with_reducible apply ite_okS (P := P)
                | with_reducible apply keep_State_sendAvtpdu C | with_reducible apply okOut_mk

theorem keep_execAvtpduReceive (C : Closed P) :
    ∀ a0 a1 a2 a3 a4, okS P a4 → okOut P (@execAvtpduReceive a0 a1 a2 a3 a4) := by
  intro a0 a1 a2 a3 a4 h4
  unfold execAvtpduReceive
  repeat' first | with_reducible assumption | with_reducible apply keep_State_avtpduReceive C
                | with_reducible apply okOut_mk

theorem keep_execRouteFence (C : Closed P) : ∀ a0, okS P a0 → okOut P (@execRouteFence a0) := by
  intro a0 h0
  unfold execRouteFence
  repeat' first | with_reducible assumption | with_reducible apply keep_State_raiseFence C
                | with_reducible apply okOut_mk

theorem keep_State_goWrite (C : Closed P) : ∀ a0 a1, okS P a0 → okS P (@State.goWrite a0 a1) := by
  intro a0 a1 h0
  unfold State.goWrite
  dsimp only
  repeat' first | with_reducible assumption | with_reducible apply keep_State_set C

theorem keep_State_goOverload (C : Closed P) : ∀ a0 a1, okS P a0 → okS P (@State.goOverload a0 a1) := by
  intro a0 a1 h0
  unfold State.goOverload
  repeat' first | with_reducible assumption | with_reducible apply ite_okS (P := P)
                | with_reducible apply keep_State_addRecord C | with_reducible apply keep_State_set C

theorem keep_State_goOpenLoad (C : Closed P) : ∀ a0 a1, okS P a0 → okS P (@State.goOpenLoad a0 a1) := by
  intro a0 a1 h0
  unfold State.goOpenLoad
  dsimp only
  repeat' first | with_reducible assumption | with_reducible apply ite_okS (P := P)
                | with_reducible apply keep_State_addRecord C

theorem keep_State_setCam (C : Closed P) : ∀ a0 a1 a2, okS P a0 → okS P (@State.setCam a0 a1 a2) := by
  intro a0 a1 a2 h0
  unfold State.setCam
  dsimp only
  repeat' first | with_reducible assumption

theorem keep_State_camWrite (C : Closed P) : ∀ a0 a1, okS P a0 → okS P (@State.camWrite a0 a1) := by
  intro a0 a1 h0
  unfold State.camWrite
  dsimp only
  repeat' first | with_reducible assumption | with_reducible intro _ | with_reducible apply keep_State_set C
                | with_reducible apply keep_State_setCam C | with_reducible apply keep_foldl (P := P)

theorem keep_State_setFlowState (C : Closed P) : ∀ a0 a1 a2, okS P a0 → okS P (@State.setFlowState a0 a1 a2) := by
  intro a0 a1 a2 h0
  unfold State.setFlowState
  dsimp only
  repeat' first | with_reducible assumption | with_reducible apply keep_State_set C

theorem keep_State_coolDirection (C : Closed P) : ∀ a0 a1, okS P a0 → okS P (@State.coolDirection a0 a1) := by
  intro a0 a1 h0
  unfold State.coolDirection
  dsimp only
  repeat' first | with_reducible assumption | with_reducible apply ite_okS (P := P)
                | with_reducible apply keep_State_bump C | with_reducible apply keep_State_addRecord C

theorem keep_State_coolFlow (C : Closed P) : ∀ a0 a1 a2, okS P a0 → okS P (@State.coolFlow a0 a1 a2) := by
  intro a0 a1 a2 h0
  unfold State.coolFlow
  dsimp only
  repeat' first | with_reducible assumption | with_reducible apply ite_okS (P := P)
                | with_reducible apply keep_State_set C | with_reducible apply keep_State_addRecord C
                | with_reducible apply keep_State_setFlowState C

theorem keep_State_coolWindow (C : Closed P) : ∀ a0, okS P a0 → okS P (@State.coolWindow a0) := by
  intro a0 h0
  unfold State.coolWindow
  dsimp only
  repeat' first | with_reducible assumption | with_reducible apply ite_okS (P := P)
                | with_reducible apply keep_State_setFlowState C | with_reducible apply keep_State_coolDirection C
                | with_reducible apply keep_State_coolFlow C

theorem keep_State_coolLimit (C : Closed P) : ∀ a0 a1 a2 a3, okS P a0 → okS P (@State.coolLimit a0 a1 a2 a3) := by
  intro a0 a1 a2 a3 h0
  unfold State.coolLimit
  dsimp only
  repeat' first | with_reducible assumption | with_reducible apply ite_okS (P := P)
                | with_reducible apply keep_State_fresh C | with_reducible apply keep_State_set C

theorem keep_State_coolant (C : Closed P) : ∀ a0 a1 a2, okS P a0 → okS P (@State.coolant a0 a1 a2) := by
  intro a0 a1 a2 h0
  unfold State.coolant
  dsimp only
  repeat' first | with_reducible assumption | with_reducible apply ite_okS (P := P)
                | with_reducible apply keep_State_set C | with_reducible apply keep_State_coolLimit C
                | with_reducible apply keep_State_addRecord C | with_reducible apply keep_State_setFlowState C
                | with_reducible apply keep_State_coolWindow C

theorem keep_execGoOverload (C : Closed P) : ∀ a0 a1, okS P a1 → okOut P (@execGoOverload a0 a1) := by
  intro a0 a1 h1
  unfold execGoOverload
  repeat' first | with_reducible assumption | with_reducible apply keep_State_goOverload C
                | with_reducible apply okOut_mk

theorem keep_execGoOpenLoad (C : Closed P) : ∀ a0 a1, okS P a1 → okOut P (@execGoOpenLoad a0 a1) := by
  intro a0 a1 h1
  unfold execGoOpenLoad
  repeat' first | with_reducible assumption | with_reducible apply keep_State_goOpenLoad C
                | with_reducible apply okOut_mk

theorem keep_execCameraOvercurrent (C : Closed P) : ∀ a0 a1, okS P a1 → okOut P (@execCameraOvercurrent a0 a1) := by
  intro a0 a1 h1
  unfold execCameraOvercurrent
  repeat' first | with_reducible assumption | with_reducible apply ite_okS (P := P)
                | with_reducible apply keep_State_addRecord C | with_reducible apply keep_State_setCam C
                | with_reducible apply okOut_mk

theorem keep_execCameraPowerRetry (C : Closed P) : ∀ a0 a1, okS P a1 → okOut P (@execCameraPowerRetry a0 a1) := by
  intro a0 a1 h1
  unfold execCameraPowerRetry
  repeat' first | with_reducible assumption | with_reducible apply ite_okS (P := P)
                | with_reducible apply keep_State_setCam C | with_reducible apply okOut_mk

theorem keep_execCameraOpenLoad (C : Closed P) : ∀ a0 a1, okS P a1 → okOut P (@execCameraOpenLoad a0 a1) := by
  intro a0 a1 h1
  unfold execCameraOpenLoad
  repeat' first | with_reducible assumption | with_reducible apply ite_okS (P := P)
                | with_reducible apply keep_State_addRecord C | with_reducible apply keep_State_setCam C
                | with_reducible apply okOut_mk

theorem keep_execCoolantSample (C : Closed P) : ∀ a0 a1 a2, okS P a2 → okOut P (@execCoolantSample a0 a1 a2) := by
  intro a0 a1 a2 h2
  unfold execCoolantSample
  repeat' first | with_reducible assumption | with_reducible apply keep_State_coolant C
                | with_reducible apply okOut_mk

theorem keep_State_loseBeat (C : Closed P) : ∀ a0, okS P a0 → okS P (@State.loseBeat a0) := by
  intro a0 h0
  unfold State.loseBeat
  dsimp only
  repeat' first | with_reducible assumption | with_reducible apply ite_okS (P := P)
                | with_reducible apply keep_State_doubt C | with_reducible apply keep_State_safetyRecord C | split

theorem keep_State_takeOver (C : Closed P) : ∀ a0 a1, okS P a0 → okS P (@State.takeOver a0 a1) := by
  intro a0 a1 h0
  unfold State.takeOver
  dsimp only
  repeat' first | with_reducible assumption | with_reducible apply keep_State_raiseFence C

theorem keep_State_actOnSignals (C : Closed P) : ∀ a0, okS P a0 → okS P (@State.actOnSignals a0) := by
  intro a0 h0
  unfold State.actOnSignals
  dsimp only
  repeat' first | with_reducible assumption | with_reducible intro _ | with_reducible apply ite_okS (P := P)
                | with_reducible apply keep_State_furtherDoubt C | with_reducible apply keep_State_takeOver C
                | with_reducible apply keep_foldl (P := P) | split

theorem keep_State_rearguardTakeover (C : Closed P) : ∀ a0 a1, okS P a0 → okS P (@State.rearguardTakeover a0 a1) := by
  intro a0 a1 h0
  unfold State.rearguardTakeover
  repeat' first | with_reducible assumption | with_reducible apply ite_okS (P := P)
                | with_reducible apply keep_State_actOnSignals C

theorem keep_State_raiseMainReset (C : Closed P) : ∀ a0 a1, okS P a0 → okS P (@State.raiseMainReset a0 a1) := by
  intro a0 a1 h0
  unfold State.raiseMainReset
  dsimp only
  repeat' first | with_reducible assumption | with_reducible apply ite_okS (P := P)
                | with_reducible apply keep_State_rearguardDoubt C

theorem keep_State_rearguardStart (C : Closed P) : ∀ a0 a1, okS P a0 → okS P (@State.rearguardStart a0 a1) := by
  intro a0 a1 h0
  unfold State.rearguardStart
  dsimp only
  repeat' first | with_reducible assumption | with_reducible apply ite_okS (P := P)
                | with_reducible apply keep_State_addRecord C | with_reducible apply keep_State_setRunning C
                | with_reducible apply keep_State_safetyRecord C | with_reducible apply keep_State_actOnSignals C
                | split

theorem keep_State_statusFrame (C : Closed P) : ∀ a0, okS P a0 → okS P (@State.statusFrame a0) := by
  intro a0 h0
  unfold State.statusFrame
  dsimp only
  repeat' first | with_reducible assumption | with_reducible apply ite_okS (P := P)
                | with_reducible apply keep_State_emit C

theorem keep_State_handback (C : Closed P) : ∀ a0 a1, okS P a0 → okR P (@State.handback a0 a1) := by
  intro a0 a1 h0
  unfold State.handback
  dsimp only
  repeat' first | with_reducible assumption | with_reducible apply ite_okR (P := P)
                | with_reducible apply keep_State_dropFence C | with_reducible apply keep_State_safetyRecord C
                | with_reducible apply okR_mk | with_reducible exact okR_abort

theorem keep_State_safetyWrite (C : Closed P) : ∀ a0 a1 a2 a3, okS P a0 → okR P (@State.safetyWrite a0 a1 a2 a3) := by
  intro a0 a1 a2 a3 h0
  unfold State.safetyWrite
  repeat' first | with_reducible assumption | with_reducible apply ite_okR (P := P)
                | with_reducible apply keep_State_writeDroneEnable C | with_reducible apply keep_State_handback C
                | with_reducible apply keep_State_doubt C | with_reducible apply keep_State_safetyRecord C
                | with_reducible apply keep_State_set C | with_reducible apply okR_mk

theorem keep_State_cameraFrame (C : Closed P) : ∀ a0 a1, okS P a0 → okS P (@State.cameraFrame a0 a1) := by
  intro a0 a1 h0
  unfold State.cameraFrame
  dsimp only
  repeat' first | with_reducible assumption | with_reducible apply ite_okS (P := P)

theorem keep_execHeartbeat (C : Closed P) : ∀ a0, okS P a0 → okOut P (@execHeartbeat a0) := by
  intro a0 h0
  unfold execHeartbeat
  repeat' first | with_reducible assumption | with_reducible apply ite_okS (P := P)
                | with_reducible apply keep_State_beat C | with_reducible apply okOut_mk

theorem keep_execHeartbeatLost (C : Closed P) : ∀ a0, okS P a0 → okOut P (@execHeartbeatLost a0) := by
  intro a0 h0
  unfold execHeartbeatLost
  repeat' first | with_reducible assumption | with_reducible apply keep_State_loseBeat C
                | with_reducible apply okOut_mk

theorem keep_execRearguardTakeover (C : Closed P) : ∀ a0 a1, okS P a1 → okOut P (@execRearguardTakeover a0 a1) := by
  intro a0 a1 h1
  unfold execRearguardTakeover
  repeat' first | with_reducible assumption | with_reducible apply keep_State_rearguardTakeover C
                | with_reducible apply okOut_mk

theorem keep_execMainReset (C : Closed P) : ∀ a0 a1, okS P a1 → okOut P (@execMainReset a0 a1) := by
  intro a0 a1 h1
  unfold execMainReset
  repeat' first | with_reducible assumption | with_reducible apply keep_State_raiseMainReset C
                | with_reducible apply okOut_mk

theorem keep_execRearguardPowerUp (C : Closed P) :
    ∀ a0 a1 a2, okS P a2 → okOut P (@execRearguardPowerUp a0 a1 a2) := by
  intro a0 a1 a2 h2
  unfold execRearguardPowerUp
  repeat' first | with_reducible assumption | with_reducible apply keep_State_rearguardStart C
                | with_reducible apply okOut_mk

theorem keep_execManoeuvreComplete (C : Closed P) : ∀ a0, okS P a0 → okOut P (@execManoeuvreComplete a0) := by
  intro a0 h0
  unfold execManoeuvreComplete
  dsimp only
  repeat' first | with_reducible assumption | with_reducible apply ite_okS (P := P) | with_reducible apply okOut_mk

theorem keep_execRearguardStatusFrame (C : Closed P) : ∀ a0, okS P a0 → okOut P (@execRearguardStatusFrame a0) := by
  intro a0 h0
  unfold execRearguardStatusFrame
  repeat' first | with_reducible assumption | with_reducible apply keep_State_statusFrame C
                | with_reducible apply okOut_mk

theorem keep_execLockstepMismatch (C : Closed P) : ∀ a0, okS P a0 → okOut P (@execLockstepMismatch a0) := by
  intro a0 h0
  unfold execLockstepMismatch
  dsimp only
  repeat' first | with_reducible assumption | with_reducible apply ite_okS (P := P) | with_reducible apply okOut_mk

theorem keep_execCameraFrameStart (C : Closed P) : ∀ a0 a1, okS P a1 → okOut P (@execCameraFrameStart a0 a1) := by
  intro a0 a1 h1
  unfold execCameraFrameStart
  repeat' first | with_reducible assumption | with_reducible apply keep_State_cameraFrame C
                | with_reducible apply okOut_mk

theorem keep_State_dropKv (C : Closed P) : ∀ a0 a1, okS P a0 → okS P (@State.dropKv a0 a1) := by
  intro a0 a1 h0
  unfold State.dropKv
  dsimp only
  repeat' first | with_reducible assumption | with_reducible intro _ | with_reducible apply ite_okS (P := P)
                | with_reducible apply keep_State_freeSeq C | with_reducible apply keep_State_poolRemove C
                | with_reducible apply keep_foldl (P := P) | split

theorem keep_State_dropLayers (C : Closed P) : ∀ a0 a1, okS P a0 → okS P (@State.dropLayers a0 a1) := by
  intro a0 a1 h0
  unfold State.dropLayers
  dsimp only
  repeat' first | with_reducible assumption

theorem keep_State_dropObjects (C : Closed P) : ∀ a0 a1, okS P a0 → okS P (@State.dropObjects a0 a1) := by
  intro a0 a1 h0
  unfold State.dropObjects
  dsimp only
  repeat' first | with_reducible assumption | with_reducible apply keep_State_dropParams C
                | with_reducible apply keep_State_reap C

theorem keep_State_dropSlice (C : Closed P) : ∀ a0 a1, okS P a0 → okS P (@State.dropSlice a0 a1) := by
  intro a0 a1 h0
  unfold State.dropSlice
  dsimp only
  repeat' first | with_reducible assumption | with_reducible apply keep_State_setSlice C

theorem keep_State_rundown (C : Closed P) : ∀ a0 a1, okS P a0 → okS P (@State.rundown a0 a1) := by
  intro a0 a1 h0
  unfold State.rundown
  repeat' first | with_reducible assumption | with_reducible apply ite_okS (P := P)
                | with_reducible apply keep_State_dropSlice C | with_reducible apply keep_State_dropObjects C
                | with_reducible apply keep_State_dropLayers C | with_reducible apply keep_State_dropKv C

theorem keep_execSliceRundownDone (C : Closed P) : ∀ a0 a1, okS P a1 → okOut P (@execSliceRundownDone a0 a1) := by
  intro a0 a1 h1
  unfold execSliceRundownDone
  repeat' first | with_reducible assumption | with_reducible apply keep_State_rundown C
                | with_reducible apply okOut_mk

end Sys2Proof.Machine
end

