-- ==== Sys2Proof/Laws/KeepsPaths.lean ====
section
/-! SUPPORT. The frame library, continued: what the dictionary, its paths and arriving frames keep. -/

set_option linter.unusedVariables false

namespace Sys2Proof.Machine

open Sys2Proof

variable {P : KProp} {α β γ : Type}

theorem keep_State_ackRecord (C : Closed P) : ∀ a0 a1, okS P a0 → okR P (@State.ackRecord a0 a1) := by
  intro a0 a1 h0
  unfold State.ackRecord
  dsimp only
  repeat' first | with_reducible assumption | with_reducible apply ite_okR (P := P) | with_reducible apply okR_mk
                | with_reducible exact okR_abort

theorem keep_State_writeCompat (C : Closed P) : ∀ a0 a1, okS P a0 → okR P (@State.writeCompat a0 a1) := by
  intro a0 a1 h0
  unfold State.writeCompat
  repeat' first | with_reducible assumption | with_reducible apply ite_okR (P := P)
                | with_reducible apply keep_State_clearCounters C | with_reducible apply keep_State_set C
                | with_reducible apply okR_mk | with_reducible exact okR_abort

theorem keep_State_commCmd (C : Closed P) : ∀ a0 a1, okS P a0 → okR P (@State.commCmd a0 a1) := by
  intro a0 a1 h0
  unfold State.commCmd
  dsimp only
  repeat' first | with_reducible assumption | with_reducible apply ite_okR (P := P) | with_reducible apply okR_mk

theorem keep_State_applyWrite (C : Closed P) :
    ∀ a0 a1 a2 a3 a4 a5 a6 a7, okS P a0 → okR P (@State.applyWrite a0 a1 a2 a3 a4 a5 a6 a7) := by
  intro a0 a1 a2 a3 a4 a5 a6 a7 h0
  unfold State.applyWrite
  dsimp only
  repeat' first | with_reducible assumption | with_reducible apply ite_okR (P := P)
                | with_reducible apply keep_State_commCmd C | with_reducible apply keep_State_setVal C
                | with_reducible apply keep_State_writeCompat C | with_reducible apply keep_State_governorWrite C
                | with_reducible apply keep_State_fresh C | with_reducible apply keep_State_powerWrite C
                | with_reducible apply keep_State_camWrite C | with_reducible apply keep_State_timeWrite C
                | with_reducible apply keep_State_partitionWrite C | with_reducible apply keep_State_safetyWrite C
                | with_reducible apply keep_State_bandwidthWrite C | with_reducible apply keep_State_set C
                | with_reducible apply keep_State_queueConfig C | with_reducible apply keep_State_queueCmd C
                | with_reducible apply keep_State_sliceWrite C | with_reducible apply keep_State_placementWrite C
                | with_reducible apply keep_State_poolWrite C | with_reducible apply keep_State_writeParams C
                | with_reducible apply keep_State_displayWrite C | with_reducible apply keep_State_lanesWrite C
                | with_reducible apply keep_State_acuWrite C | with_reducible apply keep_State_goWrite C
                | with_reducible apply keep_State_cableDiag C | with_reducible apply keep_State_gatewayWrite C
                | with_reducible apply keep_State_topologyCmd C | with_reducible apply keep_State_linkWrite C
                | with_reducible apply keep_State_securityWrite C | with_reducible apply keep_State_debugWrite C
                | with_reducible apply keep_State_counterWrite C | with_reducible apply keep_State_ackRecord C
                | with_reducible apply okR_mk | split

theorem keep_State_settle (C : Closed P) : ∀ a0 a1, okS P a0 → okR P a1 → okP P (@State.settle a0 a1) := by
  intro s r h hr
  cases r with
  | ok t => exact hr
  | abort c => exact h
  | refuse c t => exact hr

theorem keep_State_commit (C : Closed P) :
    ∀ a0 a1 a2 a3 a4 a5, okS P a0 → okP P (@State.commit a0 a1 a2 a3 a4 a5) := by
  intro a0 a1 a2 a3 a4 a5 h0
  unfold State.commit
  repeat' first | with_reducible assumption | with_reducible apply ite_okP (P := P)
                | with_reducible apply keep_State_settle C | with_reducible apply keep_State_applyWrite C | split

theorem keep_State_setPieced (C : Closed P) : ∀ a0 a1 a2, okS P a0 → okS P (@State.setPieced a0 a1 a2) := by
  intro a0 a1 a2 h0
  unfold State.setPieced
  dsimp only
  repeat' first | with_reducible assumption

theorem keep_State_forget_ (C : Closed P) : ∀ a0 a1 a2 a3, okS P a0 → okS P (@State.forget_ a0 a1 a2 a3) := by
  intro a0 a1 a2 a3 h0
  unfold State.forget_
  dsimp only
  repeat' first | with_reducible assumption

theorem keep_State_piece (C : Closed P) : ∀ a0 a1 a2 a3 a4, okS P a0 → okP P (@State.piece a0 a1 a2 a3 a4) := by
  intro a0 a1 a2 a3 a4 h0
  unfold State.piece
  dsimp only
  repeat' first | with_reducible assumption | with_reducible apply ite_okP (P := P)
                | with_reducible apply ite_okS (P := P) | with_reducible apply keep_State_commit C
                | with_reducible apply keep_State_forget_ C | with_reducible apply keep_State_setPieced C

theorem keep_State_dictWrite (C : Closed P) : ∀ a0 a1 a2, okS P a0 → okP P (@State.dictWrite a0 a1 a2) := by
  intro a0 a1 a2 h0
  unfold State.dictWrite
  repeat' first | with_reducible assumption | with_reducible apply ite_okP (P := P)
                | with_reducible apply keep_State_piece C | with_reducible apply keep_State_commit C | split

theorem keep_State_pieceLapse (C : Closed P) : ∀ a0 a1 a2 a3, okS P a0 → okS P (@State.pieceLapse a0 a1 a2 a3) := by
  intro a0 a1 a2 a3 h0
  unfold State.pieceLapse
  dsimp only
  repeat' first | with_reducible assumption | with_reducible apply ite_okS (P := P)
                | with_reducible apply keep_State_setPieced C | split

theorem keep_execPiecedTransferTimeout (C : Closed P) :
    ∀ a0 a1 a2 a3, okS P a3 → okOut P (@execPiecedTransferTimeout a0 a1 a2 a3) := by
  intro a0 a1 a2 a3 h3
  unfold execPiecedTransferTimeout
  repeat' first | with_reducible assumption | with_reducible apply keep_State_pieceLapse C
                | with_reducible apply okOut_mk

theorem keep_State_setWindow (C : Closed P) : ∀ a0 a1 a2, okS P a0 → okS P (@State.setWindow a0 a1 a2) := by
  intro a0 a1 a2 h0
  unfold State.setWindow
  dsimp only
  repeat' first | with_reducible assumption

theorem keep_State_racedBytes (C : Closed P) : ∀ a0 a1 a2, okS P a0 → okP P (@State.racedBytes a0 a1 a2) := by
  intro a0 a1 a2 h0
  unfold State.racedBytes
  dsimp only
  repeat' first | with_reducible assumption | with_reducible intro _ | with_reducible apply keep_State_fresh C
                | with_reducible apply keep_foldlP (P := P)

theorem keep_State_windowResult (C : Closed P) :
    ∀ a0 a1 a2 a3 a4, okS P a0 → okS P (@State.windowResult a0 a1 a2 a3 a4) := by
  intro a0 a1 a2 a3 a4 h0
  unfold State.windowResult
  dsimp only
  repeat' first | with_reducible assumption | with_reducible apply keep_State_setWindow C

theorem keep_State_runWindow (C : Closed P) : ∀ a0 a1 a2, okS P a0 → okS P (@State.runWindow a0 a1 a2) := by
  intro a0 a1 a2 h0
  unfold State.runWindow
  dsimp only
  repeat' first | with_reducible assumption | with_reducible apply ite_okS (P := P)
                | with_reducible apply keep_State_windowResult C | with_reducible apply keep_State_racedBytes C
                | with_reducible apply keep_State_dictWrite C | split

theorem keep_State_typeCode (C : Closed P) : ∀ a0 a1, okS P a0 → okP P (@State.typeCode a0 a1) := by
  intro a0 a1 h0
  unfold State.typeCode
  dsimp only
  repeat' first | with_reducible assumption | with_reducible apply keep_State_fresh C | split

theorem keep_State_fmpAnswer (C : Closed P) :
    ∀ a0 a1 a2 a3 a4, okS P a0 → okP P (@State.fmpAnswer a0 a1 a2 a3 a4) := by
  intro a0 a1 a2 a3 a4 h0
  unfold State.fmpAnswer
  dsimp only
  repeat' first | with_reducible assumption | with_reducible apply keep_State_typeCode C

theorem keep_State_fmpEach (C : Closed P) : ∀ a0 a1 a2 a3, okS P a0 → okP P (@State.fmpEach a0 a1 a2 a3) := by
  intro a0 a1 a2 a3 h0
  unfold State.fmpEach
  dsimp only
  repeat' first | with_reducible assumption | with_reducible intro _ | with_reducible apply ite_okP (P := P)
                | with_reducible apply keep_State_fmpAnswer C | with_reducible apply keep_State_dictWrite C
                | with_reducible apply keep_foldlP (P := P) | split

theorem keep_State_fmpApply (C : Closed P) : ∀ a0 a1 a2 a3 a4, okS P a0 → okP P (@State.fmpApply a0 a1 a2 a3 a4) := by
  intro s src sum i rs h
  induction rs generalizing s i with
  | nil => exact h
  | cons r rs ih =>
    unfold State.fmpApply
    dsimp only
    split
    · exact ih _ _ (keep_State_dictWrite C _ _ _ h)
    · exact keep_State_dictWrite C _ _ _ h

theorem keep_State_fmpSet (C : Closed P) : ∀ a0 a1 a2, okS P a0 → okP P (@State.fmpSet a0 a1 a2) := by
  intro a0 a1 a2 h0
  unfold State.fmpSet
  dsimp only
  repeat' first | with_reducible assumption | with_reducible intro _ | with_reducible apply keep_State_fmpApply C
                | with_reducible apply keep_State_fmpAnswer C | with_reducible apply keep_foldlP (P := P) | split

theorem keep_State_fmpExecute (C : Closed P) : ∀ a0 a1 a2, okS P a0 → okP P (@State.fmpExecute a0 a1 a2) := by
  intro a0 a1 a2 h0
  unfold State.fmpExecute
  dsimp only
  repeat' first | with_reducible assumption | with_reducible intro _ | with_reducible apply ite_okP (P := P)
                | with_reducible apply keep_State_fmpEach C | with_reducible apply keep_State_fmpSet C
                | with_reducible apply keep_State_fmpAnswer C | with_reducible apply keep_foldlP (P := P)

theorem keep_State_fmpForward (C : Closed P) : ∀ a0 a1 a2, okS P a0 → okS P (@State.fmpForward a0 a1 a2) := by
  intro a0 a1 a2 h0
  unfold State.fmpForward
  dsimp only
  repeat' first | with_reducible assumption | with_reducible apply ite_okS (P := P)
                | with_reducible apply keep_State_fmpRefuse C | with_reducible apply keep_State_freshTag C
                | with_reducible apply keep_State_sendFrame C | with_reducible apply keep_State_cacheReply C
                | with_reducible refine okP_elim (P := P) (by assumption) ?_ | split | dsimp only [okS]

theorem keep_State_runForwarded (C : Closed P) :
    ∀ a0 a1 a2 a3, okS P a0 → okS P (@State.runForwarded a0 a1 a2 a3) := by
  intro a0 a1 a2 a3 h0
  unfold State.runForwarded
  dsimp only
  repeat' first | with_reducible assumption | with_reducible apply keep_State_bump C
                | with_reducible apply keep_State_fmpExecute C | with_reducible apply keep_State_sendFrame C | split

theorem keep_State_runFmp (C : Closed P) : ∀ a0 a1, okS P a0 → okS P (@State.runFmp a0 a1) := by
  intro a0 a1 h0
  unfold State.runFmp
  dsimp only
  repeat' first | with_reducible assumption | with_reducible apply ite_okS (P := P)
                | with_reducible apply keep_State_bump C | with_reducible apply keep_State_emit C
                | with_reducible apply keep_State_fmpForward C | with_reducible apply keep_State_fmpExecute C
                | with_reducible apply keep_State_fmpReply C | split

theorem keep_State_setUsdo (C : Closed P) : ∀ a0 a1, okS P a0 → okS P (@State.setUsdo a0 a1) := by
  intro a0 a1 h0
  unfold State.setUsdo
  dsimp only
  repeat' first | with_reducible assumption

theorem keep_State_usdoAnswer (C : Closed P) : ∀ a0 a1 a2, okS P a0 → okS P (@State.usdoAnswer a0 a1 a2) := by
  intro a0 a1 a2 h0
  unfold State.usdoAnswer
  repeat' first | with_reducible assumption | with_reducible apply keep_State_emit C

theorem keep_State_usdoWrite (C : Closed P) : ∀ a0 a1 a2 a3, okS P a0 → okS P (@State.usdoWrite a0 a1 a2 a3) := by
  intro a0 a1 a2 a3 h0
  unfold State.usdoWrite
  dsimp only
  repeat' first | with_reducible assumption | with_reducible apply keep_State_dictWrite C
                | with_reducible apply keep_State_usdoAnswer C

theorem keep_State_runUsdo (C : Closed P) : ∀ a0 a1, okS P a0 → okS P (@State.runUsdo a0 a1) := by
  intro a0 a1 h0
  unfold State.runUsdo
  dsimp only
  repeat' first | with_reducible assumption | with_reducible apply ite_okS (P := P)
                | with_reducible apply keep_State_usdoAnswer C | with_reducible apply keep_State_usdoWrite C
                | with_reducible apply keep_State_setUsdo C | split

theorem keep_State_runAccess (C : Closed P) : ∀ a0 a1 a2, okS P a0 → okS P (@State.runAccess a0 a1 a2) := by
  intro a0 a1 a2 h0
  unfold State.runAccess
  dsimp only
  repeat' first | with_reducible assumption | with_reducible apply ite_okS (P := P)
                | with_reducible apply keep_State_dictWrite C | with_reducible apply keep_State_emit C | split

theorem keep_State_onPath (C : Closed P) :
    ∀ a0 a1 a2, okS P a0 → (∀ x0, okS P x0 → okS P (a2 x0)) → okS P (@State.onPath a0 a1 a2) := by
  intro a0 a1 a2 h0 h2
  unfold State.onPath
  dsimp only
  repeat' first | with_reducible assumption | with_reducible apply ite_okS (P := P) | with_reducible apply h2
                | with_reducible apply keep_State_setPwr C
                | with_reducible apply keep_State_workArrives C

theorem keep_State_runHeld (C : Closed P) : ∀ a0 a1, okS P a0 → okS P (@State.runHeld a0 a1) := by
  intro a0 a1 h0
  unfold State.runHeld
  repeat' first | with_reducible assumption | with_reducible apply ite_okS (P := P)
                | with_reducible apply keep_State_runAccess C | with_reducible apply keep_State_runWindow C
                | with_reducible apply keep_State_runFmp C | with_reducible apply keep_State_runUsdo C
                | with_reducible apply keep_State_setUsdo C | with_reducible apply keep_State_emit C
                | with_reducible apply keep_State_windowResult C | with_reducible apply keep_State_runForwarded C
                | split

theorem keep_State_serveHeld (C : Closed P) : ∀ a0 a1, okS P a0 → okS P (@State.serveHeld a0 a1) := by
  intro a0 a1 h0
  unfold State.serveHeld
  dsimp only
  repeat' first | with_reducible assumption | with_reducible apply ite_okS (P := P)
                | with_reducible apply keep_State_runHeld C | split

theorem keep_State_rowWrite (C : Closed P) :
    ∀ a0 a1 a2 a3 a4 a5 a6, okS P a0 → okS P (@State.rowWrite a0 a1 a2 a3 a4 a5 a6) := by
  intro a0 a1 a2 a3 a4 a5 a6 h0
  unfold State.rowWrite
  dsimp only
  repeat' first | with_reducible assumption | with_reducible intro _ | with_reducible apply keep_State_onPath C
                | with_reducible apply keep_State_runAccess C

theorem keep_State_rowNum (C : Closed P) :
    ∀ a0 a1 a2 a3 a4 a5, okS P a0 → okS P (@State.rowNum a0 a1 a2 a3 a4 a5) := by
  intro a0 a1 a2 a3 a4 a5 h0
  unfold State.rowNum
  dsimp only
  repeat' first | with_reducible assumption | with_reducible apply keep_State_rowWrite C

theorem keep_State_windowRequest (C : Closed P) :
    ∀ a0 a1 a2 a3, okS P a0 → okS P (@State.windowRequest a0 a1 a2 a3) := by
  intro a0 a1 a2 a3 h0
  unfold State.windowRequest
  dsimp only
  repeat' first | with_reducible assumption | with_reducible intro _ | with_reducible apply ite_okS (P := P)
                | with_reducible apply keep_State_setWindow C | with_reducible apply keep_State_onPath C
                | with_reducible apply keep_State_runWindow C

theorem keep_State_windowBuffer (C : Closed P) :
    ∀ a0 a1 a2 a3, okS P a0 → okS P (@State.windowBuffer a0 a1 a2 a3) := by
  intro a0 a1 a2 a3 h0
  unfold State.windowBuffer
  dsimp only
  repeat' first | with_reducible assumption | with_reducible apply keep_State_setWindow C

theorem keep_State_faultAt (C : Closed P) : ∀ a0 a1, okS P a0 → okS P (@State.faultAt a0 a1) := by
  intro a0 a1 h0
  unfold State.faultAt
  dsimp only
  repeat' first | with_reducible assumption | with_reducible apply ite_okS (P := P)
                | with_reducible apply keep_State_runHeld C | with_reducible apply keep_State_setWindow C
                | with_reducible apply keep_State_fwFault C | split

theorem keep_execUsdoRequest (C : Closed P) : ∀ a0 a1, okS P a1 → okOut P (@execUsdoRequest a0 a1) := by
  intro a0 a1 h1
  unfold execUsdoRequest
  repeat' first | with_reducible assumption | with_reducible intro _ | with_reducible apply ite_okS (P := P)
                | with_reducible apply keep_State_onPath C | with_reducible apply keep_State_runUsdo C
                | with_reducible apply okOut_mk

theorem keep_execUsdoAbort (C : Closed P) : ∀ a0, okS P a0 → okOut P (@execUsdoAbort a0) := by
  intro a0 h0
  unfold execUsdoAbort
  repeat' first | with_reducible assumption | with_reducible intro _ | with_reducible apply ite_okS (P := P)
                | with_reducible apply keep_State_onPath C | with_reducible apply keep_State_setUsdo C
                | with_reducible apply okOut_mk

theorem keep_execUsdoSessionTimeout (C : Closed P) : ∀ a0, okS P a0 → okOut P (@execUsdoSessionTimeout a0) := by
  intro a0 h0
  unfold execUsdoSessionTimeout
  repeat' first | with_reducible assumption | with_reducible apply ite_okS (P := P)
                | with_reducible apply keep_State_usdoAnswer C | with_reducible apply keep_State_setUsdo C
                | with_reducible apply okOut_mk | split

theorem keep_execFmpRead (C : Closed P) : ∀ a0 a1, okS P a1 → okOut P (@execFmpRead a0 a1) := by
  intro a0 a1 h1
  unfold execFmpRead
  repeat' first | with_reducible assumption | with_reducible intro _ | with_reducible apply ite_okS (P := P)
                | with_reducible apply keep_State_onPath C | with_reducible apply keep_State_runFmp C
                | with_reducible apply okOut_mk

theorem keep_execFmpWrite (C : Closed P) : ∀ a0 a1, okS P a1 → okOut P (@execFmpWrite a0 a1) := by
  intro a0 a1 h1
  unfold execFmpWrite
  repeat' first | with_reducible assumption | with_reducible intro _ | with_reducible apply ite_okS (P := P)
                | with_reducible apply keep_State_onPath C | with_reducible apply keep_State_runFmp C
                | with_reducible apply okOut_mk

theorem keep_execFmpWriteSet (C : Closed P) : ∀ a0 a1, okS P a1 → okOut P (@execFmpWriteSet a0 a1) := by
  intro a0 a1 h1
  unfold execFmpWriteSet
  repeat' first | with_reducible assumption | with_reducible intro _ | with_reducible apply ite_okS (P := P)
                | with_reducible apply keep_State_onPath C | with_reducible apply keep_State_runFmp C
                | with_reducible apply okOut_mk

theorem keep_execDwRead (C : Closed P) : ∀ a0 a1 a2, okS P a2 → okOut P (@execDwRead a0 a1 a2) := by
  intro a0 a1 a2 h2
  unfold execDwRead
  repeat' first | with_reducible assumption | with_reducible apply ite_okS (P := P)
                | with_reducible apply keep_State_windowRequest C | with_reducible apply okOut_mk

theorem keep_execDwWrite (C : Closed P) : ∀ a0 a1 a2, okS P a2 → okOut P (@execDwWrite a0 a1 a2) := by
  intro a0 a1 a2 h2
  unfold execDwWrite
  repeat' first | with_reducible assumption | with_reducible apply ite_okS (P := P)
                | with_reducible apply keep_State_windowRequest C | with_reducible apply okOut_mk

theorem keep_execRegisterWrite (C : Closed P) : ∀ a0 a1, okS P a1 → okOut P (@execRegisterWrite a0 a1) := by
  intro a0 a1 h1
  unfold execRegisterWrite
  dsimp only
  repeat' first | with_reducible assumption | with_reducible apply ite_okS (P := P)
                | with_reducible apply keep_State_rowWrite C | with_reducible apply keep_State_setWindow C
                | with_reducible apply keep_State_windowBuffer C | with_reducible apply keep_State_setHart C
                | with_reducible apply okOut_mk | split

theorem keep_execDictHeldAccessServe (C : Closed P) :
    ∀ a0 a1, okS P a1 → okOut P (@execDictHeldAccessServe a0 a1) := by
  intro a0 a1 h1
  unfold execDictHeldAccessServe
  repeat' first | with_reducible assumption | with_reducible apply keep_State_serveHeld C
                | with_reducible apply okOut_mk

theorem keep_execFwFault (C : Closed P) : ∀ a0 a1, okS P a1 → okOut P (@execFwFault a0 a1) := by
  intro a0 a1 h1
  unfold execFwFault
  repeat' first | with_reducible assumption | with_reducible apply keep_State_faultAt C
                | with_reducible apply okOut_mk

theorem keep_execStoreComm (C : Closed P) : ∀ a0 a1 a2, okS P a2 → okOut P (@execStoreComm a0 a1 a2) := by
  intro a0 a1 a2 h2
  unfold execStoreComm
  repeat' first | with_reducible assumption | with_reducible apply keep_State_rowNum C | with_reducible apply okOut_mk

theorem keep_execRestoreComm (C : Closed P) : ∀ a0 a1 a2, okS P a2 → okOut P (@execRestoreComm a0 a1 a2) := by
  intro a0 a1 a2 h2
  unfold execRestoreComm
  repeat' first | with_reducible assumption | with_reducible apply keep_State_rowNum C | with_reducible apply okOut_mk

theorem keep_execCommEntryWrite (C : Closed P) :
    ∀ a0 a1 a2 a3 a4, okS P a4 → okOut P (@execCommEntryWrite a0 a1 a2 a3 a4) := by
  intro a0 a1 a2 a3 a4 h4
  unfold execCommEntryWrite
  repeat' first | with_reducible assumption | with_reducible apply ite_okS (P := P)
                | with_reducible apply keep_State_rowWrite C | with_reducible apply okOut_mk

theorem keep_execAck (C : Closed P) : ∀ a0 a1 a2, okS P a2 → okOut P (@execAck a0 a1 a2) := by
  intro a0 a1 a2 h2
  unfold execAck
  repeat' first | with_reducible assumption | with_reducible apply keep_State_rowNum C | with_reducible apply okOut_mk

theorem keep_execCompatModeWrite (C : Closed P) : ∀ a0 a1 a2, okS P a2 → okOut P (@execCompatModeWrite a0 a1 a2) := by
  intro a0 a1 a2 h2
  unfold execCompatModeWrite
  repeat' first | with_reducible assumption | with_reducible apply keep_State_rowNum C | with_reducible apply okOut_mk

theorem keep_execGovernorSettingWrite (C : Closed P) :
    ∀ a0 a1 a2 a3 a4, okS P a4 → okOut P (@execGovernorSettingWrite a0 a1 a2 a3 a4) := by
  intro a0 a1 a2 a3 a4 h4
  unfold execGovernorSettingWrite
  repeat' first | with_reducible assumption | with_reducible apply ite_okS (P := P)
                | with_reducible apply keep_State_rowNum C | with_reducible apply okOut_mk

theorem keep_execRailMinClear (C : Closed P) : ∀ a0 a1 a2, okS P a2 → okOut P (@execRailMinClear a0 a1 a2) := by
  intro a0 a1 a2 h2
  unfold execRailMinClear
  repeat' first | with_reducible assumption | with_reducible apply keep_State_rowNum C | with_reducible apply okOut_mk

theorem keep_execKvPoolCreate (C : Closed P) : ∀ a0 a1 a2, okS P a2 → okOut P (@execKvPoolCreate a0 a1 a2) := by
  intro a0 a1 a2 h2
  unfold execKvPoolCreate
  repeat' first | with_reducible assumption | with_reducible apply ite_okS (P := P)
                | with_reducible apply keep_State_rowNum C | with_reducible apply okOut_mk

theorem keep_execKvPoolDestroy (C : Closed P) : ∀ a0 a1 a2, okS P a2 → okOut P (@execKvPoolDestroy a0 a1 a2) := by
  intro a0 a1 a2 h2
  unfold execKvPoolDestroy
  repeat' first | with_reducible assumption | with_reducible apply ite_okS (P := P)
                | with_reducible apply keep_State_rowNum C | with_reducible apply okOut_mk

theorem keep_execKvPoolTrim (C : Closed P) : ∀ a0 a1 a2, okS P a2 → okOut P (@execKvPoolTrim a0 a1 a2) := by
  intro a0 a1 a2 h2
  unfold execKvPoolTrim
  repeat' first | with_reducible assumption | with_reducible apply ite_okS (P := P)
                | with_reducible apply keep_State_rowNum C | with_reducible apply okOut_mk

theorem keep_execKvPoolEntryWrite (C : Closed P) :
    ∀ a0 a1 a2 a3 a4, okS P a4 → okOut P (@execKvPoolEntryWrite a0 a1 a2 a3 a4) := by
  intro a0 a1 a2 a3 a4 h4
  unfold execKvPoolEntryWrite
  repeat' first | with_reducible assumption | with_reducible apply ite_okS (P := P)
                | with_reducible apply keep_State_rowNum C | with_reducible apply okOut_mk

theorem keep_execPrefixNodeLimitWrite (C : Closed P) :
    ∀ a0 a1 a2 a3, okS P a3 → okOut P (@execPrefixNodeLimitWrite a0 a1 a2 a3) := by
  intro a0 a1 a2 a3 h3
  unfold execPrefixNodeLimitWrite
  repeat' first | with_reducible assumption | with_reducible apply ite_okS (P := P)
                | with_reducible apply keep_State_rowNum C | with_reducible apply okOut_mk

theorem keep_execSeraiShareWrite (C : Closed P) :
    ∀ a0 a1 a2 a3, okS P a3 → okOut P (@execSeraiShareWrite a0 a1 a2 a3) := by
  intro a0 a1 a2 a3 h3
  unfold execSeraiShareWrite
  repeat' first | with_reducible assumption | with_reducible apply ite_okS (P := P)
                | with_reducible apply keep_State_rowNum C | with_reducible apply okOut_mk

theorem keep_execPlacementPolicyWrite (C : Closed P) :
    ∀ a0 a1 a2 a3 a4, okS P a4 → okOut P (@execPlacementPolicyWrite a0 a1 a2 a3 a4) := by
  intro a0 a1 a2 a3 a4 h4
  unfold execPlacementPolicyWrite
  repeat' first | with_reducible assumption | with_reducible apply ite_okS (P := P)
                | with_reducible apply keep_State_rowNum C | with_reducible apply okOut_mk

theorem keep_execQuarantineRetest (C : Closed P) :
    ∀ a0 a1 a2, okS P a2 → okOut P (@execQuarantineRetest a0 a1 a2) := by
  intro a0 a1 a2 h2
  unfold execQuarantineRetest
  repeat' first | with_reducible assumption | with_reducible apply keep_State_rowNum C | with_reducible apply okOut_mk

theorem keep_execCountersClear (C : Closed P) : ∀ a0 a1 a2, okS P a2 → okOut P (@execCountersClear a0 a1 a2) := by
  intro a0 a1 a2 h2
  unfold execCountersClear
  repeat' first | with_reducible assumption | with_reducible apply keep_State_rowNum C | with_reducible apply okOut_mk

theorem keep_execEngineEnableWrite (C : Closed P) :
    ∀ a0 a1 a2, okS P a2 → okOut P (@execEngineEnableWrite a0 a1 a2) := by
  intro a0 a1 a2 h2
  unfold execEngineEnableWrite
  repeat' first | with_reducible assumption | with_reducible apply keep_State_rowNum C | with_reducible apply okOut_mk

theorem keep_execQueueConfig (C : Closed P) : ∀ a0 a1 a2, okS P a2 → okOut P (@execQueueConfig a0 a1 a2) := by
  intro a0 a1 a2 h2
  unfold execQueueConfig
  repeat' first | with_reducible assumption | with_reducible apply keep_State_rowWrite C
                | with_reducible apply okOut_mk

theorem keep_execQueueEnable (C : Closed P) : ∀ a0 a1 a2, okS P a2 → okOut P (@execQueueEnable a0 a1 a2) := by
  intro a0 a1 a2 h2
  unfold execQueueEnable
  repeat' first | with_reducible assumption | with_reducible apply ite_okS (P := P)
                | with_reducible apply keep_State_rowNum C | with_reducible apply okOut_mk

theorem keep_execQueueDisable (C : Closed P) : ∀ a0 a1 a2, okS P a2 → okOut P (@execQueueDisable a0 a1 a2) := by
  intro a0 a1 a2 h2
  unfold execQueueDisable
  repeat' first | with_reducible assumption | with_reducible apply ite_okS (P := P)
                | with_reducible apply keep_State_rowNum C | with_reducible apply okOut_mk

theorem keep_execQueueRestart (C : Closed P) : ∀ a0 a1 a2, okS P a2 → okOut P (@execQueueRestart a0 a1 a2) := by
  intro a0 a1 a2 h2
  unfold execQueueRestart
  repeat' first | with_reducible assumption | with_reducible apply ite_okS (P := P)
                | with_reducible apply keep_State_rowNum C | with_reducible apply okOut_mk

theorem keep_execQueueResetCounts (C : Closed P) :
    ∀ a0 a1 a2, okS P a2 → okOut P (@execQueueResetCounts a0 a1 a2) := by
  intro a0 a1 a2 h2
  unfold execQueueResetCounts
  repeat' first | with_reducible assumption | with_reducible apply ite_okS (P := P)
                | with_reducible apply keep_State_rowNum C | with_reducible apply okOut_mk

theorem keep_execSliceCreate (C : Closed P) : ∀ a0 a1 a2, okS P a2 → okOut P (@execSliceCreate a0 a1 a2) := by
  intro a0 a1 a2 h2
  unfold execSliceCreate
  repeat' first | with_reducible assumption | with_reducible apply ite_okS (P := P)
                | with_reducible apply keep_State_rowNum C | with_reducible apply okOut_mk

theorem keep_execSliceDestroy (C : Closed P) : ∀ a0 a1 a2, okS P a2 → okOut P (@execSliceDestroy a0 a1 a2) := by
  intro a0 a1 a2 h2
  unfold execSliceDestroy
  repeat' first | with_reducible assumption | with_reducible apply ite_okS (P := P)
                | with_reducible apply keep_State_rowNum C | with_reducible apply okOut_mk

theorem keep_execQueueBlocksWrite (C : Closed P) :
    ∀ a0 a1 a2 a3, okS P a3 → okOut P (@execQueueBlocksWrite a0 a1 a2 a3) := by
  intro a0 a1 a2 a3 h3
  unfold execQueueBlocksWrite
  repeat' first | with_reducible assumption | with_reducible apply ite_okS (P := P)
                | with_reducible apply keep_State_rowWrite C | with_reducible apply okOut_mk

theorem keep_execMemQuotaWrite (C : Closed P) :
    ∀ a0 a1 a2 a3, okS P a3 → okOut P (@execMemQuotaWrite a0 a1 a2 a3) := by
  intro a0 a1 a2 a3 h3
  unfold execMemQuotaWrite
  repeat' first | with_reducible assumption | with_reducible apply ite_okS (P := P)
                | with_reducible apply keep_State_rowNum C | with_reducible apply okOut_mk

theorem keep_execGraceMsWrite (C : Closed P) : ∀ a0 a1 a2 a3, okS P a3 → okOut P (@execGraceMsWrite a0 a1 a2 a3) := by
  intro a0 a1 a2 a3 h3
  unfold execGraceMsWrite
  repeat' first | with_reducible assumption | with_reducible apply ite_okS (P := P)
                | with_reducible apply keep_State_rowNum C | with_reducible apply okOut_mk

theorem keep_execEngineShareWrite (C : Closed P) :
    ∀ a0 a1 a2 a3, okS P a3 → okOut P (@execEngineShareWrite a0 a1 a2 a3) := by
  intro a0 a1 a2 a3 h3
  unfold execEngineShareWrite
  repeat' first | with_reducible assumption | with_reducible apply ite_okS (P := P)
                | with_reducible apply keep_State_rowNum C | with_reducible apply okOut_mk

theorem keep_execPortARoleWrite (C : Closed P) : ∀ a0 a1 a2, okS P a2 → okOut P (@execPortARoleWrite a0 a1 a2) := by
  intro a0 a1 a2 h2
  unfold execPortARoleWrite
  repeat' first | with_reducible assumption | with_reducible apply keep_State_rowNum C | with_reducible apply okOut_mk

theorem keep_execTopologyCmd (C : Closed P) : ∀ a0 a1 a2 a3, okS P a3 → okOut P (@execTopologyCmd a0 a1 a2 a3) := by
  intro a0 a1 a2 a3 h3
  unfold execTopologyCmd
  repeat' first | with_reducible assumption | with_reducible apply keep_State_rowNum C | with_reducible apply okOut_mk

theorem keep_execOutboundWindowWrite (C : Closed P) :
    ∀ a0 a1 a2 a3, okS P a3 → okOut P (@execOutboundWindowWrite a0 a1 a2 a3) := by
  intro a0 a1 a2 a3 h3
  unfold execOutboundWindowWrite
  repeat' first | with_reducible assumption | with_reducible apply ite_okS (P := P)
                | with_reducible apply keep_State_rowWrite C | with_reducible apply okOut_mk

theorem keep_execLaneOpen (C : Closed P) : ∀ a0 a1 a2, okS P a2 → okOut P (@execLaneOpen a0 a1 a2) := by
  intro a0 a1 a2 h2
  unfold execLaneOpen
  repeat' first | with_reducible assumption | with_reducible apply ite_okS (P := P)
                | with_reducible apply keep_State_rowNum C | with_reducible apply okOut_mk

theorem keep_execLaneClose (C : Closed P) : ∀ a0 a1 a2, okS P a2 → okOut P (@execLaneClose a0 a1 a2) := by
  intro a0 a1 a2 h2
  unfold execLaneClose
  repeat' first | with_reducible assumption | with_reducible apply ite_okS (P := P)
                | with_reducible apply keep_State_rowNum C | with_reducible apply okOut_mk

theorem keep_execBwGuaranteeWrite (C : Closed P) :
    ∀ a0 a1 a2 a3 a4, okS P a4 → okOut P (@execBwGuaranteeWrite a0 a1 a2 a3 a4) := by
  intro a0 a1 a2 a3 a4 h4
  unfold execBwGuaranteeWrite
  repeat' first | with_reducible assumption | with_reducible apply ite_okS (P := P)
                | with_reducible apply keep_State_rowNum C | with_reducible apply okOut_mk

theorem keep_execBwCountersClear (C : Closed P) : ∀ a0 a1 a2, okS P a2 → okOut P (@execBwCountersClear a0 a1 a2) := by
  intro a0 a1 a2 h2
  unfold execBwCountersClear
  repeat' first | with_reducible assumption | with_reducible apply keep_State_rowNum C | with_reducible apply okOut_mk

theorem keep_execParamBufferWrite (C : Closed P) :
    ∀ a0 a1 a2, okS P a2 → okOut P (@execParamBufferWrite a0 a1 a2) := by
  intro a0 a1 a2 h2
  unfold execParamBufferWrite
  repeat' first | with_reducible assumption | with_reducible apply keep_State_rowNum C | with_reducible apply okOut_mk

theorem keep_execOutputEnableWrite (C : Closed P) :
    ∀ a0 a1 a2 a3 a4, okS P a4 → okOut P (@execOutputEnableWrite a0 a1 a2 a3 a4) := by
  intro a0 a1 a2 a3 a4 h4
  unfold execOutputEnableWrite
  repeat' first | with_reducible assumption | with_reducible apply ite_okS (P := P)
                | with_reducible apply keep_State_rowNum C | with_reducible apply okOut_mk

theorem keep_execLayerWrite (C : Closed P) :
    ∀ a0 a1 a2 a3 a4 a5, okS P a5 → okOut P (@execLayerWrite a0 a1 a2 a3 a4 a5) := by
  intro a0 a1 a2 a3 a4 a5 h5
  unfold execLayerWrite
  repeat' first | with_reducible assumption | with_reducible apply ite_okS (P := P)
                | with_reducible apply keep_State_rowNum C | with_reducible apply okOut_mk

theorem keep_execPoseHandleWrite (C : Closed P) : ∀ a0 a1 a2, okS P a2 → okOut P (@execPoseHandleWrite a0 a1 a2) := by
  intro a0 a1 a2 h2
  unfold execPoseHandleWrite
  repeat' first | with_reducible assumption | with_reducible apply keep_State_rowNum C | with_reducible apply okOut_mk

theorem keep_execPlnLanesReservedWrite (C : Closed P) :
    ∀ a0 a1 a2 a3, okS P a3 → okOut P (@execPlnLanesReservedWrite a0 a1 a2 a3) := by
  intro a0 a1 a2 a3 h3
  unfold execPlnLanesReservedWrite
  repeat' first | with_reducible assumption | with_reducible apply ite_okS (P := P)
                | with_reducible apply keep_State_rowNum C | with_reducible apply okOut_mk

theorem keep_execAncStart (C : Closed P) : ∀ a0 a1, okS P a1 → okOut P (@execAncStart a0 a1) := by
  intro a0 a1 h1
  unfold execAncStart
  repeat' first | with_reducible assumption | with_reducible apply keep_State_rowNum C | with_reducible apply okOut_mk

theorem keep_execAncStop (C : Closed P) : ∀ a0 a1, okS P a1 → okOut P (@execAncStop a0 a1) := by
  intro a0 a1 h1
  unfold execAncStop
  repeat' first | with_reducible assumption | with_reducible apply keep_State_rowNum C | with_reducible apply okOut_mk

theorem keep_execAncFreeze (C : Closed P) : ∀ a0 a1, okS P a1 → okOut P (@execAncFreeze a0 a1) := by
  intro a0 a1 h1
  unfold execAncFreeze
  repeat' first | with_reducible assumption | with_reducible apply keep_State_rowNum C | with_reducible apply okOut_mk

theorem keep_execAncResume (C : Closed P) : ∀ a0 a1, okS P a1 → okOut P (@execAncResume a0 a1) := by
  intro a0 a1 h1
  unfold execAncResume
  repeat' first | with_reducible assumption | with_reducible apply keep_State_rowNum C | with_reducible apply okOut_mk

theorem keep_execVoiceStart (C : Closed P) : ∀ a0 a1, okS P a1 → okOut P (@execVoiceStart a0 a1) := by
  intro a0 a1 h1
  unfold execVoiceStart
  repeat' first | with_reducible assumption | with_reducible apply keep_State_rowNum C | with_reducible apply okOut_mk

theorem keep_execVoiceStop (C : Closed P) : ∀ a0 a1, okS P a1 → okOut P (@execVoiceStop a0 a1) := by
  intro a0 a1 h1
  unfold execVoiceStop
  repeat' first | with_reducible assumption | with_reducible apply keep_State_rowNum C | with_reducible apply okOut_mk

theorem keep_execTdmDirWrite (C : Closed P) : ∀ a0 a1 a2 a3, okS P a3 → okOut P (@execTdmDirWrite a0 a1 a2 a3) := by
  intro a0 a1 a2 a3 h3
  unfold execTdmDirWrite
  repeat' first | with_reducible assumption | with_reducible apply ite_okS (P := P)
                | with_reducible apply keep_State_rowNum C | with_reducible apply okOut_mk

theorem keep_execAcuEntryWrite (C : Closed P) :
    ∀ a0 a1 a2 a3 a4, okS P a4 → okOut P (@execAcuEntryWrite a0 a1 a2 a3 a4) := by
  intro a0 a1 a2 a3 a4 h4
  unfold execAcuEntryWrite
  repeat' first | with_reducible assumption | with_reducible apply ite_okS (P := P)
                | with_reducible apply keep_State_rowNum C | with_reducible apply okOut_mk

theorem keep_execCanRecover (C : Closed P) : ∀ a0 a1 a2, okS P a2 → okOut P (@execCanRecover a0 a1 a2) := by
  intro a0 a1 a2 h2
  unfold execCanRecover
  repeat' first | with_reducible assumption | with_reducible apply ite_okS (P := P)
                | with_reducible apply keep_State_rowNum C | with_reducible apply okOut_mk

theorem keep_execCanFlush (C : Closed P) : ∀ a0 a1 a2, okS P a2 → okOut P (@execCanFlush a0 a1 a2) := by
  intro a0 a1 a2 h2
  unfold execCanFlush
  repeat' first | with_reducible assumption | with_reducible apply ite_okS (P := P)
                | with_reducible apply keep_State_rowNum C | with_reducible apply okOut_mk

theorem keep_execCanModeWrite (C : Closed P) :
    ∀ a0 a1 a2 a3 a4, okS P a4 → okOut P (@execCanModeWrite a0 a1 a2 a3 a4) := by
  intro a0 a1 a2 a3 a4 h4
  unfold execCanModeWrite
  repeat' first | with_reducible assumption | with_reducible apply ite_okS (P := P)
                | with_reducible apply keep_State_rowNum C | with_reducible apply okOut_mk

theorem keep_execLinGoToSleep (C : Closed P) : ∀ a0 a1 a2, okS P a2 → okOut P (@execLinGoToSleep a0 a1 a2) := by
  intro a0 a1 a2 h2
  unfold execLinGoToSleep
  repeat' first | with_reducible assumption | with_reducible apply ite_okS (P := P)
                | with_reducible apply keep_State_rowNum C | with_reducible apply okOut_mk

theorem keep_execLinWakePulse (C : Closed P) : ∀ a0 a1 a2, okS P a2 → okOut P (@execLinWakePulse a0 a1 a2) := by
  intro a0 a1 a2 h2
  unfold execLinWakePulse
  repeat' first | with_reducible assumption | with_reducible apply ite_okS (P := P)
                | with_reducible apply keep_State_rowNum C | with_reducible apply okOut_mk

theorem keep_execCableDiag (C : Closed P) : ∀ a0 a1 a2 a3 a4, okS P a4 → okOut P (@execCableDiag a0 a1 a2 a3 a4) := by
  intro a0 a1 a2 a3 a4 h4
  unfold execCableDiag
  repeat' first | with_reducible assumption | with_reducible apply ite_okS (P := P)
                | with_reducible apply keep_State_rowNum C | with_reducible apply okOut_mk

theorem keep_execEthEnableWrite (C : Closed P) :
    ∀ a0 a1 a2 a3 a4, okS P a4 → okOut P (@execEthEnableWrite a0 a1 a2 a3 a4) := by
  intro a0 a1 a2 a3 a4 h4
  unfold execEthEnableWrite
  repeat' first | with_reducible assumption | with_reducible apply ite_okS (P := P)
                | with_reducible apply keep_State_rowNum C | with_reducible apply okOut_mk

theorem keep_execSwitchTableWrite (C : Closed P) :
    ∀ a0 a1 a2 a3, okS P a3 → okOut P (@execSwitchTableWrite a0 a1 a2 a3) := by
  intro a0 a1 a2 a3 h3
  unfold execSwitchTableWrite
  repeat' first | with_reducible assumption | with_reducible apply keep_State_rowWrite C
                | with_reducible apply okOut_mk

theorem keep_execGclCommit (C : Closed P) : ∀ a0 a1 a2 a3, okS P a3 → okOut P (@execGclCommit a0 a1 a2 a3) := by
  intro a0 a1 a2 a3 h3
  unfold execGclCommit
  repeat' first | with_reducible assumption | with_reducible apply ite_okS (P := P)
                | with_reducible apply keep_State_rowNum C | with_reducible apply okOut_mk

theorem keep_execRouteCommit (C : Closed P) : ∀ a0 a1 a2, okS P a2 → okOut P (@execRouteCommit a0 a1 a2) := by
  intro a0 a1 a2 h2
  unfold execRouteCommit
  repeat' first | with_reducible assumption | with_reducible apply keep_State_rowNum C | with_reducible apply okOut_mk

theorem keep_execFilterUsWrite (C : Closed P) :
    ∀ a0 a1 a2 a3, okS P a3 → okOut P (@execFilterUsWrite a0 a1 a2 a3) := by
  intro a0 a1 a2 a3 h3
  unfold execFilterUsWrite
  repeat' first | with_reducible assumption | with_reducible apply ite_okS (P := P)
                | with_reducible apply keep_State_rowNum C | with_reducible apply okOut_mk

theorem keep_execGoStateWrite (C : Closed P) : ∀ a0 a1 a2, okS P a2 → okOut P (@execGoStateWrite a0 a1 a2) := by
  intro a0 a1 a2 h2
  unfold execGoStateWrite
  repeat' first | with_reducible assumption | with_reducible apply keep_State_rowNum C | with_reducible apply okOut_mk

theorem keep_execCamPowerEnableWrite (C : Closed P) :
    ∀ a0 a1 a2, okS P a2 → okOut P (@execCamPowerEnableWrite a0 a1 a2) := by
  intro a0 a1 a2 h2
  unfold execCamPowerEnableWrite
  repeat' first | with_reducible assumption | with_reducible apply keep_State_rowNum C | with_reducible apply okOut_mk

theorem keep_execTbSet (C : Closed P) : ∀ a0 a1 a2 a3, okS P a3 → okOut P (@execTbSet a0 a1 a2 a3) := by
  intro a0 a1 a2 a3 h3
  unfold execTbSet
  repeat' first | with_reducible assumption | with_reducible apply ite_okS (P := P)
                | with_reducible apply keep_State_rowWrite C | with_reducible apply okOut_mk

theorem keep_execTbCmd (C : Closed P) : ∀ a0 a1 a2 a3, okS P a3 → okOut P (@execTbCmd a0 a1 a2 a3) := by
  intro a0 a1 a2 a3 h3
  unfold execTbCmd
  repeat' first | with_reducible assumption | with_reducible apply ite_okS (P := P)
                | with_reducible apply keep_State_rowNum C | with_reducible apply okOut_mk

theorem keep_execTbIncrementWrite (C : Closed P) :
    ∀ a0 a1 a2 a3, okS P a3 → okOut P (@execTbIncrementWrite a0 a1 a2 a3) := by
  intro a0 a1 a2 a3 h3
  unfold execTbIncrementWrite
  repeat' first | with_reducible assumption | with_reducible apply ite_okS (P := P)
                | with_reducible apply keep_State_rowNum C | with_reducible apply okOut_mk

theorem keep_execTbModeWrite (C : Closed P) : ∀ a0 a1 a2 a3, okS P a3 → okOut P (@execTbModeWrite a0 a1 a2 a3) := by
  intro a0 a1 a2 a3 h3
  unfold execTbModeWrite
  repeat' first | with_reducible assumption | with_reducible apply ite_okS (P := P)
                | with_reducible apply keep_State_rowNum C | with_reducible apply okOut_mk

theorem keep_execPartActivate (C : Closed P) : ∀ a0 a1 a2, okS P a2 → okOut P (@execPartActivate a0 a1 a2) := by
  intro a0 a1 a2 h2
  unfold execPartActivate
  repeat' first | with_reducible assumption | with_reducible apply ite_okS (P := P)
                | with_reducible apply keep_State_rowNum C | with_reducible apply okOut_mk

theorem keep_execPartDeactivate (C : Closed P) : ∀ a0 a1 a2, okS P a2 → okOut P (@execPartDeactivate a0 a1 a2) := by
  intro a0 a1 a2 h2
  unfold execPartDeactivate
  repeat' first | with_reducible assumption | with_reducible apply ite_okS (P := P)
                | with_reducible apply keep_State_rowNum C | with_reducible apply okOut_mk

theorem keep_execTfCmd (C : Closed P) : ∀ a0 a1 a2 a3, okS P a3 → okOut P (@execTfCmd a0 a1 a2 a3) := by
  intro a0 a1 a2 a3 h3
  unfold execTfCmd
  repeat' first | with_reducible assumption | with_reducible apply ite_okS (P := P)
                | with_reducible apply keep_State_rowNum C | with_reducible apply okOut_mk

theorem keep_execDroneEnableWrite (C : Closed P) :
    ∀ a0 a1 a2, okS P a2 → okOut P (@execDroneEnableWrite a0 a1 a2) := by
  intro a0 a1 a2 h2
  unfold execDroneEnableWrite
  repeat' first | with_reducible assumption | with_reducible apply keep_State_rowNum C | with_reducible apply okOut_mk

theorem keep_execForceTakeover (C : Closed P) : ∀ a0 a1 a2, okS P a2 → okOut P (@execForceTakeover a0 a1 a2) := by
  intro a0 a1 a2 h2
  unfold execForceTakeover
  repeat' first | with_reducible assumption | with_reducible apply keep_State_rowNum C | with_reducible apply okOut_mk

theorem keep_execHandbackCmd (C : Closed P) : ∀ a0 a1 a2, okS P a2 → okOut P (@execHandbackCmd a0 a1 a2) := by
  intro a0 a1 a2 h2
  unfold execHandbackCmd
  repeat' first | with_reducible assumption | with_reducible apply keep_State_rowNum C | with_reducible apply okOut_mk

theorem keep_execSecureWatermarkRaise (C : Closed P) :
    ∀ a0 a1 a2, okS P a2 → okOut P (@execSecureWatermarkRaise a0 a1 a2) := by
  intro a0 a1 a2 h2
  unfold execSecureWatermarkRaise
  repeat' first | with_reducible assumption | with_reducible apply ite_okS (P := P)
                | with_reducible apply keep_State_rowNum C | with_reducible apply okOut_mk

theorem keep_execSecureWatermarkLower (C : Closed P) :
    ∀ a0 a1 a2, okS P a2 → okOut P (@execSecureWatermarkLower a0 a1 a2) := by
  intro a0 a1 a2 h2
  unfold execSecureWatermarkLower
  repeat' first | with_reducible assumption | with_reducible apply ite_okS (P := P)
                | with_reducible apply keep_State_rowNum C | with_reducible apply okOut_mk

theorem keep_execSecReserveTopWrite (C : Closed P) :
    ∀ a0 a1 a2, okS P a2 → okOut P (@execSecReserveTopWrite a0 a1 a2) := by
  intro a0 a1 a2 h2
  unfold execSecReserveTopWrite
  repeat' first | with_reducible assumption | with_reducible apply keep_State_rowNum C | with_reducible apply okOut_mk

theorem keep_execEnclaveAssign (C : Closed P) :
    ∀ a0 a1 a2 a3 a4, okS P a4 → okOut P (@execEnclaveAssign a0 a1 a2 a3 a4) := by
  intro a0 a1 a2 a3 a4 h4
  unfold execEnclaveAssign
  repeat' first | with_reducible assumption | with_reducible apply keep_State_rowWrite C
                | with_reducible apply okOut_mk

theorem keep_execEnclaveRelease (C : Closed P) :
    ∀ a0 a1 a2 a3 a4, okS P a4 → okOut P (@execEnclaveRelease a0 a1 a2 a3 a4) := by
  intro a0 a1 a2 a3 a4 h4
  unfold execEnclaveRelease
  repeat' first | with_reducible assumption | with_reducible apply keep_State_rowWrite C
                | with_reducible apply okOut_mk

theorem keep_execEnclaveDestroy (C : Closed P) : ∀ a0 a1 a2, okS P a2 → okOut P (@execEnclaveDestroy a0 a1 a2) := by
  intro a0 a1 a2 h2
  unfold execEnclaveDestroy
  repeat' first | with_reducible assumption | with_reducible apply keep_State_rowWrite C
                | with_reducible apply okOut_mk

theorem keep_execSliceEnclaveWrite (C : Closed P) :
    ∀ a0 a1 a2 a3, okS P a3 → okOut P (@execSliceEnclaveWrite a0 a1 a2 a3) := by
  intro a0 a1 a2 a3 h3
  unfold execSliceEnclaveWrite
  repeat' first | with_reducible assumption | with_reducible apply ite_okS (P := P)
                | with_reducible apply keep_State_rowNum C | with_reducible apply okOut_mk

theorem keep_execSecureHoldMaskWrite (C : Closed P) :
    ∀ a0 a1 a2, okS P a2 → okOut P (@execSecureHoldMaskWrite a0 a1 a2) := by
  intro a0 a1 a2 h2
  unfold execSecureHoldMaskWrite
  repeat' first | with_reducible assumption | with_reducible apply keep_State_rowWrite C
                | with_reducible apply okOut_mk

theorem keep_execNoticeAck (C : Closed P) : ∀ a0 a1 a2, okS P a2 → okOut P (@execNoticeAck a0 a1 a2) := by
  intro a0 a1 a2 h2
  unfold execNoticeAck
  repeat' first | with_reducible assumption | with_reducible apply keep_State_rowNum C | with_reducible apply okOut_mk

theorem keep_execSwdKick (C : Closed P) : ∀ a0 a1 a2, okS P a2 → okOut P (@execSwdKick a0 a1 a2) := by
  intro a0 a1 a2 h2
  unfold execSwdKick
  repeat' first | with_reducible assumption | with_reducible apply keep_State_rowNum C | with_reducible apply okOut_mk

theorem keep_execKeyProgram (C : Closed P) : ∀ a0 a1 a2, okS P a2 → okOut P (@execKeyProgram a0 a1 a2) := by
  intro a0 a1 a2 h2
  unfold execKeyProgram
  repeat' first | with_reducible assumption | with_reducible apply keep_State_rowWrite C
                | with_reducible apply okOut_mk

theorem keep_execKeyRevoke (C : Closed P) : ∀ a0 a1 a2, okS P a2 → okOut P (@execKeyRevoke a0 a1 a2) := by
  intro a0 a1 a2 h2
  unfold execKeyRevoke
  repeat' first | with_reducible assumption | with_reducible apply keep_State_rowNum C | with_reducible apply okOut_mk

theorem keep_execRollbackAdvance (C : Closed P) : ∀ a0 a1 a2, okS P a2 → okOut P (@execRollbackAdvance a0 a1 a2) := by
  intro a0 a1 a2 h2
  unfold execRollbackAdvance
  repeat' first | with_reducible assumption | with_reducible apply keep_State_rowWrite C
                | with_reducible apply okOut_mk

theorem keep_execDebugFuse (C : Closed P) : ∀ a0 a1 a2, okS P a2 → okOut P (@execDebugFuse a0 a1 a2) := by
  intro a0 a1 a2 h2
  unfold execDebugFuse
  repeat' first | with_reducible assumption | with_reducible apply keep_State_rowNum C | with_reducible apply okOut_mk

theorem keep_execDebugPolicyWrite (C : Closed P) :
    ∀ a0 a1 a2, okS P a2 → okOut P (@execDebugPolicyWrite a0 a1 a2) := by
  intro a0 a1 a2 h2
  unfold execDebugPolicyWrite
  repeat' first | with_reducible assumption | with_reducible apply keep_State_rowNum C | with_reducible apply okOut_mk

theorem keep_execFmpKeyWrite (C : Closed P) : ∀ a0 a1 a2, okS P a2 → okOut P (@execFmpKeyWrite a0 a1 a2) := by
  intro a0 a1 a2 h2
  unfold execFmpKeyWrite
  repeat' first | with_reducible assumption | with_reducible apply keep_State_rowWrite C
                | with_reducible apply okOut_mk

theorem keep_execDbgCert (C : Closed P) : ∀ a0 a1 a2, okS P a2 → okOut P (@execDbgCert a0 a1 a2) := by
  intro a0 a1 a2 h2
  unfold execDbgCert
  repeat' first | with_reducible assumption | with_reducible apply keep_State_rowWrite C
                | with_reducible apply okOut_mk

theorem keep_execDbgResponse (C : Closed P) : ∀ a0 a1 a2, okS P a2 → okOut P (@execDbgResponse a0 a1 a2) := by
  intro a0 a1 a2 h2
  unfold execDbgResponse
  repeat' first | with_reducible assumption | with_reducible apply keep_State_rowWrite C
                | with_reducible apply okOut_mk

theorem keep_execDbgCmd (C : Closed P) : ∀ a0 a1 a2, okS P a2 → okOut P (@execDbgCmd a0 a1 a2) := by
  intro a0 a1 a2 h2
  unfold execDbgCmd
  repeat' first | with_reducible assumption | with_reducible apply keep_State_rowNum C | with_reducible apply okOut_mk

theorem keep_execLatencyTolWrite (C : Closed P) :
    ∀ a0 a1 a2 a3, okS P a3 → okOut P (@execLatencyTolWrite a0 a1 a2 a3) := by
  intro a0 a1 a2 a3 h3
  unfold execLatencyTolWrite
  repeat' first | with_reducible assumption | with_reducible apply keep_State_rowNum C | with_reducible apply okOut_mk

theorem keep_execFunctionEnableWrite (C : Closed P) :
    ∀ a0 a1 a2 a3 a4, okS P a4 → okOut P (@execFunctionEnableWrite a0 a1 a2 a3 a4) := by
  intro a0 a1 a2 a3 a4 h4
  unfold execFunctionEnableWrite
  repeat' first | with_reducible assumption | with_reducible apply keep_State_rowNum C | with_reducible apply okOut_mk

theorem keep_execPmuClear (C : Closed P) : ∀ a0 a1 a2, okS P a2 → okOut P (@execPmuClear a0 a1 a2) := by
  intro a0 a1 a2 h2
  unfold execPmuClear
  repeat' first | with_reducible assumption | with_reducible apply keep_State_rowNum C | with_reducible apply okOut_mk

theorem keep_execDumpRingWrite (C : Closed P) :
    ∀ a0 a1 a2 a3 a4, okS P a4 → okOut P (@execDumpRingWrite a0 a1 a2 a3 a4) := by
  intro a0 a1 a2 a3 a4 h4
  unfold execDumpRingWrite
  repeat' first | with_reducible assumption | with_reducible apply ite_okS (P := P)
                | with_reducible apply keep_State_rowNum C | with_reducible apply okOut_mk

theorem keep_State_respond (C : Closed P) : ∀ a0 a1 a2 a3 a4, okS P a0 → okS P (@State.respond a0 a1 a2 a3 a4) := by
  intro a0 a1 a2 a3 a4 h0
  unfold State.respond
  repeat' first | with_reducible assumption | with_reducible apply keep_State_sendFrame C

theorem keep_State_acknowledge (C : Closed P) : ∀ a0 a1 a2, okS P a0 → okS P (@State.acknowledge a0 a1 a2) := by
  intro a0 a1 a2 h0
  unfold State.acknowledge
  repeat' first | with_reducible assumption | with_reducible apply keep_State_sendFrame C

theorem keep_State_turnAway (C : Closed P) : ∀ a0 a1 a2, okS P a0 → okS P (@State.turnAway a0 a1 a2) := by
  intro a0 a1 a2 h0
  unfold State.turnAway
  repeat' first | with_reducible assumption | with_reducible apply ite_okS (P := P)
                | with_reducible apply keep_State_respond C | with_reducible apply keep_State_acknowledge C

theorem keep_State_unreachable (C : Closed P) : ∀ a0 a1, okS P a0 → okS P (@State.unreachable a0 a1) := by
  intro a0 a1 h0
  unfold State.unreachable
  repeat' first | with_reducible assumption | with_reducible apply ite_okS (P := P)
                | with_reducible apply keep_State_acknowledge C | with_reducible apply keep_State_respond C
                | with_reducible apply keep_State_turnAway C

theorem keep_State_windowStore (C : Closed P) : ∀ a0 a1 a2 a3, okS P a0 → okS P (@State.windowStore a0 a1 a2 a3) := by
  intro a0 a1 a2 a3 h0
  unfold State.windowStore
  dsimp only
  repeat' first | with_reducible assumption | with_reducible apply ite_okS (P := P)
                | with_reducible apply keep_State_windowRequest C | with_reducible apply keep_State_setWindow C
                | with_reducible apply keep_State_windowBuffer C

theorem keep_State_doorbells (C : Closed P) : ∀ a0 a1 a2, okS P a0 → okS P (@State.doorbells a0 a1 a2) := by
  intro a0 a1 a2 h0
  unfold State.doorbells
  repeat' first | with_reducible assumption | with_reducible intro _ | with_reducible apply ite_okS (P := P)
                | with_reducible apply keep_State_doorbell C | with_reducible apply keep_foldl (P := P)

theorem keep_State_inboundWrite (C : Closed P) :
    ∀ a0 a1 a2 a3, okS P a0 → okP P (@State.inboundWrite a0 a1 a2 a3) := by
  intro a0 a1 a2 a3 h0
  unfold State.inboundWrite
  dsimp only
  repeat' first | with_reducible assumption | with_reducible apply ite_okP (P := P)
                | with_reducible apply keep_State_noteRefusal C | with_reducible apply keep_State_store C
                | with_reducible apply keep_State_doorbells C | with_reducible apply keep_State_signalWrite C
                | with_reducible apply keep_State_windowStore C | with_reducible apply keep_State_sendFrame C
                | with_reducible apply keep_State_freshTag C | split

theorem keep_State_freeBytes (C : Closed P) : ∀ a0 a1, okS P a0 → okP P (@State.freeBytes a0 a1) := by
  intro a0 a1 h0
  unfold State.freeBytes
  dsimp only
  repeat' first | with_reducible assumption | with_reducible apply keep_State_fresh C

theorem keep_State_readTimePages (C : Closed P) : ∀ a0 a1 a2, okS P a0 → okT P (@State.readTimePages a0 a1 a2) := by
  intro a0 a1 a2 h0
  unfold State.readTimePages
  dsimp only
  repeat' first | with_reducible assumption | with_reducible apply ite_okT (P := P)
                | with_reducible apply keep_State_readTime C

theorem keep_State_inboundRead (C : Closed P) : ∀ a0 a1 a2 a3, okS P a0 → okT P (@State.inboundRead a0 a1 a2 a3) := by
  intro s cls a n h
  unfold State.inboundRead
  refine ite_okT (P := P) h (ite_okT (P := P) (ite_okT (P := P) (keep_State_noteRefusal C _ _ _ h) ?_) ?_)
  · have hb := keep_foldl (P := P) State.poison (fun t g ht => keep_State_poison C t g ht)
      ((State.granulesOf a n).filter fun g => s.mem.poisoned.contains g) _ (keep_State_chargeRange C s (.inbound cls) a n h)
    exact ite_okT (P := P) hb hb
  · generalize s.mapWindow a = m
    cases m with
    | some p => exact h
    | none =>
      exact ite_okT (P := P) h (ite_okT (P := P) (keep_State_readTimePages C _ _ _ h)
        (ite_okT (P := P) (keep_State_freeBytes C _ _ h) h))

theorem keep_State_forward (C : Closed P) : ∀ a0 a1 a2, okS P a0 → okS P (@State.forward a0 a1 a2) := by
  intro a0 a1 a2 h0
  unfold State.forward
  repeat' first | with_reducible assumption | with_reducible apply ite_okS (P := P)
                | with_reducible apply keep_State_putFrame C | with_reducible apply keep_State_unreachable C

theorem keep_State_countRefused (C : Closed P) : ∀ a0 a1, okS P a0 → okS P (@State.countRefused a0 a1) := by
  intro a0 a1 h0
  unfold State.countRefused
  repeat' first | with_reducible assumption | with_reducible apply ite_okS (P := P)
                | with_reducible apply keep_State_bump C

theorem keep_State_onWriteP (C : Closed P) : ∀ a0 a1, okS P a0 → okS P (@State.onWriteP a0 a1) := by
  intro a0 a1 h0
  unfold State.onWriteP
  dsimp only
  repeat' first | with_reducible assumption | with_reducible apply keep_State_inboundWrite C
                | with_reducible apply keep_State_countRefused C

theorem keep_State_onWriteC (C : Closed P) : ∀ a0 a1, okS P a0 → okS P (@State.onWriteC a0 a1) := by
  intro a0 a1 h0
  unfold State.onWriteC
  dsimp only
  repeat' first | with_reducible assumption | with_reducible apply keep_State_inboundWrite C
                | with_reducible apply keep_State_acknowledge C | with_reducible apply keep_State_countRefused C

theorem keep_State_onRead (C : Closed P) : ∀ a0 a1, okS P a0 → okS P (@State.onRead a0 a1) := by
  intro a0 a1 h0
  unfold State.onRead
  dsimp only
  repeat' first | with_reducible assumption | with_reducible apply ite_okS (P := P)
                | with_reducible apply keep_State_respond C | with_reducible apply keep_State_bump C
                | with_reducible apply keep_State_inboundRead C | with_reducible apply keep_State_countRefused C

theorem keep_State_readerGets (C : Closed P) : ∀ a0 a1 a2, okS P a0 → okS P (@State.readerGets a0 a1 a2) := by
  intro a0 a1 a2 h0
  unfold State.readerGets
  repeat' first | with_reducible assumption | with_reducible apply keep_State_emit C | split

theorem keep_State_smallEnds (C : Closed P) :
    ∀ a0 a1 a2 a3 a4, okS P a0 → okS P (@State.smallEnds a0 a1 a2 a3 a4) := by
  intro a0 a1 a2 a3 a4 h0
  unfold State.smallEnds
  dsimp only
  repeat' first | with_reducible assumption | with_reducible apply ite_okS (P := P)
                | with_reducible apply keep_State_smallFails C | with_reducible apply keep_State_readerGets C
                | with_reducible apply keep_State_takeSlot C | with_reducible apply keep_State_servePending C
                | with_reducible apply keep_State_deliverWord C | with_reducible apply keep_State_fmpReply C | split

theorem keep_State_bulkEnds (C : Closed P) : ∀ a0 a1 a2 a3 a4, okS P a0 → okS P (@State.bulkEnds a0 a1 a2 a3 a4) := by
  intro a0 a1 a2 a3 a4 h0
  unfold State.bulkEnds
  dsimp only
  repeat' first | with_reducible assumption | with_reducible apply ite_okS (P := P)
                | with_reducible apply keep_State_bulkFails C | with_reducible apply keep_State_landed C
                | with_reducible apply keep_State_pumpBulk C

theorem keep_State_onCompletion (C : Closed P) : ∀ a0 a1, okS P a0 → okS P (@State.onCompletion a0 a1) := by
  intro a0 a1 h0
  unfold State.onCompletion
  repeat' first | with_reducible assumption | with_reducible apply keep_State_smallEnds C
                | with_reducible apply keep_State_bulkEnds C | split

theorem keep_State_onAck (C : Closed P) : ∀ a0 a1, okS P a0 → okS P (@State.onAck a0 a1) := by
  intro a0 a1 h0
  unfold State.onAck
  repeat' first | with_reducible assumption | with_reducible apply keep_State_runSends C
                | with_reducible apply keep_State_ackEnds C | split

theorem keep_State_setLane (C : Closed P) : ∀ a0 a1 a2, okS P a0 → okS P (@State.setLane a0 a1 a2) := by
  intro a0 a1 a2 h0
  unfold State.setLane
  dsimp only
  repeat' first | with_reducible assumption

theorem keep_State_handleBatches (C : Closed P) : ∀ a0 a1 a2, okS P a2 → okS P (@State.handleBatches a0 a1 a2) := by
  intro l k s h
  induction k generalizing s with
  | zero => exact h
  | succ k ih =>
    unfold State.handleBatches
    dsimp only
    split
    · exact h
    · split
      · exact h
      · refine ih _ (keep_State_sendFrame C _ _ _ (keep_State_set C _ _ _ _ _ (keep_State_addSync C _ _ _ _ (keep_State_setCopy C _ _ _ (keep_State_setLane C _ _ _ h)))))

theorem keep_State_onCaravan (C : Closed P) : ∀ a0 a1, okS P a0 → okS P (@State.onCaravan a0 a1) := by
  intro a0 a1 h0
  unfold State.onCaravan
  dsimp only
  repeat' first | with_reducible assumption | with_reducible apply ite_okS (P := P)
                | with_reducible apply keep_State_acknowledge C | with_reducible apply keep_State_bump C
                | with_reducible apply keep_State_store C | with_reducible apply keep_State_handleBatches C
                | with_reducible apply keep_State_setLane C | split

theorem keep_State_onCredit (C : Closed P) : ∀ a0 a1, okS P a0 → okS P (@State.onCredit a0 a1) := by
  intro a0 a1 h0
  unfold State.onCredit
  dsimp only
  repeat' first | with_reducible assumption | with_reducible apply keep_State_runSends C
                | with_reducible apply keep_State_setSendLane C

theorem keep_State_onSignalRc (C : Closed P) : ∀ a0 a1, okS P a0 → okS P (@State.onSignalRc a0 a1) := by
  intro a0 a1 h0
  unfold State.onSignalRc
  dsimp only
  repeat' first | with_reducible assumption | with_reducible apply ite_okS (P := P)
                | with_reducible apply keep_State_respond C

theorem keep_State_onMessage (C : Closed P) : ∀ a0 a1, okS P a0 → okS P (@State.onMessage a0 a1) := by
  intro a0 a1 h0
  unfold State.onMessage
  repeat' first | with_reducible assumption | with_reducible intro _ | with_reducible apply ite_okS (P := P)
                | with_reducible apply keep_State_imageBytes C | with_reducible apply keep_State_onPath C
                | with_reducible apply keep_State_runForwarded C | with_reducible apply keep_State_resetMain C

theorem keep_State_onHello (C : Closed P) : ∀ a0 a1 a2, okS P a0 → okS P (@State.onHello a0 a1 a2) := by
  intro a0 a1 a2 h0
  unfold State.onHello
  dsimp only
  repeat' first | with_reducible assumption | with_reducible apply ite_okS (P := P)
                | with_reducible apply keep_State_linkTrained C | with_reducible apply keep_State_hello C

theorem keep_State_onNotice (C : Closed P) : ∀ a0 a1 a2, okS P a0 → okS P (@State.onNotice a0 a1 a2) := by
  intro a0 a1 a2 h0
  unfold State.onNotice
  dsimp only
  repeat' first | with_reducible assumption | with_reducible apply ite_okS (P := P)
                | with_reducible apply keep_State_tellNeighbours C | with_reducible apply keep_State_setPresent C

theorem keep_State_onAssigned (C : Closed P) : ∀ a0 a1, okS P a0 → okS P (@State.onAssigned a0 a1) := by
  intro a0 a1 h0
  unfold State.onAssigned
  dsimp only
  repeat' first | with_reducible assumption | with_reducible apply ite_okS (P := P)
                | with_reducible apply keep_State_set C | with_reducible apply keep_State_setB C
                | with_reducible apply keep_State_helloAll C

theorem keep_State_onAssign (C : Closed P) : ∀ a0 a1 a2, okS P a0 → okS P (@State.onAssign a0 a1 a2) := by
  intro a0 a1 a2 h0
  unfold State.onAssign
  repeat' first | with_reducible assumption | with_reducible apply ite_okS (P := P)
                | with_reducible apply keep_State_onAssigned C | with_reducible apply keep_State_onNotice C

theorem keep_State_handle (C : Closed P) : ∀ a0 a1 a2, okS P a0 → okS P (@State.handle a0 a1 a2) := by
  intro a0 a1 a2 h0
  unfold State.handle
  repeat' first | with_reducible assumption | with_reducible apply ite_okS (P := P)
                | with_reducible apply keep_State_onWriteP C | with_reducible apply keep_State_onWriteC C
                | with_reducible apply keep_State_onRead C | with_reducible apply keep_State_onCompletion C
                | with_reducible apply keep_State_onAck C | with_reducible apply keep_State_onCaravan C
                | with_reducible apply keep_State_onCredit C | with_reducible apply keep_State_onSignalRc C
                | with_reducible apply keep_State_onMessage C | with_reducible apply keep_State_onHello C
                | with_reducible apply keep_State_onAssign C

theorem keep_State_land (C : Closed P) : ∀ a0 a1 a2, okS P a0 → okS P (@State.land a0 a1 a2) := by
  intro a0 a1 a2 h0
  unfold State.land
  dsimp only
  repeat' first | with_reducible assumption | with_reducible apply ite_okS (P := P)
                | with_reducible apply keep_State_noteHeld C | with_reducible apply keep_State_handle C | split

theorem keep_State_landParked (C : Closed P) : ∀ a0, okS P a0 → okS P (@State.landParked a0) := by
  intro a0 h0
  unfold State.landParked
  dsimp only
  repeat' first | with_reducible assumption | with_reducible intro _ | with_reducible apply keep_State_land C
                | with_reducible apply keep_State_settleHeld C | with_reducible apply keep_foldl (P := P)

theorem keep_State_arrive (C : Closed P) : ∀ a0 a1 a2 a3, okS P a0 → okS P (@State.arrive a0 a1 a2 a3) := by
  intro a0 a1 a2 a3 h0
  unfold State.arrive
  dsimp only
  repeat' first | with_reducible assumption | with_reducible apply ite_okS (P := P)
                | with_reducible apply keep_State_bump C | with_reducible apply keep_State_count C
                | with_reducible apply keep_State_forward C | with_reducible apply keep_State_turnAway C
                | with_reducible apply keep_State_land C
                | with_reducible apply keep_State_workArrives C

theorem keep_State_idle (C : Closed P) : ∀ a0, okS P a0 → okS P (@State.idle a0) := by
  intro a0 h0
  unfold State.idle
  repeat' first | with_reducible assumption | with_reducible apply ite_okS (P := P)
                | with_reducible apply keep_State_transmitAll C | with_reducible apply keep_State_landParked C

theorem keep_State_postedStore (C : Closed P) : ∀ a0 a1 a2, okS P a0 → okS P (@State.postedStore a0 a1 a2) := by
  intro a0 a1 a2 h0
  unfold State.postedStore
  dsimp only
  repeat' first | with_reducible assumption | with_reducible apply ite_okS (P := P)
                | with_reducible apply keep_State_emit C | with_reducible apply keep_State_inboundWrite C
                | with_reducible apply keep_State_countRefused C | with_reducible apply keep_State_sendFrame C
                | split

theorem keep_State_confirmedStore (C : Closed P) :
    ∀ a0 a1 a2 a3, okS P a0 → okS P (@State.confirmedStore a0 a1 a2 a3) := by
  intro a0 a1 a2 a3 h0
  unfold State.confirmedStore
  dsimp only
  repeat' first | with_reducible assumption | with_reducible apply ite_okS (P := P)
                | with_reducible apply keep_State_emit C | with_reducible apply keep_State_addRecord C
                | with_reducible apply keep_State_inboundWrite C | with_reducible apply keep_State_countRefused C
                | with_reducible apply keep_State_sendWrites C | split

theorem keep_State_smallRead (C : Closed P) : ∀ a0 a1 a2 a3, okS P a0 → okS P (@State.smallRead a0 a1 a2 a3) := by
  intro a0 a1 a2 a3 h0
  unfold State.smallRead
  dsimp only
  repeat' first | with_reducible assumption | with_reducible apply ite_okS (P := P)
                | with_reducible apply keep_State_emit C | with_reducible apply keep_State_inboundRead C
                | with_reducible apply keep_State_readerGets C | with_reducible apply keep_State_readerFails C
                | with_reducible apply keep_State_countRefused C | with_reducible apply keep_State_smallTag C
                | with_reducible apply keep_State_sendFrame C
                | with_reducible refine okP_elim (P := P) (by assumption) ?_ | split

theorem keep_execWriteP (C : Closed P) : ∀ a0 a1 a2, okS P a2 → okOut P (@execWriteP a0 a1 a2) := by
  intro a0 a1 a2 h2
  unfold execWriteP
  repeat' first | with_reducible assumption | with_reducible apply keep_State_arrive C | with_reducible apply okOut_mk

theorem keep_execWriteC (C : Closed P) : ∀ a0 a1 a2, okS P a2 → okOut P (@execWriteC a0 a1 a2) := by
  intro a0 a1 a2 h2
  unfold execWriteC
  repeat' first | with_reducible assumption | with_reducible apply keep_State_arrive C | with_reducible apply okOut_mk

theorem keep_execReadFrame (C : Closed P) : ∀ a0 a1 a2, okS P a2 → okOut P (@execReadFrame a0 a1 a2) := by
  intro a0 a1 a2 h2
  unfold execReadFrame
  repeat' first | with_reducible assumption | with_reducible apply keep_State_arrive C | with_reducible apply okOut_mk

theorem keep_execCompletionFrame (C : Closed P) : ∀ a0 a1 a2, okS P a2 → okOut P (@execCompletionFrame a0 a1 a2) := by
  intro a0 a1 a2 h2
  unfold execCompletionFrame
  repeat' first | with_reducible assumption | with_reducible apply keep_State_arrive C | with_reducible apply okOut_mk

theorem keep_execPlomorAck (C : Closed P) : ∀ a0 a1 a2, okS P a2 → okOut P (@execPlomorAck a0 a1 a2) := by
  intro a0 a1 a2 h2
  unfold execPlomorAck
  repeat' first | with_reducible assumption | with_reducible apply keep_State_arrive C | with_reducible apply okOut_mk

theorem keep_execCaravan (C : Closed P) : ∀ a0 a1 a2, okS P a2 → okOut P (@execCaravan a0 a1 a2) := by
  intro a0 a1 a2 h2
  unfold execCaravan
  repeat' first | with_reducible assumption | with_reducible apply keep_State_arrive C | with_reducible apply okOut_mk

theorem keep_execCredit (C : Closed P) : ∀ a0 a1 a2, okS P a2 → okOut P (@execCredit a0 a1 a2) := by
  intro a0 a1 a2 h2
  unfold execCredit
  repeat' first | with_reducible assumption | with_reducible apply keep_State_arrive C | with_reducible apply okOut_mk

theorem keep_execSignalRc (C : Closed P) : ∀ a0 a1 a2, okS P a2 → okOut P (@execSignalRc a0 a1 a2) := by
  intro a0 a1 a2 h2
  unfold execSignalRc
  repeat' first | with_reducible assumption | with_reducible apply keep_State_arrive C | with_reducible apply okOut_mk

theorem keep_execMessageFrame (C : Closed P) : ∀ a0 a1 a2, okS P a2 → okOut P (@execMessageFrame a0 a1 a2) := by
  intro a0 a1 a2 h2
  unfold execMessageFrame
  repeat' first | with_reducible assumption | with_reducible apply keep_State_arrive C | with_reducible apply okOut_mk

theorem keep_execHello (C : Closed P) : ∀ a0 a1 a2, okS P a2 → okOut P (@execHello a0 a1 a2) := by
  intro a0 a1 a2 h2
  unfold execHello
  repeat' first | with_reducible assumption | with_reducible apply keep_State_arrive C | with_reducible apply okOut_mk

theorem keep_execAssign (C : Closed P) : ∀ a0 a1 a2, okS P a2 → okOut P (@execAssign a0 a1 a2) := by
  intro a0 a1 a2 h2
  unfold execAssign
  repeat' first | with_reducible assumption | with_reducible apply keep_State_arrive C | with_reducible apply okOut_mk

theorem keep_execPostedWindowStore (C : Closed P) :
    ∀ a0 a1 a2, okS P a2 → okOut P (@execPostedWindowStore a0 a1 a2) := by
  intro a0 a1 a2 h2
  unfold execPostedWindowStore
  repeat' first | with_reducible assumption | with_reducible apply keep_State_postedStore C
                | with_reducible apply okOut_mk

theorem keep_execConfirmedWindowStore (C : Closed P) :
    ∀ a0 a1 a2 a3, okS P a3 → okOut P (@execConfirmedWindowStore a0 a1 a2 a3) := by
  intro a0 a1 a2 a3 h3
  unfold execConfirmedWindowStore
  repeat' first | with_reducible assumption | with_reducible apply keep_State_confirmedStore C
                | with_reducible apply okOut_mk

theorem keep_execSmallRead (C : Closed P) : ∀ a0 a1 a2 a3, okS P a3 → okOut P (@execSmallRead a0 a1 a2 a3) := by
  intro a0 a1 a2 a3 h3
  unfold execSmallRead
  repeat' first | with_reducible assumption | with_reducible apply keep_State_smallRead C
                | with_reducible apply okOut_mk

end Sys2Proof.Machine
end

