-- ==== Sys2Proof/Laws/KeepsStep.lean ====
section
/-! SUPPORT. The frame library, closed: what every command and every step keep, and the properties it is used with. -/

namespace Sys2Proof.Machine

open Sys2Proof

variable {P : KProp}

/-- Every command keeps what is closed under the four changes of `Closed`. -/
theorem keep_exec (C : Closed P) (c : Instr) (s : State) (h : okS P s) : okOut P (exec c s) := by
  cases c with
  | usdoRequest r => exact keep_execUsdoRequest C r s h
  | usdoAbort => exact keep_execUsdoAbort C s h
  | usdoSessionTimeout => exact keep_execUsdoSessionTimeout C s h
  | fmpRead d => exact keep_execFmpRead C d s h
  | fmpWrite d => exact keep_execFmpWrite C d s h
  | fmpWriteSet d => exact keep_execFmpWriteSet C d s h
  | dwRead w req => exact keep_execDwRead C w req s h
  | dwWrite w req => exact keep_execDwWrite C w req s h
  | registerWrite t => exact keep_execRegisterWrite C t s h
  | dictHeldAccessServe p => exact keep_execDictHeldAccessServe C p s h
  | piecedTransferTimeout idx sub inst => exact keep_execPiecedTransferTimeout C idx sub inst s h
  | storeComm d v => exact keep_execStoreComm C d v s h
  | restoreComm d v => exact keep_execRestoreComm C d v s h
  | commEntryWrite d idx sub data => exact keep_execCommEntryWrite C d idx sub data s h
  | ack d v => exact keep_execAck C d v s h
  | compatModeWrite d v => exact keep_execCompatModeWrite C d v s h
  | paceWindowBoundary => exact keep_execPaceWindowBoundary C s h
  | powerLoopSample deciWatt => exact keep_execPowerLoopSample C deciWatt s h
  | powerLimitUnmet => exact keep_execPowerLimitUnmet C s h
  | thermalLoopSample sensors => exact keep_execThermalLoopSample C sensors s h
  | subfloorDoubt => exact keep_execSubfloorDoubt C s h
  | governorSettingWrite d idx sub v => exact keep_execGovernorSettingWrite C d idx sub v s h
  | regulatorSettled => exact keep_execRegulatorSettled C s h
  | railMinClear d v => exact keep_execRailMinClear C d v s h
  | supplyInputChange in48 in12 rail => exact keep_execSupplyInputChange C in48 in12 rail s h
  | coreRailPowerOnReset rail => exact keep_execCoreRailPowerOnReset C rail s h
  | doorbellWrite off wide v => exact keep_execDoorbellWrite C off wide v s h
  | contextSpillLoad q => exact keep_execContextSpillLoad C q s h
  | descriptorFetch q => exact keep_execDescriptorFetch C q s h
  | tileDeal q n => exact keep_execTileDeal C q n s h
  | tileDrain e r => exact keep_execTileDrain C e r s h
  | preemptionPointSave e live parity => exact keep_execPreemptionPointSave C e live parity s h
  | tileRestore e slot => exact keep_execTileRestore C e slot s h
  | completionRecordWrite q => exact keep_execCompletionRecordWrite C q s h
  | irqHoldoffEnd t => exact keep_execIrqHoldoffEnd C t s h
  | gemm q n => exact keep_execGemm C q n s h
  | gemmBatched q n => exact keep_execGemmBatched C q n s h
  | gemmAcc q n => exact keep_execGemmAcc C q n s h
  | elementwise q n => exact keep_execElementwise C q n s h
  | reduce q n => exact keep_execReduce C q n s h
  | normalise q n => exact keep_execNormalise C q n s h
  | convert q n => exact keep_execConvert C q n s h
  | softmax q n => exact keep_execSoftmax C q n s h
  | topk q n => exact keep_execTopk C q n s h
  | gather q n => exact keep_execGather C q n s h
  | copy q n => exact keep_execCopy C q n s h
  | fill q n => exact keep_execFill C q n s h
  | transpose q n => exact keep_execTranspose C q n s h
  | prefetchTensor q n => exact keep_execPrefetchTensor C q n s h
  | exportTensor q n => exact keep_execExportTensor C q n s h
  | nop q n => exact keep_execNop C q n s h
  | signal q n => exact keep_execSignal C q n s h
  | wait q n => exact keep_execWait C q n s h
  | waitTimeout q n => exact keep_execWaitTimeout C q n s h
  | timestamp q n => exact keep_execTimestamp C q n s h
  | tensorCreate q n => exact keep_execTensorCreate C q n s h
  | tensorRelease q n => exact keep_execTensorRelease C q n s h
  | tensorView q n => exact keep_execTensorView C q n s h
  | dispatch q n => exact keep_execDispatch C q n s h
  | kernelLoad q n => exact keep_execKernelLoad C q n s h
  | kernelFree q n => exact keep_execKernelFree C q n s h
  | conv q n => exact keep_execConv C q n s h
  | pool q n => exact keep_execPool C q n s h
  | resize q n => exact keep_execResize C q n s h
  | crop q n => exact keep_execCrop C q n s h
  | regroup q n => exact keep_execRegroup C q n s h
  | attention q n => exact keep_execAttention C q n s h
  | kvAppend q n => exact keep_execKvAppend C q n s h
  | kvSeqOpen q n => exact keep_execKvSeqOpen C q n s h
  | kvSeqClose q n => exact keep_execKvSeqClose C q n s h
  | kvResume q n => exact keep_execKvResume C q n s h
  | kvPrefixPublish q n => exact keep_execKvPrefixPublish C q n s h
  | kvBlockExport q n => exact keep_execKvBlockExport C q n s h
  | attnCombine q n => exact keep_execAttnCombine C q n s h
  | kvPoolCreate d p => exact keep_execKvPoolCreate C d p s h
  | kvPoolDestroy d p => exact keep_execKvPoolDestroy C d p s h
  | kvPoolTrim d p => exact keep_execKvPoolTrim C d p s h
  | kvPoolEntryWrite d p sub v => exact keep_execKvPoolEntryWrite C d p sub v s h
  | prefixNodeLimitWrite d k_ v => exact keep_execPrefixNodeLimitWrite C d k_ v s h
  | seraiShareWrite d k_ v => exact keep_execSeraiShareWrite C d k_ v s h
  | placementPolicyWrite d idx sub v => exact keep_execPlacementPolicyWrite C d idx sub v s h
  | quarantineRetest d v => exact keep_execQuarantineRetest C d v s h
  | countersClear d v => exact keep_execCountersClear C d v s h
  | engineEnableWrite d v => exact keep_execEngineEnableWrite C d v s h
  | engineEnableDone e pass => exact keep_execEngineEnableDone C e pass s h
  | engineDisableSaveDone e => exact keep_execEngineDisableSaveDone C e s h
  | engineDisableDone e => exact keep_execEngineDisableDone C e s h
  | queueConfig d data => exact keep_execQueueConfig C d data s h
  | queueEnable d q => exact keep_execQueueEnable C d q s h
  | queueDisable d q => exact keep_execQueueDisable C d q s h
  | queueRestart d q => exact keep_execQueueRestart C d q s h
  | queueResetCounts d q => exact keep_execQueueResetCounts C d q s h
  | sliceCreate d k_ => exact keep_execSliceCreate C d k_ s h
  | sliceDestroy d k_ => exact keep_execSliceDestroy C d k_ s h
  | sliceRundownDone k_ => exact keep_execSliceRundownDone C k_ s h
  | queueBlocksWrite d k_ data => exact keep_execQueueBlocksWrite C d k_ data s h
  | memQuotaWrite d k_ v => exact keep_execMemQuotaWrite C d k_ v s h
  | graceMsWrite d k_ v => exact keep_execGraceMsWrite C d k_ v s h
  | graceExpiry k_ => exact keep_execGraceExpiry C k_ s h
  | engineShareWrite d k_ v => exact keep_execEngineShareWrite C d k_ v s h
  | engineWindowBoundary => exact keep_execEngineWindowBoundary C s h
  | portARoleWrite d v => exact keep_execPortARoleWrite C d v s h
  | topologyCmd d v tree => exact keep_execTopologyCmd C d v tree s h
  | linkTrained port width gen hello => exact keep_execLinkTrained C port width gen hello s h
  | linkDown port => exact keep_execLinkDown C port s h
  | writeP port f => exact keep_execWriteP C port f s h
  | writeC port f => exact keep_execWriteC C port f s h
  | readFrame port f => exact keep_execReadFrame C port f s h
  | completionFrame port f => exact keep_execCompletionFrame C port f s h
  | plomorAck port f => exact keep_execPlomorAck C port f s h
  | caravan port f => exact keep_execCaravan C port f s h
  | credit port f => exact keep_execCredit C port f s h
  | signalRc port f => exact keep_execSignalRc C port f s h
  | messageFrame port f => exact keep_execMessageFrame C port f s h
  | hello port f => exact keep_execHello C port f s h
  | assign port f => exact keep_execAssign C port f s h
  | outboundWindowWrite d w data => exact keep_execOutboundWindowWrite C d w data s h
  | postedWindowStore addr data => exact keep_execPostedWindowStore C addr data s h
  | confirmedWindowStore hart addr data => exact keep_execConfirmedWindowStore C hart addr data s h
  | confirmedWriteTimeout tag => exact keep_execConfirmedWriteTimeout C tag s h
  | smallRead by_ addr len => exact keep_execSmallRead C by_ addr len s h
  | readDiscardTimeout tag => exact keep_execReadDiscardTimeout C tag s h
  | bufferedCompletionDiscard port f => exact keep_execBufferedCompletionDiscard C port f s h
  | bulkReadTimeout tag => exact keep_execBulkReadTimeout C tag s h
  | signalPageWrite off data => exact keep_execSignalPageWrite C off data s h
  | signalPoll => exact keep_execSignalPoll C s h
  | laneOpen d l => exact keep_execLaneOpen C d l s h
  | laneClose d l => exact keep_execLaneClose C d l s h
  | caravanSend q n => exact keep_execCaravanSend C q n s h
  | caravanWaitTimeout q n => exact keep_execCaravanWaitTimeout C q n s h
  | caravanRelease q n => exact keep_execCaravanRelease C q n s h
  | hbmRead m addr len queued report => exact keep_execHbmRead C m addr len queued report s h
  | partialGranuleWrite m addr data => exact keep_execPartialGranuleWrite C m addr data s h
  | bwWindowBoundary starved => exact keep_execBwWindowBoundary C starved s h
  | hbmTempSample celsius => exact keep_execHbmTempSample C celsius s h
  | bwGuaranteeWrite d c sub v => exact keep_execBwGuaranteeWrite C d c sub v s h
  | bwCountersClear d v => exact keep_execBwCountersClear C d v s h
  | gfxPass q n => exact keep_execGfxPass C q n s h
  | gfxShaderLoad q n => exact keep_execGfxShaderLoad C q n s h
  | gfxShaderFree q n => exact keep_execGfxShaderFree C q n s h
  | gfxPresent q n => exact keep_execGfxPresent C q n s h
  | tileTimeout pipe => exact keep_execTileTimeout C pipe s h
  | gfxTileDone pipe => exact keep_execGfxTileDone C pipe s h
  | paramBufferWrite d v => exact keep_execParamBufferWrite C d v s h
  | outputEnableWrite d out sub v => exact keep_execOutputEnableWrite C d out sub v s h
  | layerWrite d out k sub v => exact keep_execLayerWrite C d out k sub v s h
  | latchPoint out => exact keep_execLatchPoint C out s h
  | scanOutStart out late => exact keep_execScanOutStart C out late s h
  | displayLinkDown out => exact keep_execDisplayLinkDown C out s h
  | poseHandleWrite d v => exact keep_execPoseHandleWrite C d v s h
  | plnPlan q n => exact keep_execPlnPlan C q n s h
  | planGrant => exact keep_execPlanGrant C s h
  | searchRound q n => exact keep_execSearchRound C q n s h
  | searchWindowExpired q n => exact keep_execSearchWindowExpired C q n s h
  | finalPhase q n => exact keep_execFinalPhase C q n s h
  | plnLatticeLoad q n => exact keep_execPlnLatticeLoad C q n s h
  | plnLatticeFree q n => exact keep_execPlnLatticeFree C q n s h
  | plnOccUpdate q n => exact keep_execPlnOccUpdate C q n s h
  | plnLanesReservedWrite d k_ v => exact keep_execPlnLanesReservedWrite C d k_ v s h
  | tdmFrame samples => exact keep_execTdmFrame C samples s h
  | aafSampleArrival stream ch sample late => exact keep_execAafSampleArrival C stream ch sample late s h
  | aafRateFault stream => exact keep_execAafRateFault C stream s h
  | ancBlock => exact keep_execAncBlock C s h
  | ancStart d => exact keep_execAncStart C d s h
  | ancStop d => exact keep_execAncStop C d s h
  | ancFreeze d => exact keep_execAncFreeze C d s h
  | ancResume d => exact keep_execAncResume C d s h
  | voiceStart d => exact keep_execVoiceStart C d s h
  | voiceStop d => exact keep_execVoiceStop C d s h
  | voiceFrame => exact keep_execVoiceFrame C s h
  | playFrame => exact keep_execPlayFrame C s h
  | inputStuck ch => exact keep_execInputStuck C ch s h
  | inputRecovered ch => exact keep_execInputRecovered C ch s h
  | outputReadbackFault lane => exact keep_execOutputReadbackFault C lane s h
  | tdmDirWrite d lane v => exact keep_execTdmDirWrite C d lane v s h
  | acuEntryWrite d idx sub v => exact keep_execAcuEntryWrite C d idx sub v s h
  | acuCoefLoad q n => exact keep_execAcuCoefLoad C q n s h
  | canFrameRx port f reversed => exact keep_execCanFrameRx C port f reversed s h
  | canBusOff ch => exact keep_execCanBusOff C ch s h
  | busoffRecoveryDone ch => exact keep_execBusoffRecoveryDone C ch s h
  | canRecover d ch => exact keep_execCanRecover C d ch s h
  | canFlush d ch => exact keep_execCanFlush C d ch s h
  | canDominantTimeout ch => exact keep_execCanDominantTimeout C ch s h
  | canBusFault ch cause => exact keep_execCanBusFault C ch cause s h
  | canFaultRetry ch recessive => exact keep_execCanFaultRetry C ch recessive s h
  | canModeWrite d ch sub v => exact keep_execCanModeWrite C d ch sub v s h
  | linScheduleSlot ch => exact keep_execLinScheduleSlot C ch s h
  | linBusFault ch => exact keep_execLinBusFault C ch s h
  | linGoToSleep d ch => exact keep_execLinGoToSleep C d ch s h
  | linWakePulse d ch => exact keep_execLinWakePulse C d ch s h
  | ethLinkDown port result => exact keep_execEthLinkDown C port result s h
  | ethLinkUp port sqi swapped => exact keep_execEthLinkUp C port sqi swapped s h
  | cableDiag d port v result => exact keep_execCableDiag C d port v result s h
  | ethEnableWrite d port sub v => exact keep_execEthEnableWrite C d port sub v s h
  | switchFrameIngress port f => exact keep_execSwitchFrameIngress C port f s h
  | switchTableWrite d sub data => exact keep_execSwitchTableWrite C d sub data s h
  | gclCommit d port v => exact keep_execGclCommit C d port v s h
  | gclCycleStart port => exact keep_execGclCycleStart C port s h
  | avtpduSend stream => exact keep_execAvtpduSend C stream s h
  | avtpduReceive mac sid seq msgs => exact keep_execAvtpduReceive C mac sid seq msgs s h
  | routeCommit d v => exact keep_execRouteCommit C d v s h
  | routeFence => exact keep_execRouteFence C s h
  | inputFilterSettle line level => exact keep_execInputFilterSettle C line level s h
  | filterUsWrite d line v => exact keep_execFilterUsWrite C d line v s h
  | goStateWrite d v => exact keep_execGoStateWrite C d v s h
  | goOverload out => exact keep_execGoOverload C out s h
  | goOpenLoad out => exact keep_execGoOpenLoad C out s h
  | camPowerEnableWrite d v => exact keep_execCamPowerEnableWrite C d v s h
  | cameraOvercurrent cam => exact keep_execCameraOvercurrent C cam s h
  | cameraPowerRetry cam => exact keep_execCameraPowerRetry C cam s h
  | cameraOpenLoad cam => exact keep_execCameraOpenLoad C cam s h
  | coolantSample ta tb => exact keep_execCoolantSample C ta tb s h
  | snapSec r base => exact keep_execSnapSec C r base s h
  | jointSnapshot r => exact keep_execJointSnapshot C r s h
  | tbSet d n data => exact keep_execTbSet C d n data s h
  | tbCmd d n v => exact keep_execTbCmd C d n v s h
  | tbIncrementWrite d n v => exact keep_execTbIncrementWrite C d n v s h
  | tbModeWrite d n v => exact keep_execTbModeWrite C d n v s h
  | servoMeasurement n offsetNs refRate => exact keep_execServoMeasurement C n offsetNs refRate s h
  | tb0SyncLost => exact keep_execTb0SyncLost C s h
  | partActivate d k => exact keep_execPartActivate C d k s h
  | partDeactivate d k => exact keep_execPartDeactivate C d k s h
  | majorFrameBoundary => exact keep_execMajorFrameBoundary C s h
  | windowLeadStart w => exact keep_execWindowLeadStart C w s h
  | windowStart w => exact keep_execWindowStart C w s h
  | windowEnd w => exact keep_execWindowEnd C w s h
  | pairCompare e a b => exact keep_execPairCompare C e a b s h
  | mismatchSelftestDone e pass => exact keep_execMismatchSelftestDone C e pass s h
  | tuningFrameStart k => exact keep_execTuningFrameStart C k s h
  | tuningFrameLatest k => exact keep_execTuningFrameLatest C k s h
  | tuningFrameDone k => exact keep_execTuningFrameDone C k s h
  | tfCmd d k v => exact keep_execTfCmd C d k v s h
  | droneSliceStart u => exact keep_execDroneSliceStart C u s h
  | droneCheckpoint u => exact keep_execDroneCheckpoint C u s h
  | droneSliceDone u pass => exact keep_execDroneSliceDone C u pass s h
  | droneIntervalExceeded u => exact keep_execDroneIntervalExceeded C u s h
  | droneClaim u => exact keep_execDroneClaim C u s h
  | droneEnableWrite d v => exact keep_execDroneEnableWrite C d v s h
  | heartbeat => exact keep_execHeartbeat C s h
  | heartbeatLost => exact keep_execHeartbeatLost C s h
  | rearguardTakeover cause => exact keep_execRearguardTakeover C cause s h
  | mainReset cause => exact keep_execMainReset C cause s h
  | forceTakeover d v => exact keep_execForceTakeover C d v s h
  | rearguardPowerUp copyA copyB => exact keep_execRearguardPowerUp C copyA copyB s h
  | manoeuvreComplete => exact keep_execManoeuvreComplete C s h
  | rearguardStatusFrame => exact keep_execRearguardStatusFrame C s h
  | lockstepMismatch => exact keep_execLockstepMismatch C s h
  | handbackCmd d v => exact keep_execHandbackCmd C d v s h
  | secureWatermarkRaise d v => exact keep_execSecureWatermarkRaise C d v s h
  | secureWatermarkLower d v => exact keep_execSecureWatermarkLower C d v s h
  | scrubComplete => exact keep_execScrubComplete C s h
  | secReserveTopWrite d v => exact keep_execSecReserveTopWrite C d v s h
  | enclaveAssign d id first count => exact keep_execEnclaveAssign C d id first count s h
  | enclaveRelease d id first count => exact keep_execEnclaveRelease C d id first count s h
  | enclaveDestroy d id => exact keep_execEnclaveDestroy C d id s h
  | sliceEnclaveWrite d k_ v => exact keep_execSliceEnclaveWrite C d k_ v s h
  | menclaveWrite hart v => exact keep_execMenclaveWrite C hart v s h
  | mModeTrap hart => exact keep_execMModeTrap C hart s h
  | mret hart into => exact keep_execMret C hart into s h
  | secureHoldMaskWrite d data => exact keep_execSecureHoldMaskWrite C d data s h
  | noticeAck d v => exact keep_execNoticeAck C d v s h
  | noticeTimeout => exact keep_execNoticeTimeout C s h
  | swdKick d v => exact keep_execSwdKick C d v s h
  | secureWatchdog => exact keep_execSecureWatchdog C s h
  | keyProgram d data => exact keep_execKeyProgram C d data s h
  | keyRevoke d v => exact keep_execKeyRevoke C d v s h
  | rollbackAdvance d data => exact keep_execRollbackAdvance C d data s h
  | debugFuse d v => exact keep_execDebugFuse C d v s h
  | debugPolicyWrite d v => exact keep_execDebugPolicyWrite C d v s h
  | fmpKeyWrite d data => exact keep_execFmpKeyWrite C d data s h
  | dbgCert d data => exact keep_execDbgCert C d data s h
  | dbgResponse d data => exact keep_execDbgResponse C d data s h
  | debugLockoutEnd => exact keep_execDebugLockoutEnd C s h
  | dbgCmd d v => exact keep_execDbgCmd C d v s h
  | jtagTrst => exact keep_execJtagTrst C s h
  | idcode => exact keep_execIdcode C s h
  | dtmcs => exact keep_execDtmcs C s h
  | dmi write addr v => exact keep_execDmi C write addr v s h
  | bypass code => exact keep_execBypass C code s h
  | dmHalt hart => exact keep_execDmHalt C hart s h
  | dmResume hart => exact keep_execDmResume C hart s h
  | dmSingleStep hart e => exact keep_execDmSingleStep C hart e s h
  | accessRegister hart write regno v => exact keep_execAccessRegister C hart write regno v s h
  | systemBusAccess write size addr v => exact keep_execSystemBusAccess C write size addr v s h
  | latencyTolWrite d sub v => exact keep_execLatencyTolWrite C d sub v s h
  | dwellExpiry => exact keep_execDwellExpiry C s h
  | idleEntry => exact keep_execIdleEntry C s h
  | sleepEntry => exact keep_execSleepEntry C s h
  | deepSleepEntry => exact keep_execDeepSleepEntry C s h
  | offEntry => exact keep_execOffEntry C s h
  | wakeSourceEdge src edgeNs => exact keep_execWakeSourceEdge C src edgeNs s h
  | wakeTimer => exact keep_execWakeTimer C s h
  | wakeSuppressionEnd src => exact keep_execWakeSuppressionEnd C src s h
  | idleExit => exact keep_execIdleExit C s h
  | sleepExit => exact keep_execSleepExit C s h
  | deepSleepExit intact => exact keep_execDeepSleepExit C intact s h
  | offExit => exact keep_execOffExit C s h
  | functionEnableWrite d sub v stopped => exact keep_execFunctionEnableWrite C d sub v stopped s h
  | functionShutdownDone f => exact keep_execFunctionShutdownDone C f s h
  | mainSideStart k => exact keep_execMainSideStart C k s h
  | skeotLoad mode addr len node => exact keep_execSkeotLoad C mode addr len node s h
  | skeotUpdate mode addr len node => exact keep_execSkeotUpdate C mode addr len node s h
  | skeotStatus mode node => exact keep_execSkeotStatus C mode node s h
  | moduleReset mode node => exact keep_execModuleReset C mode node s h
  | firmwareStart tablesOk => exact keep_execFirmwareStart C tablesOk s h
  | updatePauseBegin => exact keep_execUpdatePauseBegin C s h
  | handoffCheck accepts pauseUs => exact keep_execHandoffCheck C accepts pauseUs s h
  | fwFault committed => exact keep_execFwFault C committed s h
  | pmuSnapshot r => exact keep_execPmuSnapshot C r s h
  | pmuClear d v => exact keep_execPmuClear C d v s h
  | counterDump => exact keep_execCounterDump C s h
  | dumpRingWrite d idx sub v => exact keep_execDumpRingWrite C d idx sub v s h
  | countReferenceTick issue => exact keep_execCountReferenceTick C issue s h
  | canFrameTx ch ok => exact keep_execCanFrameTx C ch ok s h
  | linBusRecessive ch => exact keep_execLinBusRecessive C ch s h
  | displayLinkUp out => exact keep_execDisplayLinkUp C out s h
  | cameraFrameStart cam => exact keep_execCameraFrameStart C cam s h

/-- The queue is no command's business. -/
theorem closed_pending (q : List Instr) : Closed (fun p _ _ _ _ => p = q) :=
  ⟨fun _ _ _ _ _ _ _ h => h, fun _ _ _ _ _ _ _ _ h => h, fun _ _ _ _ _ h => h, fun _ _ _ _ _ h => h⟩

/-- A blown debug fuse stays blown. -/
theorem closed_fuse : Closed (fun _ _ _ _ f => f = true) :=
  ⟨fun _ _ _ _ _ _ _ h => h, fun _ _ _ _ _ _ _ _ h => h, fun _ _ _ _ _ h => h, fun _ _ _ _ _ _ => rfl⟩

end Sys2Proof.Machine
end

