-- ==== Sys2Proof/Laws/State.lean ====
section
/-! SUPPORT. One lemma per field for each of the updates that the commands share: the fields it leaves. -/

namespace Sys2Proof.Machine.State

open Sys2Proof

/-! ## `setVal` -/

@[simp] theorem setVal_pending (s : State) (i n : Nat) (v : DVal) (k : Nat) : (s.setVal i n v k).pending = s.pending := rfl
@[simp] theorem setVal_freeCount (s : State) (i n : Nat) (v : DVal) (k : Nat) : (s.setVal i n v k).freeCount = s.freeCount := rfl
@[simp] theorem setVal_out (s : State) (i n : Nat) (v : DVal) (k : Nat) : (s.setVal i n v k).out = s.out := rfl
@[simp] theorem setVal_dic (s : State) (i n : Nat) (v : DVal) (k : Nat) : (s.setVal i n v k).dic = s.dic := rfl
@[simp] theorem setVal_que (s : State) (i n : Nat) (v : DVal) (k : Nat) : (s.setVal i n v k).que = s.que := rfl
@[simp] theorem setVal_mem (s : State) (i n : Nat) (v : DVal) (k : Nat) : (s.setVal i n v k).mem = s.mem := rfl
@[simp] theorem setVal_plc (s : State) (i n : Nat) (v : DVal) (k : Nat) : (s.setVal i n v k).plc = s.plc := rfl
@[simp] theorem setVal_time (s : State) (i n : Nat) (v : DVal) (k : Nat) : (s.setVal i n v k).time = s.time := rfl
@[simp] theorem setVal_saf (s : State) (i n : Nat) (v : DVal) (k : Nat) : (s.setVal i n v k).saf = s.saf := rfl
@[simp] theorem setVal_sec (s : State) (i n : Nat) (v : DVal) (k : Nat) : (s.setVal i n v k).sec = s.sec := rfl
@[simp] theorem setVal_rg (s : State) (i n : Nat) (v : DVal) (k : Nat) : (s.setVal i n v k).rg = s.rg := rfl
@[simp] theorem setVal_fw (s : State) (i n : Nat) (v : DVal) (k : Nat) : (s.setVal i n v k).fw = s.fw := rfl
@[simp] theorem setVal_harts (s : State) (i n : Nat) (v : DVal) (k : Nat) : (s.setVal i n v k).harts = s.harts := rfl
@[simp] theorem setVal_dbg (s : State) (i n : Nat) (v : DVal) (k : Nat) : (s.setVal i n v k).dbg = s.dbg := rfl
@[simp] theorem setVal_ctr (s : State) (i n : Nat) (v : DVal) (k : Nat) : (s.setVal i n v k).ctr = s.ctr := rfl
@[simp] theorem setVal_lnk (s : State) (i n : Nat) (v : DVal) (k : Nat) : (s.setVal i n v k).lnk = s.lnk := rfl
@[simp] theorem setVal_kv (s : State) (i n : Nat) (v : DVal) (k : Nat) : (s.setVal i n v k).kv = s.kv := rfl
@[simp] theorem setVal_gfx (s : State) (i n : Nat) (v : DVal) (k : Nat) : (s.setVal i n v k).gfx = s.gfx := rfl
@[simp] theorem setVal_dsp (s : State) (i n : Nat) (v : DVal) (k : Nat) : (s.setVal i n v k).dsp = s.dsp := rfl
@[simp] theorem setVal_pln (s : State) (i n : Nat) (v : DVal) (k : Nat) : (s.setVal i n v k).pln = s.pln := rfl
@[simp] theorem setVal_acu (s : State) (i n : Nat) (v : DVal) (k : Nat) : (s.setVal i n v k).acu = s.acu := rfl
@[simp] theorem setVal_gtw (s : State) (i n : Nat) (v : DVal) (k : Nat) : (s.setVal i n v k).gtw = s.gtw := rfl
@[simp] theorem setVal_gov (s : State) (i n : Nat) (v : DVal) (k : Nat) : (s.setVal i n v k).gov = s.gov := rfl
@[simp] theorem setVal_hw (s : State) (i n : Nat) (v : DVal) (k : Nat) : (s.setVal i n v k).hw = s.hw := rfl
@[simp] theorem setVal_pwr (s : State) (i n : Nat) (v : DVal) (k : Nat) : (s.setVal i n v k).pwr = s.pwr := rfl

/-! ## `set` -/

@[simp] theorem set_pending (s : State) (i n v k : Nat) : (s.set i n v k).pending = s.pending := rfl
@[simp] theorem set_freeCount (s : State) (i n v k : Nat) : (s.set i n v k).freeCount = s.freeCount := rfl
@[simp] theorem set_out (s : State) (i n v k : Nat) : (s.set i n v k).out = s.out := rfl
@[simp] theorem set_dic (s : State) (i n v k : Nat) : (s.set i n v k).dic = s.dic := rfl
@[simp] theorem set_que (s : State) (i n v k : Nat) : (s.set i n v k).que = s.que := rfl
@[simp] theorem set_mem (s : State) (i n v k : Nat) : (s.set i n v k).mem = s.mem := rfl
@[simp] theorem set_plc (s : State) (i n v k : Nat) : (s.set i n v k).plc = s.plc := rfl
@[simp] theorem set_time (s : State) (i n v k : Nat) : (s.set i n v k).time = s.time := rfl
@[simp] theorem set_saf (s : State) (i n v k : Nat) : (s.set i n v k).saf = s.saf := rfl
@[simp] theorem set_sec (s : State) (i n v k : Nat) : (s.set i n v k).sec = s.sec := rfl
@[simp] theorem set_rg (s : State) (i n v k : Nat) : (s.set i n v k).rg = s.rg := rfl
@[simp] theorem set_fw (s : State) (i n v k : Nat) : (s.set i n v k).fw = s.fw := rfl
@[simp] theorem set_harts (s : State) (i n v k : Nat) : (s.set i n v k).harts = s.harts := rfl
@[simp] theorem set_dbg (s : State) (i n v k : Nat) : (s.set i n v k).dbg = s.dbg := rfl
@[simp] theorem set_ctr (s : State) (i n v k : Nat) : (s.set i n v k).ctr = s.ctr := rfl
@[simp] theorem set_lnk (s : State) (i n v k : Nat) : (s.set i n v k).lnk = s.lnk := rfl
@[simp] theorem set_kv (s : State) (i n v k : Nat) : (s.set i n v k).kv = s.kv := rfl
@[simp] theorem set_gfx (s : State) (i n v k : Nat) : (s.set i n v k).gfx = s.gfx := rfl
@[simp] theorem set_dsp (s : State) (i n v k : Nat) : (s.set i n v k).dsp = s.dsp := rfl
@[simp] theorem set_pln (s : State) (i n v k : Nat) : (s.set i n v k).pln = s.pln := rfl
@[simp] theorem set_acu (s : State) (i n v k : Nat) : (s.set i n v k).acu = s.acu := rfl
@[simp] theorem set_gtw (s : State) (i n v k : Nat) : (s.set i n v k).gtw = s.gtw := rfl
@[simp] theorem set_gov (s : State) (i n v k : Nat) : (s.set i n v k).gov = s.gov := rfl
@[simp] theorem set_hw (s : State) (i n v k : Nat) : (s.set i n v k).hw = s.hw := rfl
@[simp] theorem set_pwr (s : State) (i n v k : Nat) : (s.set i n v k).pwr = s.pwr := rfl

/-! ## `setB` -/

@[simp] theorem setB_pending (s : State) (i n : Nat) (b : List Byte) (k : Nat) : (s.setB i n b k).pending = s.pending := rfl
@[simp] theorem setB_freeCount (s : State) (i n : Nat) (b : List Byte) (k : Nat) : (s.setB i n b k).freeCount = s.freeCount := rfl
@[simp] theorem setB_out (s : State) (i n : Nat) (b : List Byte) (k : Nat) : (s.setB i n b k).out = s.out := rfl
@[simp] theorem setB_dic (s : State) (i n : Nat) (b : List Byte) (k : Nat) : (s.setB i n b k).dic = s.dic := rfl
@[simp] theorem setB_que (s : State) (i n : Nat) (b : List Byte) (k : Nat) : (s.setB i n b k).que = s.que := rfl
@[simp] theorem setB_mem (s : State) (i n : Nat) (b : List Byte) (k : Nat) : (s.setB i n b k).mem = s.mem := rfl
@[simp] theorem setB_plc (s : State) (i n : Nat) (b : List Byte) (k : Nat) : (s.setB i n b k).plc = s.plc := rfl
@[simp] theorem setB_time (s : State) (i n : Nat) (b : List Byte) (k : Nat) : (s.setB i n b k).time = s.time := rfl
@[simp] theorem setB_saf (s : State) (i n : Nat) (b : List Byte) (k : Nat) : (s.setB i n b k).saf = s.saf := rfl
@[simp] theorem setB_sec (s : State) (i n : Nat) (b : List Byte) (k : Nat) : (s.setB i n b k).sec = s.sec := rfl
@[simp] theorem setB_rg (s : State) (i n : Nat) (b : List Byte) (k : Nat) : (s.setB i n b k).rg = s.rg := rfl
@[simp] theorem setB_fw (s : State) (i n : Nat) (b : List Byte) (k : Nat) : (s.setB i n b k).fw = s.fw := rfl
@[simp] theorem setB_harts (s : State) (i n : Nat) (b : List Byte) (k : Nat) : (s.setB i n b k).harts = s.harts := rfl
@[simp] theorem setB_dbg (s : State) (i n : Nat) (b : List Byte) (k : Nat) : (s.setB i n b k).dbg = s.dbg := rfl
@[simp] theorem setB_ctr (s : State) (i n : Nat) (b : List Byte) (k : Nat) : (s.setB i n b k).ctr = s.ctr := rfl
@[simp] theorem setB_lnk (s : State) (i n : Nat) (b : List Byte) (k : Nat) : (s.setB i n b k).lnk = s.lnk := rfl
@[simp] theorem setB_kv (s : State) (i n : Nat) (b : List Byte) (k : Nat) : (s.setB i n b k).kv = s.kv := rfl
@[simp] theorem setB_gfx (s : State) (i n : Nat) (b : List Byte) (k : Nat) : (s.setB i n b k).gfx = s.gfx := rfl
@[simp] theorem setB_dsp (s : State) (i n : Nat) (b : List Byte) (k : Nat) : (s.setB i n b k).dsp = s.dsp := rfl
@[simp] theorem setB_pln (s : State) (i n : Nat) (b : List Byte) (k : Nat) : (s.setB i n b k).pln = s.pln := rfl
@[simp] theorem setB_acu (s : State) (i n : Nat) (b : List Byte) (k : Nat) : (s.setB i n b k).acu = s.acu := rfl
@[simp] theorem setB_gtw (s : State) (i n : Nat) (b : List Byte) (k : Nat) : (s.setB i n b k).gtw = s.gtw := rfl
@[simp] theorem setB_gov (s : State) (i n : Nat) (b : List Byte) (k : Nat) : (s.setB i n b k).gov = s.gov := rfl
@[simp] theorem setB_hw (s : State) (i n : Nat) (b : List Byte) (k : Nat) : (s.setB i n b k).hw = s.hw := rfl
@[simp] theorem setB_pwr (s : State) (i n : Nat) (b : List Byte) (k : Nat) : (s.setB i n b k).pwr = s.pwr := rfl

/-! ## `clear` -/

@[simp] theorem clear_pending (s : State) (i n k : Nat) : (s.clear i n k).pending = s.pending := rfl
@[simp] theorem clear_freeCount (s : State) (i n k : Nat) : (s.clear i n k).freeCount = s.freeCount := rfl
@[simp] theorem clear_out (s : State) (i n k : Nat) : (s.clear i n k).out = s.out := rfl
@[simp] theorem clear_dic (s : State) (i n k : Nat) : (s.clear i n k).dic = s.dic := rfl
@[simp] theorem clear_que (s : State) (i n k : Nat) : (s.clear i n k).que = s.que := rfl
@[simp] theorem clear_mem (s : State) (i n k : Nat) : (s.clear i n k).mem = s.mem := rfl
@[simp] theorem clear_plc (s : State) (i n k : Nat) : (s.clear i n k).plc = s.plc := rfl
@[simp] theorem clear_time (s : State) (i n k : Nat) : (s.clear i n k).time = s.time := rfl
@[simp] theorem clear_saf (s : State) (i n k : Nat) : (s.clear i n k).saf = s.saf := rfl
@[simp] theorem clear_sec (s : State) (i n k : Nat) : (s.clear i n k).sec = s.sec := rfl
@[simp] theorem clear_rg (s : State) (i n k : Nat) : (s.clear i n k).rg = s.rg := rfl
@[simp] theorem clear_fw (s : State) (i n k : Nat) : (s.clear i n k).fw = s.fw := rfl
@[simp] theorem clear_harts (s : State) (i n k : Nat) : (s.clear i n k).harts = s.harts := rfl
@[simp] theorem clear_dbg (s : State) (i n k : Nat) : (s.clear i n k).dbg = s.dbg := rfl
@[simp] theorem clear_ctr (s : State) (i n k : Nat) : (s.clear i n k).ctr = s.ctr := rfl
@[simp] theorem clear_lnk (s : State) (i n k : Nat) : (s.clear i n k).lnk = s.lnk := rfl
@[simp] theorem clear_kv (s : State) (i n k : Nat) : (s.clear i n k).kv = s.kv := rfl
@[simp] theorem clear_gfx (s : State) (i n k : Nat) : (s.clear i n k).gfx = s.gfx := rfl
@[simp] theorem clear_dsp (s : State) (i n k : Nat) : (s.clear i n k).dsp = s.dsp := rfl
@[simp] theorem clear_pln (s : State) (i n k : Nat) : (s.clear i n k).pln = s.pln := rfl
@[simp] theorem clear_acu (s : State) (i n k : Nat) : (s.clear i n k).acu = s.acu := rfl
@[simp] theorem clear_gtw (s : State) (i n k : Nat) : (s.clear i n k).gtw = s.gtw := rfl
@[simp] theorem clear_gov (s : State) (i n k : Nat) : (s.clear i n k).gov = s.gov := rfl
@[simp] theorem clear_hw (s : State) (i n k : Nat) : (s.clear i n k).hw = s.hw := rfl
@[simp] theorem clear_pwr (s : State) (i n k : Nat) : (s.clear i n k).pwr = s.pwr := rfl

/-! ## `bump` -/

@[simp] theorem bump_pending (s : State) (i n v k : Nat) : (s.bump i n v k).pending = s.pending := rfl
@[simp] theorem bump_freeCount (s : State) (i n v k : Nat) : (s.bump i n v k).freeCount = s.freeCount := rfl
@[simp] theorem bump_out (s : State) (i n v k : Nat) : (s.bump i n v k).out = s.out := rfl
@[simp] theorem bump_dic (s : State) (i n v k : Nat) : (s.bump i n v k).dic = s.dic := rfl
@[simp] theorem bump_que (s : State) (i n v k : Nat) : (s.bump i n v k).que = s.que := rfl
@[simp] theorem bump_mem (s : State) (i n v k : Nat) : (s.bump i n v k).mem = s.mem := rfl
@[simp] theorem bump_plc (s : State) (i n v k : Nat) : (s.bump i n v k).plc = s.plc := rfl
@[simp] theorem bump_time (s : State) (i n v k : Nat) : (s.bump i n v k).time = s.time := rfl
@[simp] theorem bump_saf (s : State) (i n v k : Nat) : (s.bump i n v k).saf = s.saf := rfl
@[simp] theorem bump_sec (s : State) (i n v k : Nat) : (s.bump i n v k).sec = s.sec := rfl
@[simp] theorem bump_rg (s : State) (i n v k : Nat) : (s.bump i n v k).rg = s.rg := rfl
@[simp] theorem bump_fw (s : State) (i n v k : Nat) : (s.bump i n v k).fw = s.fw := rfl
@[simp] theorem bump_harts (s : State) (i n v k : Nat) : (s.bump i n v k).harts = s.harts := rfl
@[simp] theorem bump_dbg (s : State) (i n v k : Nat) : (s.bump i n v k).dbg = s.dbg := rfl
@[simp] theorem bump_ctr (s : State) (i n v k : Nat) : (s.bump i n v k).ctr = s.ctr := rfl
@[simp] theorem bump_lnk (s : State) (i n v k : Nat) : (s.bump i n v k).lnk = s.lnk := rfl
@[simp] theorem bump_kv (s : State) (i n v k : Nat) : (s.bump i n v k).kv = s.kv := rfl
@[simp] theorem bump_gfx (s : State) (i n v k : Nat) : (s.bump i n v k).gfx = s.gfx := rfl
@[simp] theorem bump_dsp (s : State) (i n v k : Nat) : (s.bump i n v k).dsp = s.dsp := rfl
@[simp] theorem bump_pln (s : State) (i n v k : Nat) : (s.bump i n v k).pln = s.pln := rfl
@[simp] theorem bump_acu (s : State) (i n v k : Nat) : (s.bump i n v k).acu = s.acu := rfl
@[simp] theorem bump_gtw (s : State) (i n v k : Nat) : (s.bump i n v k).gtw = s.gtw := rfl
@[simp] theorem bump_gov (s : State) (i n v k : Nat) : (s.bump i n v k).gov = s.gov := rfl
@[simp] theorem bump_hw (s : State) (i n v k : Nat) : (s.bump i n v k).hw = s.hw := rfl
@[simp] theorem bump_pwr (s : State) (i n v k : Nat) : (s.bump i n v k).pwr = s.pwr := rfl

/-! ## `emit` -/

@[simp] theorem emit_pending (s : State) (o : Output) : (s.emit o).pending = s.pending := rfl
@[simp] theorem emit_freeCount (s : State) (o : Output) : (s.emit o).freeCount = s.freeCount := rfl
@[simp] theorem emit_dict (s : State) (o : Output) : (s.emit o).dict = s.dict := rfl
@[simp] theorem emit_dic (s : State) (o : Output) : (s.emit o).dic = s.dic := rfl
@[simp] theorem emit_que (s : State) (o : Output) : (s.emit o).que = s.que := rfl
@[simp] theorem emit_mem (s : State) (o : Output) : (s.emit o).mem = s.mem := rfl
@[simp] theorem emit_plc (s : State) (o : Output) : (s.emit o).plc = s.plc := rfl
@[simp] theorem emit_time (s : State) (o : Output) : (s.emit o).time = s.time := rfl
@[simp] theorem emit_saf (s : State) (o : Output) : (s.emit o).saf = s.saf := rfl
@[simp] theorem emit_sec (s : State) (o : Output) : (s.emit o).sec = s.sec := rfl
@[simp] theorem emit_rg (s : State) (o : Output) : (s.emit o).rg = s.rg := rfl
@[simp] theorem emit_fw (s : State) (o : Output) : (s.emit o).fw = s.fw := rfl
@[simp] theorem emit_harts (s : State) (o : Output) : (s.emit o).harts = s.harts := rfl
@[simp] theorem emit_dbg (s : State) (o : Output) : (s.emit o).dbg = s.dbg := rfl
@[simp] theorem emit_ctr (s : State) (o : Output) : (s.emit o).ctr = s.ctr := rfl
@[simp] theorem emit_lnk (s : State) (o : Output) : (s.emit o).lnk = s.lnk := rfl
@[simp] theorem emit_kv (s : State) (o : Output) : (s.emit o).kv = s.kv := rfl
@[simp] theorem emit_gfx (s : State) (o : Output) : (s.emit o).gfx = s.gfx := rfl
@[simp] theorem emit_dsp (s : State) (o : Output) : (s.emit o).dsp = s.dsp := rfl
@[simp] theorem emit_pln (s : State) (o : Output) : (s.emit o).pln = s.pln := rfl
@[simp] theorem emit_acu (s : State) (o : Output) : (s.emit o).acu = s.acu := rfl
@[simp] theorem emit_gtw (s : State) (o : Output) : (s.emit o).gtw = s.gtw := rfl
@[simp] theorem emit_gov (s : State) (o : Output) : (s.emit o).gov = s.gov := rfl
@[simp] theorem emit_hw (s : State) (o : Output) : (s.emit o).hw = s.hw := rfl
@[simp] theorem emit_pwr (s : State) (o : Output) : (s.emit o).pwr = s.pwr := rfl

/-! ## `writeByte` -/

@[simp] theorem writeByte_pending (s : State) (a : Nat) (b : Byte) : (s.writeByte a b).pending = s.pending := rfl
@[simp] theorem writeByte_freeCount (s : State) (a : Nat) (b : Byte) : (s.writeByte a b).freeCount = s.freeCount := rfl
@[simp] theorem writeByte_dict (s : State) (a : Nat) (b : Byte) : (s.writeByte a b).dict = s.dict := rfl
@[simp] theorem writeByte_out (s : State) (a : Nat) (b : Byte) : (s.writeByte a b).out = s.out := rfl
@[simp] theorem writeByte_dic (s : State) (a : Nat) (b : Byte) : (s.writeByte a b).dic = s.dic := rfl
@[simp] theorem writeByte_que (s : State) (a : Nat) (b : Byte) : (s.writeByte a b).que = s.que := rfl
@[simp] theorem writeByte_plc (s : State) (a : Nat) (b : Byte) : (s.writeByte a b).plc = s.plc := rfl
@[simp] theorem writeByte_time (s : State) (a : Nat) (b : Byte) : (s.writeByte a b).time = s.time := rfl
@[simp] theorem writeByte_saf (s : State) (a : Nat) (b : Byte) : (s.writeByte a b).saf = s.saf := rfl
@[simp] theorem writeByte_sec (s : State) (a : Nat) (b : Byte) : (s.writeByte a b).sec = s.sec := rfl
@[simp] theorem writeByte_rg (s : State) (a : Nat) (b : Byte) : (s.writeByte a b).rg = s.rg := rfl
@[simp] theorem writeByte_fw (s : State) (a : Nat) (b : Byte) : (s.writeByte a b).fw = s.fw := rfl
@[simp] theorem writeByte_harts (s : State) (a : Nat) (b : Byte) : (s.writeByte a b).harts = s.harts := rfl
@[simp] theorem writeByte_dbg (s : State) (a : Nat) (b : Byte) : (s.writeByte a b).dbg = s.dbg := rfl
@[simp] theorem writeByte_ctr (s : State) (a : Nat) (b : Byte) : (s.writeByte a b).ctr = s.ctr := rfl
@[simp] theorem writeByte_lnk (s : State) (a : Nat) (b : Byte) : (s.writeByte a b).lnk = s.lnk := rfl
@[simp] theorem writeByte_kv (s : State) (a : Nat) (b : Byte) : (s.writeByte a b).kv = s.kv := rfl
@[simp] theorem writeByte_gfx (s : State) (a : Nat) (b : Byte) : (s.writeByte a b).gfx = s.gfx := rfl
@[simp] theorem writeByte_dsp (s : State) (a : Nat) (b : Byte) : (s.writeByte a b).dsp = s.dsp := rfl
@[simp] theorem writeByte_pln (s : State) (a : Nat) (b : Byte) : (s.writeByte a b).pln = s.pln := rfl
@[simp] theorem writeByte_acu (s : State) (a : Nat) (b : Byte) : (s.writeByte a b).acu = s.acu := rfl
@[simp] theorem writeByte_gtw (s : State) (a : Nat) (b : Byte) : (s.writeByte a b).gtw = s.gtw := rfl
@[simp] theorem writeByte_gov (s : State) (a : Nat) (b : Byte) : (s.writeByte a b).gov = s.gov := rfl
@[simp] theorem writeByte_hw (s : State) (a : Nat) (b : Byte) : (s.writeByte a b).hw = s.hw := rfl
@[simp] theorem writeByte_pwr (s : State) (a : Nat) (b : Byte) : (s.writeByte a b).pwr = s.pwr := rfl

/-! ## `zeroMem` -/

@[simp] theorem zeroMem_pending (s : State) (a n : Nat) : (s.zeroMem a n).pending = s.pending := rfl
@[simp] theorem zeroMem_freeCount (s : State) (a n : Nat) : (s.zeroMem a n).freeCount = s.freeCount := rfl
@[simp] theorem zeroMem_dict (s : State) (a n : Nat) : (s.zeroMem a n).dict = s.dict := rfl
@[simp] theorem zeroMem_out (s : State) (a n : Nat) : (s.zeroMem a n).out = s.out := rfl
@[simp] theorem zeroMem_dic (s : State) (a n : Nat) : (s.zeroMem a n).dic = s.dic := rfl
@[simp] theorem zeroMem_que (s : State) (a n : Nat) : (s.zeroMem a n).que = s.que := rfl
@[simp] theorem zeroMem_plc (s : State) (a n : Nat) : (s.zeroMem a n).plc = s.plc := rfl
@[simp] theorem zeroMem_time (s : State) (a n : Nat) : (s.zeroMem a n).time = s.time := rfl
@[simp] theorem zeroMem_saf (s : State) (a n : Nat) : (s.zeroMem a n).saf = s.saf := rfl
@[simp] theorem zeroMem_sec (s : State) (a n : Nat) : (s.zeroMem a n).sec = s.sec := rfl
@[simp] theorem zeroMem_rg (s : State) (a n : Nat) : (s.zeroMem a n).rg = s.rg := rfl
@[simp] theorem zeroMem_fw (s : State) (a n : Nat) : (s.zeroMem a n).fw = s.fw := rfl
@[simp] theorem zeroMem_harts (s : State) (a n : Nat) : (s.zeroMem a n).harts = s.harts := rfl
@[simp] theorem zeroMem_dbg (s : State) (a n : Nat) : (s.zeroMem a n).dbg = s.dbg := rfl
@[simp] theorem zeroMem_ctr (s : State) (a n : Nat) : (s.zeroMem a n).ctr = s.ctr := rfl
@[simp] theorem zeroMem_lnk (s : State) (a n : Nat) : (s.zeroMem a n).lnk = s.lnk := rfl
@[simp] theorem zeroMem_kv (s : State) (a n : Nat) : (s.zeroMem a n).kv = s.kv := rfl
@[simp] theorem zeroMem_gfx (s : State) (a n : Nat) : (s.zeroMem a n).gfx = s.gfx := rfl
@[simp] theorem zeroMem_dsp (s : State) (a n : Nat) : (s.zeroMem a n).dsp = s.dsp := rfl
@[simp] theorem zeroMem_pln (s : State) (a n : Nat) : (s.zeroMem a n).pln = s.pln := rfl
@[simp] theorem zeroMem_acu (s : State) (a n : Nat) : (s.zeroMem a n).acu = s.acu := rfl
@[simp] theorem zeroMem_gtw (s : State) (a n : Nat) : (s.zeroMem a n).gtw = s.gtw := rfl
@[simp] theorem zeroMem_gov (s : State) (a n : Nat) : (s.zeroMem a n).gov = s.gov := rfl
@[simp] theorem zeroMem_hw (s : State) (a n : Nat) : (s.zeroMem a n).hw = s.hw := rfl
@[simp] theorem zeroMem_pwr (s : State) (a n : Nat) : (s.zeroMem a n).pwr = s.pwr := rfl

/-! ## `fillMem` -/

@[simp] theorem fillMem_pending (s : State) (a n k : Nat) : (s.fillMem a n k).pending = s.pending := rfl
@[simp] theorem fillMem_freeCount (s : State) (a n k : Nat) : (s.fillMem a n k).freeCount = s.freeCount := rfl
@[simp] theorem fillMem_dict (s : State) (a n k : Nat) : (s.fillMem a n k).dict = s.dict := rfl
@[simp] theorem fillMem_out (s : State) (a n k : Nat) : (s.fillMem a n k).out = s.out := rfl
@[simp] theorem fillMem_dic (s : State) (a n k : Nat) : (s.fillMem a n k).dic = s.dic := rfl
@[simp] theorem fillMem_que (s : State) (a n k : Nat) : (s.fillMem a n k).que = s.que := rfl
@[simp] theorem fillMem_plc (s : State) (a n k : Nat) : (s.fillMem a n k).plc = s.plc := rfl
@[simp] theorem fillMem_time (s : State) (a n k : Nat) : (s.fillMem a n k).time = s.time := rfl
@[simp] theorem fillMem_saf (s : State) (a n k : Nat) : (s.fillMem a n k).saf = s.saf := rfl
@[simp] theorem fillMem_sec (s : State) (a n k : Nat) : (s.fillMem a n k).sec = s.sec := rfl
@[simp] theorem fillMem_rg (s : State) (a n k : Nat) : (s.fillMem a n k).rg = s.rg := rfl
@[simp] theorem fillMem_fw (s : State) (a n k : Nat) : (s.fillMem a n k).fw = s.fw := rfl
@[simp] theorem fillMem_harts (s : State) (a n k : Nat) : (s.fillMem a n k).harts = s.harts := rfl
@[simp] theorem fillMem_dbg (s : State) (a n k : Nat) : (s.fillMem a n k).dbg = s.dbg := rfl
@[simp] theorem fillMem_ctr (s : State) (a n k : Nat) : (s.fillMem a n k).ctr = s.ctr := rfl
@[simp] theorem fillMem_lnk (s : State) (a n k : Nat) : (s.fillMem a n k).lnk = s.lnk := rfl
@[simp] theorem fillMem_kv (s : State) (a n k : Nat) : (s.fillMem a n k).kv = s.kv := rfl
@[simp] theorem fillMem_gfx (s : State) (a n k : Nat) : (s.fillMem a n k).gfx = s.gfx := rfl
@[simp] theorem fillMem_dsp (s : State) (a n k : Nat) : (s.fillMem a n k).dsp = s.dsp := rfl
@[simp] theorem fillMem_pln (s : State) (a n k : Nat) : (s.fillMem a n k).pln = s.pln := rfl
@[simp] theorem fillMem_acu (s : State) (a n k : Nat) : (s.fillMem a n k).acu = s.acu := rfl
@[simp] theorem fillMem_gtw (s : State) (a n k : Nat) : (s.fillMem a n k).gtw = s.gtw := rfl
@[simp] theorem fillMem_gov (s : State) (a n k : Nat) : (s.fillMem a n k).gov = s.gov := rfl
@[simp] theorem fillMem_hw (s : State) (a n k : Nat) : (s.fillMem a n k).hw = s.hw := rfl
@[simp] theorem fillMem_pwr (s : State) (a n k : Nat) : (s.fillMem a n k).pwr = s.pwr := rfl

/-! ## `setBuffer` -/

@[simp] theorem setBuffer_pending (s : State) (k : Nat) (b : List QFrame) : (s.setBuffer k b).pending = s.pending := rfl
@[simp] theorem setBuffer_freeCount (s : State) (k : Nat) (b : List QFrame) : (s.setBuffer k b).freeCount = s.freeCount := rfl
@[simp] theorem setBuffer_dict (s : State) (k : Nat) (b : List QFrame) : (s.setBuffer k b).dict = s.dict := rfl
@[simp] theorem setBuffer_out (s : State) (k : Nat) (b : List QFrame) : (s.setBuffer k b).out = s.out := rfl
@[simp] theorem setBuffer_dic (s : State) (k : Nat) (b : List QFrame) : (s.setBuffer k b).dic = s.dic := rfl
@[simp] theorem setBuffer_que (s : State) (k : Nat) (b : List QFrame) : (s.setBuffer k b).que = s.que := rfl
@[simp] theorem setBuffer_mem (s : State) (k : Nat) (b : List QFrame) : (s.setBuffer k b).mem = s.mem := rfl
@[simp] theorem setBuffer_plc (s : State) (k : Nat) (b : List QFrame) : (s.setBuffer k b).plc = s.plc := rfl
@[simp] theorem setBuffer_time (s : State) (k : Nat) (b : List QFrame) : (s.setBuffer k b).time = s.time := rfl
@[simp] theorem setBuffer_saf (s : State) (k : Nat) (b : List QFrame) : (s.setBuffer k b).saf = s.saf := rfl
@[simp] theorem setBuffer_sec (s : State) (k : Nat) (b : List QFrame) : (s.setBuffer k b).sec = s.sec := rfl
@[simp] theorem setBuffer_rg (s : State) (k : Nat) (b : List QFrame) : (s.setBuffer k b).rg = s.rg := rfl
@[simp] theorem setBuffer_fw (s : State) (k : Nat) (b : List QFrame) : (s.setBuffer k b).fw = s.fw := rfl
@[simp] theorem setBuffer_harts (s : State) (k : Nat) (b : List QFrame) : (s.setBuffer k b).harts = s.harts := rfl
@[simp] theorem setBuffer_dbg (s : State) (k : Nat) (b : List QFrame) : (s.setBuffer k b).dbg = s.dbg := rfl
@[simp] theorem setBuffer_ctr (s : State) (k : Nat) (b : List QFrame) : (s.setBuffer k b).ctr = s.ctr := rfl
@[simp] theorem setBuffer_kv (s : State) (k : Nat) (b : List QFrame) : (s.setBuffer k b).kv = s.kv := rfl
@[simp] theorem setBuffer_gfx (s : State) (k : Nat) (b : List QFrame) : (s.setBuffer k b).gfx = s.gfx := rfl
@[simp] theorem setBuffer_dsp (s : State) (k : Nat) (b : List QFrame) : (s.setBuffer k b).dsp = s.dsp := rfl
@[simp] theorem setBuffer_pln (s : State) (k : Nat) (b : List QFrame) : (s.setBuffer k b).pln = s.pln := rfl
@[simp] theorem setBuffer_acu (s : State) (k : Nat) (b : List QFrame) : (s.setBuffer k b).acu = s.acu := rfl
@[simp] theorem setBuffer_gtw (s : State) (k : Nat) (b : List QFrame) : (s.setBuffer k b).gtw = s.gtw := rfl
@[simp] theorem setBuffer_gov (s : State) (k : Nat) (b : List QFrame) : (s.setBuffer k b).gov = s.gov := rfl
@[simp] theorem setBuffer_hw (s : State) (k : Nat) (b : List QFrame) : (s.setBuffer k b).hw = s.hw := rfl
@[simp] theorem setBuffer_pwr (s : State) (k : Nat) (b : List QFrame) : (s.setBuffer k b).pwr = s.pwr := rfl

/-! ## `setUsed` -/

@[simp] theorem setUsed_pending (s : State) (k n : Nat) : (s.setUsed k n).pending = s.pending := rfl
@[simp] theorem setUsed_freeCount (s : State) (k n : Nat) : (s.setUsed k n).freeCount = s.freeCount := rfl
@[simp] theorem setUsed_dict (s : State) (k n : Nat) : (s.setUsed k n).dict = s.dict := rfl
@[simp] theorem setUsed_out (s : State) (k n : Nat) : (s.setUsed k n).out = s.out := rfl
@[simp] theorem setUsed_dic (s : State) (k n : Nat) : (s.setUsed k n).dic = s.dic := rfl
@[simp] theorem setUsed_que (s : State) (k n : Nat) : (s.setUsed k n).que = s.que := rfl
@[simp] theorem setUsed_mem (s : State) (k n : Nat) : (s.setUsed k n).mem = s.mem := rfl
@[simp] theorem setUsed_plc (s : State) (k n : Nat) : (s.setUsed k n).plc = s.plc := rfl
@[simp] theorem setUsed_time (s : State) (k n : Nat) : (s.setUsed k n).time = s.time := rfl
@[simp] theorem setUsed_saf (s : State) (k n : Nat) : (s.setUsed k n).saf = s.saf := rfl
@[simp] theorem setUsed_sec (s : State) (k n : Nat) : (s.setUsed k n).sec = s.sec := rfl
@[simp] theorem setUsed_rg (s : State) (k n : Nat) : (s.setUsed k n).rg = s.rg := rfl
@[simp] theorem setUsed_fw (s : State) (k n : Nat) : (s.setUsed k n).fw = s.fw := rfl
@[simp] theorem setUsed_harts (s : State) (k n : Nat) : (s.setUsed k n).harts = s.harts := rfl
@[simp] theorem setUsed_dbg (s : State) (k n : Nat) : (s.setUsed k n).dbg = s.dbg := rfl
@[simp] theorem setUsed_ctr (s : State) (k n : Nat) : (s.setUsed k n).ctr = s.ctr := rfl
@[simp] theorem setUsed_kv (s : State) (k n : Nat) : (s.setUsed k n).kv = s.kv := rfl
@[simp] theorem setUsed_gfx (s : State) (k n : Nat) : (s.setUsed k n).gfx = s.gfx := rfl
@[simp] theorem setUsed_dsp (s : State) (k n : Nat) : (s.setUsed k n).dsp = s.dsp := rfl
@[simp] theorem setUsed_pln (s : State) (k n : Nat) : (s.setUsed k n).pln = s.pln := rfl
@[simp] theorem setUsed_acu (s : State) (k n : Nat) : (s.setUsed k n).acu = s.acu := rfl
@[simp] theorem setUsed_gtw (s : State) (k n : Nat) : (s.setUsed k n).gtw = s.gtw := rfl
@[simp] theorem setUsed_gov (s : State) (k n : Nat) : (s.setUsed k n).gov = s.gov := rfl
@[simp] theorem setUsed_hw (s : State) (k n : Nat) : (s.setUsed k n).hw = s.hw := rfl
@[simp] theorem setUsed_pwr (s : State) (k n : Nat) : (s.setUsed k n).pwr = s.pwr := rfl

/-! ## `setQueue` -/

@[simp] theorem setQueue_pending (s : State) (q : Nat) (x : Queue) : (s.setQueue q x).pending = s.pending := rfl
@[simp] theorem setQueue_freeCount (s : State) (q : Nat) (x : Queue) : (s.setQueue q x).freeCount = s.freeCount := rfl
@[simp] theorem setQueue_dict (s : State) (q : Nat) (x : Queue) : (s.setQueue q x).dict = s.dict := rfl
@[simp] theorem setQueue_out (s : State) (q : Nat) (x : Queue) : (s.setQueue q x).out = s.out := rfl
@[simp] theorem setQueue_dic (s : State) (q : Nat) (x : Queue) : (s.setQueue q x).dic = s.dic := rfl
@[simp] theorem setQueue_mem (s : State) (q : Nat) (x : Queue) : (s.setQueue q x).mem = s.mem := rfl
@[simp] theorem setQueue_plc (s : State) (q : Nat) (x : Queue) : (s.setQueue q x).plc = s.plc := rfl
@[simp] theorem setQueue_time (s : State) (q : Nat) (x : Queue) : (s.setQueue q x).time = s.time := rfl
@[simp] theorem setQueue_saf (s : State) (q : Nat) (x : Queue) : (s.setQueue q x).saf = s.saf := rfl
@[simp] theorem setQueue_sec (s : State) (q : Nat) (x : Queue) : (s.setQueue q x).sec = s.sec := rfl
@[simp] theorem setQueue_rg (s : State) (q : Nat) (x : Queue) : (s.setQueue q x).rg = s.rg := rfl
@[simp] theorem setQueue_fw (s : State) (q : Nat) (x : Queue) : (s.setQueue q x).fw = s.fw := rfl
@[simp] theorem setQueue_harts (s : State) (q : Nat) (x : Queue) : (s.setQueue q x).harts = s.harts := rfl
@[simp] theorem setQueue_dbg (s : State) (q : Nat) (x : Queue) : (s.setQueue q x).dbg = s.dbg := rfl
@[simp] theorem setQueue_ctr (s : State) (q : Nat) (x : Queue) : (s.setQueue q x).ctr = s.ctr := rfl
@[simp] theorem setQueue_lnk (s : State) (q : Nat) (x : Queue) : (s.setQueue q x).lnk = s.lnk := rfl
@[simp] theorem setQueue_kv (s : State) (q : Nat) (x : Queue) : (s.setQueue q x).kv = s.kv := rfl
@[simp] theorem setQueue_gfx (s : State) (q : Nat) (x : Queue) : (s.setQueue q x).gfx = s.gfx := rfl
@[simp] theorem setQueue_dsp (s : State) (q : Nat) (x : Queue) : (s.setQueue q x).dsp = s.dsp := rfl
@[simp] theorem setQueue_pln (s : State) (q : Nat) (x : Queue) : (s.setQueue q x).pln = s.pln := rfl
@[simp] theorem setQueue_acu (s : State) (q : Nat) (x : Queue) : (s.setQueue q x).acu = s.acu := rfl
@[simp] theorem setQueue_gtw (s : State) (q : Nat) (x : Queue) : (s.setQueue q x).gtw = s.gtw := rfl
@[simp] theorem setQueue_gov (s : State) (q : Nat) (x : Queue) : (s.setQueue q x).gov = s.gov := rfl
@[simp] theorem setQueue_hw (s : State) (q : Nat) (x : Queue) : (s.setQueue q x).hw = s.hw := rfl
@[simp] theorem setQueue_pwr (s : State) (q : Nat) (x : Queue) : (s.setQueue q x).pwr = s.pwr := rfl

/-! ## `setSlice` -/

@[simp] theorem setSlice_pending (s : State) (k : Nat) (x : Slice) : (s.setSlice k x).pending = s.pending := rfl
@[simp] theorem setSlice_freeCount (s : State) (k : Nat) (x : Slice) : (s.setSlice k x).freeCount = s.freeCount := rfl
@[simp] theorem setSlice_dict (s : State) (k : Nat) (x : Slice) : (s.setSlice k x).dict = s.dict := rfl
@[simp] theorem setSlice_out (s : State) (k : Nat) (x : Slice) : (s.setSlice k x).out = s.out := rfl
@[simp] theorem setSlice_dic (s : State) (k : Nat) (x : Slice) : (s.setSlice k x).dic = s.dic := rfl
@[simp] theorem setSlice_mem (s : State) (k : Nat) (x : Slice) : (s.setSlice k x).mem = s.mem := rfl
@[simp] theorem setSlice_plc (s : State) (k : Nat) (x : Slice) : (s.setSlice k x).plc = s.plc := rfl
@[simp] theorem setSlice_time (s : State) (k : Nat) (x : Slice) : (s.setSlice k x).time = s.time := rfl
@[simp] theorem setSlice_saf (s : State) (k : Nat) (x : Slice) : (s.setSlice k x).saf = s.saf := rfl
@[simp] theorem setSlice_sec (s : State) (k : Nat) (x : Slice) : (s.setSlice k x).sec = s.sec := rfl
@[simp] theorem setSlice_rg (s : State) (k : Nat) (x : Slice) : (s.setSlice k x).rg = s.rg := rfl
@[simp] theorem setSlice_fw (s : State) (k : Nat) (x : Slice) : (s.setSlice k x).fw = s.fw := rfl
@[simp] theorem setSlice_harts (s : State) (k : Nat) (x : Slice) : (s.setSlice k x).harts = s.harts := rfl
@[simp] theorem setSlice_dbg (s : State) (k : Nat) (x : Slice) : (s.setSlice k x).dbg = s.dbg := rfl
@[simp] theorem setSlice_ctr (s : State) (k : Nat) (x : Slice) : (s.setSlice k x).ctr = s.ctr := rfl
@[simp] theorem setSlice_lnk (s : State) (k : Nat) (x : Slice) : (s.setSlice k x).lnk = s.lnk := rfl
@[simp] theorem setSlice_kv (s : State) (k : Nat) (x : Slice) : (s.setSlice k x).kv = s.kv := rfl
@[simp] theorem setSlice_gfx (s : State) (k : Nat) (x : Slice) : (s.setSlice k x).gfx = s.gfx := rfl
@[simp] theorem setSlice_dsp (s : State) (k : Nat) (x : Slice) : (s.setSlice k x).dsp = s.dsp := rfl
@[simp] theorem setSlice_pln (s : State) (k : Nat) (x : Slice) : (s.setSlice k x).pln = s.pln := rfl
@[simp] theorem setSlice_acu (s : State) (k : Nat) (x : Slice) : (s.setSlice k x).acu = s.acu := rfl
@[simp] theorem setSlice_gtw (s : State) (k : Nat) (x : Slice) : (s.setSlice k x).gtw = s.gtw := rfl
@[simp] theorem setSlice_gov (s : State) (k : Nat) (x : Slice) : (s.setSlice k x).gov = s.gov := rfl
@[simp] theorem setSlice_hw (s : State) (k : Nat) (x : Slice) : (s.setSlice k x).hw = s.hw := rfl
@[simp] theorem setSlice_pwr (s : State) (k : Nat) (x : Slice) : (s.setSlice k x).pwr = s.pwr := rfl

/-! ## `setDesc` -/

@[simp] theorem setDesc_pending (s : State) (q n : Nat) (d : Desc) : (s.setDesc q n d).pending = s.pending := rfl
@[simp] theorem setDesc_freeCount (s : State) (q n : Nat) (d : Desc) : (s.setDesc q n d).freeCount = s.freeCount := rfl
@[simp] theorem setDesc_dict (s : State) (q n : Nat) (d : Desc) : (s.setDesc q n d).dict = s.dict := rfl
@[simp] theorem setDesc_out (s : State) (q n : Nat) (d : Desc) : (s.setDesc q n d).out = s.out := rfl
@[simp] theorem setDesc_dic (s : State) (q n : Nat) (d : Desc) : (s.setDesc q n d).dic = s.dic := rfl
@[simp] theorem setDesc_mem (s : State) (q n : Nat) (d : Desc) : (s.setDesc q n d).mem = s.mem := rfl
@[simp] theorem setDesc_plc (s : State) (q n : Nat) (d : Desc) : (s.setDesc q n d).plc = s.plc := rfl
@[simp] theorem setDesc_time (s : State) (q n : Nat) (d : Desc) : (s.setDesc q n d).time = s.time := rfl
@[simp] theorem setDesc_saf (s : State) (q n : Nat) (d : Desc) : (s.setDesc q n d).saf = s.saf := rfl
@[simp] theorem setDesc_sec (s : State) (q n : Nat) (d : Desc) : (s.setDesc q n d).sec = s.sec := rfl
@[simp] theorem setDesc_rg (s : State) (q n : Nat) (d : Desc) : (s.setDesc q n d).rg = s.rg := rfl
@[simp] theorem setDesc_fw (s : State) (q n : Nat) (d : Desc) : (s.setDesc q n d).fw = s.fw := rfl
@[simp] theorem setDesc_harts (s : State) (q n : Nat) (d : Desc) : (s.setDesc q n d).harts = s.harts := rfl
@[simp] theorem setDesc_dbg (s : State) (q n : Nat) (d : Desc) : (s.setDesc q n d).dbg = s.dbg := rfl
@[simp] theorem setDesc_ctr (s : State) (q n : Nat) (d : Desc) : (s.setDesc q n d).ctr = s.ctr := rfl
@[simp] theorem setDesc_lnk (s : State) (q n : Nat) (d : Desc) : (s.setDesc q n d).lnk = s.lnk := rfl
@[simp] theorem setDesc_kv (s : State) (q n : Nat) (d : Desc) : (s.setDesc q n d).kv = s.kv := rfl
@[simp] theorem setDesc_gfx (s : State) (q n : Nat) (d : Desc) : (s.setDesc q n d).gfx = s.gfx := rfl
@[simp] theorem setDesc_dsp (s : State) (q n : Nat) (d : Desc) : (s.setDesc q n d).dsp = s.dsp := rfl
@[simp] theorem setDesc_pln (s : State) (q n : Nat) (d : Desc) : (s.setDesc q n d).pln = s.pln := rfl
@[simp] theorem setDesc_acu (s : State) (q n : Nat) (d : Desc) : (s.setDesc q n d).acu = s.acu := rfl
@[simp] theorem setDesc_gtw (s : State) (q n : Nat) (d : Desc) : (s.setDesc q n d).gtw = s.gtw := rfl
@[simp] theorem setDesc_gov (s : State) (q n : Nat) (d : Desc) : (s.setDesc q n d).gov = s.gov := rfl
@[simp] theorem setDesc_hw (s : State) (q n : Nat) (d : Desc) : (s.setDesc q n d).hw = s.hw := rfl
@[simp] theorem setDesc_pwr (s : State) (q n : Nat) (d : Desc) : (s.setDesc q n d).pwr = s.pwr := rfl

/-! ## `setEngine` -/

@[simp] theorem setEngine_pending (s : State) (e : Nat) (x : Engine) : (s.setEngine e x).pending = s.pending := rfl
@[simp] theorem setEngine_freeCount (s : State) (e : Nat) (x : Engine) : (s.setEngine e x).freeCount = s.freeCount := rfl
@[simp] theorem setEngine_dict (s : State) (e : Nat) (x : Engine) : (s.setEngine e x).dict = s.dict := rfl
@[simp] theorem setEngine_out (s : State) (e : Nat) (x : Engine) : (s.setEngine e x).out = s.out := rfl
@[simp] theorem setEngine_dic (s : State) (e : Nat) (x : Engine) : (s.setEngine e x).dic = s.dic := rfl
@[simp] theorem setEngine_que (s : State) (e : Nat) (x : Engine) : (s.setEngine e x).que = s.que := rfl
@[simp] theorem setEngine_mem (s : State) (e : Nat) (x : Engine) : (s.setEngine e x).mem = s.mem := rfl
@[simp] theorem setEngine_time (s : State) (e : Nat) (x : Engine) : (s.setEngine e x).time = s.time := rfl
@[simp] theorem setEngine_saf (s : State) (e : Nat) (x : Engine) : (s.setEngine e x).saf = s.saf := rfl
@[simp] theorem setEngine_sec (s : State) (e : Nat) (x : Engine) : (s.setEngine e x).sec = s.sec := rfl
@[simp] theorem setEngine_rg (s : State) (e : Nat) (x : Engine) : (s.setEngine e x).rg = s.rg := rfl
@[simp] theorem setEngine_fw (s : State) (e : Nat) (x : Engine) : (s.setEngine e x).fw = s.fw := rfl
@[simp] theorem setEngine_harts (s : State) (e : Nat) (x : Engine) : (s.setEngine e x).harts = s.harts := rfl
@[simp] theorem setEngine_dbg (s : State) (e : Nat) (x : Engine) : (s.setEngine e x).dbg = s.dbg := rfl
@[simp] theorem setEngine_ctr (s : State) (e : Nat) (x : Engine) : (s.setEngine e x).ctr = s.ctr := rfl
@[simp] theorem setEngine_lnk (s : State) (e : Nat) (x : Engine) : (s.setEngine e x).lnk = s.lnk := rfl
@[simp] theorem setEngine_kv (s : State) (e : Nat) (x : Engine) : (s.setEngine e x).kv = s.kv := rfl
@[simp] theorem setEngine_gfx (s : State) (e : Nat) (x : Engine) : (s.setEngine e x).gfx = s.gfx := rfl
@[simp] theorem setEngine_dsp (s : State) (e : Nat) (x : Engine) : (s.setEngine e x).dsp = s.dsp := rfl
@[simp] theorem setEngine_pln (s : State) (e : Nat) (x : Engine) : (s.setEngine e x).pln = s.pln := rfl
@[simp] theorem setEngine_acu (s : State) (e : Nat) (x : Engine) : (s.setEngine e x).acu = s.acu := rfl
@[simp] theorem setEngine_gtw (s : State) (e : Nat) (x : Engine) : (s.setEngine e x).gtw = s.gtw := rfl
@[simp] theorem setEngine_gov (s : State) (e : Nat) (x : Engine) : (s.setEngine e x).gov = s.gov := rfl
@[simp] theorem setEngine_hw (s : State) (e : Nat) (x : Engine) : (s.setEngine e x).hw = s.hw := rfl
@[simp] theorem setEngine_pwr (s : State) (e : Nat) (x : Engine) : (s.setEngine e x).pwr = s.pwr := rfl

/-! ## `setHart` -/

@[simp] theorem setHart_pending (s : State) (h : Nat) (x : Hart) : (s.setHart h x).pending = s.pending := rfl
@[simp] theorem setHart_freeCount (s : State) (h : Nat) (x : Hart) : (s.setHart h x).freeCount = s.freeCount := rfl
@[simp] theorem setHart_dict (s : State) (h : Nat) (x : Hart) : (s.setHart h x).dict = s.dict := rfl
@[simp] theorem setHart_out (s : State) (h : Nat) (x : Hart) : (s.setHart h x).out = s.out := rfl
@[simp] theorem setHart_dic (s : State) (h : Nat) (x : Hart) : (s.setHart h x).dic = s.dic := rfl
@[simp] theorem setHart_que (s : State) (h : Nat) (x : Hart) : (s.setHart h x).que = s.que := rfl
@[simp] theorem setHart_mem (s : State) (h : Nat) (x : Hart) : (s.setHart h x).mem = s.mem := rfl
@[simp] theorem setHart_plc (s : State) (h : Nat) (x : Hart) : (s.setHart h x).plc = s.plc := rfl
@[simp] theorem setHart_time (s : State) (h : Nat) (x : Hart) : (s.setHart h x).time = s.time := rfl
@[simp] theorem setHart_saf (s : State) (h : Nat) (x : Hart) : (s.setHart h x).saf = s.saf := rfl
@[simp] theorem setHart_sec (s : State) (h : Nat) (x : Hart) : (s.setHart h x).sec = s.sec := rfl
@[simp] theorem setHart_rg (s : State) (h : Nat) (x : Hart) : (s.setHart h x).rg = s.rg := rfl
@[simp] theorem setHart_fw (s : State) (h : Nat) (x : Hart) : (s.setHart h x).fw = s.fw := rfl
@[simp] theorem setHart_dbg (s : State) (h : Nat) (x : Hart) : (s.setHart h x).dbg = s.dbg := rfl
@[simp] theorem setHart_ctr (s : State) (h : Nat) (x : Hart) : (s.setHart h x).ctr = s.ctr := rfl
@[simp] theorem setHart_lnk (s : State) (h : Nat) (x : Hart) : (s.setHart h x).lnk = s.lnk := rfl
@[simp] theorem setHart_kv (s : State) (h : Nat) (x : Hart) : (s.setHart h x).kv = s.kv := rfl
@[simp] theorem setHart_gfx (s : State) (h : Nat) (x : Hart) : (s.setHart h x).gfx = s.gfx := rfl
@[simp] theorem setHart_dsp (s : State) (h : Nat) (x : Hart) : (s.setHart h x).dsp = s.dsp := rfl
@[simp] theorem setHart_pln (s : State) (h : Nat) (x : Hart) : (s.setHart h x).pln = s.pln := rfl
@[simp] theorem setHart_acu (s : State) (h : Nat) (x : Hart) : (s.setHart h x).acu = s.acu := rfl
@[simp] theorem setHart_gtw (s : State) (h : Nat) (x : Hart) : (s.setHart h x).gtw = s.gtw := rfl
@[simp] theorem setHart_gov (s : State) (h : Nat) (x : Hart) : (s.setHart h x).gov = s.gov := rfl
@[simp] theorem setHart_hw (s : State) (h : Nat) (x : Hart) : (s.setHart h x).hw = s.hw := rfl
@[simp] theorem setHart_pwr (s : State) (h : Nat) (x : Hart) : (s.setHart h x).pwr = s.pwr := rfl

/-! ## `setPwr` -/

@[simp] theorem setPwr_pending (s : State) (x : PwrState) : (s.setPwr x).pending = s.pending := rfl
@[simp] theorem setPwr_freeCount (s : State) (x : PwrState) : (s.setPwr x).freeCount = s.freeCount := rfl
@[simp] theorem setPwr_dict (s : State) (x : PwrState) : (s.setPwr x).dict = s.dict := rfl
@[simp] theorem setPwr_out (s : State) (x : PwrState) : (s.setPwr x).out = s.out := rfl
@[simp] theorem setPwr_dic (s : State) (x : PwrState) : (s.setPwr x).dic = s.dic := rfl
@[simp] theorem setPwr_que (s : State) (x : PwrState) : (s.setPwr x).que = s.que := rfl
@[simp] theorem setPwr_mem (s : State) (x : PwrState) : (s.setPwr x).mem = s.mem := rfl
@[simp] theorem setPwr_plc (s : State) (x : PwrState) : (s.setPwr x).plc = s.plc := rfl
@[simp] theorem setPwr_time (s : State) (x : PwrState) : (s.setPwr x).time = s.time := rfl
@[simp] theorem setPwr_saf (s : State) (x : PwrState) : (s.setPwr x).saf = s.saf := rfl
@[simp] theorem setPwr_sec (s : State) (x : PwrState) : (s.setPwr x).sec = s.sec := rfl
@[simp] theorem setPwr_rg (s : State) (x : PwrState) : (s.setPwr x).rg = s.rg := rfl
@[simp] theorem setPwr_fw (s : State) (x : PwrState) : (s.setPwr x).fw = s.fw := rfl
@[simp] theorem setPwr_harts (s : State) (x : PwrState) : (s.setPwr x).harts = s.harts := rfl
@[simp] theorem setPwr_dbg (s : State) (x : PwrState) : (s.setPwr x).dbg = s.dbg := rfl
@[simp] theorem setPwr_ctr (s : State) (x : PwrState) : (s.setPwr x).ctr = s.ctr := rfl
@[simp] theorem setPwr_lnk (s : State) (x : PwrState) : (s.setPwr x).lnk = s.lnk := rfl
@[simp] theorem setPwr_kv (s : State) (x : PwrState) : (s.setPwr x).kv = s.kv := rfl
@[simp] theorem setPwr_gfx (s : State) (x : PwrState) : (s.setPwr x).gfx = s.gfx := rfl
@[simp] theorem setPwr_dsp (s : State) (x : PwrState) : (s.setPwr x).dsp = s.dsp := rfl
@[simp] theorem setPwr_pln (s : State) (x : PwrState) : (s.setPwr x).pln = s.pln := rfl
@[simp] theorem setPwr_acu (s : State) (x : PwrState) : (s.setPwr x).acu = s.acu := rfl
@[simp] theorem setPwr_gtw (s : State) (x : PwrState) : (s.setPwr x).gtw = s.gtw := rfl
@[simp] theorem setPwr_gov (s : State) (x : PwrState) : (s.setPwr x).gov = s.gov := rfl
@[simp] theorem setPwr_hw (s : State) (x : PwrState) : (s.setPwr x).hw = s.hw := rfl

/-! ## `setGov` -/

@[simp] theorem setGov_pending (s : State) (x : GovState) : (s.setGov x).pending = s.pending := rfl
@[simp] theorem setGov_freeCount (s : State) (x : GovState) : (s.setGov x).freeCount = s.freeCount := rfl
@[simp] theorem setGov_dict (s : State) (x : GovState) : (s.setGov x).dict = s.dict := rfl
@[simp] theorem setGov_out (s : State) (x : GovState) : (s.setGov x).out = s.out := rfl
@[simp] theorem setGov_dic (s : State) (x : GovState) : (s.setGov x).dic = s.dic := rfl
@[simp] theorem setGov_que (s : State) (x : GovState) : (s.setGov x).que = s.que := rfl
@[simp] theorem setGov_mem (s : State) (x : GovState) : (s.setGov x).mem = s.mem := rfl
@[simp] theorem setGov_plc (s : State) (x : GovState) : (s.setGov x).plc = s.plc := rfl
@[simp] theorem setGov_time (s : State) (x : GovState) : (s.setGov x).time = s.time := rfl
@[simp] theorem setGov_saf (s : State) (x : GovState) : (s.setGov x).saf = s.saf := rfl
@[simp] theorem setGov_sec (s : State) (x : GovState) : (s.setGov x).sec = s.sec := rfl
@[simp] theorem setGov_rg (s : State) (x : GovState) : (s.setGov x).rg = s.rg := rfl
@[simp] theorem setGov_fw (s : State) (x : GovState) : (s.setGov x).fw = s.fw := rfl
@[simp] theorem setGov_harts (s : State) (x : GovState) : (s.setGov x).harts = s.harts := rfl
@[simp] theorem setGov_dbg (s : State) (x : GovState) : (s.setGov x).dbg = s.dbg := rfl
@[simp] theorem setGov_ctr (s : State) (x : GovState) : (s.setGov x).ctr = s.ctr := rfl
@[simp] theorem setGov_lnk (s : State) (x : GovState) : (s.setGov x).lnk = s.lnk := rfl
@[simp] theorem setGov_kv (s : State) (x : GovState) : (s.setGov x).kv = s.kv := rfl
@[simp] theorem setGov_gfx (s : State) (x : GovState) : (s.setGov x).gfx = s.gfx := rfl
@[simp] theorem setGov_dsp (s : State) (x : GovState) : (s.setGov x).dsp = s.dsp := rfl
@[simp] theorem setGov_pln (s : State) (x : GovState) : (s.setGov x).pln = s.pln := rfl
@[simp] theorem setGov_acu (s : State) (x : GovState) : (s.setGov x).acu = s.acu := rfl
@[simp] theorem setGov_gtw (s : State) (x : GovState) : (s.setGov x).gtw = s.gtw := rfl
@[simp] theorem setGov_hw (s : State) (x : GovState) : (s.setGov x).hw = s.hw := rfl
@[simp] theorem setGov_pwr (s : State) (x : GovState) : (s.setGov x).pwr = s.pwr := rfl

/-! ## `setWindow` -/

@[simp] theorem setWindow_pending (s : State) (w : Space) (x : Window) : (s.setWindow w x).pending = s.pending := rfl
@[simp] theorem setWindow_freeCount (s : State) (w : Space) (x : Window) : (s.setWindow w x).freeCount = s.freeCount := rfl
@[simp] theorem setWindow_dict (s : State) (w : Space) (x : Window) : (s.setWindow w x).dict = s.dict := rfl
@[simp] theorem setWindow_out (s : State) (w : Space) (x : Window) : (s.setWindow w x).out = s.out := rfl
@[simp] theorem setWindow_que (s : State) (w : Space) (x : Window) : (s.setWindow w x).que = s.que := rfl
@[simp] theorem setWindow_mem (s : State) (w : Space) (x : Window) : (s.setWindow w x).mem = s.mem := rfl
@[simp] theorem setWindow_plc (s : State) (w : Space) (x : Window) : (s.setWindow w x).plc = s.plc := rfl
@[simp] theorem setWindow_time (s : State) (w : Space) (x : Window) : (s.setWindow w x).time = s.time := rfl
@[simp] theorem setWindow_saf (s : State) (w : Space) (x : Window) : (s.setWindow w x).saf = s.saf := rfl
@[simp] theorem setWindow_sec (s : State) (w : Space) (x : Window) : (s.setWindow w x).sec = s.sec := rfl
@[simp] theorem setWindow_rg (s : State) (w : Space) (x : Window) : (s.setWindow w x).rg = s.rg := rfl
@[simp] theorem setWindow_fw (s : State) (w : Space) (x : Window) : (s.setWindow w x).fw = s.fw := rfl
@[simp] theorem setWindow_harts (s : State) (w : Space) (x : Window) : (s.setWindow w x).harts = s.harts := rfl
@[simp] theorem setWindow_dbg (s : State) (w : Space) (x : Window) : (s.setWindow w x).dbg = s.dbg := rfl
@[simp] theorem setWindow_ctr (s : State) (w : Space) (x : Window) : (s.setWindow w x).ctr = s.ctr := rfl
@[simp] theorem setWindow_lnk (s : State) (w : Space) (x : Window) : (s.setWindow w x).lnk = s.lnk := rfl
@[simp] theorem setWindow_kv (s : State) (w : Space) (x : Window) : (s.setWindow w x).kv = s.kv := rfl
@[simp] theorem setWindow_gfx (s : State) (w : Space) (x : Window) : (s.setWindow w x).gfx = s.gfx := rfl
@[simp] theorem setWindow_dsp (s : State) (w : Space) (x : Window) : (s.setWindow w x).dsp = s.dsp := rfl
@[simp] theorem setWindow_pln (s : State) (w : Space) (x : Window) : (s.setWindow w x).pln = s.pln := rfl
@[simp] theorem setWindow_acu (s : State) (w : Space) (x : Window) : (s.setWindow w x).acu = s.acu := rfl
@[simp] theorem setWindow_gtw (s : State) (w : Space) (x : Window) : (s.setWindow w x).gtw = s.gtw := rfl
@[simp] theorem setWindow_gov (s : State) (w : Space) (x : Window) : (s.setWindow w x).gov = s.gov := rfl
@[simp] theorem setWindow_hw (s : State) (w : Space) (x : Window) : (s.setWindow w x).hw = s.hw := rfl
@[simp] theorem setWindow_pwr (s : State) (w : Space) (x : Window) : (s.setWindow w x).pwr = s.pwr := rfl

/-! ## `count` -/

@[simp] theorem count_pending (s : State) (i n : Nat) : (s.count i n).pending = s.pending := rfl
@[simp] theorem count_freeCount (s : State) (i n : Nat) : (s.count i n).freeCount = s.freeCount := rfl
@[simp] theorem count_dict (s : State) (i n : Nat) : (s.count i n).dict = s.dict := rfl
@[simp] theorem count_out (s : State) (i n : Nat) : (s.count i n).out = s.out := rfl
@[simp] theorem count_dic (s : State) (i n : Nat) : (s.count i n).dic = s.dic := rfl
@[simp] theorem count_que (s : State) (i n : Nat) : (s.count i n).que = s.que := rfl
@[simp] theorem count_mem (s : State) (i n : Nat) : (s.count i n).mem = s.mem := rfl
@[simp] theorem count_plc (s : State) (i n : Nat) : (s.count i n).plc = s.plc := rfl
@[simp] theorem count_time (s : State) (i n : Nat) : (s.count i n).time = s.time := rfl
@[simp] theorem count_saf (s : State) (i n : Nat) : (s.count i n).saf = s.saf := rfl
@[simp] theorem count_sec (s : State) (i n : Nat) : (s.count i n).sec = s.sec := rfl
@[simp] theorem count_rg (s : State) (i n : Nat) : (s.count i n).rg = s.rg := rfl
@[simp] theorem count_fw (s : State) (i n : Nat) : (s.count i n).fw = s.fw := rfl
@[simp] theorem count_harts (s : State) (i n : Nat) : (s.count i n).harts = s.harts := rfl
@[simp] theorem count_dbg (s : State) (i n : Nat) : (s.count i n).dbg = s.dbg := rfl
@[simp] theorem count_lnk (s : State) (i n : Nat) : (s.count i n).lnk = s.lnk := rfl
@[simp] theorem count_kv (s : State) (i n : Nat) : (s.count i n).kv = s.kv := rfl
@[simp] theorem count_gfx (s : State) (i n : Nat) : (s.count i n).gfx = s.gfx := rfl
@[simp] theorem count_dsp (s : State) (i n : Nat) : (s.count i n).dsp = s.dsp := rfl
@[simp] theorem count_pln (s : State) (i n : Nat) : (s.count i n).pln = s.pln := rfl
@[simp] theorem count_acu (s : State) (i n : Nat) : (s.count i n).acu = s.acu := rfl
@[simp] theorem count_gtw (s : State) (i n : Nat) : (s.count i n).gtw = s.gtw := rfl
@[simp] theorem count_gov (s : State) (i n : Nat) : (s.count i n).gov = s.gov := rfl
@[simp] theorem count_hw (s : State) (i n : Nat) : (s.count i n).hw = s.hw := rfl
@[simp] theorem count_pwr (s : State) (i n : Nat) : (s.count i n).pwr = s.pwr := rfl

end Sys2Proof.Machine.State
end

