-- ==== Sys2Proof/Laws/Links.lean ====
section
/-! SUPPORT. What the operations of the ports, the memory and the records can do: the groups of State they leave, and how the
frames that wait at a port leave it. -/

namespace Sys2Proof.Machine.State

open Sys2Proof

/-- The groups of State that no frame, record or access to memory changes. -/
abbrev steady (s : State) := (s.pending, s.que, s.plc, s.time, s.saf, s.sec, s.rg, s.harts, s.dbg, s.kv, s.gfx, s.dsp, s.pln,
  s.acu, s.gtw, s.gov, s.hw, s.pwr)

/-- The groups that no frame changes. -/
abbrev unsent (s : State) := (s.steady, s.mem, s.dic, s.fw)

/-- The groups that no record and no access to memory changes. -/
abbrev unstored (s : State) := (s.steady, s.lnk)

theorem foldl_keeps {α β : Type} (g : State → α) (f : State → β → State) (h : ∀ s b, g (f s b) = g s) (l : List β) (s : State) :
    g (l.foldl f s) = g s := by
  induction l generalizing s with
  | nil => rfl
  | cons b l ih => exact (ih _).trans (h s b)

/-! ## Frames -/

theorem room_unsent (s : State) (k n : Nat) : (s.room k n).2.unsent = s.unsent := by
  unfold room
  dsimp only
  split <;> rfl

theorem readyFrame_unsent (p : Nat) (ks : List Nat) (s : State) : (readyFrame p ks s).2.unsent = s.unsent := by
  induction ks generalizing s with
  | nil => rfl
  | cons k ks ih =>
    unfold readyFrame
    split
    · exact ih s
    · split
      · exact ih s
      · dsimp only
        split
        · exact room_unsent _ _ _
        · exact (ih _).trans (room_unsent _ _ _)

theorem leave_unsent (s : State) (p : Nat) (f : Frame) : (s.leave p f).unsent = s.unsent := rfl

theorem passTurn_unsent (s : State) (p c : Nat) : (s.passTurn p c).unsent = s.unsent := by
  unfold passTurn
  split <;> rfl

theorem transmit_unsent (p n : Nat) (s : State) : (transmit p n s).unsent = s.unsent := by
  induction n generalizing s with
  | zero => rfl
  | succ n ih =>
    unfold transmit
    have h := readyFrame_unsent p (s.serveOrder p) s
    split
    · next he => rw [he] at h; exact h
    · next he =>
      rw [he] at h
      exact (ih _).trans ((leave_unsent _ _ _).trans ((passTurn_unsent _ _ _).trans h))

theorem putFrame_unsent (s : State) (p : Nat) (f : Frame) (came : Option Nat) (follows : Bool) :
    (s.putFrame p f came follows).unsent = s.unsent := by
  unfold putFrame
  split
  · rfl
  · dsimp only
    split
    · rfl
    · exact (transmit_unsent _ _ _).trans rfl

theorem sendFrame_unsent (s : State) (f : Frame) (follows : Bool) : (s.sendFrame f follows).unsent = s.unsent := by
  unfold sendFrame
  dsimp only
  split
  · exact putFrame_unsent _ _ _ _ _
  · rfl

theorem freshTag_unsent (s : State) (lo k : Nat) (used : List Nat) : (s.freshTag lo k used).2.unsent = s.unsent := rfl

theorem sendWrites_unsent (s : State) (node cls addr : Nat) (data : List Byte) (what : AckFor) :
    (s.sendWrites node cls addr data what).unsent = s.unsent := by
  unfold sendWrites
  refine foldl_keeps _ _ (fun s i => ?_) _ _
  unfold sendWriteC
  exact (sendFrame_unsent _ _ _).trans rfl

/-! ## Frames that wait -/

theorem room_quiet (s : State) (k n : Nat) : (s.room k n).2.out = s.out ∧ (s.room k n).2.lnk.queued = s.lnk.queued := by
  unfold room
  dsimp only
  split <;> exact ⟨rfl, rfl⟩

/-- The frame a port takes next is the oldest of a buffer it looks at, and looking changes neither the buffers nor what was sent. -/
theorem readyFrame_spec (p : Nat) (ks : List Nat) (s : State) :
    (readyFrame p ks s).2.out = s.out ∧ (readyFrame p ks s).2.lnk.queued = s.lnk.queued
    ∧ ∀ k q, (readyFrame p ks s).1 = some (k, q) → k ∈ ks ∧ ∃ r, s.buffer k = q :: r := by
  induction ks generalizing s with
  | nil => exact ⟨rfl, rfl, fun k q h => by cases h⟩
  | cons k ks ih =>
    have step : ∀ t : State, t.out = s.out → t.lnk.queued = s.lnk.queued →
        (readyFrame p ks t).2.out = s.out ∧ (readyFrame p ks t).2.lnk.queued = s.lnk.queued
        ∧ ∀ j q, (readyFrame p ks t).1 = some (j, q) → j ∈ k :: ks ∧ ∃ r, s.buffer j = q :: r := by
      intro t h1 h2
      obtain ⟨a, b, c⟩ := ih t
      refine ⟨a.trans h1, b.trans h2, fun j q h => ?_⟩
      obtain ⟨m, r, e⟩ := c j q h
      refine ⟨List.mem_cons_of_mem _ m, r, ?_⟩
      unfold buffer at e ⊢
      rw [← h2]
      exact e
    unfold readyFrame
    split
    · exact step s rfl rfl
    · next q r hb =>
      split
      · exact step s rfl rfl
      · dsimp only
        have hr := room_quiet s k (frameSize q.frame)
        split
        · refine ⟨hr.1, hr.2, fun j q' h => ?_⟩
          injection h with h
          injection h with h1 h2
          subst h1 h2
          exact ⟨List.mem_cons_self, r, hb⟩
        · exact step _ hr.1 hr.2

theorem serveOrder_port (s : State) (p k : Nat) (h : k ∈ s.serveOrder p) : k / 12 = p := by
  unfold serveOrder at h
  simp only [List.mem_flatMap, List.mem_map] at h
  obtain ⟨c, -, t, ht, rfl⟩ := h
  unfold bufferKey
  have : t < 3 := by
    simp only [List.mem_cons, List.not_mem_nil, or_false] at ht
    omega
  omega

theorem passTurn_quiet (s : State) (p c : Nat) : (s.passTurn p c).out = s.out ∧ (s.passTurn p c).lnk.queued = s.lnk.queued := by
  unfold passTurn
  split <;> exact ⟨rfl, rfl⟩

/-! ## Records and memory -/

theorem addRecord_unstored (s : State) (a b c : Nat) (l : List Byte) : (s.addRecord a b c l).unstored = s.unstored := by
  unfold addRecord enterRecord
  dsimp only
  repeat' split
  all_goals rfl

theorem chargeAs_unstored (s : State) (m : Requester) (c a n : Nat) : (s.chargeAs m c a n).unstored = s.unstored := by
  unfold chargeAs
  dsimp only
  repeat' split
  all_goals rfl

theorem writeMem_unstored (s : State) (a : Nat) (bs : List Byte) : (s.writeMem a bs).unstored = s.unstored := by
  induction bs generalizing s a with
  | nil => rfl
  | cons b bs ih => exact (ih _ _).trans rfl

theorem poison_unstored (s : State) (g : Nat) : (s.poison g).unstored = s.unstored := by
  unfold poison
  dsimp only
  split <;> exact (addRecord_unstored _ _ _ _ _).trans rfl

theorem noteRefusal_unstored (s : State) (m : Requester) (a : Nat) : (s.noteRefusal m a).unstored = s.unstored := by
  unfold noteRefusal
  dsimp only
  repeat' split
  all_goals first | rfl | exact (addRecord_unstored _ _ _ _ _).trans rfl

theorem storeGranule_unstored (s : State) (m : Requester) (a : Nat) (bs : List Byte) :
    (s.storeGranule m a bs).unstored = s.unstored := by
  unfold storeGranule chargeGranule
  dsimp only
  split
  · exact (writeMem_unstored _ _ _).trans (chargeAs_unstored _ _ _ _ _)
  · split
    · exact (poison_unstored _ _).trans ((chargeAs_unstored _ _ _ _ _).trans (chargeAs_unstored _ _ _ _ _))
    · exact (writeMem_unstored _ _ _).trans ((chargeAs_unstored _ _ _ _ _).trans (chargeAs_unstored _ _ _ _ _))

theorem store_unstored (s : State) (m : Requester) (a : Nat) (bs : List Byte) : (s.store m a bs).unstored = s.unstored := by
  unfold store
  split
  · rfl
  · split
    · rfl
    · split
      · dsimp only
        split <;> exact noteRefusal_unstored _ _ _
      · exact foldl_keeps _ _ (fun s g => storeGranule_unstored _ _ _ _) _ _

/-- A store to a slice's address space, whichever way it goes, changes memory, records, counters and frames only. -/
theorem storeVa_steady (s : State) (m : Requester) (pasid va : Nat) (bs : List Byte) (what : AckFor) :
    (s.storeVa m pasid va bs what).2.steady = s.steady := by
  have st : ∀ {s t : State}, t.unstored = s.unstored → t.steady = s.steady := fun h => congrArg Prod.fst h
  have un : ∀ {s t : State}, t.unsent = s.unsent → t.steady = s.steady := fun h => congrArg Prod.fst h
  unfold storeVa windowWrite
  repeat' split
  all_goals first
    | rfl
    | exact st (noteRefusal_unstored _ _ _)
    | exact st (store_unstored _ _ _ _)
    | exact un (sendWrites_unsent _ _ _ _ _ _)
    | exact un (sendFrame_unsent _ _ _)

end Sys2Proof.Machine.State
end

