-- ==== Sys2Proof/Laws/Memory.lean ====
section
/-! SUPPORT. HBM: its canonical form, and reading after storing. -/

namespace Sys2Proof.Machine

open Sys2Proof

theorem Memory.rising_iff : ∀ (m : NMap Byte) (lo : Nat), Memory.rising lo m = true ↔ NMap.rises lo m
  | [], _ => by simp [Memory.rising, NMap.rises]
  | (a, _) :: m, lo => by simp [Memory.rising, NMap.rises, Memory.rising_iff m (a + 1)]

/-- The canonical form, as the frame library carries it. -/
abbrev Canonical (_ : List Instr) (c : NMap Byte) (e : Nat) (z : List (Nat × Nat × Nat)) (_ : Bool) : Prop :=
  NMap.rises 0 c ∧ ∀ x ∈ c, x.2 ≠ blankOf e z x.1

theorem Memory.wf_iff (s : State) : Memory.wf s = true ↔ okS Canonical s := by
  simp only [Memory.wf, Bool.and_eq_true, Memory.rising_iff, List.all_eq_true, decide_eq_true_eq]
  rfl

/-- Filling a range leaves what an unlisted byte outside it reads as. -/
theorem blankOf_fill (e : Nat) (z : List (Nat × Nat × Nat)) (a n seed x : Nat) (h : x < a ∨ a + n ≤ x) :
    blankOf e (if e = 0 ∧ seed = 0 ∧ z = [] then [] else (a, a + n, seed) :: z) x = blankOf e z x := by
  by_cases he : e = 0 ∧ seed = 0 ∧ z = []
  · simp [blankOf, he]
  · have : ¬ (a ≤ x ∧ x < a + n) := by omega
    simp only [blankOf, he, if_false, List.find?_cons, this, decide_false]

/-- Every change that a command makes to HBM keeps the canonical form. -/
theorem closed_memory : Closed Canonical where
  write p c e z f a b h := by
    refine ⟨?_, fun x hx => ?_⟩
    · unfold NMap.set
      split
      · exact NMap.rises_erase c 0 a h.1
      · exact NMap.rises_insert c 0 a b h.1 (Nat.zero_le a)
    · unfold NMap.set at hx
      split at hx
      · exact h.2 x (NMap.mem_erase c a x hx)
      · next hb =>
        rcases NMap.mem_insert c a b x hx with hx | hx
        · rw [hx]; exact hb
        · exact h.2 x hx
  fill p c e z f a n seed h := by
    refine ⟨NMap.rises_filter _ c 0 h.1, fun x hx => ?_⟩
    obtain ⟨hx, hp⟩ := List.mem_filter.1 hx
    rw [blankOf_fill e z a n seed x.1 (by simpa using hp)]
    exact h.2 x hx
  lose p c e z f h := ⟨trivial, by simp⟩
  blow p c e z f h := h

/-! ## Reading after storing -/

namespace State

theorem blank_writeByte (s : State) (a : Nat) (b : Byte) (x : Nat) : (s.writeByte a b).blank x = s.blank x := rfl

theorem readByte_writeByte_same (s : State) (a : Nat) (b : Byte) : (s.writeByte a b).readByte a = b :=
  NMap.get_set_same (s.blank a) s.mem.cells a b

theorem readByte_writeByte_other (s : State) (a x : Nat) (b : Byte) (hx : x ≠ a) :
    (s.writeByte a b).readByte x = s.readByte x := by
  show NMap.get (s.blank x) (NMap.set (s.blank a) s.mem.cells a b) x = NMap.get (s.blank x) s.mem.cells x
  unfold NMap.set
  split
  · exact NMap.get_erase_other _ _ a x hx
  · exact NMap.get_insert_other _ _ a x b hx

theorem wf_writeByte (s : State) (a : Nat) (b : Byte) (h : Memory.wf s = true) : Memory.wf (s.writeByte a b) = true :=
  (Memory.wf_iff _).2 (keep_State_writeByte closed_memory s a b ((Memory.wf_iff s).1 h))

theorem wf_writeMem (s : State) (a : Nat) (bs : List Byte) (h : Memory.wf s = true) : Memory.wf (s.writeMem a bs) = true :=
  (Memory.wf_iff _).2 (keep_State_writeMem closed_memory s a bs ((Memory.wf_iff s).1 h))

theorem wf_zeroMem (s : State) (a n : Nat) (h : Memory.wf s = true) : Memory.wf (s.zeroMem a n) = true :=
  (Memory.wf_iff _).2 (keep_State_zeroMem closed_memory s a n ((Memory.wf_iff s).1 h))

/-- A store changes no byte outside its range. -/
theorem readByte_writeMem_outside (s : State) (a x : Nat) (bs : List Byte) (hx : x < a ∨ a + bs.length ≤ x) :
    (s.writeMem a bs).readByte x = s.readByte x := by
  induction bs generalizing s a with
  | nil => rfl
  | cons b bs ih =>
    simp only [List.length_cons] at hx
    exact (ih (s.writeByte a b) (a + 1) (by omega)).trans (readByte_writeByte_other s a x b (by omega))

/-- A store is read back byte by byte. -/
theorem readByte_writeMem_inside (s : State) (a i : Nat) (bs : List Byte) (hi : i < bs.length) :
    (s.writeMem a bs).readByte (a + i) = bs.getD i 0 := by
  induction bs generalizing s a i with
  | nil => simp at hi
  | cons b bs ih =>
    cases i with
    | zero =>
      exact (readByte_writeMem_outside (s.writeByte a b) (a + 1) a bs (by omega)).trans (readByte_writeByte_same s a b)
    | succ i =>
      have h1 := ih (s.writeByte a b) (a + 1) i (by simpa using hi)
      have h2 : a + (i + 1) = a + 1 + i := by omega
      rw [h2]
      exact h1

/-- Filling a range leaves every other byte; the range reads 0 where it was filled with zeros. -/
theorem readByte_fillMem (s : State) (a n seed x : Nat) : (s.fillMem a n seed).readByte x =
    if a ≤ x ∧ x < a + n then (if seed = 0 then 0 else BitVec.ofNat 8 (Config.fn 0x801 [seed, x])) else s.readByte x := by
  have hb : (s.fillMem a n seed).blank x =
      if a ≤ x ∧ x < a + n then (if seed = 0 then 0 else BitVec.ofNat 8 (Config.fn 0x801 [seed, x])) else s.blank x := by
    unfold blank fillMem
    by_cases he : s.mem.epoch = 0 ∧ seed = 0 ∧ s.mem.zeroed = []
    · simp [he]
    · by_cases hx : a ≤ x ∧ x < a + n
      · simp [he, hx]
      · rw [if_neg hx]
        simp only [he, if_false, List.find?_cons, decide_eq_false hx]
  show NMap.get ((s.fillMem a n seed).blank x) (s.mem.cells.filter fun c => decide (c.1 < a ∨ a + n ≤ c.1)) x = _
  rw [hb, NMap.get_filter _ (fun k => decide (k < a ∨ a + n ≤ k))]
  by_cases hx : a ≤ x ∧ x < a + n
  · have : ¬ (x < a ∨ a + n ≤ x) := by omega
    simp [hx, this]
  · have : x < a ∨ a + n ≤ x := by omega
    rw [if_neg hx, if_pos (decide_eq_true this), if_neg hx]
    rfl

theorem readByte_zeroMem (s : State) (a n x : Nat) :
    (s.zeroMem a n).readByte x = if a ≤ x ∧ x < a + n then 0 else s.readByte x := by
  unfold zeroMem
  rw [readByte_fillMem]
  rfl

end State

end Sys2Proof.Machine
end

