-- ==== Sys2Proof/Laws/Numbers.lean ====
section
/-! SUPPORT. The small lemmas of signed numbers and of INT32 wrapping. -/

namespace Sys2Proof.Machine

open Sys2Proof

theorem Num.toInt_neg (y : Num) : y.neg.toInt = -y.toInt := by
  cases y with
  | nan => rfl
  | inf s => rfl
  | fin s m e =>
    unfold Num.neg Num.toInt Num.scaledInt
    cases s <;> simp

theorem wrap32_mod (i : Int) : wrap32 i % 4294967296 = i % 4294967296 := by
  have h : (2 : Int) ^ 32 = 4294967296 := by decide
  unfold wrap32 toSigned ofSigned
  rw [h]
  split <;> omega

/-- Wrapping depends on the residue modulo 2³² only. -/
theorem wrap32_of_mod {i j : Int} (h : i % 4294967296 = j % 4294967296) : wrap32 i = wrap32 j := by
  have e : ofSigned 32 i = ofSigned 32 j := congrArg Int.toNat h
  unfold wrap32
  rw [e]

@[simp] theorem wrap32_wrap32 (i : Int) : wrap32 (wrap32 i) = wrap32 i := wrap32_of_mod (wrap32_mod i)

end Sys2Proof.Machine
end

