-- ==== Sys2Proof/Laws/Rows.lean ====
section
/-! SUPPORT. Reading an entry after writing one, and the dictionary access behind a row: once performed, exactly the
entry's effect and its answer. -/

namespace Sys2Proof.Machine.State

open Sys2Proof

/-! ## Entries -/

/-- Entries of one occurrence that differ in index or subindex have different keys. -/
theorem entryKey_ne {i k x y a b : Nat} (ha : a < 256) (hb : b < 256) (hx : x < 65536) (hy : y < 65536)
    (h : i ≠ k ∨ x ≠ y ∨ a ≠ b) : entryKey i x a ≠ entryKey k y b := by
  unfold entryKey
  omega

theorem val_setVal_same (s : State) (x a : Nat) (v : DVal) (i : Nat) : (s.setVal x a v i).val x a i = v := by
  show (NMap.get none (NMap.set none s.dict (entryKey i x a) (some v)) (entryKey i x a)).getD (defaultVal x a) = v
  have : NMap.set none s.dict (entryKey i x a) (some v) = NMap.insert s.dict (entryKey i x a) (some v) := by simp [NMap.set]
  rw [this, NMap.get_insert_same]
  rfl

theorem val_setVal_other (s : State) (x a : Nat) (v : DVal) (i y b k : Nat) (h : entryKey k y b ≠ entryKey i x a) :
    (s.setVal x a v i).val y b k = s.val y b k := by
  show (NMap.get none (NMap.set none s.dict (entryKey i x a) (some v)) (entryKey k y b)).getD (defaultVal y b) =
    (NMap.get none s.dict (entryKey k y b)).getD (defaultVal y b)
  have : NMap.set none s.dict (entryKey i x a) (some v) = NMap.insert s.dict (entryKey i x a) (some v) := by simp [NMap.set]
  rw [this, NMap.get_insert_other _ _ _ _ _ h]

theorem get_set_same (s : State) (x a n i : Nat) : (s.set x a n i).get x a i = n := by
  unfold State.get State.set
  rw [val_setVal_same]

theorem get_set_other (s : State) (x a n i y b k : Nat) (h : entryKey k y b ≠ entryKey i x a) :
    (s.set x a n i).get y b k = s.get y b k := by
  unfold State.get State.set
  rw [val_setVal_other s x a _ i y b k h]

/-! ## What a request does not change as it arrives -/

@[simp] theorem roused_get (s : State) (x a i : Nat) : s.roused.get x a i = s.get x a i := (rfl)

@[simp] theorem roused_getB (s : State) (x a i : Nat) : s.roused.getB x a i = s.getB x a i := (rfl)

@[simp] theorem roused_sliceState (s : State) (k : Nat) : s.roused.sliceState k = s.sliceState k := (rfl)

@[simp] theorem roused_slicePasid (s : State) (k : Nat) : s.roused.slicePasid k = s.slicePasid k := (rfl)

@[simp] theorem roused_sliceX (s : State) (k : Nat) : s.roused.sliceX k = s.sliceX k := (rfl)

@[simp] theorem roused_queue (s : State) (q : Nat) : s.roused.queue q = s.queue q := (rfl)

@[simp] theorem roused_queueAccess (s : State) (d : Dom) (q : Nat) : s.roused.queueAccess d q = s.queueAccess d q := (rfl)

@[simp] theorem roused_engine (s : State) (e : Nat) : s.roused.engine e = s.engine e := (rfl)

@[simp] theorem roused_partActive (s : State) (k : Nat) : s.roused.partActive k = s.partActive k := (rfl)

@[simp] theorem roused_now (s : State) : s.roused.now = s.now := (rfl)

@[simp] theorem roused_sec (s : State) : s.roused.sec = s.sec := (rfl)

@[simp] theorem roused_rg (s : State) : s.roused.rg = s.rg := (rfl)

@[simp] theorem roused_saf (s : State) : s.roused.saf = s.saf := (rfl)

@[simp] theorem roused_acu (s : State) : s.roused.acu = s.acu := (rfl)

@[simp] theorem roused_gtw (s : State) : s.roused.gtw = s.gtw := (rfl)

/-! ## A request that is served at once -/

/-- In RUN a request wakes nothing. -/
theorem roused_workArrives (s : State) (h : s.inRun = true) : s.roused.workArrives = s.roused := if_pos h

/-- Work that arrives below RUN changes no queue, no byte of HBM and no sequence. -/
theorem workArrives_frame (s : State) : s.workArrives.que = s.que ∧ s.workArrives.mem = s.mem ∧ s.workArrives.kv = s.kv := by
  unfold workArrives leaveIdle workWake releaseIslands
  dsimp only
  (repeat' split) <;> exact ⟨rfl, rfl, rfl⟩

@[simp] theorem workArrives_queue (s : State) (q : Nat) : s.workArrives.queue q = s.queue q := by
  unfold queue
  rw [s.workArrives_frame.1]

theorem onPath_serves (s : State) (h : Held) (run : State → State) (hs : s.servesNow (Held.path h)) :
    s.onPath h run = run s.roused := by
  obtain ⟨h1, h2, h3, h4⟩ := hs
  have a1 : s.roused.pwr.inReset = false := h1
  have a2 : s.roused.fwRunning = true := h2
  have a3 : s.roused.heldOn (Held.path h) = 0 := h3
  show (let u := s.roused.workArrives; let p := Held.path h; if u.pwr.inReset then u else if u.fwRunning ∧ u.heldOn p = 0 then
      run u else if (p = .usdo ∨ p = .fmp) ∧ 16 ≤ u.heldOn p then u
      else { u with dic := { u.dic with held := u.dic.held ++ [h] } }) = run s.roused
  simp [roused_workArrives s h4, a1, a2, a3]

theorem onPath_reset (s : State) (h : Held) (run : State → State) (hs : s.pwr.inReset = true) (hr : s.inRun = true) :
    s.onPath h run = s.roused := by
  have a1 : s.roused.pwr.inReset = true := hs
  show (let u := s.roused.workArrives; let p := Held.path h; if u.pwr.inReset then u else if u.fwRunning ∧ u.heldOn p = 0 then
      run u else if (p = .usdo ∨ p = .fmp) ∧ 16 ≤ u.heldOn p then u
      else { u with dic := { u.dic with held := u.dic.held ++ [h] } }) = s.roused
  simp [roused_workArrives s hr, a1]

theorem leNat_leBytes : ∀ (n v : Nat), v < 256 ^ n → leNat (leBytes n v) = v
  | 0, v, h => by simp at h; simp [leBytes, leNat, h]
  | n + 1, v, h => by
    have h1 : v / 256 < 256 ^ n := by
      rw [Nat.div_lt_iff_lt_mul (by decide)]
      rw [Nat.pow_succ] at h
      exact h
    have ih := leNat_leBytes n (v / 256) h1
    simp only [leBytes, leNat, ih, BitVec.toNat_ofNat]
    omega

theorem length_leBytes : ∀ (n v : Nat), (leBytes n v).length = n
  | 0, _ => rfl
  | n + 1, v => by simp [leBytes, length_leBytes n]

/-- The entry found for an access is the dictionary's. -/
theorem entryFor_lookup {s : State} {d : Dom} {idx sub : Nat} {w : Bool} {e : EntryDef} {i : Nat}
    (h : s.entryFor d idx sub w = .ok (e, i)) : lookupEntry idx sub = some e := by
  unfold entryFor at h
  cases hx : lookupEntry idx sub with
  | none => rw [hx] at h; split at h <;> [cases h; (split at h <;> cases h)]
  | some x =>
    have : x = e := by
      rw [hx] at h
      simp only at h
      repeat' split at h
      all_goals first
        | (injection h with h; injection h with h1 h2)
        | exact absurd h (by simp)
    rw [this]

theorem domain_size (t : Ty) (h : 0 < t.size) : t ≠ .dom := by
  cases t <;> simp [Ty.size] at h ⊢

/-- A number that the entry takes: the access is the entry's effect. -/
theorem dictWrite_num {s : State} {a : Access} {x : Extra} {n i : Nat} {e : EntryDef}
    (hg : s.managerOnly a.dom a.idx = false) (h : s.entryFor a.dom a.idx a.sub true = .ok (e, i)) (hz : 0 < e.ty.size) (hn : n < 256 ^ e.ty.size)
    (hr : rangeFail e n = none) (hh : a.dom = .secure ∨ (s.stops a.idx a.sub n).any s.heldBlock = false)
    (ho : a.off = 0) (hd : a.data = leBytes e.ty.size n) :
    s.dictWrite a x = s.settle (s.applyWrite a.dom x a.bwSum i a.idx a.sub (.num n)) := by
  have h1 : e.ty ≠ .dom := domain_size _ hz
  have h2 : e.ty.size ≠ 0 := by omega
  have hb : bytesVal e a.data = .num n := by simp [bytesVal, h2, hd, leNat_leBytes _ _ hn]
  have h3 : ¬ (a.dom ≠ .secure ∧ (s.stops a.idx a.sub n).any s.heldBlock = true) := by
    rintro ⟨p, q⟩
    rcases hh with hh | hh
    · exact p hh
    · rw [hh] at q; cases q
  unfold dictWrite
  rw [h]
  simp only [hg, Bool.false_and, Bool.false_eq_true, if_false]
  simp only [h1, ho, if_false, h2, hd, length_leBytes, ne_eq, not_true_eq_false, and_false, false_and]
  unfold commit
  rw [← hd, hb]
  simp only [hr]
  rw [if_neg (by simpa using h3)]

/-- A string that the entry takes. -/
theorem dictWrite_str {s : State} {a : Access} {x : Extra} {i : Nat} {e : EntryDef}
    (hg : s.managerOnly a.dom a.idx = false) (h : s.entryFor a.dom a.idx a.sub true = .ok (e, i)) (hz : e.ty.size = 0) (hd : e.ty ≠ .dom) (hl : a.data.length ≤ 255)
    (hs : e.size = 0 ∨ a.data.length = e.size) (ho : a.off = 0) :
    s.dictWrite a x = s.settle (s.applyWrite a.dom x a.bwSum i a.idx a.sub (.oct a.data)) := by
  have h3 : ¬ (255 < a.data.length ∨ (e.size ≠ 0 ∧ a.data.length ≠ e.size)) := by omega
  unfold dictWrite
  rw [h]
  simp only [hg, Bool.false_and, Bool.false_eq_true, if_false]
  simp only [hd, ho, if_false, ne_eq, not_true_eq_false, hz, false_and, true_and, h3]
  unfold commit
  simp [bytesVal, hz]

/-- A DOMAIN that the entry takes whole. -/
theorem dictWrite_whole {s : State} {a : Access} {x : Extra} {i : Nat} {e : EntryDef}
    (hg : s.managerOnly a.dom a.idx = false) (h : s.entryFor a.dom a.idx a.sub true = .ok (e, i)) (hd : e.ty = .dom) (hw : e.whole = true) (hl : a.data.length = e.size)
    (hp : NMap.get none s.dic.pieced (entryKey i a.idx a.sub) = none) (ho : a.off = 0) (hm : a.more = false) :
    s.dictWrite a x = s.settle (s.applyWrite a.dom x a.bwSum i a.idx a.sub (.oct a.data)) := by
  unfold dictWrite
  rw [h]
  simp only [hg, Bool.false_and, Bool.false_eq_true, if_false]
  simp only [hd, if_true]
  unfold piece
  simp only [hp, hw, ho, hm, hl, ne_eq, not_true_eq_false, Bool.false_eq_true, or_self, if_false, if_true]
  unfold commit
  simp [bytesVal, hd, Ty.size]

/-- A DOMAIN that takes pieces, given in one. -/
theorem dictWrite_piece {s : State} {a : Access} {x : Extra} {i : Nat} {e : EntryDef}
    (hg : s.managerOnly a.dom a.idx = false) (h : s.entryFor a.dom a.idx a.sub true = .ok (e, i)) (hd : e.ty = .dom) (hw : e.whole = false)
    (hl : e.size = 0 ∧ a.data.length ≤ 16777216 ∨ 0 < e.size ∧ a.data.length = e.size)
    (hp : NMap.get none s.dic.pieced (entryKey i a.idx a.sub) = none) (ho : a.off = 0) (hm : a.more = false) :
    s.dictWrite a x = ((s.forget_ (entryKey i a.idx a.sub) a.path a.src).setPieced (entryKey i a.idx a.sub) none).settle
      (State.applyWrite ((s.forget_ (entryKey i a.idx a.sub) a.path a.src).setPieced (entryKey i a.idx a.sub) none) a.dom x a.bwSum i
        a.idx a.sub (.oct a.data)) := by
  have h1 : ¬ ((if e.size = 0 then 16777216 else e.size) < a.data.length) := by split <;> omega
  have h2 : ¬ ((if e.size = 0 then a.more else decide (a.data.length < e.size)) = true) := by
    rw [hm]
    split
    · decide
    · rw [decide_eq_true_eq]; omega
  unfold dictWrite
  rw [h]
  simp only [hg, Bool.false_and, Bool.false_eq_true, if_false]
  rw [if_pos hd]
  unfold piece
  simp only [hp, hw, ho, Option.isNone_none, Option.map_none, Option.getD_none, List.nil_append, List.length_nil, ne_eq,
    not_true_eq_false, Bool.false_eq_true, and_false, false_or, if_false, if_true]
  rw [if_neg h1, if_neg h2]
  unfold commit
  simp [bytesVal, hd, Ty.size]

/-- The row of a number, performed and accepted. -/
theorem rowNum_acts {s t : State} {d : Dom} {idx sub n i : Nat} {x : Extra} (hs : s.servesNow (pathOf d))
    (hn : s.takesNum d idx sub n i) (ht : s.roused.applyWrite d x none i idx sub (.num n) = .ok t) :
    s.rowNum d idx sub n x = t.answered d := by
  obtain ⟨hg, e, he, hz, hv, hr, hh⟩ := hn
  have hl := entryFor_lookup he
  unfold rowNum
  rw [hl]
  unfold rowWrite
  refine (onPath_serves s (.access { path := pathOf d, dom := d, write := true, idx := idx, sub := sub, data := leBytes e.ty.size n }) _ hs).trans ?_
  unfold runAccess
  simp only [if_true]
  rw [dictWrite_num (s := s.roused) (a := { path := pathOf d, dom := d, write := true, idx := idx, sub := sub, data := leBytes e.ty.size n })
    (e := e) (n := n) (i := i) hg he hz hv hr hh rfl rfl]
  simp only [ht, settle, answered]

/-- The row of a number whose effect is decided, whatever the effect is: an abort answers and changes nothing. -/
theorem rowNum_settles {s : State} {d : Dom} {idx sub n i : Nat} {x : Extra} {r : WRes} (hs : s.servesNow (pathOf d))
    (hn : s.takesNum d idx sub n i) (ht : s.roused.applyWrite d x none i idx sub (.num n) = r) :
    s.rowNum d idx sub n x = (s.roused.settle r).2.emit (.answer (pathOf d) (s.roused.settle r).1 []) := by
  obtain ⟨hg, e, he, hz, hv, hr, hh⟩ := hn
  have hl := entryFor_lookup he
  unfold rowNum
  rw [hl]
  unfold rowWrite
  refine (onPath_serves s (.access { path := pathOf d, dom := d, write := true, idx := idx, sub := sub, data := leBytes e.ty.size n }) _ hs).trans ?_
  unfold runAccess
  simp only [if_true]
  rw [dictWrite_num (s := s.roused) (a := { path := pathOf d, dom := d, write := true, idx := idx, sub := sub, data := leBytes e.ty.size n })
    (e := e) (n := n) (i := i) hg he hz hv hr hh rfl rfl]
  simp only [ht]

/-- The row of a write that finds no entry it may reach: the abort is answered, and nothing else happens. -/
theorem rowWrite_denied {s : State} {d : Dom} {idx sub c : Nat} {b : List Byte} {x : Extra} (hs : s.servesNow (pathOf d))
    (hn : s.entryFor d idx sub true = .error c) :
    s.rowWrite d idx sub b x = s.roused.emit (.answer (pathOf d) c []) := by
  unfold rowWrite
  refine (onPath_serves s (.access { path := pathOf d, dom := d, write := true, idx := idx, sub := sub, data := b }) _ hs).trans ?_
  unfold runAccess
  simp only [if_true]
  have h : s.roused.entryFor d idx sub true = .error c := hn
  have h2 : s.roused.dictWrite { path := pathOf d, dom := d, write := true, idx := idx, sub := sub, data := b } x = (c, s.roused) := by
    unfold dictWrite
    simp only [h]
  rw [h2]

/-- The row of a string, performed and accepted. -/
theorem rowStr_acts {s t : State} {d : Dom} {idx sub i : Nat} {b : List Byte} {x : Extra} (hs : s.servesNow (pathOf d))
    (hn : s.takesStr d idx sub b i) (ht : s.roused.applyWrite d x none i idx sub (.oct b) = .ok t) :
    s.rowWrite d idx sub b x = t.answered d := by
  obtain ⟨hg, e, he, hz, hd, hl, hh⟩ := hn
  unfold rowWrite
  refine (onPath_serves s (.access { path := pathOf d, dom := d, write := true, idx := idx, sub := sub, data := b }) _ hs).trans ?_
  unfold runAccess
  simp only [if_true]
  rw [dictWrite_str (s := s.roused) (a := { path := pathOf d, dom := d, write := true, idx := idx, sub := sub, data := b })
    (e := e) (i := i) hg he hz hd hl hh rfl]
  simp only [ht, settle, answered]

/-- The row of a DOMAIN written whole, performed and accepted. -/
theorem rowWhole_acts {s t : State} {d : Dom} {idx sub i : Nat} {b : List Byte} {x : Extra} (hs : s.servesNow (pathOf d))
    (hn : s.takesWhole d idx sub b i) (ht : s.roused.applyWrite d x none i idx sub (.oct b) = .ok t) :
    s.rowWrite d idx sub b x = t.answered d := by
  obtain ⟨hg, e, he, hd, hw, hl, hp⟩ := hn
  unfold rowWrite
  refine (onPath_serves s (.access { path := pathOf d, dom := d, write := true, idx := idx, sub := sub, data := b }) _ hs).trans ?_
  unfold runAccess
  simp only [if_true]
  rw [dictWrite_whole (s := s.roused) (a := { path := pathOf d, dom := d, write := true, idx := idx, sub := sub, data := b })
    (e := e) (i := i) hg he hd hw hl hp rfl rfl]
  simp only [ht, settle, answered]

/-- The row of a DOMAIN given in one piece, performed and accepted. -/
theorem rowPiece_acts {s t : State} {d : Dom} {idx sub i : Nat} {b : List Byte} {x : Extra} (hs : s.servesNow (pathOf d))
    (hn : s.takesPiece d idx sub b i) (ht : (s.roused.gathered d idx sub i).applyWrite d x none i idx sub (.oct b) = .ok t) :
    s.rowWrite d idx sub b x = t.answered d := by
  obtain ⟨hg, e, he, hd, hw, hl, hp⟩ := hn
  unfold rowWrite
  refine (onPath_serves s (.access { path := pathOf d, dom := d, write := true, idx := idx, sub := sub, data := b }) _ hs).trans ?_
  unfold runAccess
  simp only [if_true]
  rw [dictWrite_piece (s := s.roused) (a := { path := pathOf d, dom := d, write := true, idx := idx, sub := sub, data := b })
    (e := e) (i := i) hg he hd hw hl hp rfl rfl]
  unfold gathered at ht
  simp only [ht, settle, answered]

/-! ## Descriptors -/

/-- A ready descriptor is what the families find. -/
theorem readyDesc_of {s : State} {q n op : Nat} {d : Desc} {f : Nat → Bool} (h : s.ready q n op d) (hf : f op = true) :
    s.readyDesc q n f = some d := by
  obtain ⟨h1, h2, h3, h4, h5, h6, h7⟩ := h
  unfold readyDesc
  rw [h1]
  dsimp only
  rw [h4, hf, h5, h6, h7, if_pos ⟨h2, h3, rfl, by decide, by decide, by decide⟩]

/-- A descriptor that begins is what the direct families find. -/
theorem beginDirect_of {s : State} {q n op : Nat} {d : Desc} {f : Nat → Bool} (h : s.begins q n op d) (hf : f op = true) :
    s.beginDirect q n f = some ({ d with phase := .running }, s.begun q n d) := by
  obtain ⟨h1, h2, h3, h4, h5⟩ := h
  unfold beginDirect
  rw [h1]
  dsimp only
  exact (if_pos ⟨h2, by rw [h3]; exact hf, by rw [h4]; rfl, by rw [h5]; rfl⟩ : _).trans rfl

/-- A ready descriptor has its family's effect and completes. -/
theorem runDesc_ready {s : State} {q n : Nat} {op : Nat → Bool} {d : Desc} (f : Work → Desc → Work)
    (h : s.readyDesc q n op = some d) : s.runDesc q n op f = s.performed q n d f := by
  unfold runDesc
  rw [h]
  rfl

theorem runDirect_begins {s t : State} {q n : Nat} {op : Nat → Bool} {d : Desc} (f : Work → Desc → Work)
    (h : s.beginDirect q n op = some (d, t)) : s.runDirect q n op f = t.performed q n d f := by
  unfold runDirect
  rw [h]
  rfl

end Sys2Proof.Machine.State
end

