-- ==== Sys2Proof/WellFormed.lean ====
section
/-! DEFINITION. Well-formed commands: every operand fits the field or the number of units that the spec gives it. A value that is
in its field's range of bits and that an entry refuses is well-formed: it answers an abort code. -/

namespace Sys2Proof

/-- What an operand can exceed. -/
inductive Defect where
  /-- Not a channel of an AAF stream. -/
  | aafChannel
  /-- Not an AAF stream. -/
  | aafStream
  /-- Not bytes of a system bus access. -/
  | accessSize
  /-- Not a 64-bit address. -/
  | address
  /-- Not an input channel M0-M31 or A0-A15. -/
  | audioChannel
  /-- Not CAN0-CAN15 or LIN0-LIN7. -/
  | busPort
  /-- Not a bandwidth class. -/
  | bwClass
  /-- Not a camera. -/
  | camera
  /-- Not a CAN channel. -/
  | canChannel
  /-- Not a display output. -/
  | display
  /-- Not an enclave. -/
  | enclave
  /-- Not a tensor engine. -/
  | engine
  /-- Not a function of Table PWR-8. -/
  | function
  /-- Not a 2 MiB granule. -/
  | granule
  /-- Not a hart, or the debug module (29). -/
  | hart
  /-- Not a dictionary index. -/
  | index
  /-- Not IGN, WAKE or GI0-GI7. -/
  | inputLine
  /-- Not a lane of the staging buffer. -/
  | lane
  /-- Not a display layer. -/
  | layer
  /-- Not a LIN channel. -/
  | linChannel
  /-- Not a link width or speed. -/
  | linkWidth
  /-- Not a MAC address. -/
  | mac
  /-- Not a node ID. -/
  | node
  /-- Not a number of at most 64 bits. -/
  | number
  /-- Not an offset in a register region. -/
  | offset
  /-- Not an outbound window. -/
  | outboundWindow
  /-- Not a discrete output. -/
  | output
  /-- Not a partition. -/
  | partition
  /-- Not PCIe port A-D. -/
  | pciePort
  /-- Not a raster pipe. -/
  | pipe
  /-- Not a KV pool. -/
  | pool
  /-- Not a queue. -/
  | queue
  /-- Not a debug register number. -/
  | register
  /-- Not a record of the window table. -/
  | safetyWindow
  /-- Not a save slot. -/
  | saveSlot
  /-- Not an AVTPDU sequence number. -/
  | sequence
  /-- Not a slice. -/
  | slice
  /-- Not a stream of the frame engine. -/
  | stream
  /-- Not a subindex. -/
  | subindex
  /-- Not a switch port P0-P21. -/
  | switchPort
  /-- Not a frame tag. -/
  | tag
  /-- Not a TAP instruction. -/
  | tapCode
  /-- Not a TDM lane. -/
  | tdmLane
  /-- Not a time base. -/
  | timeBase
  /-- Not a wake source. -/
  | wakeSource
  /-- Not a PASID of 20 bits. -/
  | pasid
  /-- Not the payload of a frame or datagram. -/
  | payload
  /-- Not a bus identifier. -/
  | identifier
  /-- Not a VLAN tag. -/
  | vlan
  /-- Not the DETAIL of a parity failure. -/
  | detail
  /-- Not a unit of the self-tests. -/
  | unit
deriving DecidableEq, Repr

/-- The defect, where a number reaches its bound. -/
def below (x : Defect) (v bound : Nat) : List Defect := if v < bound then [] else [x]

def Dom.defects : Dom → List Defect
  | .slice p => below .pasid p (2 ^ 20)
  | .secure | .hypervisor | .network | .debug => []

def Space.defects : Space → List Defect
  | .slice p => below .pasid p (2 ^ 20)
  | .hyp | .sec | .bar0 => []

def Path.defects : Path → List Defect
  | .window w => w.defects
  | .usdo | .fmp | .link | .jtag => []

def UsdoReq.defects : UsdoReq → List Defect
  | .download idx sub _ | .upload idx sub => below .index idx 65536 ++ below .subindex sub 256
  | .downloadInit idx sub size => below .index idx 65536 ++ below .subindex sub 256 ++ below .number size (2 ^ 32)
  | .downloadSegment _ | .uploadSegment | .unsupported => []

def Datagram.defects (d : Datagram) : List Defect :=
  below .switchPort d.port 22 ++ below .number d.srcPort 65536 ++ below .payload d.bytes.length 65508

def RegTarget.defects : RegTarget → List Defect
  | .entry d idx sub off _ => d.defects ++ below .index idx 65536 ++ below .subindex sub 256 ++ below .offset off (2 ^ 32)
  | .dwOffset w _ | .dwStatus w _ => w.defects
  | .dwBuffer w off data => w.defects ++ below .offset (off + data.length) 65281
  | .csr h c _ => below .hart h 29 ++ below .register c 4096
  | .mapPage pasid va bytes pa =>
    below .pasid pasid (2 ^ 20) ++ below .address (va + bytes) (2 ^ 64) ++ below .address (pa + bytes) (2 ^ 64)
  | .unmapPage pasid va => below .pasid pasid (2 ^ 20) ++ below .address va (2 ^ 64)

def DrainResult.defects : DrainResult → List Defect
  | .parityDirty d | .parityClean d => below .detail d (2 ^ 32)
  | .clean => []

def parityDefects : Option Parity → List Defect
  | some (.clean d) | some (.dirty d) => below .detail d (2 ^ 32)
  | none => []

def HoldoffOwner.defects : HoldoffOwner → List Defect
  | .queue q => below .queue q 262144
  | .slice s => below .slice s 64

/-- The fields of Table MMS-5 and a payload of at most 4,064 B. -/
def Frame.defects (f : Frame) : List Defect :=
  below .node f.dst 256 ++ below .node f.src 256 ++ below .number f.kind 256 ++ below .number f.cls 256 ++ below .tag f.tag 65536
    ++ below .address f.addr (2 ^ 64) ++ below .number f.status 65536 ++ below .number f.hops 256 ++ below .number f.seq (2 ^ 32)
    ++ below .number f.crc (2 ^ 32) ++ below .number f.len 65536 ++ below .payload f.payload.length 4065

def Reader.defects : Reader → List Defect
  | .hart n => below .hart n 28
  | .slice p => below .pasid p (2 ^ 20)
  | .engine n => below .engine n 16
  | .firmware => []

def Requester.defects : Requester → List Defect
  | .hart n => below .hart n 24
  | .engine n s => below .engine n 16 ++ below .slice s 64
  | .placement s | .frontEnd s | .raster s | .planner s | .acoustic s | .bridge s => below .slice s 64
  | .inbound c => below .number c 4
  | .firmware | .secProc | .scrubber | .display | .camera | .tdm | .gateway | .extPcie | .debug => []

/-- Classical frames carry 8 B, FD frames 64 B and XL frames 2,048 B, with fields of 8, 8 and 32 bits of their own. -/
def BusFrame.defects (f : BusFrame) : List Defect :=
  below .identifier f.id (if f.ide then 2 ^ 29 else 2 ^ 11)
    ++ below .payload f.data.length (if f.xl then 2049 else if f.fd then 65 else 16)
    ++ below .number f.sdt 256 ++ below .number f.vcid 256 ++ below .number f.af (2 ^ 32)

def EthFrame.defects (f : EthFrame) : List Defect :=
  below .mac f.dstMac (2 ^ 48) ++ below .mac f.srcMac (2 ^ 48) ++ below .vlan (f.vlan.getD 0) 4096 ++ below .vlan f.pcp 8
    ++ below .number f.etherType 65536

def AcfMsg.defects (m : AcfMsg) : List Defect :=
  below .number m.acfType 128 ++ below .number m.bus 32 ++ below .number m.timestamp (2 ^ 64) ++ m.frame.defects

def TestUnit.defects : TestUnit → List Defect
  | .engine n => below .engine n 16
  | .shader n => below .unit n 48
  | .pipe n => below .pipe n 4
  | .lane n => below .unit n 16
  | .serai => []

def EngineTick.defects (t : EngineTick) : List Defect := below .engine t.engine 16 ++ below .number t.steps 3

/-- The defects of a command. -/
def Instr.defects : Instr → List Defect
  | .usdoRequest r => r.defects
  | .usdoAbort => []
  | .usdoSessionTimeout => []
  | .fmpRead d => d.defects
  | .fmpWrite d => d.defects
  | .fmpWriteSet d => d.defects
  | .dwRead w _ => w.defects
  | .dwWrite w _ => w.defects
  | .registerWrite t => t.defects
  | .dictHeldAccessServe p => p.defects
  | .piecedTransferTimeout idx sub inst => below .index idx 65536 ++ below .subindex sub 256 ++ below .slice inst 65
  | .storeComm d v => d.defects ++ below .number v (2 ^ 64)
  | .restoreComm d v => d.defects ++ below .number v (2 ^ 64)
  | .commEntryWrite d idx sub _ => d.defects ++ below .index idx 65536 ++ below .subindex sub 256
  | .ack d v => d.defects ++ below .number v (2 ^ 64)
  | .compatModeWrite d v => d.defects ++ below .number v (2 ^ 64)
  | .paceWindowBoundary => []
  | .powerLoopSample _ => []
  | .powerLimitUnmet => []
  | .thermalLoopSample _ => []
  | .subfloorDoubt => []
  | .governorSettingWrite d idx sub v => d.defects ++ below .index idx 65536 ++ below .subindex sub 256 ++ below .number v (2 ^ 64)
  | .regulatorSettled => []
  | .railMinClear d v => d.defects ++ below .number v (2 ^ 64)
  | .supplyInputChange _ _ _ => []
  | .coreRailPowerOnReset _ => []
  | .doorbellWrite off _ _ => below .offset off (2 ^ 21)
  | .contextSpillLoad q => below .queue q 262144
  | .descriptorFetch q => below .queue q 262144
  | .tileDeal q _ => below .queue q 262144
  | .tileDrain e r => below .engine e 16 ++ r.defects
  | .preemptionPointSave e _ p => below .engine e 16 ++ parityDefects p
  | .tileRestore e slot => below .engine e 16 ++ below .saveSlot slot 48
  | .completionRecordWrite q => below .queue q 262144
  | .irqHoldoffEnd t => t.defects
  | .gemm q _ => below .queue q 262144
  | .gemmBatched q _ => below .queue q 262144
  | .gemmAcc q _ => below .queue q 262144
  | .elementwise q _ => below .queue q 262144
  | .reduce q _ => below .queue q 262144
  | .normalise q _ => below .queue q 262144
  | .convert q _ => below .queue q 262144
  | .softmax q _ => below .queue q 262144
  | .topk q _ => below .queue q 262144
  | .gather q _ => below .queue q 262144
  | .copy q _ => below .queue q 262144
  | .fill q _ => below .queue q 262144
  | .transpose q _ => below .queue q 262144
  | .prefetchTensor q _ => below .queue q 262144
  | .exportTensor q _ => below .queue q 262144
  | .nop q _ => below .queue q 262144
  | .signal q _ => below .queue q 262144
  | .wait q _ => below .queue q 262144
  | .waitTimeout q _ => below .queue q 262144
  | .timestamp q _ => below .queue q 262144
  | .tensorCreate q _ => below .queue q 262144
  | .tensorRelease q _ => below .queue q 262144
  | .tensorView q _ => below .queue q 262144
  | .dispatch q _ => below .queue q 262144
  | .kernelLoad q _ => below .queue q 262144
  | .kernelFree q _ => below .queue q 262144
  | .conv q _ => below .queue q 262144
  | .pool q _ => below .queue q 262144
  | .resize q _ => below .queue q 262144
  | .crop q _ => below .queue q 262144
  | .regroup q _ => below .queue q 262144
  | .attention q _ => below .queue q 262144
  | .kvAppend q _ => below .queue q 262144
  | .kvSeqOpen q _ => below .queue q 262144
  | .kvSeqClose q _ => below .queue q 262144
  | .kvResume q _ => below .queue q 262144
  | .kvPrefixPublish q _ => below .queue q 262144
  | .kvBlockExport q _ => below .queue q 262144
  | .attnCombine q _ => below .queue q 262144
  | .kvPoolCreate d p => d.defects ++ below .pool p 16
  | .kvPoolDestroy d p => d.defects ++ below .pool p 16
  | .kvPoolTrim d p => d.defects ++ below .pool p 16
  | .kvPoolEntryWrite d p sub v => d.defects ++ below .pool p 16 ++ below .subindex sub 256 ++ below .number v (2 ^ 64)
  | .prefixNodeLimitWrite d s v => d.defects ++ below .slice s 64 ++ below .number v (2 ^ 64)
  | .seraiShareWrite d s v => d.defects ++ below .slice s 64 ++ below .number v (2 ^ 64)
  | .placementPolicyWrite d idx sub v => d.defects ++ below .index idx 65536 ++ below .subindex sub 256 ++ below .number v (2 ^ 64)
  | .quarantineRetest d v => d.defects ++ below .number v (2 ^ 64)
  | .countersClear d v => d.defects ++ below .number v (2 ^ 64)
  | .engineEnableWrite d v => d.defects ++ below .number v (2 ^ 64)
  | .engineEnableDone e _ => below .engine e 16
  | .engineDisableSaveDone e => below .engine e.engine 16 ++ parityDefects e.parity
  | .engineDisableDone e => below .engine e 16
  | .queueConfig d _ => d.defects
  | .queueEnable d q => d.defects ++ below .queue q 262144
  | .queueDisable d q => d.defects ++ below .queue q 262144
  | .queueRestart d q => d.defects ++ below .queue q 262144
  | .queueResetCounts d q => d.defects ++ below .queue q 262144
  | .sliceCreate d s => d.defects ++ below .slice s 64
  | .sliceDestroy d s => d.defects ++ below .slice s 64
  | .sliceRundownDone s => below .slice s 64
  | .queueBlocksWrite d s _ => d.defects ++ below .slice s 64
  | .memQuotaWrite d s v => d.defects ++ below .slice s 64 ++ below .number v (2 ^ 64)
  | .graceMsWrite d s v => d.defects ++ below .slice s 64 ++ below .number v (2 ^ 64)
  | .graceExpiry s => below .slice s 64
  | .engineShareWrite d s v => d.defects ++ below .slice s 64 ++ below .number v (2 ^ 64)
  | .engineWindowBoundary => []
  | .portARoleWrite d v => d.defects ++ below .number v (2 ^ 64)
  | .topologyCmd d v _ => d.defects ++ below .number v (2 ^ 64)
  | .linkTrained port width gen _ => below .pciePort port 4 ++ below .linkWidth width 16 ++ below .linkWidth gen 16
  | .linkDown port => below .pciePort port 4
  | .writeP port f => below .pciePort port 4 ++ f.defects
  | .writeC port f => below .pciePort port 4 ++ f.defects
  | .readFrame port f => below .pciePort port 4 ++ f.defects
  | .completionFrame port f => below .pciePort port 4 ++ f.defects
  | .plomorAck port f => below .pciePort port 4 ++ f.defects
  | .caravan port f => below .pciePort port 4 ++ f.defects
  | .credit port f => below .pciePort port 4 ++ f.defects
  | .signalRc port f => below .pciePort port 4 ++ f.defects
  | .messageFrame port f => below .pciePort port 4 ++ f.defects
  | .hello port f => below .pciePort port 4 ++ f.defects
  | .assign port f => below .pciePort port 4 ++ f.defects
  | .outboundWindowWrite d w _ => d.defects ++ below .outboundWindow w 64
  | .postedWindowStore addr _ => below .address addr (2 ^ 64)
  | .confirmedWindowStore hart addr _ => below .hart hart 29 ++ below .address addr (2 ^ 64)
  | .confirmedWriteTimeout tag => below .tag tag 65536
  | .smallRead by_ addr _ => by_.defects ++ below .address addr (2 ^ 64)
  | .readDiscardTimeout tag => below .tag tag 65536
  | .bufferedCompletionDiscard port f => below .pciePort port 4 ++ f.defects
  | .bulkReadTimeout tag => below .tag tag 65536
  | .signalPageWrite off _ => below .offset off 4096
  | .signalPoll => []
  | .laneOpen d l => d.defects ++ below .lane l 64
  | .laneClose d l => d.defects ++ below .lane l 64
  | .caravanSend q _ => below .queue q 262144
  | .caravanWaitTimeout q _ => below .queue q 262144
  | .caravanRelease q _ => below .queue q 262144
  | .hbmRead m addr _ _ _ => m.defects ++ below .address addr (2 ^ 64)
  | .partialGranuleWrite m addr _ => m.defects ++ below .address addr (2 ^ 64)
  | .bwWindowBoundary _ => []
  | .hbmTempSample _ => []
  | .bwGuaranteeWrite d c sub v => d.defects ++ below .bwClass c 16 ++ below .subindex sub 256 ++ below .number v (2 ^ 64)
  | .bwCountersClear d v => d.defects ++ below .number v (2 ^ 64)
  | .gfxPass q _ => below .queue q 262144
  | .gfxShaderLoad q _ => below .queue q 262144
  | .gfxShaderFree q _ => below .queue q 262144
  | .gfxPresent q _ => below .queue q 262144
  | .tileTimeout pipe => below .pipe pipe 4
  | .gfxTileDone pipe => below .pipe pipe 4
  | .paramBufferWrite d v => d.defects ++ below .number v (2 ^ 64)
  | .outputEnableWrite d o sub v => d.defects ++ below .display o 4 ++ below .subindex sub 256 ++ below .number v (2 ^ 64)
  | .layerWrite d o k sub v => d.defects ++ below .display o 4 ++ below .layer k 4 ++ below .subindex sub 256 ++ below .number v (2 ^ 64)
  | .latchPoint o => below .display o 4
  | .scanOutStart o _ => below .display o 4
  | .displayLinkDown o => below .display o 4
  | .poseHandleWrite d v => d.defects ++ below .number v (2 ^ 64)
  | .plnPlan q _ => below .queue q 262144
  | .planGrant => []
  | .searchRound q _ => below .queue q 262144
  | .searchWindowExpired q _ => below .queue q 262144
  | .finalPhase q _ => below .queue q 262144
  | .plnLatticeLoad q _ => below .queue q 262144
  | .plnLatticeFree q _ => below .queue q 262144
  | .plnOccUpdate q _ => below .queue q 262144
  | .plnLanesReservedWrite d s v => d.defects ++ below .slice s 64 ++ below .number v (2 ^ 64)
  | .tdmFrame _ => []
  | .aafSampleArrival stream ch _ _ => below .aafStream stream 16 ++ below .aafChannel ch 16
  | .aafRateFault stream => below .aafStream stream 16
  | .ancBlock => []
  | .ancStart d => d.defects
  | .ancStop d => d.defects
  | .ancFreeze d => d.defects
  | .ancResume d => d.defects
  | .voiceStart d => d.defects
  | .voiceStop d => d.defects
  | .voiceFrame => []
  | .playFrame => []
  | .inputStuck ch => below .audioChannel ch 48
  | .inputRecovered ch => below .audioChannel ch 48
  | .outputReadbackFault lane => below .tdmLane lane 8
  | .tdmDirWrite d lane v => d.defects ++ below .tdmLane lane 8 ++ below .number v (2 ^ 64)
  | .acuEntryWrite d idx sub v => d.defects ++ below .index idx 65536 ++ below .subindex sub 256 ++ below .number v (2 ^ 64)
  | .acuCoefLoad q _ => below .queue q 262144
  | .canFrameRx port f _ => below .busPort port 24 ++ f.defects
  | .canBusOff ch => below .canChannel ch 16
  | .busoffRecoveryDone ch => below .canChannel ch 16
  | .canRecover d ch => d.defects ++ below .canChannel ch 16
  | .canFlush d ch => d.defects ++ below .canChannel ch 16
  | .canDominantTimeout ch => below .canChannel ch 16
  | .canBusFault ch _ => below .canChannel ch 16
  | .canFaultRetry ch _ => below .canChannel ch 16
  | .canModeWrite d ch sub v => d.defects ++ below .canChannel ch 16 ++ below .subindex sub 256 ++ below .number v (2 ^ 64)
  | .linScheduleSlot ch => below .linChannel ch 8
  | .linBusFault ch => below .linChannel ch 8
  | .linGoToSleep d ch => d.defects ++ below .linChannel ch 8
  | .linWakePulse d ch => d.defects ++ below .linChannel ch 8
  | .ethLinkDown port _ => below .switchPort port 22
  | .ethLinkUp port _ _ => below .switchPort port 22
  | .cableDiag d port v _ => d.defects ++ below .switchPort port 22 ++ below .number v (2 ^ 64)
  | .ethEnableWrite d port sub v => d.defects ++ below .switchPort port 22 ++ below .subindex sub 256 ++ below .number v (2 ^ 64)
  | .switchFrameIngress port f => below .switchPort port 22 ++ f.defects
  | .switchTableWrite d sub _ => d.defects ++ below .subindex sub 256
  | .gclCommit d port v => d.defects ++ below .switchPort port 22 ++ below .number v (2 ^ 64)
  | .gclCycleStart port => below .switchPort port 22
  | .avtpduSend stream => below .stream stream 128
  | .avtpduReceive mac sid seq msgs => below .mac mac (2 ^ 48) ++ below .number sid (2 ^ 64) ++ below .sequence seq 256 ++ msgs.flatMap AcfMsg.defects
  | .routeCommit d v => d.defects ++ below .number v (2 ^ 64)
  | .routeFence => []
  | .inputFilterSettle line _ => below .inputLine line 10
  | .filterUsWrite d line v => d.defects ++ below .inputLine line 10 ++ below .number v (2 ^ 64)
  | .goStateWrite d v => d.defects ++ below .number v (2 ^ 64)
  | .goOverload o => below .output o 16
  | .goOpenLoad o => below .output o 16
  | .camPowerEnableWrite d v => d.defects ++ below .number v (2 ^ 64)
  | .cameraOvercurrent cam => below .camera cam 12
  | .cameraPowerRetry cam => below .camera cam 12
  | .cameraOpenLoad cam => below .camera cam 12
  | .coolantSample _ _ => []
  | .snapSec r base => below .hart r 30 ++ below .timeBase base 8
  | .jointSnapshot r => below .hart r 30
  | .tbSet d n _ => d.defects ++ below .timeBase n 8
  | .tbCmd d n v => d.defects ++ below .timeBase n 8 ++ below .number v (2 ^ 64)
  | .tbIncrementWrite d n v => d.defects ++ below .timeBase n 8 ++ below .number v (2 ^ 64)
  | .tbModeWrite d n v => d.defects ++ below .timeBase n 8 ++ below .number v (2 ^ 64)
  | .servoMeasurement n _ _ => below .timeBase n 8
  | .tb0SyncLost => []
  | .partActivate d k => d.defects ++ below .partition k 8
  | .partDeactivate d k => d.defects ++ below .partition k 8
  | .majorFrameBoundary => []
  | .windowLeadStart w => below .safetyWindow w 64
  | .windowStart w => below .safetyWindow w 64
  | .windowEnd w => below .safetyWindow w 64
  | .pairCompare e _ b => below .engine e 16 ++ parityDefects b.parity
  | .mismatchSelftestDone e _ => below .engine e 16
  | .tuningFrameStart k => below .partition k 8
  | .tuningFrameLatest k => below .partition k 8
  | .tuningFrameDone k => below .partition k 8
  | .tfCmd d k v => d.defects ++ below .partition k 8 ++ below .number v (2 ^ 64)
  | .droneSliceStart u => u.defects
  | .droneCheckpoint u => u.defects
  | .droneSliceDone u _ => u.defects
  | .droneIntervalExceeded u => u.defects
  | .droneClaim u => u.defects
  | .droneEnableWrite d v => d.defects ++ below .number v (2 ^ 64)
  | .heartbeat => []
  | .heartbeatLost => []
  | .rearguardTakeover _ => []
  | .mainReset _ => []
  | .forceTakeover d v => d.defects ++ below .number v (2 ^ 64)
  | .rearguardPowerUp _ _ => []
  | .manoeuvreComplete => []
  | .rearguardStatusFrame => []
  | .lockstepMismatch => []
  | .handbackCmd d v => d.defects ++ below .number v (2 ^ 64)
  | .secureWatermarkRaise d v => d.defects ++ below .number v (2 ^ 64)
  | .secureWatermarkLower d v => d.defects ++ below .number v (2 ^ 64)
  | .scrubComplete => []
  | .secReserveTopWrite d v => d.defects ++ below .number v (2 ^ 64)
  | .enclaveAssign d id first count => d.defects ++ below .enclave id 256 ++ below .granule first 65536 ++ below .granule count 65536
  | .enclaveRelease d id first count => d.defects ++ below .enclave id 256 ++ below .granule first 65536 ++ below .granule count 65536
  | .enclaveDestroy d id => d.defects ++ below .enclave id 256
  | .sliceEnclaveWrite d s v => d.defects ++ below .slice s 64 ++ below .number v (2 ^ 64)
  | .menclaveWrite hart _ => below .hart hart 29
  | .mModeTrap hart => below .hart hart 29
  | .mret hart _ => below .hart hart 29
  | .secureHoldMaskWrite d _ => d.defects
  | .noticeAck d v => d.defects ++ below .number v (2 ^ 64)
  | .noticeTimeout => []
  | .swdKick d v => d.defects ++ below .number v (2 ^ 64)
  | .secureWatchdog => []
  | .keyProgram d _ => d.defects
  | .keyRevoke d v => d.defects ++ below .number v (2 ^ 64)
  | .rollbackAdvance d _ => d.defects
  | .debugFuse d v => d.defects ++ below .number v (2 ^ 64)
  | .debugPolicyWrite d v => d.defects ++ below .number v (2 ^ 64)
  | .fmpKeyWrite d _ => d.defects
  | .dbgCert d _ => d.defects
  | .dbgResponse d _ => d.defects
  | .debugLockoutEnd => []
  | .dbgCmd d v => d.defects ++ below .number v (2 ^ 64)
  | .jtagTrst => []
  | .idcode => []
  | .dtmcs => []
  | .dmi _ addr _ => below .address addr (2 ^ 64)
  | .bypass code => below .tapCode code 32
  | .dmHalt hart => below .hart hart 29
  | .dmResume hart => below .hart hart 29
  | .dmSingleStep hart _ => below .hart hart 29
  | .accessRegister hart _ regno _ => below .hart hart 29 ++ below .register regno (2 ^ 16)
  | .systemBusAccess _ size addr _ => below .accessSize size 9 ++ below .address addr (2 ^ 64)
  | .latencyTolWrite d sub v => d.defects ++ below .subindex sub 256 ++ below .number v (2 ^ 64)
  | .dwellExpiry => []
  | .idleEntry => []
  | .sleepEntry => []
  | .deepSleepEntry => []
  | .offEntry => []
  | .wakeSourceEdge src _ => below .wakeSource src 39
  | .wakeTimer => []
  | .wakeSuppressionEnd src => below .wakeSource src 39
  | .idleExit => []
  | .sleepExit => []
  | .deepSleepExit _ => []
  | .offExit => []
  | .functionEnableWrite d sub v _ => d.defects ++ below .subindex sub 256 ++ below .number v (2 ^ 64)
  | .functionShutdownDone f => below .function f 8
  | .mainSideStart _ => []
  | .skeotLoad _ addr _ node => below .address addr (2 ^ 64) ++ below .node node 256
  | .skeotUpdate _ addr _ node => below .address addr (2 ^ 64) ++ below .node node 256
  | .skeotStatus _ node => below .node node 256
  | .moduleReset _ node => below .node node 256
  | .firmwareStart _ => []
  | .updatePauseBegin => []
  | .handoffCheck _ _ => []
  | .fwFault _ => []
  | .pmuSnapshot r => below .hart r 30
  | .pmuClear d v => d.defects ++ below .number v (2 ^ 64)
  | .counterDump => []
  | .dumpRingWrite d idx sub v => d.defects ++ below .index idx 65536 ++ below .subindex sub 256 ++ below .number v (2 ^ 64)
  | .countReferenceTick issue => issue.flatMap EngineTick.defects
  | .canFrameTx ch _ => below .canChannel ch 16
  | .linBusRecessive ch => below .linChannel ch 8
  | .displayLinkUp o => below .display o 4
  | .cameraFrameStart cam => below .camera cam 12

/-- A command whose operands all fit. -/
def Instr.wf (c : Instr) : Bool := decide (c.defects = [])

end Sys2Proof
end

