-- ==== Sys2Proof/Tests/Slice0.lean ====
section
/-! SUPPORT. Tests. For every obligation with hypotheses one theorem shows, clause by clause and in the order of the statement,
concrete states and operands that meet them. Each is about one step on a small state. -/

namespace Sys2Proof.Tests

open Sys2Proof Sys2Proof.Machine

set_option Elab.async false

/-- A module that runs: the main side out of reset, firmware running. -/
def live : State :=
  { State.reset with
    pwr := { inReset := false, cold := false }
    fw := { state := 2, coresRun := true, tables := true } }

/-- The state with entries set: index, subindex, value, occurrence. -/
def put (s : State) (l : List (Nat × Nat × Nat × Nat)) : State := l.foldl (fun s e => s.set e.1 e.2.1 e.2.2.1 e.2.2.2) s

/-- Whether a number may be written to an entry. -/
def numOk (s : State) (d : Dom) (idx sub n i : Nat) : Bool :=
  !s.managerOnly d idx && match s.entryFor d idx sub true with
  | .ok (e, j) => decide (j = i ∧ 0 < e.ty.size ∧ n < 256 ^ e.ty.size ∧ rangeFail e n = none
      ∧ (d = .secure ∨ (s.stops idx sub n).any s.heldBlock = false))
  | .error _ => false

theorem num {s : State} {d : Dom} {idx sub n i : Nat} (h : numOk s d idx sub n i = true) : s.takesNum d idx sub n i := by
  unfold numOk at h
  rw [Bool.and_eq_true, Bool.not_eq_true'] at h
  obtain ⟨hm, h⟩ := h
  split at h
  · rename_i e j he
    obtain ⟨rfl, a⟩ := of_decide_eq_true h
    exact ⟨hm, e, he, a⟩
  · cases h

/-- Whether a string may be written to an entry. -/
def strOk (s : State) (d : Dom) (idx sub : Nat) (b : List Byte) (i : Nat) : Bool :=
  !s.managerOnly d idx && match s.entryFor d idx sub true with
  | .ok (e, j) => decide (j = i ∧ e.ty.size = 0 ∧ e.ty ≠ .dom ∧ b.length ≤ 255 ∧ (e.size = 0 ∨ b.length = e.size))
  | .error _ => false

theorem str {s : State} {d : Dom} {idx sub i : Nat} {b : List Byte} (h : strOk s d idx sub b i = true) :
    s.takesStr d idx sub b i := by
  unfold strOk at h
  rw [Bool.and_eq_true, Bool.not_eq_true'] at h
  obtain ⟨hm, h⟩ := h
  split at h
  · rename_i e j he
    obtain ⟨rfl, a⟩ := of_decide_eq_true h
    exact ⟨hm, e, he, a⟩
  · cases h

/-- Whether a DOMAIN entry may be written whole. -/
def wholeOk (s : State) (d : Dom) (idx sub : Nat) (b : List Byte) (i : Nat) : Bool :=
  !s.managerOnly d idx && match s.entryFor d idx sub true with
  | .ok (e, j) => decide (j = i ∧ e.ty = .dom ∧ e.whole = true ∧ b.length = e.size
      ∧ NMap.get none s.dic.pieced (entryKey i idx sub) = none)
  | .error _ => false

theorem whole {s : State} {d : Dom} {idx sub i : Nat} {b : List Byte} (h : wholeOk s d idx sub b i = true) :
    s.takesWhole d idx sub b i := by
  unfold wholeOk at h
  rw [Bool.and_eq_true, Bool.not_eq_true'] at h
  obtain ⟨hm, h⟩ := h
  split at h
  · rename_i e j he
    obtain ⟨rfl, a⟩ := of_decide_eq_true h
    exact ⟨hm, e, he, a⟩
  · cases h

/-- Whether a DOMAIN entry takes the bytes in one piece. -/
def pieceOk (s : State) (d : Dom) (idx sub : Nat) (b : List Byte) (i : Nat) : Bool :=
  !s.managerOnly d idx && match s.entryFor d idx sub true with
  | .ok (e, j) => decide (j = i ∧ e.ty = .dom ∧ e.whole = false
      ∧ (e.size = 0 ∧ b.length ≤ 16777216 ∨ 0 < e.size ∧ b.length = e.size)
      ∧ NMap.get none s.dic.pieced (entryKey i idx sub) = none)
  | .error _ => false

theorem one {s : State} {d : Dom} {idx sub i : Nat} {b : List Byte} (h : pieceOk s d idx sub b i = true) :
    s.takesPiece d idx sub b i := by
  unfold pieceOk at h
  rw [Bool.and_eq_true, Bool.not_eq_true'] at h
  obtain ⟨hm, h⟩ := h
  split at h
  · rename_i e j he
    obtain ⟨rfl, a⟩ := of_decide_eq_true h
    exact ⟨hm, e, he, a⟩
  · cases h

theorem serves {s : State} {p : Path}
    (h : (decide (s.pwr.inReset = false) && s.fwRunning && decide (s.heldOn p = 0) && s.inRun) = true) : s.servesNow p := by
  simp only [Bool.and_eq_true, decide_eq_true_eq] at h
  exact ⟨h.1.1.1, h.1.1.2, h.1.2, h.2⟩

theorem both {s : State} {d : Dom} {idx sub n i : Nat} (h : numOk s d idx sub n i = true) :
    ∃ e, s.entryFor d idx sub true = .ok (e, i) ∧ s.takesNum d idx sub n i := by
  obtain ⟨m, e, a, b⟩ := num h
  exact ⟨e, a, m, e, a, b⟩

/-- Whether a device accepts a write. -/
def good : WRes → Bool
  | .ok _ => true
  | _ => false

theorem accepted {r : WRes} (h : good r = true) : ∃ t, r = .ok t := by
  cases r with
  | ok t => exact ⟨t, rfl⟩
  | abort _ => cases h
  | refuse _ _ => cases h

/-- Slice `k` exists with PASID `p` and owns queue block 0. -/
def sliced (k p : Nat) : State :=
  (put live [(0x2540 + k, 3, 1, 0), (0x2540 + k, 1, p, 0), (0x2540 + k, 8, 3, 0)]).setB (0x2540 + k) 9
    (1#8 :: List.replicate 63 0)

/-- The same with queue `q` as given. -/
def queued (q : Nat) (x : Queue) : State := (sliced 0 7).setQueue q x

/-- A QUEUE_CONFIG record at the ends of its ranges. -/
def queueRec : List Byte :=
  leBytes 4 511 ++ leBytes 1 4 ++ leBytes 1 20 ++ leBytes 1 3 ++ leBytes 1 1 ++ leBytes 8 4096 ++ leBytes 8 8192 ++ leBytes 8 4
    ++ leBytes 4 9 ++ leBytes 2 1000 ++ List.replicate 10 0

/-- Big-endian bytes of a number. -/
def big (n v : Nat) : List Byte := (Crypto.beBytes n v).map (BitVec.ofNat 8)

/-- The public key of private key 5. -/
def signerKey : List Byte :=
  big 48 0x11DE24A2C251C777573CAC5EA025E467F208E51DBFF98FC54F6661CBE56583B037882F4A1CA297E60ABCDBC3836D84BC ++
  big 48 0x8FA696C77440F92D0F5837E90A00E7C5284B447754D5DEE88C986533B6901AEB3177686D0AE8FB33184414ABE6C1713A

/-- Its SHA-384 digest. -/
def signerHash : List Byte :=
  big 48 0x3966D6C7E6A199E21807F0F8347406AA40AA59C18578B061C2BCAFB3DA86B24ECD4DA2100402993D56C9B5E1F6B0F369

/-- A debug certificate of scope 31 for the public key of private key 3, signed by key 5 (FIPS 186-5). -/
def debugCert : List Byte :=
  big 48 0x6009424401001F000000000000000000077A41D4606FFA1464793C7E5FDC7D98CB9D3910202DCD06BEA4F240D3566DA6 ++
  big 48 0xB408BBAE5026580D02D7E5C70500C831C995F7CA0B0C42837D0BBE9602A9FC998520B41C85115AA5F7684C0EDC111EAC ++
  big 48 0xC24ABD6BE4B5D298B65F28600A2F1DF111DE24A2C251C777573CAC5EA025E467F208E51DBFF98FC54F6661CBE56583B0 ++
  big 48 0x37882F4A1CA297E60ABCDBC3836D84BC8FA696C77440F92D0F5837E90A00E7C5284B447754D5DEE88C986533B6901AEB ++
  big 48 0x3177686D0AE8FB33184414ABE6C1713A283C1D7365CE4788F29F8EBF234EDFFEAD6FE997FBEA5FFA2D58CC9DFA7B1C50 ++
  big 48 0x8B05526F55B9EBB2040F05B48FB6D0E1A652C63B0E49A0F3BE2CCF2BA25FE4E3DC0F84FB266B39F33A6551D0C078620F ++
  big 16 0x2EDA4FE97427EC1DA852BA88A03E5D86

/-- The signature of 20 zero bytes (challenge and serial) by private key 3. -/
def debugResp : List Byte :=
  big 48 0x099056E27DA7B998DA1EEEC2904816C57FE935ED5837C37456C9FD14892D3F8C4749B66E3AFB81D626356F3B55B4DDD8 ++
  big 48 0x86079E8ACA4F365AF2E13E43824B622ED6215A93F4ACF1D133248CC12FD1FE28713A7663D3F4F9CA5D74C388AC19E1BE

/-- An empty image of kind 1, version 1, signed by key 5, without its trailing zeros. -/
def image1 : List Byte :=
  big 48 0x60094553010000000100000000000000000000000000000038B060A751AC96384CD9327EB1B1E36A21FDB71114BE0743 ++
  big 48 0x4C0CC7BF63F6E1DA274EDEBFE76F65FBD51AD2F14898B95B11DE24A2C251C777573CAC5EA025E467F208E51DBFF98FC5 ++
  big 48 0x4F6661CBE56583B037882F4A1CA297E60ABCDBC3836D84BC8FA696C77440F92D0F5837E90A00E7C5284B447754D5DEE8 ++
  big 48 0x8C986533B6901AEB3177686D0AE8FB33184414ABE6C1713AA567BA97B67AEA5BAFDAF5002FFCC6AB9632BFF9F01F873F ++
  big 48 0x6267BCD1F0F11C139EE5F441ABD99F1BAAF1CA1E3B5CBCE78FE049BCB4D0ED2E79006FBF15F2DE3B6ECEFD490A6647E2 ++
  big 24 0x6B34916794E6FE7D640DCB84F939D7003235EBC05FE6C10E

/-- The same of kind 3. -/
def image3 : List Byte :=
  big 48 0x60094553030000000100000000000000000000000000000038B060A751AC96384CD9327EB1B1E36A21FDB71114BE0743 ++
  big 48 0x4C0CC7BF63F6E1DA274EDEBFE76F65FBD51AD2F14898B95B11DE24A2C251C777573CAC5EA025E467F208E51DBFF98FC5 ++
  big 48 0x4F6661CBE56583B037882F4A1CA297E60ABCDBC3836D84BC8FA696C77440F92D0F5837E90A00E7C5284B447754D5DEE8 ++
  big 48 0x8C986533B6901AEB3177686D0AE8FB33184414ABE6C1713A4099952208B4889600A5EBBCB13E1A32692BEFB0733B41E6 ++
  big 48 0xDCC614E42E5805F817012A991AF1F486CAF3A9ADD9FFCC030AEDF9DF1A05070259073804238EDF7E75784BA55A79B9F4 ++
  big 24 0x701D7C04FD12573F3B95FF4E194DAECD01C48CA38E4CC4A1

theorem test_met_CommunicationAndDeviceRows :
    live.servesNow (pathOf .network) ∧ live.servesNow (pathOf .hypervisor)
    ∧ live.takesNum .network 0x1010 2 0x65766173 0
    ∧ live.takesNum .network 0x1011 2 0x64616F6C 0
    ∧ (∃ e, live.entryFor .network 0x1E00 2 true = .ok (e, 0) ∧ live.takesNum .network 0x1E00 2 127 0)
    ∧ live.takesStr .network 0x1E10 3 [] 0
    ∧ (∃ t, (live.addRecord 0x0510 1 2).takesNum .hypervisor 0x3000 3 0x3001 0
      ∧ (live.addRecord 0x0510 1 2).roused.ackRecord 0x3001 = .ok t)
    ∧ live.takesNum .hypervisor 0x2002 1 1 0 ∧ live.get 0x2601 1 = 0 ∧ (∀ e, (live.engine e).state = .off)
    ∧ live.takesNum .hypervisor 0x2110 5 680 0 ∧ 680 % 5 = 0
    ∧ live.takesNum .hypervisor 0x2112 2 1 0 := by
  refine ⟨serves ?_, serves ?_, num ?_, num ?_, both ?_, str ?_, ?_, num ?_, ?_, fun _ => rfl, num ?_, ?_, num ?_⟩
  on_goal 7 => exact (accepted (by decide +kernel)).imp fun _ h => ⟨num (by decide +kernel), h⟩
  all_goals decide +kernel

theorem test_met_QueueAndSliceRows :
    (let s := sliced 0 7; s.servesNow (pathOf .hypervisor) ∧ s.takesWhole .hypervisor 0x2510 1 queueRec 0
      ∧ queueRec.length = 48 ∧ field queueRec 0 4 ≤ 262143 ∧ (s.queueAccess .hypervisor (field queueRec 0 4)).toOption = some 0
      ∧ 4 ≤ field queueRec 4 1 ∧ field queueRec 5 1 ≤ 20 ∧ field queueRec 6 1 ≤ s.get 0x2540 8
      ∧ field queueRec 8 8 % 4096 = 0 ∧ field queueRec 16 8 % 4096 = 0 ∧ field queueRec 24 8 % 4 = 0
      ∧ field queueRec 7 1 ≤ 1 ∧ field queueRec 36 2 ≤ 1000 ∧ (s.queue (field queueRec 0 4)).state = .unconfigured)
    ∧ (∀ x ∈ [(QState.disabled, 1), (.enabled, 2), (.halted, 2), (.halted, 3), (.disabled, 4)],
      let s := queued 511 { state := x.1 }
      s.servesNow (pathOf (.slice 7)) ∧ s.takesNum (.slice 7) 0x2510 2 (511 + x.2 * 268435456) 0
      ∧ (s.queueAccess (.slice 7) 511).toOption = some 0 ∧ (s.queue 511).state = x.1)
    ∧ (let s := (put (sliced 0 7) [(0x257F, 1, 1048575, 0)])
      s.takesNum .hypervisor 0x257F 2 1 0 ∧ s.sliceState 63 = 0 ∧ s.slicePasid 63 ≠ 0
      ∧ ∀ j, j < 64 → j ≠ 63 → s.sliceState j ≠ 0 →
        s.slicePasid j ≠ s.slicePasid 63 ∧ State.blocksMeet (s.getB (0x2540 + j) 9) (s.getB 0x257F 9) = false)
    ∧ (sliced 0 7).takesNum .hypervisor 0x2540 2 2 0 ∧ (sliced 0 7).sliceState 0 = 1
    ∧ (∃ t, live.takesStr .hypervisor 0x2540 9 (List.replicate 64 0) 0 ∧ live.roused.writeBlocks 0 (List.replicate 64 0) = .ok t)
    ∧ live.takesNum .hypervisor 0x257F 4 (2 ^ 64 - 1) 0
    ∧ live.takesNum .hypervisor 0x2540 6 60000 0
    ∧ live.takesNum .hypervisor 0x2540 7 256 0
      ∧ ((List.range 64).filter (· ≠ 0)).foldl (fun a j => a + live.get (0x2540 + j) 7) 0 + 256 ≤ 256 := by
  refine ⟨⟨serves ?_, whole ?_, ?_⟩, ?_, ⟨num ?_, ?_⟩, num ?_, ?_, ?_, num ?_, num ?_, num ?_, ?_⟩
  on_goal 4 => intro x hx; fin_cases hx <;> exact ⟨serves (by decide +kernel), num (by decide +kernel), by decide +kernel⟩
  on_goal 8 => exact (accepted (by decide +kernel)).imp fun _ h => ⟨str (by decide +kernel), h⟩
  all_goals decide +kernel

theorem test_met_CacheAndEngineRows :
    (sliced 0 7).servesNow (pathOf (.slice 7)) ∧ live.servesNow (pathOf .hypervisor)
    ∧ (∃ t, (sliced 0 7).takesNum (.slice 7) 0x271F 9 1 (0 + 1) ∧ (sliced 0 7).roused.poolCreate (0 * 16 + 15) = .ok t)
    ∧ (sliced 0 7).takesNum (.slice 7) 0x2710 9 2 (0 + 1) ∧ (sliced 0 7).poolSeqs (0 * 16 + 0) = []
    ∧ (sliced 0 7).takesNum (.slice 7) 0x2710 9 3 (0 + 1)
    ∧ (sliced 0 7).takesNum (.slice 7) 0x2710 1 65536 (0 + 1) ∧ (sliced 0 7).poolActive (0 * 16 + 0) = false
    ∧ (sliced 0 7).takesNum (.slice 7) 0x2710 7 256 (0 + 1) ∧ 256 % 32 = 0
    ∧ live.takesNum .hypervisor 0x473F 1 1048576 0
    ∧ live.takesNum .hypervisor 0x2604 64 256 0
      ∧ ((List.range 64).filter (· + 1 ≠ 63 + 1)).foldl (fun a j => a + live.get 0x2604 (j + 1)) 0 + 256 ≤ 256
    ∧ live.takesNum .hypervisor 0x2603 6 64 0
    ∧ live.takesNum .hypervisor 0x2605 2 8192 0 ∧ (∀ k, k < 8 → (live.partActive k && live.ownsWindow k) = false)
    ∧ live.takesNum .hypervisor 0x2605 4 65535 0
    ∧ live.takesNum .hypervisor 0x2607 0x0F 1 0
    ∧ (let s := put live [(0x2601, 1, 65535, 0)]; s.takesNum .hypervisor 0x2601 1 0 0
      ∧ ∀ e, e < 16 → (s.get 0x2601 1).testBit e = true → Nat.testBit 0 e = false → s.heldBlock e = false ∧ s.reserved e = false)
    ∧ live.takesNum .hypervisor 0x2F01 1 1 0
    ∧ live.takesNum .hypervisor 0x2F02 1 0x10000000 0 ∧ 0x10000000 % 4096 = 0 ∧ live.sec.watermark ≤ 0x10000000
      ∧ 0x10000000 < State.generalEnd
    ∧ live.takesNum .hypervisor 0x2F03 2 0x10000000 0 ∧ live.takesNum .hypervisor 0x2F03 1 20 0 := by
  refine ⟨serves ?_, serves ?_, ?_, num ?_, ?_, num ?_, num ?_, ?_, num ?_, ?_, num ?_, num ?_, ?_, num ?_, num ?_, ?_, num ?_, num ?_,
    ⟨num ?_, ?_⟩, num ?_, num ?_, ?_, ?_, ?_, num ?_, num ?_⟩
  on_goal 3 => exact (accepted (by decide +kernel)).imp fun _ h => ⟨num (by decide +kernel), h⟩
  all_goals decide +kernel

/-- An outbound window's record: enabled, base 0, size 2 MiB, target 0, node 191, mode 1, class 3. -/
def windowRec : List Byte :=
  leBytes 8 0 ++ leBytes 8 2097152 ++ leBytes 8 0 ++ leBytes 1 191 ++ leBytes 1 1 ++ leBytes 1 3 ++ leBytes 1 1 ++ List.replicate 4 0

/-- Lane 63 named for slice 0, and a peer that is present. -/
def laneReady : State :=
  (put (sliced 0 7) [(0x2C7F, 1, 0, 0), (0x2C7F, 2, 0, 0)]).setB 0x2C00 5 (1#8 :: List.replicate 23 0)

theorem entry_free (s : State) (e : TEntry) (h : s.plc.table = []) : ∃ x, s.newEntry e = some x := by
  unfold State.newEntry State.tentry
  dsimp only
  rw [h]
  generalize Config.free .handle s.freeCount = v
  by_cases c : 1 ≤ v ∧ v ≤ 1048575 ∧ NMap.get none ([] : NMap (Option TEntry)) v = none
  · rw [if_pos c]
    exact ⟨_, rfl⟩
  · rw [if_neg c]
    exact ⟨_, rfl⟩

theorem staging_free (s : State) (n : Nat) (h : s.plc.table = []) (hn : n ≤ 268435456) :
    ∃ b t, s.stagingFit n = (some b, t) ∧ t.plc.table = [] := by
  have hp : s.stagingParts = [] := by
    unfold State.stagingParts
    rw [h]
    rfl
  unfold State.stagingFit
  dsimp only
  rw [hp]
  split
  · exact ⟨_, _, rfl, h⟩
  · refine ⟨0, _, Prod.ext ?_ rfl, h⟩
    simp [hn]

theorem lane_fits (s : State) (l : Nat) (h1 : ¬ s.laneOpenState l = true)
    (h2 : ¬ 268435456 < (List.range 64).foldl (fun a k => if s.laneOpenState k ∧ k ≠ l then a + s.laneSlotBytes k * s.laneSlots k
      else a) 0 + s.laneSlotBytes l * s.laneSlots l)
    (h3 : ¬ (63 < s.get (0x2C40 + l) 1 ∨ s.sliceState (s.get (0x2C40 + l) 1) ≠ 1))
    (h4 : ¬ (!s.nodePresent (s.get (0x2C40 + l) 2)) = true) (h5 : s.plc.table = [])
    (h6 : s.laneSlotBytes l * s.laneSlots l ≤ 268435456) : ∃ t, s.laneOpen l = .ok t := by
  obtain ⟨b, u, h, hu⟩ := staging_free s (s.laneSlotBytes l * s.laneSlots l) h5 h6
  unfold State.laneOpen
  dsimp only
  rw [if_neg h1, if_neg h2, if_neg h3, if_neg h4, h]
  dsimp only
  obtain ⟨x, hx⟩ := entry_free u { gen := 0, slice := s.get (0x2C40 + l) 1, backing := 2
                                   bytes := s.laneSlotBytes l * s.laneSlots l, home := State.staging + b } hu
  rw [hx]
  exact ⟨_, rfl⟩

theorem lane_opens : ∃ t, laneReady.roused.laneOpen 63 = .ok t :=
  lane_fits _ _ (by decide +kernel) (by decide +kernel) (by decide +kernel) (by decide +kernel) (by decide +kernel)
    (by decide +kernel)

theorem test_met_LinkAndBandwidthRows :
    live.servesNow (pathOf .hypervisor)
    ∧ live.takesNum .hypervisor 0x2C01 1 1 0 ∧ (live.nodeId = 0 ∨ live.nodeId = 0xFF)
    ∧ live.takesNum .hypervisor 0x2C00 4 1 0
    ∧ live.takesStr .hypervisor 0x2C03 64 windowRec 0
    ∧ ((outWinOf windowRec).base = 0 ∧ (outWinOf windowRec).size = 2097152 ∧ (outWinOf windowRec).target = 0
      ∧ (outWinOf windowRec).node = 191 ∧ (outWinOf windowRec).mode = 1 ∧ (outWinOf windowRec).cls = 3
      ∧ (outWinOf windowRec).on = true ∧ windowRec.length = 32
      ∧ ∀ v, v < 64 → v ≠ 63 → (live.outWin v).on = false)
    ∧ (∃ t, laneReady.takesNum .hypervisor 0x2C7F 6 1 0 ∧ laneReady.roused.laneOpen 63 = .ok t)
    ∧ live.takesNum .hypervisor 0x2C40 6 2 0
    ∧ live.takesNum .hypervisor 0x241F 1 0 0 ∧ live.get 0x241F 2 = 0
      ∧ (∀ k, k < 8 → live.partActive k = true → live.ownsWindow k = true → live.get (0x2310 + k) 4 = 15 →
        live.get 0x2605 2 ≤ 0 ∨ live.get 0x241F 1 ≤ 0)
    ∧ live.takesNum .hypervisor 0x2410 1 7372 0 ∧ live.guaranteesBut 0 + 7372 ≤ 7372
    ∧ live.takesNum .hypervisor 0x2410 2 400 0 ∧ live.get 0x2410 1 ≤ 400
    ∧ live.takesNum .hypervisor 0x2401 4 1 0 := by
  refine ⟨serves ?_, num ?_, ?_, num ?_, str ?_, ?_, ?_, num ?_, num ?_, ?_, ?_, num ?_, ?_, num ?_, ?_, num ?_⟩
  on_goal 7 => exact lane_opens.imp fun _ h => ⟨num (by decide +kernel), h⟩
  all_goals decide +kernel

/-- Slice 0 owns every acoustic function: axis A0, microphone M0 and speaker 0 in use, coefficients loaded. -/
def acoustic : State :=
  let s := put (sliced 0 7) [(0x2A10, 1, 0, 0), (0x2A10, 2, 0, 0), (0x2A10, 3, 0, 0), (0x2A10, 4, 8, 0), (0x2A10, 5, 8, 0),
    (0x2A00, 1, 1, 1), (0x2A00, 2, 1, 1), (0x2A00, 3, 1, 1), (0x2A00, 0x10, 1, 1), (0x2A11, 33, 0, 0), (0x2A11, 1, 0, 0),
    (0x2A12, 1, 0, 0)]
  { s with acu := { s.acu with sets := [(0, some { dims := [1, 1, 32], codes := [] }), (1, some { dims := [1, 1, 64], codes := [] }),
      (2, some { dims := [1], codes := [] })] } }

theorem test_met_DisplayAndAcousticRows :
    acoustic.servesNow (pathOf (.slice 7)) ∧ live.servesNow (pathOf .hypervisor)
    ∧ acoustic.takesNum (.slice 7) 0x2800 1 1073741824 (0 + 1) ∧ 1073741824 % 1048576 = 0
    ∧ live.takesNum .hypervisor 0x2883 1 1 0 ∧ live.get 0x2883 2 + 32 ≤ live.get 0x2883 4 ∧ live.get 0x2883 3 + 8 ≤ live.get 0x2883 5
    ∧ live.takesNum .hypervisor 0x2880 7 20 0 ∧ live.get 0x2880 1 ≠ 1
    ∧ live.takesNum .hypervisor 0x289F 6 2 0
    ∧ (let s := put acoustic [(0x28A0, 1, 0, 0)]
      s.takesNum (.slice 7) 0x28A0 2 5 (0 + 1) ∧ s.sliceOf 7 = some 0 ∧ s.get 0x28A0 1 = 0)
    ∧ live.takesNum .hypervisor 0x2901 64 16 0 ∧ live.lanesReservedSum - live.get 0x2901 64 + 16 ≤ 16
    ∧ live.takesNum .hypervisor 0x2A1F 1 2 0
    ∧ (∃ t, live.takesNum .hypervisor 0x2A10 5 8 0 ∧ live.roused.acuWrite .hypervisor 0x2A10 5 8 = .ok t)
    ∧ acoustic.acuOwner 1 = some 0 ∧ acoustic.takesNum (.slice 7) 0x2A00 0x0A 1 (0 + 1)
      ∧ (∀ c, c ∈ acoustic.ancRefs ++ acoustic.ancErrs → acoustic.inputSrc c < 0x8000)
      ∧ (∀ c, c ∈ acoustic.ancSpeakers → acoustic.outputDst c ≠ 0xFFFF)
      ∧ acoustic.coefReady 1 0 = true ∧ acoustic.coefReady 1 1 = true
      ∧ (acoustic.ancRefs.length * acoustic.ancSpeakers.length * acoustic.acuGet 1 4
        + acoustic.ancRefs.length * acoustic.ancSpeakers.length * acoustic.ancErrs.length * acoustic.acuGet 1 5
        + acoustic.ancRefs.length * acoustic.ancSpeakers.length * acoustic.ancErrs.length * acoustic.acuGet 1 4) * acoustic.ancBlockLen
        ≤ acoustic.get 0x2A10 4 * 64 * (16666 * acoustic.ancBlockLen - 2048)
    ∧ acoustic.takesNum (.slice 7) 0x2A00 0x0A 4 (0 + 1) ∧ acoustic.takesNum (.slice 7) 0x2A00 0x0A 2 (0 + 1)
      ∧ acoustic.takesNum (.slice 7) 0x2A00 0x0A 3 (0 + 1)
    ∧ acoustic.acuOwner 2 = some 0 ∧ acoustic.takesNum (.slice 7) 0x2A00 0x14 1 (0 + 1)
      ∧ cdiv acoustic.voiceMics.length 8 ≤ acoustic.get 0x2A10 5 ∧ acoustic.coefReady 2 2 = true
      ∧ acoustic.takesNum (.slice 7) 0x2A00 0x14 2 (0 + 1) := by
  refine ⟨serves ?_, serves ?_, num ?_, ?_, num ?_, ?_, ?_, num ?_, ?_, num ?_, ⟨num ?_, ?_⟩, num ?_, ?_, num ?_, ?_, ?_, num ?_, ?_, ?_, ?_,
    ?_, ?_, num ?_, num ?_, num ?_, ?_, num ?_, ?_, ?_, num ?_⟩
  on_goal 16 => exact (accepted (by decide +kernel)).imp fun _ h => ⟨num (by decide +kernel), h⟩
  all_goals decide +kernel

theorem test_met_GatewayRows :
    live.servesNow (pathOf .network)
    ∧ live.takesNum .network 0x2B1F 8 1 0 ∧ live.canFenced 15 = false ∧ live.takesNum .network 0x2B10 8 2 0
    ∧ live.takesNum .network 0x2B1F 1 0 0
    ∧ live.takesNum .network 0x2B1F 1 3 0 ∧ live.get 0x2B1F 6 ≠ 1 ∧ live.get 0x2B1F 3 ≠ 10000
    ∧ (let s := put live [(0x2B1F, 6, 1, 0), (0x2B1F, 3, 10000, 0)]; s.takesNum .network 0x2B1F 1 1 0 ∧ s.get 0x2B1F 6 = 1)
    ∧ live.takesNum .network 0x2B1F 3 10000 0 ∧ live.get 0x2B1F 1 = 0 ∧ live.takesNum .network 0x2B1B 0x15 0 0
    ∧ (let s := put live [(0x2B37, 1, 1, 0), (0x2B37, 6, 1, 0)]
      s.takesNum .network 0x2B37 5 1 0 ∧ s.get 0x2B37 1 = 1 ∧ s.linState 7 = 1 ∧ s.takesNum .network 0x2B37 5 2 0)
    ∧ (let s := put live [(0x2B53, 1, 1, 0)]; s.takesNum .network 0x2B53 6 1 0 ∧ s.get 0x2B53 1 ≠ 0)
    ∧ live.takesNum .network 0x2B53 1 0 0 ∧ live.takesNum .network 0x2B53 1 1 0
    ∧ live.takesNum .network 0x2B53 2 7 0 ∧ live.get 0x2B53 1 = 0 ∧ live.takesNum .network 0x2B43 3 2 0
    ∧ live.takesPiece .network 0x2B60 1 [] 0 ∧ State.switchTableOk 1 [] = true
    ∧ (let s := put (live.setB 0x2B95 1 (List.replicate 8 0)) [(0x2B95, 3, 1000, 0)]
      s.takesNum .network 0x2B95 4 1 0 ∧ s.getB 0x2B95 1 ≠ [] ∧ s.get 0x2B95 3 ≠ 0)
    ∧ live.takesNum .network 0x4000 2 1 0 ∧ NMap.get none live.dic.pieced (entryKey 0 0x4000 1) = none
      ∧ (∀ r, r ∈ records 32 (live.getB 0x4000 1) → live.routeOk r = true) := by
  refine ⟨serves ?_, num ?_, ?_, num ?_, num ?_, num ?_, ?_, ?_, ⟨num ?_, ?_⟩, num ?_, ?_, num ?_, ⟨num ?_, ?_, ?_, num ?_⟩,
    ⟨num ?_, ?_⟩, num ?_, num ?_, num ?_, ?_, num ?_, one ?_, ?_, ⟨num ?_, ?_⟩, num ?_, ?_, ?_⟩
  all_goals decide +kernel

/-- TB7 in mode 2 with its step armed. -/
def freeBase : State := put live [(0x2217, 1, 2, 0), (0x2217, 0x0A, 1, 0)]

theorem test_met_HardwareTimeAndPowerRows :
    live.servesNow (pathOf .hypervisor) ∧ live.servesNow (pathOf .network)
    ∧ live.takesNum .network 0x2BA0 10 10000 0 ∧ 10000 % 10 = 0
    ∧ live.takesNum .network 0x2BA0 0x0C 15 0
    ∧ live.takesNum .hypervisor 0x2160 1 4095 0
    ∧ freeBase.takesStr .hypervisor 0x2217 5 (leBytes 8 (2 ^ 64 - 1) ++ leBytes 4 999999999 ++ leBytes 4 65535) 0
      ∧ freeBase.get 0x2217 1 ≠ 0 ∧ freeBase.get 0x2217 1 ≠ 1 ∧ freeBase.get 0x2217 0x0A ≠ 0
      ∧ field (leBytes 8 (2 ^ 64 - 1) ++ leBytes 4 999999999 ++ leBytes 4 65535) 8 4 ≤ 999999999
    ∧ live.takesNum .secure 0x2213 6 1 0
    ∧ freeBase.takesNum .hypervisor 0x2217 4 281193501733945 0 ∧ freeBase.get 0x2217 1 = 2
    ∧ live.takesNum .hypervisor 0x2217 1 2 0 ∧ live.takesNum .secure 0x2213 1 0 0
    ∧ live.takesNum .hypervisor 0x2120 2 10000000 0
    ∧ live.takesNum .hypervisor 0x2130 1 0 0
      ∧ (∀ c, c < 3 → ∀ h, h < 8 → (live.get 0x2130 1).testBit c = true → Nat.testBit 0 c = false →
        Nat.testBit (2 ^ 24 - 1) (8 * c + h) = true)
    ∧ live.takesNum .hypervisor 0x2130 3 0 0 ∧ live.fw.state ≠ 1 ∧ live.fw.state ≠ 3 ∧ live.pwr.entering = none := by
  refine ⟨serves ?_, serves ?_, num ?_, ?_, num ?_, num ?_, str ?_, ?_, ?_, ?_, ?_, num ?_, num ?_, ?_, num ?_, num ?_, num ?_, num ?_, ?_,
    num ?_, ?_⟩
  all_goals decide +kernel

/-- Partition 7: slice 0, 2 MiB above the reserve. -/
def parted (active : Nat) : State :=
  put (sliced 0 7) [(0x2317, 1, 1, 0), (0x2317, 2, 0x40000000, 0), (0x2317, 3, 2097152, 0), (0x2406, 1, 14, 0),
    (0x2317, 0x0A, active, 0)]

theorem test_met_SafetyRows_partitions :
    (parted 0).servesNow (pathOf .hypervisor)
    ∧ (parted 0).takesNum .hypervisor 0x2317 9 1 0 ∧ (parted 0).activationFail 7 = 0 ∧ (parted 0).partActive 7 = false
    ∧ (parted 1).takesNum .hypervisor 0x2317 9 2 0 ∧ (parted 1).partActive 7 = true ∧ (parted 1).get 0x2320 1 = 0
    ∧ (put (parted 1) [(0x2320, 1, 1000000, 0)]).get 0x2320 1 ≠ 0
      ∧ (put (parted 1) [(0x2320, 1, 1000000, 0)]).saf.deactivating.contains 7 = false
    ∧ live.takesNum .hypervisor 0x2340 1 0 0 ∧ 0 ≠ live.get 0x2340 1
      ∧ (∀ k, k < 8 → (parted 1).partActive k = true → (parted 1).get (0x2310 + k) 6 < 2)
    ∧ live.takesNum .hypervisor 0x2340 1 1 0 ∧ 1 = live.get 0x2340 1
    ∧ live.takesNum .hypervisor 0x2350 3 0x5447 0
    ∧ (let s : State := { live with rg := { state := 3 } }
      s.takesNum .network 0x2350 2 0x484B 0 ∧ s.rg.state = 3 ∧ s.rg.restarting = false)
    ∧ live.takesNum .secure 0x2D12 64 255 0 ∧ live.takesNum .secure 0x2D12 1 0xFFFF 0 ∧ live.sliceState 63 = 0 := by
  refine ⟨serves ?_, num ?_, ?_, ?_, num ?_, ?_, ?_, ?_, ?_, num ?_, ?_, ?_, num ?_, ?_, num ?_, ⟨num ?_, ?_⟩, num ?_, num ?_, ?_⟩
  all_goals decide +kernel

/-- Granule 512, the first above the reserve, belongs to enclave 255. -/
def enclaved : State := { live with sec := { live.sec with granules := [(512, 256)] } }

theorem test_met_SafetyRows_enclaves :
    live.servesNow (pathOf .secure)
    ∧ live.takesStr .secure 0x2D10 1 (enclaveBytes 1 255 512 1) 0
      ∧ (∀ g, 512 ≤ g → g < 512 + 1 → live.get 0x2D01 3 ≤ g * 2097152 ∧ g * 2097152 < State.generalEnd ∧
        (NMap.get 0 live.sec.granules g = 0 ∨ NMap.get 0 live.sec.granules g = 255 + 1) ∧
        live.granuleUsed g (fun _ => true) = false)
    ∧ enclaved.takesStr .secure 0x2D10 1 (enclaveBytes 2 255 512 1) 0
      ∧ (∀ g, 512 ≤ g → g < 512 + 1 → NMap.get 0 enclaved.sec.granules g = 255 + 1 ∧
        enclaved.granuleUsed g (fun a => decide (a.slice < 64 ∧ enclaved.sliceEnclave a.slice = some 255)) = false)
    ∧ enclaved.takesStr .secure 0x2D10 1 (enclaveBytes 3 255 0 0) 0
      ∧ (∀ g, (g, 255 + 1) ∈ enclaved.sec.granules →
        enclaved.granuleUsed g (fun a => decide (a.slice < 64 ∧ enclaved.sliceEnclave a.slice = some 255)) = false) := by
  refine ⟨serves (by decide +kernel), str (by decide +kernel), ?_, str (by decide +kernel), ?_, str (by decide +kernel), ?_⟩
  · intro g a b
    obtain rfl : g = 512 := by omega
    decide +kernel
  · intro g a b
    obtain rfl : g = 512 := by omega
    decide +kernel
  · intro g _
    rfl


/-- A CONVERT of one element from table entry 1 to table entry 2, redundant, with further bits of the words. -/
def convertOf (more : Nat) : BitVec 512 :=
  BitVec.ofNat 512 (0x0403 + 2 * 2 ^ 16 + 2 ^ 27 + 0x10000001 * 2 ^ 64 + 0x10000002 * 2 ^ 128 + 2 ^ 192 + 2 ^ 224 + more)

/-- Slice 0 has tensors 1 and 2 of 64 B; partition 7 (slice 0, window 0 of engine 0, pairs) has a tuning frame of one CONVERT held in the
Serai as tensor 3. -/
def tuned : State :=
  let s := put (sliced 0 7) [(0x2317, 1, 1, 0), (0x2317, 5, 1, 0), (0x2337, 1, 0x10000003, 0), (0x2337, 2, 1, 0), (0x2337, 3, 0, 0),
    (0x2337, 4, 0x10000002, 0), (0x2337, 6, 0, 0), (0x2337, 7, 0, 0), (0x2337, 8, 900, 0), (0x2337, 0x0A, 1, 0), (0x2320, 1, 1000, 0)]
  let s := s.setB 0x2320 3 (leBytes 4 0 ++ leBytes 4 1000 ++ leBytes 2 1 ++ leBytes 1 7 ++ List.replicate 5 0)
  let t : TEntry := { gen := 0, slice := 0, bytes := 64 }
  let c : Copy := { slice := 0, data := leBytes 64 (convertOf 0).toNat, dirty := false, lastUse := 0 }
  { s with plc := { s.plc with table := [(1, some t), (2, some t), (3, some t)], serai := [(3, some c)]
                               engines := [(0, { state := .on })] } }

theorem test_met_SafetyRows_calibrate :
    tuned.servesNow (pathOf .hypervisor) ∧ tuned.takesNum .hypervisor 0x2337 0x0C 1 0 ∧ ∃ t, tuned.roused.calibrate 7 = .ok t := by
  refine ⟨serves ?_, num ?_, accepted ?_⟩
  all_goals decide +kernel
/-- A module whose key slot 0 holds the signer's key, with challenge and serial zero and the certificate supplied. -/
def keyed : State :=
  let s := put live [(0x1018, 4, 0, 0)]
  { s with sec := { s.sec with slots := [(0, some { hash := signerHash })], challenge := List.replicate 16 0, cert := some debugCert } }

theorem test_met_SecurityRows_watermark :
    live.servesNow (pathOf .secure) ∧ live.servesNow (pathOf .debug) ∧ live.servesNow (pathOf .hypervisor)
    ∧ live.takesNum .secure 0x2D01 1 0x40000000 0 ∧ live.sec.watermark ≤ 0x40000000 ∧ 0x40000000 ≤ live.get 0x2D01 3
      ∧ 0x40000000 % 67108864 = 0
    ∧ live.takesNum .secure 0x2D01 1 0x0C000000 0 ∧ 0x0C000000 < live.sec.watermark ∧ live.sec.target = none
    ∧ live.takesNum .secure 0x2D01 3 0x10000000 0 ∧ live.sec.watermark ≤ 0x10000000 ∧ 0x10000000 ≤ live.get 0x2D01 3
    ∧ live.takesNum .secure 0x2D01 3 0x05BC000000 0 ∧ live.get 0x2D01 3 < 0x05BC000000 ∧ live.anySlice = false
      ∧ 0x05BC000000 % 67108864 = 0 ∧ (∀ g, g ∈ live.sec.granules → 0x05BC000000 ≤ g.1 * 2097152)
      ∧ (∀ k, k < 8 → 0x05BC000000 ≤ (live.partRange k).1 ∨ (live.partRange k).2 ≤ live.sec.watermark)
    ∧ live.takesStr .secure 0x2D30 1 (List.replicate 16 255) 0
    ∧ live.takesNum .secure 0x2D30 3 1 0
    ∧ live.takesNum .secure 0x2D20 2 0x4B43 0 := by
  refine ⟨serves ?_, serves ?_, serves ?_, num ?_, ?_, ?_, ?_, num ?_, ?_, ?_, num ?_, ?_, ?_, num ?_, ?_, ?_, ?_, ?_, ?_, str ?_, num ?_,
    num ?_⟩
  on_goal 18 => exact fun g h => absurd h (List.not_mem_nil)
  all_goals decide +kernel

theorem test_met_SecurityRows_keys :
    live.takesStr .secure 0x2D40 3 (leBytes 1 3 ++ List.replicate 48 1) 0 ∧ live.keySlot 3 = none
    ∧ (let s : State := { live with sec := { live.sec with slots := [(0, some { hash := [] }), (3, some { hash := [] })] } }
      s.takesNum .secure 0x2D40 4 3 0 ∧ s.keySlot 3 = some { hash := [] }
      ∧ ∃ n x, n ≠ 3 ∧ (n, some x) ∈ s.sec.slots ∧ x.revoked = false)
    ∧ (let s : State := { live with sec := { live.sec with running := [(5, 9)], floors := [(5, 9)] } }
      s.takesStr .secure 0x2D40 6 (leBytes 1 5 ++ leBytes 4 9) 0 ∧ NMap.get 0 s.sec.floors 5 ≤ 9 ∧ 9 ≤ NMap.get 0 s.sec.running 5)
    ∧ live.takesNum .secure 0x2D40 7 0x4446 0 ∧ live.takesNum .secure 0x2D40 8 255 0
    ∧ live.takesStr .secure 0x2D40 1 (List.replicate 16 7) 0
    ∧ live.takesPiece .debug 0x2E01 2 debugCert 0
    ∧ keyed.takesStr .debug 0x2E01 3 debugResp 0 ∧ keyed.sec.lockout = false ∧ keyed.sec.cert = some debugCert
    ∧ live.takesNum .debug 0x2E01 5 1 0 := by
  refine ⟨str ?_, ?_, ⟨num ?_, ?_, ⟨0, { hash := [] }, ?_, ?_, rfl⟩⟩, ⟨str ?_, ?_, ?_⟩, num ?_, num ?_, str ?_, one ?_, str ?_, ?_, ?_,
    num ?_⟩
  all_goals decide +kernel

/-- The certificate and the response verify: R407 (the signatures are of FIPS 186-5, made outside the model). -/
theorem test_response_verifies : keyed.responseOk debugResp = true := by decide +kernel


/-- CAN0 serves USDO, Ethernet port 19 serves FMP. -/
def pathsOn : State := (put live [(0x1E00, 1, 0, 0), (0x2B10, 1, 1, 0), (0x1E10, 1, 2 ^ 20 - 1, 0), (0x1E10, 2, 0, 0)]).setCan 0 { st := 1 }

/-- An untagged FMP datagram of one record, of type `t` and target 0xFF. -/
def datagram (t : Nat) (rec : List Byte) : Datagram :=
  { port := 19, src := 1, srcPort := 2
    bytes := leBytes 2 0xF960 ++ leBytes 1 1 ++ leBytes 1 t ++ leBytes 2 65535 ++ leBytes 1 1 ++ leBytes 1 0 ++ leBytes 4 0
      ++ leBytes 1 0xFF ++ leBytes 3 0 ++ rec }

theorem target {o : Option FmpReq} (h : o.map (·.target) = some 0xFF) : ∃ q : FmpReq, o = some q ∧ q.target = 0xFF := by
  cases o with
  | none => cases h
  | some q => exact ⟨q, rfl, by simpa using h⟩

theorem test_met_DictionaryPathsServe :
    pathsOn.usdoServes = true ∧ pathsOn.servesNow .usdo
    ∧ (let u : UsdoSession := { upload := true, idx := 0, sub := 0, size := 1, data := [], last := 0 }
      let s : State := (pathsOn.setBase 1 { value := 2 ^ 48 * 1000000000 })
      ({ s with dic := { s.dic with usdo := some u } } : State).usdoServes = true ∧ u.last + 1000000000 ≤ s.now)
    ∧ pathsOn.servesNow .fmp
    ∧ (∃ q : FmpReq, pathsOn.roused.fmpAccept (datagram 1 (leBytes 12 0x2001)) = some q ∧ q.target = 0xFF)
    ∧ (∃ q : FmpReq, pathsOn.roused.fmpAccept (datagram 2 (leBytes 8 0x2001 ++ leBytes 4 4 ++ leBytes 4 1)) = some q ∧ q.target = 0xFF)
    ∧ (∃ q : FmpReq, pathsOn.roused.fmpAccept (datagram 3 (leBytes 8 0x2001 ++ leBytes 4 4 ++ leBytes 4 1)) = some q ∧ q.target = 0xFF)
    ∧ (∀ e, e ∈ pathsOn.dic.fmpCache → e.src ≠ 1 ∨ e.seq ≠ 65535)
    ∧ fmpIs 1 (datagram 1 []) = true ∧ fmpIs 2 (datagram 2 []) = true ∧ fmpIs 3 (datagram 3 []) = true ∧ fmpIs 3 (datagram 4 []) = true
    ∧ live.servesNow (.window (.slice 63)) ∧ (live.window (.slice 63)).busy = false
    ∧ bits (1 * 2 ^ 40) 43 40 = 1 ∧ bits (2 * 2 ^ 40 + 7) 43 40 = 2
    ∧ (let h : Held := Held.window .sec 0
      let s : State := { live with dic := { live.dic with held := [h] } }
      s.fwRunning = true ∧ s.dic.held.find? (fun h => decide (Held.path h = .window .sec)) = some h)
    ∧ (let p : Pieced := { path := .fmp, src := 0, data := [], last := 0 }
      let s : State := (live.setBase 1 { value := 2 ^ 48 * 1000000000 })
      NMap.get none ({ s with dic := { s.dic with pieced := [(entryKey 0 0x4000 1, some p)] } } : State).dic.pieced
        (entryKey 0 0x4000 1) = some p ∧ p.last + 1000000000 ≤ s.now) := by
  refine ⟨?_, serves ?_, ?_, serves ?_, target ?_, target ?_, target ?_, ?_, ?_, ?_, ?_, ?_, serves ?_, ?_⟩
  all_goals decide +kernel

theorem test_met_RegisterWritesLandInPlace :
    live.servesNow (pathOf .hypervisor)
    ∧ (∃ e, live.entryFor .hypervisor 0x2140 3 true = .ok (e, 0) ∧ live.takesNum .hypervisor 0x2140 3 1 0)
    ∧ (∃ t, live.roused.applyWrite .hypervisor {} none 0 0x2140 3 (.num 1) = .ok t)
    ∧ 0x05BFFFF000 < 0x0600000000 ∧ State.generalEnd < 0x05BFFFF000 + 8192 ∧ 0x05BFFFF000 + 4096 ≤ State.generalEnd := by
  refine ⟨serves ?_, both ?_, accepted ?_, ?_⟩
  all_goals decide +kernel

/-- Engine 0 runs; descriptor 5 of queue 0, of opcode `op`, in phase `p`, with further bits of the words. -/
def holding (op : Nat) (p : DPhase) (more : Nat) : State :=
  ((queued 0 { state := .enabled, p := 6, f := 6 }).setEngine 0 { state := .on }).setDesc 0 5 { w := BitVec.ofNat 512 (op + 2 * 2 ^ 16 + more), phase := p }

/-- That descriptor. -/
def held (op : Nat) (p : DPhase) (more : Nat) : Desc := { w := BitVec.ofNat 512 (op + 2 * 2 ^ 16 + more), phase := p }

theorem test_met_ComputeDescriptorsRun :
    ∀ op, op ∈ [0x0100, 0x0101, 0x0102, 0x0400, 0x0401, 0x0402, 0x0403, 0x0404, 0x0405, 0x0406, 0x0500, 0x0501, 0x0502, 0x0503,
      0x0504, 0x0200, 0x0201, 0x0202, 0x0203, 0x0204, 0x0300, 0x0307, 0x0301, 0x0302, 0x0303, 0x0304, 0x0305, 0x0306, 0x0700, 0x0701,
      0x0702] → (holding op .running 0).ready 0 5 op (held op .running 0) := by
  unfold State.ready
  decide +kernel

theorem test_met_ControlDescriptorsRun :
    (∀ op, op ∈ [0x0600, 0x0601, 0x0603, 0x0604, 0x0605, 0x0606, 0x0506] →
      (holding op .accepted 0).begins 0 5 op (held op .accepted 0))
    ∧ (holding 0x0602 .accepted 0).begins 0 5 0x0602 (held 0x0602 .accepted 0)
      ∧ ((holding 0x0602 .accepted 0).begun 0 5 (held 0x0602 .accepted 0)).waitMet ((holding 0x0602 .accepted 0).queueSlice 0)
        { held 0x0602 .accepted 0 with phase := .running } = true
    ∧ (holding 0x0602 .accepted (2 ^ 96)).begins 0 5 0x0602 (held 0x0602 .accepted (2 ^ 96))
      ∧ ((holding 0x0602 .accepted (2 ^ 96)).begun 0 5 (held 0x0602 .accepted (2 ^ 96))).waitMet
        ((holding 0x0602 .accepted (2 ^ 96)).queueSlice 0) { held 0x0602 .accepted (2 ^ 96) with phase := .running } = false
      ∧ (held 0x0602 .accepted (2 ^ 96)).fld 223 192 = 0
    ∧ (holding 0x0602 .accepted (2 ^ 96 + 2 ^ 192)).begins 0 5 0x0602 (held 0x0602 .accepted (2 ^ 96 + 2 ^ 192))
      ∧ ((holding 0x0602 .accepted (2 ^ 96 + 2 ^ 192)).begun 0 5 (held 0x0602 .accepted (2 ^ 96 + 2 ^ 192))).waitMet
        ((holding 0x0602 .accepted (2 ^ 96 + 2 ^ 192)).queueSlice 0)
        { held 0x0602 .accepted (2 ^ 96 + 2 ^ 192) with phase := .running } = false
      ∧ (held 0x0602 .accepted (2 ^ 96 + 2 ^ 192)).fld 223 192 ≠ 0
    ∧ (let d : Desc := { held 0x0602 .running 0 with deadline := some 0 }
      let s := (holding 0x0602 .running 0).setDesc 0 5 d
      s.desc 0 5 = some d ∧ d.phase = .running ∧ d.opcode s.compat = 0x0602 ∧ d.deadline = some 0 ∧ 0 ≤ s.now) := by
  unfold State.begins
  refine ⟨?_, ?_, ?_, ?_, ?_, ?_, ?_, ?_, ?_⟩
  all_goals decide +kernel

/-- The state in which descriptor 5 of queue 0 has been begun and fetched. -/
def directly (s : State) (op : Nat) : State := (s.readyDirect 0 5 (· = op)).2

/-- The descriptor, accepted as the eighth. -/
def free8 (op : Nat) (p : DPhase) : Desc := { held op p 0 with order := 8 }

/-- A PLN_LATTICE_FREE behind a plan that runs with lattice 0. -/
def behindPlan : State := ((holding 0x0902 .accepted 0).setDesc 0 4 (held 0x0900 .running 0)).setDesc 0 5 (free8 0x0902 .accepted)

/-- A present on output 0, layer 0, which is configured for slice 0. -/
def presenting : State := (holding 0x0803 .accepted 0).setLayer 0 0 { cfg := [0] }

/-- A send to node 0, which is present. -/
def sending : State := (holding 0x0505 .accepted 0).setB 0x2C00 5 (1#8 :: List.replicate 23 0)

theorem test_met_DirectFamiliesRun :
    (∀ op, op ∈ [0x0A00, 0x0800, 0x0801, 0x0802, 0x0900, 0x0901, 0x0902, 0x0903] →
      (holding op .accepted 0).readyDirect 0 5 (· = op) = (some (held op .running 0), directly (holding op .accepted 0) op))
    ∧ (holding 0x0800 .accepted 0).gov.halt = false ∧ (directly (holding 0x0800 .accepted 0) 0x0800).pass 0 5 = none
      ∧ ((directly (holding 0x0800 .accepted 0) 0x0800).paramsStale ((directly (holding 0x0800 .accepted 0) 0x0800).queueSlice 0) 0
        && (directly (holding 0x0800 .accepted 0) 0x0800).paramsHeld
          ((directly (holding 0x0800 .accepted 0) 0x0800).queueSlice 0)) = false
    ∧ (∀ op, op ∈ [0x0801, 0x0802] →
      (directly (holding op .accepted 0) op).readyDesc 0 5 (· = op) = some (held op .running 0))
    ∧ presenting.begins 0 5 0x0803 (held 0x0803 .accepted 0)
      ∧ (presenting.layer (held 0x0803 .accepted 0).pOut (held 0x0803 .accepted 0).pLayer).cfg.headD 0xFF = presenting.queueSlice 0
    ∧ (directly (holding 0x0900 .accepted 0) 0x0900).plan 0 5 = none
    ∧ behindPlan.readyDirect 0 5 (· = 0x0902) = (some (free8 0x0902 .running), directly behindPlan 0x0902)
      ∧ (directly behindPlan 0x0902).latticeBusy ((directly behindPlan 0x0902).queueSlice 0) 0 8 = true
    ∧ (directly (holding 0x0902 .accepted 0) 0x0902).latticeBusy
        ((directly (holding 0x0902 .accepted 0) 0x0902).queueSlice 0) 0 0 = false
      ∧ (directly (holding 0x0902 .accepted 0) 0x0902).readyDirect 0 5 (· = 0x0902)
        = (some (held 0x0902 .running 0), directly (holding 0x0902 .accepted 0) 0x0902)
    ∧ sending.begins 0 5 0x0505 (held 0x0505 .accepted 0)
      ∧ (let t := sending.begun 0 5 (held 0x0505 .accepted 0)
        t.groupHere (held 0x0505 .running 0) = true ∧ t.sendFails 0 5 (held 0x0505 .running 0) = none
          ∧ t.fetchInputs 0 5 (held 0x0505 .running 0) = some t ∧ t.fetching 0 5 = false)
    ∧ (let s : State := (holding 0x0505 .running 0).setBase 1 { value := 2 ^ 48 * 1000000000 }
      let t : State := { put s [(0x2C02, 5, 1000, 0)] with lnk := { s.lnk with waiting := [(0, 5, 0)] } }
      t.lnk.waiting.find? (fun e => decide (e.1 = 0 ∧ e.2.1 = 5)) = some (0, 5, 0) ∧ t.get 0x2C02 5 ≠ 0
        ∧ 0 + 1000 * t.get 0x2C02 5 ≤ t.now ∧ t.noSlot 0 5 = true) := by
  unfold State.begins
  decide +kernel

/-- The same machine with TB1 at `t` ns. -/
def at_ (s : State) (t : Nat) : State := s.setBase 1 { value := 2 ^ 48 * t }

theorem test_met_GovernorAndSupplyEvents :
    live.gov.release = false ∧ live.gov.pendCeiling = none ∧ live.gov.pendMv = none
    ∧ live.govFixed = false ∧ live.powerLimit < live.powerLimit + 1
    ∧ (put live [(0x2110, 1, 1, 0)]).govFixed = true
    ∧ (let s := (put live [(0x2111, 2, 800, 0)]).setGov { live.gov with powerAct := .lower };
      s.govFixed = false ∧ s.gov.powerAct = .lower ∧ s.ceiling = 800 ∧ s.gov.unmetSaid = false)
    ∧ (let s := (at_ live 1000001).setGov { live.gov with subSince := some 0 };
      s.gov.subSince = some 0 ∧ s.gov.subDoubted = false ∧ 0 + 1000000 < s.now)
    ∧ (live.setGov { live.gov with settled := false }).gov.settled = false
    ∧ live.holdPoint ≤ live.holdPoint ∧ 4500 ≤ live.holdPoint ∧ live.gov.dark = false
    ∧ 4499 < live.holdPoint ∧ max 4499 4499 < 4500 := by
  decide +kernel

/-- Queue 0 of slice 0, enabled, resident, its ring mapped, with descriptor count 1 published. -/
def ringed : State :=
  let s := sliced 0 7
  let s : State := { s with mem := { s.mem with maps := [{ pasid := 7, va := 0x10000, bytes := 4096, pa := 0x40000000 }] } }
  s.setQueue 0 { state := .enabled, ringLog2 := 4, cringLog2 := 4, ringVa := 0x10000, resident := true, p := 1 }

theorem test_met_FrontEndEvents :
    (let s := live.setQueue 262143 { state := .disabled, ringLog2 := 4, cringLog2 := 20, wr := 1048576 };
      2097144 < 2097152 ∧ (s.queue (2097144 / 8)).state ≠ .unconfigured
      ∧ diff32 16 (s.queue 262143).f ≤ 2 ^ (s.queue 262143).ringLog2
      ∧ diff32 (s.queue 262143).wr 0 ≤ 2 ^ (s.queue 262143).cringLog2)
    ∧ (let s := (live.setQueue 0 { resident := true }).setQueue 262143 { pendingSince := some 0 };
      (s.queue 0).resident = true ∧ s.idleContext 0 = true ∧ s.nextPending = some 262143)
    ∧ (let s := ringed.setBwClass (ringed.classOf (.frontEnd 0)) { cap := 1, charged := 10000000 };
      s.mayFetch 0 = true ∧ s.frontHeld 0 = true)
    ∧ (let s : State := { ringed with mem := { ringed.mem with maps := [{ pasid := 7, va := 0x10000, bytes := 4096, pa := 0x0600000000 }] } };
      s.mayFetch 0 = true ∧ s.frontHeld 0 = false ∧ s.slotPa 0 (s.queue 0).f = some 0x0600000000
        ∧ State.inHbm (0x0600000000 + 63) = false)
    ∧ ringed.mayFetch 0 = true ∧ ringed.frontHeld 0 = false ∧ ringed.slotPa 0 (ringed.queue 0).f = some 0x40000000
      ∧ State.inHbm (0x40000000 + 63) = true
      ∧ ringed.refuses (.frontEnd (ringed.queueSlice 0)) 0x40000000 64 = false
      ∧ (∀ g, g ∈ State.granulesOf 0x40000000 64 →
        (ringed.chargeRange (.frontEnd (ringed.queueSlice 0)) 0x40000000 64).mem.poisoned.contains g = false)
    ∧ (holding 0x0600 .done 0).oldestDesc 0 = some (5, held 0x0600 .done 0) ∧ (held 0x0600 .done 0).phase = .done
      ∧ (holding 0x0600 .done 0).awaitsAck 0 5 = false ∧ (held 0x0600 .done 0).tagged = false
      ∧ ((holding 0x0600 .done 0).leavesRecord (held 0x0600 .done 0) && (holding 0x0600 .done 0).frontHeld 0) = false
    ∧ ((live.setQueue 262143 { irqHeld := true }).queue 262143).irqHeld = true
    ∧ ((live.setSlice 63 { irqHeld := true }).sliceX 63).irqHeld = true
    ∧ (put live [(0x257F, 3, 3, 0)]).sliceState 63 = 3 ∧ (put live [(0x257F, 3, 3, 0)]).ranDown 63 = true
    ∧ (let s := at_ ((put live [(0x257F, 3, 1, 0), (0x257F, 6, 1, 0), (0x257F, 4, 0, 0), (0x257F, 5, 1, 0)]).setSlice 63 {
        graceStart := some 0 }) 1000000;
      s.graceExpired 63 = true) := by
  decide +kernel

/-- A tile of the descriptor that `holding` holds. -/
def tile : Tile := { q := 0, n := 5, t := 0, prio := 0, order := 0 }

/-- Engine 15 as given beside engine 0. -/
def engined (e : Engine) : State := (holding 0x0500 .running 0).setEngine 15 e

theorem test_met_EngineEvents :
    (let s := holding 0x0500 .accepted 0;
      s.nextDeal = some (0, 5, held 0x0500 .accepted 0) ∧ s.fetchInputs 0 5 (held 0x0500 .accepted 0) = some s
        ∧ s.convBegin 0 5 (held 0x0500 .accepted 0) = some s)
    ∧ ((engined { running := some tile }).engine 15).running = some tile ∧ tile.run = 0
    ∧ ((engined { running := some { tile with run := 1 } }).engine 15).running = some { tile with run := 1 }
    ∧ ((engined { running := some tile, stop := some .window }).engine 15).stop = some .window
      ∧ (engined { running := some tile, stop := some .window }).stopSlot 15
        = (some 15, engined { running := some tile, stop := some .window })
    ∧ (let s := (engined { state := .on }).setSlot 15 (some tile);
      (s.engine 15).running = none ∧ (s.engine 15).selftest = none ∧ s.droneHolds 15 = false ∧ s.mayRestore 15 15 = some tile)
    ∧ (let s := engined { state := .enabling };
      (s.engine 15).state = .enabling ∧ (s.engine 15).retest = false ∧ (s.engine 15).wantDisable = false)
    ∧ (let s := engined { state := .disabling, abort := 1 };
      (s.engine 15).state = .disabling ∧ (s.engine 15).abort = 1 ∧ (s.engine 15).running = none ∧ (s.engine 15).wantEnable = false)
    ∧ (let s := engined { state := .disabling, abort := 1, running := some tile };
      (s.engine 15).running = some tile ∧ s.disableSlot 15 = some 16 ∧ ((s.saveOrLose 15 tile 16 0 none 0).engine 15).state = .disabling
        ∧ ((s.saveOrLose 15 tile 16 0 none 0).engine 15).running = none
        ∧ ((s.saveOrLose 15 tile 16 0 none 0).engine 15).wantEnable = false)
    ∧ ((engined { state := .disabling, abort := 2 }).engine 15).abort = 2 := by
  decide +kernel

/-- Node 1, whose port 3 is up, with tag 7 in use for a small read, a bulk read and a confirmed write. -/
def linked : State :=
  let s := put live [(0x2C01, 5, 2, 0), (0x2C00, 1, 1, 0)];
  { s with lnk := { s.lnk with small := [(7, some { what := .bitmap, node := 0, time := 0 })]
                               bulk := [(8, some { q := 0, n := 0, root := 0, off := 0, len := 1, node := 0, time := 0 })]
                               writes := [(7, some { what := .store 0 0, node := 0, time := 0 })] } }

/-- A frame from node 0 for node 1, on its ninth hop, with its CRC. -/
def frame (kind tag addr : Nat) : Frame :=
  let f : Frame := { dst := 1, src := 0, kind := kind, cls := 3, tag := tag, addr := addr, hops := 9, payload := [1#8], len := 1 };
  { f with crc := frameCheck f }

/-- The state in which the frame's effect is taken. -/
def arrived (f : Frame) : State := (linked.workArrives.bump 0x2C08 2).count (319 + 3) f.payload.length

/-- Whether a frame lands. -/
def landsOk (s : State) (port : Nat) (f : Frame) (kind : Nat) (t : State) (g : Frame) : Bool :=
  decide (port < 4 ∧ f.kind = kind ∧ s.portState port = 2 ∧ s.received port (frameType kind) f.cls + frameSize f ≤ bufferBytes
    ∧ s.hostOn port = false ∧ frameCheck f = f.crc ∧ f.hops < 10
    ∧ t = (s.workArrives.bump 0x2C08 2).count (319 + port) f.payload.length ∧ g = { f with hops := f.hops + 1, cls := f.cls % 4 }
    ∧ t.isMine port g = true ∧ t.accepts port g = true) && (match t.frameClass g with
      | some c => !t.capHolds c
      | none => true) && !t.behindParked port g

theorem lands {s t : State} {port : Nat} {f g : Frame} {kind : Nat} (h : landsOk s port f kind t g = true) : s.lands port f kind t g := by
  unfold landsOk at h
  simp only [Bool.and_eq_true, decide_eq_true_eq, Bool.not_eq_true'] at h
  obtain ⟨⟨⟨h1, h2, h3, h4, h5, h6, h7, h8, h9, h10, h11⟩, h12⟩, h13⟩ := h
  refine ⟨h1, h2, h3, h4, h5, h6, h7, h8, h9, h10, h11, ?_, h13⟩
  intro c hc
  rw [hc] at h12
  simpa using h12

theorem test_met_LinkFrameEvents :
    (∀ k, k ∈ [kWriteP, kWriteC, kRead, kCaravan, kCredit, kMessage, kHello, kAssign, kSignalRc] →
      linked.lands 3 (frame k 7 0x40000000) k (arrived (frame k 7 0x40000000)) { frame k 7 0x40000000 with hops := 10 })
    ∧ (frame kRead 7 0x40000000).len ≤ 4064
    ∧ linked.lands 3 (frame kCompletion 7 0) kCompletion (arrived (frame kCompletion 7 0)) { frame kCompletion 7 0 with hops := 10 }
      ∧ NMap.get none (arrived (frame kCompletion 7 0)).lnk.small 7 = some { what := .bitmap, node := 0, time := 0 }
    ∧ linked.lands 3 (frame kCompletion 8 0) kCompletion (arrived (frame kCompletion 8 0)) { frame kCompletion 8 0 with hops := 10 }
      ∧ NMap.get none (arrived (frame kCompletion 8 0)).lnk.small 8 = none
      ∧ NMap.get none (arrived (frame kCompletion 8 0)).lnk.bulk 8
        = some { q := 0, n := 0, root := 0, off := 0, len := 1, node := 0, time := 0 }
    ∧ linked.lands 3 (frame kAck 7 0) kAck (arrived (frame kAck 7 0)) { frame kAck 7 0 with hops := 10 }
      ∧ NMap.get none (arrived (frame kAck 7 0)).lnk.writes 7 = some { what := .store 0 0, node := 0, time := 0 }
    ∧ linked.lands 3 (frame kSignalRc 7 (State.signalPage + 511)) kSignalRc (arrived (frame kSignalRc 7 (State.signalPage + 511)))
        { frame kSignalRc 7 (State.signalPage + 511) with hops := 10 }
    ∧ linked.lands 3 (frame kSignalRc 7 (State.signalPage + 512)) kSignalRc (arrived (frame kSignalRc 7 (State.signalPage + 512)))
        { frame kSignalRc 7 (State.signalPage + 512) with hops := 10 } := by
  refine ⟨?_, ?_, lands ?_, ?_, lands ?_, ?_, ?_, lands ?_, ?_, lands ?_, lands ?_⟩
  on_goal 1 => exact fun k h => lands ((by decide +kernel : ∀ k, k ∈ [kWriteP, kWriteC, kRead, kCaravan, kCredit, kMessage, kHello,
    kAssign, kSignalRc] → landsOk linked 3 (frame k 7 0x40000000) k (arrived (frame k 7 0x40000000))
      { frame k 7 0x40000000 with hops := 10 } = true) k h)
  all_goals decide +kernel

/-- Node 1 beside node 2, with outbound windows 0 (posted) and 63 (confirmed) of 2 MiB each to node 2. -/
def windowed : State :=
  let w (base mode : Nat) : List Byte := leBytes 8 base ++ leBytes 8 2097152 ++ leBytes 8 0x40000000 ++ leBytes 1 2 ++ leBytes 1 mode
    ++ leBytes 1 3 ++ leBytes 1 1 ++ List.replicate 4 0;
  (((put live [(0x2C00, 1, 1, 0)]).setB 0x2C00 5 (leBytes 24 7)).setB 0x2C03 1 (w 0 0)).setB 0x2C03 64 (w 2097152 1)

/-- What the windows answer to an address: the window and the address at its node. -/
def windowOf (mode : Nat) : OutWin :=
  { base := mode * 2097152, size := 2097152, target := 0x40000000, node := 2, mode := mode, cls := 3, on := true }

theorem tag_given {s : State} {t : SmallTag} (h : s.lnk.small = []) : ∃ tag u, s.smallTag t = (some tag, u) := by
  unfold State.smallTag State.freshTag
  rw [h]
  exact ⟨_, _, rfl⟩

theorem test_met_LinkEvents :
    windowed.windowAt (aperture + 2097151) 1 = some (windowOf 0, 0x401FFFFF) ∧ (windowOf 0).node ≠ windowed.nodeId
      ∧ windowed.nodePresent 2 = true
    ∧ windowed.windowAt (aperture + 2097152) 1 = some (windowOf 1, 0x40000000)
    ∧ windowed.windowAt (aperture + 2097152 + 2097088) 64 = some (windowOf 1, 0x401FFFC0)
    ∧ (∃ tag t, windowed.smallTag { what := .reader .firmware, node := 2, time := windowed.now } = (some tag, t))
    ∧ NMap.get none (at_ linked 1000000000).lnk.writes 7 = some { what := .store 0 0, node := 0, time := 0 }
      ∧ 0 + 1000 * (at_ linked 1000000000).get 0x2C02 3 ≤ (at_ linked 1000000000).now
    ∧ NMap.get none (at_ linked 1000000000).lnk.small 7 = some { what := .bitmap, node := 0, time := 0 }
      ∧ 0 + 1000 * (at_ linked 1000000000).get 0x2C02 1 ≤ (at_ linked 1000000000).now
    ∧ (let e : QFrame := { frame := frame kCompletion 7 0, order := 0, time := 0, follows := false, came := none }
      let s : State := (at_ linked 1000000000).setBuffer (bufferKey 3 2 3) [e]
      s.lnk.queued.find? (fun x => x.2.any (s.staleCompletion 3 x.1 (frame kCompletion 7 0))) = some (bufferKey 3 2 3, [e]))
    ∧ (∀ k b q, (k, b) ∈ live.lnk.queued → q ∈ b → live.staleCompletion 3 k (frame kCompletion 7 0) q = false)
    ∧ linked.portState 3 ≠ 0 ∧ linked.portState 0 = 0
    ∧ NMap.get none (at_ linked 1000000000).lnk.bulk 8
        = some { q := 0, n := 0, root := 0, off := 0, len := 1, node := 0, time := 0 } := by
  refine ⟨?_, ?_, ?_, ?_, ?_, tag_given ?_, ?_, ?_, ?_, ?_, ?_, fun k b q h => absurd h List.not_mem_nil, ?_⟩
  all_goals decide +kernel

theorem test_met_MemoryEvents :
    (live.feedbackSignal (pcOf 0x05FFFFFFC0) 0).capped ((live.feedbackSignal (pcOf 0x05FFFFFFC0) 0).classOf .firmware) = false
      ∧ (live.feedbackSignal (pcOf 0x05FFFFFFC0) 0).mem.feedback.contains (pcOf 0x05FFFFFFC0) = false
    ∧ live.capped (live.classOf .firmware) = false ∧ live.mem.feedback.contains (pcOf 0x05FFFFFFFF) = false
      ∧ State.inHbm (0x05FFFFFFFF + [1#8].length - 1) = true ∧ live.refuses .secProc 0x05FFFFFFFF [1#8].length = false
    ∧ State.hbmLevel (State.levelOfFigure (live.get 0x2402 2)) 20 = 0
    ∧ State.hbmLevel (State.levelOfFigure (live.get 0x2402 2)) 100 ≠ 0 := by
  decide +kernel

/-- Slice 0's pass 5 of queue 0, on pipe 3. -/
def drawing : State :=
  let s := (at_ (holding 0x0800 .running 0) 1000000000).setPipe 3 { (live.pipe 3) with pass := some (0, 5) };
  { s with gfx := { s.gfx with passes := [{ q := 0, n := 5, slice := 0, prio := 0, order := 0 }] } }

/-- A plan of 16 lanes with 2 us, 1 us of it for its final phase. -/
def thePlan (phase : Nat) : Plan :=
  { q := 0, n := 5, slice := 0, prio := 0, order := 0, lanes := 16, lattice := 0, budgetUs := 2, finalUs := 1, world := 0, resp := 0
    scratch := 0, req := List.replicate 128 0, phase := phase }

/-- That plan alone, TB1 at `t` ns. -/
def planned (phase t : Nat) : State :=
  let s := at_ (sliced 0 7) t;
  { s with pln := { s.pln with plans := [thePlan phase] } }

/-- ANC and voice run, playback has a tensor and runs. -/
def sounding : State := put acoustic [(0x2A00, 0x0B, 1, 1), (0x2A00, 0x15, 1, 1), (0x2A00, 0x18, 1, 1), (0x2A00, 0x19, 1, 1)]

theorem test_met_DisplayAndAcousticEvents :
    drawing.gov.halt = false ∧ drawing.pipeLate 3 = true ∧ (drawing.setGov { drawing.gov with halt := true }).gov.halt = true
    ∧ (put live [(0x2883, 1, 1, 0)]).get 0x2883 1 ≠ 0 ∧ (put live [(0x2880, 1, 1, 0)]).get 0x2880 1 ≠ 0
    ∧ (put live [(0x2883, 0x0D, 1, 0)]).get 0x2883 0x0D ≠ 0
    ∧ (planned 0 0).gov.halt = false ∧ (planned 0 0).nextPlan = some (thePlan 0)
      ∧ (thePlan 0).lanes + (planned 0 0).lanesKept (thePlan 0).slice ≤ (planned 0 0).lanesFree.length
    ∧ (planned 1 999).gov.halt = false ∧ (planned 1 999).plan 0 5 = some (thePlan 1) ∧ (planned 1 999).now < (thePlan 1).windowEnd
    ∧ (planned 1 1000).plan 0 5 = some (thePlan 1) ∧ (thePlan 1).windowEnd ≤ (planned 1 1000).now
    ∧ (planned 2 1000).plan 0 5 = some (thePlan 2)
    ∧ (put live [(0x2A13, 16, 1, 0)]).get 0x2A13 16 ≠ 0 ∧ live.acu.ignored.contains 15 = false
    ∧ (let s : State := { sounding with acu := { sounding.acu with ready := some [] } };
      s.acu.ready = some [] ∧ s.acu.result = none ∧ s.ancLive = true)
    ∧ (let s : State := { sounding with acu := { sounding.acu with voiceFrames := 480 } };
      s.acuOwner 2 = some 0 ∧ s.voiceRuns = true ∧ 480 * (s.acuGet 2 0x16 + 1) ≤ s.acu.voiceFrames)
    ∧ sounding.acuOwner 3 = some 0 ∧ sounding.playRuns = true ∧ sounding.acu.play = []
    ∧ (let s : State := { sounding with acu := { sounding.acu with same := [(32, 4800)] } };
      s.inputUsed 32 = true ∧ s.acu.stuck.contains 32 = false ∧ 4800 ≤ NMap.get 0 s.acu.same 32)
    ∧ (let s : State := { sounding with acu := { sounding.acu with stuck := [47], changed := [(47, 480)] } };
      s.acu.stuck.contains 47 = true ∧ 480 ≤ NMap.get 0 s.acu.changed 47)
    ∧ (put live [(0x2A1F, 1, 2, 0), (0x2A1F, 4, 1, 0)]).laneRuns 7 2 = true := by
  decide +kernel

/-- Two CAN frames; the first wins arbitration. -/
def canFrame1 : BusFrame := { ide := false, fd := true, brs := true, xl := false, rtr := false, id := 1, data := [1#8] }
def canFrame2 : BusFrame := { ide := false, fd := false, brs := false, xl := true, rtr := false, id := 2, data := [] }

/-- CAN channel 15 (2 Mbit/s data, XL) and channel 0 run; channel 15 has two frames to send. -/
def bus : State :=
  let s := put live [(0x2B1F, 1, 1, 0), (0x2B1F, 3, 2000, 0), (0x2B1F, 6, 1, 0), (0x2B10, 1, 1, 0)];
  (s.setCan 15 { st := 2, tx := [canFrame2, canFrame1], txErr := 247 }).setCan 0 { st := 1 }

/-- LIN channel 7 runs with a schedule of one slot. -/
def linOn : State := (put live [(0x2B37, 1, 1, 0), (0x2B37, 6, 1, 0)]).setB 0x2B37 3 (leBytes 1 0x3F ++ leBytes 3 10)

/-- Switch port 19 is up. -/
def switching : State := put live [(0x2B53, 1, 1, 0), (0x2B53, 5, 1, 0)]

/-- An Ethernet frame without a tag. -/
def ethFrame : EthFrame := { dstMac := 2, srcMac := 4, vlan := none, pcp := 0, etherType := 0x800, len := 64, payload := [] }

/-- Stream 63 receives, with sequence number 254 last; stream 0 transmits and has a message. -/
def streams : State :=
  let r (id dir : Nat) : List Byte := leBytes 8 id ++ leBytes 8 0 ++ leBytes 2 dir ++ leBytes 2 0 ++ List.replicate 12 0;
  let s := live.setB 0x4100 1 (r 1 2 ++ List.replicate (62 * 32) 0 ++ r 9 1);
  let m : AcfMsg := { acfType := 1, bus := 0, frame := canFrame1, mtv := false, timestamp := 0 };
  { s with gtw := { s.gtw with seqRx := [(63, some 254)], building := [(0, [m])] } }

theorem test_met_GatewayEvents :
    bus.canTakes 15 canFrame1 = true ∧ bus.canTakes 15 canFrame2 = true ∧ bus.canTakes 0 { canFrame1 with fd := false } = true
    ∧ bus.canLive 15 = true ∧ bus.get 0x2B1F 1 = 1 ∧ bus.canFenced 15 = false ∧ bus.canWinner 15 = some canFrame1
      ∧ (bus.can 15).txErr ≤ 247
    ∧ bus.canLive 0 = true
    ∧ (let s := live.setCan 15 { st := 3, recovering := true }; (s.can 15).st = 3 ∧ (s.can 15).recovering = true)
    ∧ ((live.setCan 15 { st := 4 }).can 15).st = 4
    ∧ (records 4 (linOn.getB 0x2B37 3)).length = 1
      ∧ (records 4 (linOn.getB 0x2B37 3))[(linOn.lin 7).pos % 1]? = some (leBytes 1 0x3F ++ leBytes 3 10)
      ∧ linOn.get 0x2B37 1 = 1 ∧ linOn.linState 7 = 1
    ∧ (put live [(0x2B37, 6, 3, 0)]).linState 7 = 3
    ∧ switching.ethGet 19 1 ≠ 0 ∧ switching.ethGet 19 5 ≠ 0
    ∧ (put live [(0x2B53, 1, 1, 0)]).ethGet 19 1 ≠ 0 ∧ (put live [(0x2B53, 1, 1, 0)]).ethGet 19 5 ≠ 1
    ∧ switching.portUp 19 = true ∧ switching.portUp 21 = true ∧ switching.getB 0x2B60 3 = [] ∧ switching.getB 0x2B60 4 = []
      ∧ 1 = (match ethFrame.vlan with | some v => if v = 0 then 1 else v | none => 1)
    ∧ NMap.get none live.gtw.gclPend 21 = none
    ∧ (let g : GateList := { entries := [], base := 0, cycle := 1 };
      let s : State := { live with gtw := { live.gtw with gclPend := [(21, some g)] } };
      NMap.get none s.gtw.gclPend 21 = some g ∧ g.base ≤ s.tb 0)
    ∧ NMap.get [] streams.gtw.building 0 ≠ [] ∧ NMap.get 0 streams.gtw.opened 0 + 1000 * field (streams.stream 0) 18 2 ≤ streams.now
    ∧ ((List.range 64).find? fun j => decide (9 ≠ 0 ∧ streams.streamId j = 9 ∧ field (streams.stream j) 16 1 = 1)) = some 63
      ∧ NMap.get none streams.gtw.seqRx 63 = some 254
    ∧ (let s : State := { live with rg := { state := 3 } }; s.rg.fence = false ∧ 1 ≤ s.rg.state ∧ s.rg.state ≤ 3) := by
  repeat' refine And.intro ?_ ?_
  all_goals decide +kernel

theorem test_met_HardwareAndTimeEvents :
    (put live [(0x2BA0, 0x0C, 8, 0)]).goOn 3 = true ∧ (put live [(0x2BA0, 0x0C, 8, 0)]).hw.goOpen.contains 3 = false
    ∧ (put live [(0x2160, 1, 2 ^ 11, 0)]).camOn 11 = true ∧ NMap.get 0 (put live [(0x2160, 1, 2 ^ 11, 0)]).hw.cam 11 = 0
    ∧ NMap.get 0 ((put live [(0x2160, 1, 2 ^ 11, 0)]).setCam 11 2).hw.cam 11 = 2
      ∧ ((put live [(0x2160, 1, 2 ^ 11, 0)]).setCam 11 2).camOn 11 = true
    ∧ State.inRange (-5000) = true ∧ State.inRange (-4500) = true ∧ ¬ (500 < (-5000 : Int) - -4500 ∨ 500 < (-4500 : Int) - -5000)
    ∧ live.secureReader 28 = true ∧ live.secureReader 24 = false
    ∧ (let s := put live [(0x2217, 1, 1, 0), (0x2217, 0x0A, 1, 0)];
      s.get 0x2217 1 = 1 ∧ (s.set 0x2217 9 (ofSigned 64 (-1000000))).get 0x2217 0x0A = 1)
    ∧ (let s := put live [(0x2217, 1, 1, 0), (0x2217, 0x0A, 0, 0)];
      s.get 0x2217 1 = 1 ∧ (s.set 0x2217 9 (ofSigned 64 1000000)).get 0x2217 0x0A ≠ 1) := by
  repeat' refine And.intro ?_ ?_
  all_goals decide +kernel

/-- The tuned partition active under its layout, TB1 at `t` ns, window and tuning frame as given, engine 0 with a tile. -/
def laidOut (t : Nat) (w : WinState) (f : TfState) (e : Engine) : State :=
  let s := ((at_ (put tuned [(0x2317, 0x0A, 1, 0)]) t).setWin 0 w).setTframe 7 f;
  { s.setEngine 0 e with saf := { s.saf with layoutInForce := true } }

/-- The frame's own queue holds one descriptor, done. -/
def framed : State :=
  let s := laidOut 0 {} { phase := .running } {};
  s.setQueue (frameQueue 7) { s.queue (frameQueue 7) with desc := [(0, some (held 0x0403 .done 0))] }

theorem test_met_PartitionEvents :
    (laidOut 0 {} {} {}).get 0x2320 1 ≠ 0 ∧ (laidOut 0 {} {} {}).saf.frameStart ≠ some (laidOut 0 {} {} {}).lastBoundary
    ∧ (laidOut 0 {} {} {}).windowRec 0 = some (0, 1000, 1, 7) ∧ (laidOut 0 {} {} {}).saf.layoutInForce = true
      ∧ (laidOut 0 {} {} {}).partActive 7 = true ∧ ((laidOut 0 {} {} {}).winState 0).phase = .idle
      ∧ (laidOut 0 {} {} {}).leadDue (0, 1000, 1, 7) = true
    ∧ (let s := laidOut 0 { phase := .lead } {} { running := some tile };
      (s.winState 0).phase = .lead ∧ s.sinceStart 0 < 1000 * 1000)
    ∧ (let s := laidOut 1000000 { phase := .running } {} {};
      (s.winState 0).phase = .running ∧ (s.winState 0).late = [] ∧ (s.winState 0).start + 1000 * 1000 ≤ s.now ∧ ((s.setWin 0 {}).tframe 7).phase ≠ .running)
    ∧ (let s := laidOut 0 {} {} { running := some { tile with run := 2 } };
      (s.engine 0).running = some { tile with run := 2 } ∧ s.pairPoison { tile with run := 2 } = none
        ∧ ((s.parityEvent 0 7).loseCopy { tile with run := 2 } 7).pairPoison { tile with run := 2 } = none)
    ∧ (0#64, 0#64) ≠ (0#64, 1#64)
    ∧ ((laidOut 0 {} {} { selftest := some tile }).engine 0).selftest = some tile
    ∧ (let s := laidOut 0 { phase := .running } {} {};
      s.get 0x2337 1 ≠ 0 ∧ (s.tframe 7).phase = .idle ∧ 0 = s.get 0x2337 6 ∧ s.get 0x2320 4 % max 1 (s.get 0x2337 0x0A) = 0
        ∧ (s.winState 0).start + 1000 * s.get 0x2337 7 ≤ s.now)
    ∧ (let s := laidOut 900000 { phase := .running } { phase := .running } { queue := [{ tile with tuning := 8 }] };
      (s.tframe 7).phase = .running ∧ (s.tframe 7).calib = false ∧ (s.winState 0).start + 1000 * s.get 0x2337 8 ≤ s.now
        ∧ (List.range 16).filter (fun e => !(s.tframe 7).begun.contains e
            && decide (((s.engine e).queue.filter fun t => decide (t.tuning = 7 + 1)) ≠ [])) ≠ [])
    ∧ (framed.tframe 7).phase = .running ∧ (framed.tframe 7).calib = false ∧ (framed.tframe 7).failed = false
    ∧ (∀ n d, (n, some d) ∈ (framed.queue (frameQueue 7)).desc → d.phase = .done) := by
  have e : (framed.queue (frameQueue 7)).desc = [(0, some (held 0x0403 .done 0))] := by decide +kernel
  rw [e]
  repeat' refine And.intro ?_ ?_
  all_goals first
    | decide +kernel
    | (intro n d h; simp only [List.mem_singleton, Prod.mk.injEq, Option.some.injEq] at h; rw [h.2]; rfl)

/-- Self-tests are enabled, with a slice of the unit as given; TB1 at `t` ns. -/
def testing (u : TestUnit) (t : Nat) (d : DroneUnit) : State :=
  ((at_ (put live [(0x2340, 1, 1, 0), (0x2340, 2, 1, 0)]) t).setEngine 15 { state := .on }).setDrone u d

/-- The Rearguard in a state, TB1 at `t` ns, with the signer's key in slot 0. -/
def guarded (st t : Nat) : State :=
  let s := at_ live t;
  { s with rg := { s.rg with state := st }, sec := { s.sec with slots := [(0, some { hash := signerHash })] } }

theorem test_met_SelfTestAndRearguardEvents :
    (testing (.engine 15) 0 {}).tested (.engine 15) = true ∧ ((testing (.engine 15) 0 {}).drone (.engine 15)).running = false
      ∧ (testing (.engine 15) 0 {}).unitIdle (.engine 15) = true ∧ (testing (.engine 15) 0 {}).sliceFits (.engine 15) = true
    ∧ (let s := (((laidOut 0 { phase := .lead } {} {}).setEngine 0 { state := .on }).setDrone (.engine 0) { running := true });
      (s.drone (.engine 0)).running = true ∧ s.leadBegun (.engine 0) = true)
    ∧ ((testing (.lane 15) 0 { running := true }).drone (.lane 15)).running = true
    ∧ (testing .serai 1000001 {}).tested .serai = true
      ∧ ((testing .serai 1000001 {}).drone .serai).exceeded = false
      ∧ ((testing .serai 1000001 {}).drone .serai).since + 1000000 * (testing .serai 1000001 {}).get 0x2340 2
        < (testing .serai 1000001 {}).now
      ∧ (((testing .serai 1000001 {}).setDrone .serai { (testing .serai 1000001 {}).drone .serai with exceeded := true }).safetyRecord
        St.latentWindowExceeded 0x0F 0xFF (leBytes 2 16) 0xFF 0xFF).now ≤ 0 + 2 * 1000000
    ∧ (let s := testing (.shader 47) 2000001 { exceeded := true };
      s.tested (.shader 47) = true ∧ (s.drone (.shader 47)).exceeded = true ∧ (s.drone (.shader 47)).doubled = false
        ∧ (s.drone (.shader 47)).since + 2 * (1000000 * s.get 0x2340 2) < s.now)
    ∧ (testing (.pipe 3) 500000 {}).tested (.pipe 3) = true
      ∧ ((testing (.pipe 3) 500000 {}).drone (.pipe 3)).since + 500000 * (testing (.pipe 3) 500000 {}).get 0x2340 2
        ≤ (testing (.pipe 3) 500000 {}).now
    ∧ (live.hart 24).halted = false ∧ live.fwRunning = true
    ∧ (let s := at_ live 1000000000000;
      let t : State := { s with saf := { s.saf with lastBeat := some 0 } };
      t.saf.lastBeat = some 0 ∧ t.pwr.inReset = false ∧ t.beatHeld = false ∧ t.saf.beatLost = false
        ∧ 0 + 1000000 * t.get 0x2350 7 < t.now)
    ∧ (let s : State := { live with rg := { state := 0, signals := [1, 2] } };
      s.rg.state = 0 ∧ s.rg.restarting = false ∧ s.rg.signals = [1, 2])
    ∧ (let s : State := { live with rg := { resetSeen := true } }; s.rg.resetSeen = true)
    ∧ (guarded 5 0).rg.state = 5 ∧ (guarded 5 0).rg.restarting = false
      ∧ (guarded 5 0).verifyCopies 3 [image3 ++ List.replicate 248 0, []] = some 1
      ∧ ((guarded 5 0).setRunning 3 1).rg.restarting = false ∧ ((guarded 5 0).setRunning 3 1).rg.state = 5
    ∧ (guarded 5 0).verifyCopies 3 [[], []] = none
    ∧ (guarded 1 0).rg.state = 1 ∧ (guarded 1 0).rg.restarting = false
    ∧ (guarded 3 0).rg.state ≠ 0 ∧ (guarded 3 0).rg.state ≠ 5 ∧ (guarded 3 0).rg.lastFrame = none := by
  repeat' refine And.intro ?_ ?_
  all_goals decide +kernel

/-- Hart 23 in M mode, a lowering, a notice, the watchdog and a lock-out under way. -/
def securing : State :=
  let s := (at_ (put live [(0x2D30, 4, 1, 0)]) 1000000000000).setHart 23 { mode := .m };
  { s with sec := { s.sec with target := some 0x0C000000, noticeStart := some 0, swdStart := some 0, lockout := true } }

theorem test_met_SecurityAndHartEvents :
    securing.sec.target = some 0x0C000000 ∧ (securing.hart 23).mode = .m ∧ HartMode.hs ≠ .m
    ∧ securing.sec.noticeStart = some 0 ∧ securing.get 0x2D30 4 = 1 ∧ 0 + 1000000 * securing.get 0x2D30 2 ≤ securing.now
    ∧ securing.sec.swdStart = some 0 ∧ securing.sec.swdPaused = none ∧ 0 + 1000000 * securing.get 0x2D20 1 ≤ securing.now
    ∧ securing.sec.lockout = true ∧ securing.sec.lockedAt + 10000000000 ≤ securing.now := by
  repeat' refine And.intro ?_ ?_
  all_goals decide +kernel

/-- A session of a scope; harts 0 (HS), 23 (M) and 27; hart 27 halted with DCSR.STEP set. -/
def debugged (scope : Nat) : State :=
  ((({ live with sec := { live.sec with scope := scope } } : State).setHart 23 { mode := .m }).setHart 0 { mode := .hs }).setHart 27
    { halted := true, csr := [(0x7B0, 4#64)] }

theorem test_met_DebugEvents :
    0 % 32 ≠ 1 ∧ 0 % 32 ≠ 0x10 ∧ 0 % 32 ≠ 0x11 ∧ (debugged 0).sec.scope = 0 ∧ (debugged 1).sec.scope ≠ 0
    ∧ State.isHart 0 = true ∧ (debugged 1).hartScope 0 = true ∧ ((debugged 1).hart 0).mode ≠ .m
    ∧ State.isHart 23 = true ∧ (debugged 9).hartScope 23 = true ∧ (debugged 9).sec.scope.testBit 3 = true
    ∧ State.isHart 27 = true ∧ (debugged 2).hartScope 27 = true
    ∧ (debugged 1).hartScope 23 = true ∧ ((debugged 1).hart 23).mode = .m ∧ (debugged 1).sec.scope.testBit 3 = false
    ∧ ((debugged 2).hart 27).halted = true ∧ (State.csrGet ((debugged 2).hart 27) 0x7B0).getLsbD 2 = true
    ∧ (debugged 1).sbaCovered ((debugged 1).get 0x2E02 1) = true ∧ 0x05FFFFFFF8 % 8 = 0
      ∧ ¬ (0x1003000000 ≤ 0x05BFFFFFF8 ∧ 0x05BFFFFFF8 < 0x1003010000)
      ∧ State.inHbm (0x05BFFFFFF8 + 8 - 1) = true ∧ (debugged 1).refuses .debug 0x05BFFFFFF8 8 = false
      ∧ (debugged 1).mem.poisoned = [] := by
  repeat' refine And.intro ?_ ?_
  all_goals decide +kernel

/-- Quiescent for the dwell, in normal operation of the Rearguard; exits of `us` are tolerated, states of 0x2130 as they are. -/
def quiet (us : Nat) : State :=
  let s := put live [(0x2120, 1, us, 0)];
  { s with rg := { s.rg with state := 0 }, pwr := { s.pwr with dwell := true } }

/-- The module in a power state or entering one, an accepted wake pending or not. -/
def powered (state : Nat) (entering wake : Option (Nat × Nat)) : State :=
  let s := at_ (put live [(0x2120, 3, state, 0), (0x2D30, 4, 2, 0), (0x2140, 1, 2 ^ 39 - 1, 0), (0x2140, 3, 5, 0), (0x2BA0, 0x0B, 1, 0)]) 1000000000;
  { s with pwr := { s.pwr with entering := entering, wake := wake, lastWake := [(38, some 900000000)] } }

/-- The main side out of power but for its start, the signer's key in slot 0. -/
def starting : State :=
  { live with sec := { live.sec with slots := [(0, some { hash := signerHash })] }, pwr := { live.pwr with inReset := true } }

theorem test_met_PowerEvents :
    (let s := at_ live 1000000000; s.quiescent = true ∧ s.pwr.busyAt + 1000 * s.get 0x2120 2 ≤ s.now)
    ∧ (quiet 10).mayEnter 1 = true ∧ (powered 1 none none).pwrState = 1
    ∧ (quiet 1000).pwr.entering = none ∧ (quiet 1000).mayEnter 2 = true
    ∧ (powered 0 (some (2, 2)) none).pwr.entering = some (2, 2) ∧ (powered 0 (some (2, 2)) none).pwr.wake = none
      ∧ (powered 0 (some (2, 3)) none).pwr.entering = some (2, 3)
    ∧ (powered 2 none none).pwrState = 2
    ∧ (quiet 200000).mayEnter 3 = true
    ∧ (powered 0 (some (3, 1)) none).pwr.entering = some (3, 1) ∧ (powered 0 (some (3, 1)) none).get 0x2D30 4 = 2
    ∧ (powered 0 (some (3, 2)) none).pwr.entering = some (3, 2) ∧ (powered 0 (some (3, 3)) none).pwr.entering = some (3, 3)
      ∧ (powered 0 (some (3, 3)) none).pwr.wake = none ∧ (powered 0 (some (3, 4)) none).pwr.entering = some (3, 4)
    ∧ (powered 3 none (some (0, 1))).pwrState = 3 ∧ (powered 3 none (some (0, 1))).pwr.wake.isSome = true
    ∧ (quiet 10000000).mayEnter 4 = true
    ∧ (powered 0 (some (4, 1)) none).pwr.entering = some (4, 1) ∧ (powered 0 (some (4, 2)) none).pwr.entering = some (4, 2)
      ∧ (powered 0 (some (4, 3)) none).pwr.entering = some (4, 3)
    ∧ (powered 4 none (some (0, 1))).pwrState = 4 ∧ (powered 4 none (some (0, 1))).pwr.wake.isSome = true
    ∧ (powered 2 none none).sourceEnabled 0 = true ∧ State.wakesFrom 0 (powered 2 none none).wakeState = true
      ∧ (powered 2 none none).pwr.stuck.contains 0 = false ∧ (powered 2 none none).sourceActive 0 = true ∧ NMap.get none (powered 2 none none).pwr.lastWake 0 = none
    ∧ (powered 2 none none).sourceEnabled 38 = true ∧ State.wakesFrom 38 (powered 2 none none).wakeState = true
      ∧ NMap.get none (at_ (powered 2 none none) 999999999).pwr.lastWake 38 = some 900000000
      ∧ (at_ (powered 2 none none) 999999999).now < 900000000 + 100000000
    ∧ (powered 2 none none).get 0x2140 3 ≠ 0 ∧ (powered 2 none none).get 0x2140 3 ≤ (powered 2 none none).now
      ∧ (powered 2 none none).get 0x2140 3 ≠ (powered 2 none none).pwr.timerDone
    ∧ (let s : State := { powered 2 none none with pwr := { (powered 2 none none).pwr with held := [(38, some 1)] } };
      NMap.get none s.pwr.held 38 = some 1 ∧ NMap.get none s.pwr.lastWake 38 = some 900000000 ∧ 900000000 + 100000000 ≤ s.now)
    ∧ (let s : State := { live with pwr := { live.pwr with shutting := [7] } };
      s.pwr.shutting.contains 7 = true ∧ s.pwr.reenable.contains 7 = false)
    ∧ live.inRun = true ∧ (powered 1 none none).pwr.entering = none ∧ (powered 2 none none).inRun = false
      ∧ (powered 2 none none).pwrState ≠ 1 ∧ (powered 2 none none).wakeState = 2
    ∧ (starting.setGov { starting.gov with settled := true, rail := 400 }).presentMv ≤ 400
    ∧ starting.pwr.inReset = true ∧ 400 < starting.presentMv ∧ starting.gov.gated = false ∧ starting.pwr.cold = false
      ∧ starting.verifyCopies 1 [image1 ++ List.replicate 248 0] = some 1 := by
  repeat' refine And.intro ?_ ?_
  all_goals decide +kernel

/-- Firmware in a state; this node is the manager. -/
def firmed (f : FwState) : State := { put live [(0x2C00, 1, 0, 0)] with fw := f }

theorem test_met_FirmwareEvents :
    (firmed {}).nodeOk 0xFF = true ∧ ((firmed {}).fwOf 0xFF).1.1 = 0 ∧ ((firmed {}).fwOf 0xFF).2.isHere 0xFF = true
      ∧ ((firmed {}).fwOf 0xFF).2.imageOk 0x10000000 512 = true
      ∧ ((firmed {}).fwOf 0xFF).2.imageOk (State.generalEnd - 67108864 - 4096) 67109376 = true
    ∧ ((firmed { state := 2 }).fwOf 0xFF).1.1 = 2 ∧ ((firmed { state := 2 }).fwOf 0xFF).2.imageOk 0x10000000 512 = true
    ∧ HartMode.u ≠ .hs ∧ (firmed {}).isHere 0xFF = true
    ∧ (firmed { state := 1, coresRun := true }).fw.tables = false
    ∧ (firmed { state := 3, verified := true }).fw.verified = true ∧ (firmed { state := 3, verified := true }).fw.paused = false
    ∧ (firmed { state := 3, paused := true }).fw.paused = true
    ∧ live.dic.held = [] := by
  repeat' refine And.intro ?_ ?_
  all_goals decide +kernel

theorem test_met_CounterEvents :
    ((live.setHart 28 { mode := .hs }).readsCounters 28 = true) ∧ ((live.setHart 0 { mode := .u }).readsCounters 0 = false)
    ∧ (let s := at_ (put live [(0x2F02, 1, 0x40000000, 0), (0x2F02, 3, 1000, 0)]) 1000000;
      s.get 0x2F02 1 ≠ 0 ∧ s.get 0x2F02 3 ≠ 0 ∧ s.ctr.lastDump + 1000 * s.get 0x2F02 3 ≤ s.now)
    ∧ live.gov.dark = false ∧ live.get 0x2120 3 ≠ 4
      ∧ (State.tickBases { live with rg := { live.rg with time := live.rg.time + 1 } }).pwr.inReset = false := by
  repeat' refine And.intro ?_ ?_
  all_goals decide +kernel

/-- Two commands wait; the debug fuse is blown. -/
def waitingTwo : State :=
  { live with pending := [.idcode, .dtmcs], sec := { live.sec with debugFuse := true } }

/-- A step that answers a next state. -/
def advances : Host.Outcome State Fault Refusal → Bool
  | .next _ => true
  | _ => false

theorem advanced {r : Host.Outcome State Fault Refusal} (h : advances r = true) : ∃ t, r = .next t := by
  cases r with
  | next t => exact ⟨t, rfl⟩
  | _ => cases h

theorem test_met_StepRunsFront : waitingTwo.pending = .idcode :: [.dtmcs] := rfl

theorem test_met_StepIdlesOnEmptyQueue : State.reset.pending = [] ∧ State.reset.lnk.parked = []
    ∧ ∀ p, p < 4 → State.reset.queuedAt p = [] := by
  decide +kernel

theorem test_met_StepKeepsMemoryCanonical : Memory.wf waitingTwo = true ∧ ∃ t, step waitingTwo = .next t :=
  ⟨by decide +kernel, advanced (by decide +kernel)⟩

theorem test_met_StepTakesTheFrontCommand : ∃ t, step waitingTwo = .next t := advanced (by decide +kernel)

theorem test_met_BlownDebugFuseStaysBlown : waitingTwo.sec.debugFuse = true ∧ ∃ t, step waitingTwo = .next t :=
  ⟨rfl, advanced (by decide +kernel)⟩

theorem test_met_StoreWritesOnlyItsBytes :
    live.mem.poisoned = [] ∧ live.capped (live.classOf .firmware) = false ∧ live.mem.feedback.contains (pcOf 0x05BFFFFFFD) = false
    ∧ [1#8, 2#8, 3#8] ≠ [] ∧ State.inHbm (0x05BFFFFFFD + [1#8, 2#8, 3#8].length - 1) = true
    ∧ live.refuses .firmware 0x05BFFFFFFD [1#8, 2#8, 3#8].length = false
    ∧ (put live [(0x2002, 1, 1, 0)]).compat = true := by
  decide +kernel

theorem test_met_EntriesReadBack : (65535, 255, 0) ≠ (65535, 254, 0) ∧ (65535, 255, 0) ≠ (65535, 255, 64) := by decide

theorem test_met_DomainComesBeforeAccessType :
    live.fw.tablesLost = false ∧ indexExists 0x2D01 = true ∧ (lookupEntry 0x2D01 1).isSome = true
    ∧ (lookupEntry 0x2D01 1).all (fun e => decide (e.writeMask &&& Dom.bit .hypervisor = 0)) = true
    ∧ readMask 0x2E01 &&& Dom.bit .network = 0
    ∧ (live.dictWrite { dom := .hypervisor, path := .window .hyp, src := 0, idx := 0x2140, sub := 3, off := 0, data := leBytes 8 1
                        write := true, len := 8, more := false } {}).1 = 0
    ∧ (live.dictRead .hypervisor 0x2140 3 0 8).toOption.isSome = true
    ∧ (let s := put live [(0x2C00, 2, 2, 0)]
      (s.entryFor .hypervisor 0x2C02 1 true).toOption.isSome = true ∧ s.get 0x2C00 2 = 2) := by
  decide +kernel

theorem test_met_CountersSaturateOrWrap :
    live.compat = false ∧ (put live [(0x2002, 1, 1, 0)]).compat = true
    ∧ live.servesNow (pathOf .hypervisor) ∧ live.takesNum .hypervisor 0x2002 1 1 0 ∧ live.get 0x2601 1 = 0
    ∧ (∀ e, e < 16 → (live.engine e).state = .off) := by
  refine ⟨?_, ?_, serves ?_, num ?_, ?_, ?_⟩
  all_goals decide +kernel

theorem test_met_ScaleCodes : (254 : Nat) ≠ 0xFF := by decide

/-- Queue 262143 with rings of 16, F = 2^32 - 1 and W = 16, owned by slice 63. -/
def ringedTop : State :=
  ((put live [(0x257F, 3, 1, 0), (0x257F, 1, 7, 0)]).setB 0x257F 9 (List.replicate 63 0 ++ [0x80#8])).setQueue 262143
    { state := .disabled, ringLog2 := 4, cringLog2 := 4, f := 4294967295, wr := 16 }

theorem test_met_DoorbellBounds :
    (ringedTop.queue 262143).state ≠ .unconfigured ∧ ringedTop.queueOwner 262143 = some 63
    ∧ diff32 15 (ringedTop.queue 262143).f ≤ 2 ^ (ringedTop.queue 262143).ringLog2
    ∧ diff32 (ringedTop.queue 262143).wr 0 ≤ 2 ^ (ringedTop.queue 262143).cringLog2
    ∧ 2 ^ (ringedTop.queue 262143).ringLog2 < diff32 16 (ringedTop.queue 262143).f
    ∧ 2 ^ (ringedTop.queue 262143).cringLog2 < diff32 (ringedTop.queue 262143).wr 4294967295
    ∧ (ringedTop.queue 262140).state = .unconfigured ∧ ringedTop.queueOwner 262140 = some 63 ∧ live.queueOwner 0 = none := by
  decide +kernel

theorem test_met_LoadCallAnswers : HartMode.vs ≠ .hs ∧ live.nodeOk 192 = false := by decide +kernel

/-- A lowering to 0x0C000000 is under way. -/
def lowering : State := { live with sec := { live.sec with target := some 0x0C000000 } }

theorem test_met_WatermarkRaisesAndScrubs :
    live.servesNow (pathOf .secure) ∧ live.takesNum .secure 0x2D01 1 (live.get 0x2D01 3) 0 ∧ live.sec.watermark ≤ live.get 0x2D01 3
      ∧ live.get 0x2D01 3 ≤ 0x05BFFFFFFF ∧ live.get 0x2D01 3 % 67108864 = 0
    ∧ lowering.takesNum .secure 0x2D01 1 0x0FFFFFFF 0 ∧ 0x0FFFFFFF < lowering.sec.watermark ∧ lowering.sec.target ≠ none
    ∧ live.takesNum .secure 0x2D01 1 0x10000001 0 ∧ live.sec.watermark ≤ 0x10000001 ∧ 0x10000001 % 67108864 ≠ 0
    ∧ live.takesNum .secure 0x2D01 1 0x0FFFFFFF 0 ∧ live.sec.target = none ∧ 0x0FFFFFFF % 67108864 ≠ 0 := by
  refine ⟨serves ?_, num ?_, ?_, ?_, ?_, num ?_, ?_, ?_, num ?_, ?_, ?_, num ?_, ?_, ?_⟩
  all_goals decide +kernel

theorem test_met_PortsBusyWhileEnabled :
    live.servesNow (pathOf .network)
    ∧ (put live [(0x2B1F, 1, 1, 0)]).takesNum .network 0x2B1F 2 500 0 ∧ (put live [(0x2B1F, 1, 1, 0)]).get 0x2B1F 1 ≠ 0
      ∧ live.canFenced 0 = false
    ∧ live.takesNum .network 0x2B1C 6 1 0 ∧ live.get 0x2B1C 1 = 0
    ∧ live.takesNum .network 0x2B1B 6 1 0 ∧ live.get 0x2B1B 1 = 0
    ∧ (put live [(0x2B53, 1, 1, 0)]).takesNum .network 0x2B53 4 1 0 ∧ (put live [(0x2B53, 1, 1, 0)]).get 0x2B53 1 ≠ 0 := by
  refine ⟨serves ?_, num ?_, ?_, ?_, num ?_, ?_, num ?_, ?_, num ?_, ?_⟩
  all_goals decide +kernel

theorem test_met_OutputsBusyWhileEnabled :
    live.servesNow (pathOf .hypervisor)
    ∧ (put live [(0x2883, 1, 1, 0)]).takesNum .hypervisor 0x2883 7 20 0 ∧ (put live [(0x2883, 1, 1, 0)]).get 0x2883 1 = 1
    ∧ (put live [(0x2880, 4, 31, 0), (0x2880, 2, 0, 0)]).takesNum .hypervisor 0x2880 1 1 0
      ∧ (put live [(0x2880, 4, 31, 0), (0x2880, 2, 0, 0)]).get 0x2880 4
        < (put live [(0x2880, 4, 31, 0), (0x2880, 2, 0, 0)]).get 0x2880 2 + 32 := by
  refine ⟨serves ?_, num ?_, ?_, num ?_, ?_⟩
  all_goals decide +kernel

theorem test_met_SliceEnclaveGate :
    live.servesNow (pathOf .secure)
    ∧ live.takesNum .secure 0x2D12 64 255 0 ∧ live.sliceState 63 = 0
    ∧ (sliced 63 7).takesNum .secure 0x2D12 64 0xFFFF 0 ∧ (sliced 63 7).sliceState 63 = 1 ∧ (sliced 63 7).memUsed 63 = 0
      ∧ (sliced 63 7).holdsParamBuffer 63 = false
    ∧ (put live [(0x257F, 3, 2, 0)]).takesNum .secure 0x2D12 64 0 0
      ∧ ¬ ((put live [(0x257F, 3, 2, 0)]).sliceState 63 = 0 ∨ ((put live [(0x257F, 3, 2, 0)]).sliceState 63 = 1
        ∧ (put live [(0x257F, 3, 2, 0)]).memUsed 63 = 0 ∧ (put live [(0x257F, 3, 2, 0)]).holdsParamBuffer 63 = false)) := by
  refine ⟨serves ?_, num ?_, ?_, num ?_, ?_, ?_, ?_, num ?_, ?_⟩
  all_goals decide +kernel

theorem test_met_SignalWords : 504 = 8 * 63 ∧ (live.get 0x2C00 1 < 192 ∨ (put live [(0x2C00, 1, 191, 0)]).get 0x2C00 1 < 192) := by
  decide +kernel

theorem test_met_OffExitStartsAfresh :
    (powered 4 none (some (0, 1))).pwrState = 4 ∧ (powered 4 none (some (0, 1))).pwr.wake.isSome = true := by
  decide +kernel

theorem test_met_TicksAdvanceBases : (live.base 7).pendStep = none ∧ (live.base 7).pendIncr = none := by decide +kernel

theorem test_met_ReturnFromMachineMode : (securing.hart 23).mode = .m ∧ HartMode.vu ≠ .m := by decide +kernel

/-! ## Ill-formed commands: one per check, each just above its bound -/

theorem test_ill_formed1_refused : ∀ p, p ∈ ([(.aafSampleArrival 15 16 0 true, .aafChannel), (.aafRateFault 16, .aafStream), (.systemBusAccess false 9 0 0, .accessSize),
      (.dmi false (2 ^ 64) 0, .address), (.inputStuck 48, .audioChannel), (.canFrameRx 24 canFrame1 false, .busPort),
      (.bwGuaranteeWrite .hypervisor 16 1 0, .bwClass), (.cameraFrameStart 12, .camera), (.canBusOff 16, .canChannel),
      (.latchPoint 4, .display), (.enclaveDestroy .secure 256, .enclave), (.engineDisableDone 16, .engine),
      (.functionShutdownDone 8, .function), (.enclaveAssign .secure 255 65536 1, .granule), (.mret 29 .u, .hart),
      (.placementPolicyWrite .hypervisor 65536 1 0, .index), (.inputFilterSettle 10 true, .inputLine)] : List (Instr × Defect)) →
    p.1.defects = [p.2] ∧ p.1.wf = false := by decide +kernel

theorem test_ill_formed2_refused : ∀ p, p ∈ ([(.laneOpen .hypervisor 64, .lane), (.layerWrite .hypervisor 3 4 1 0, .layer), (.linBusFault 8, .linChannel),
      (.linkTrained 3 16 5 true, .linkWidth), (.switchFrameIngress 21 { ethFrame with dstMac := 2 ^ 48 }, .mac),
      (.skeotStatus .hs 256, .node), (.swdKick .secure (2 ^ 64), .number), (.doorbellWrite (2 ^ 21) true 0, .offset),
      (.outboundWindowWrite .hypervisor 64 [], .outboundWindow), (.goOverload 16, .output), (.tuningFrameDone 8, .partition),
      (.linkDown 4, .pciePort), (.tileTimeout 4, .pipe), (.kvPoolTrim .hypervisor 16, .pool), (.nop 262144 0, .queue),
      (.accessRegister 0 false 65536 0, .register), (.windowEnd 64, .safetyWindow)] : List (Instr × Defect)) →
    p.1.defects = [p.2] ∧ p.1.wf = false := by decide +kernel

theorem test_ill_formed3_refused : ∀ p, p ∈ ([(.tileRestore 15 48, .saveSlot), (.avtpduReceive 0 0 256 [], .sequence), (.sliceRundownDone 64, .slice),
      (.avtpduSend 128, .stream), (.governorSettingWrite .hypervisor 0x2110 256 0, .subindex), (.ethLinkDown 22 0, .switchPort),
      (.readDiscardTimeout 65536, .tag), (.bypass 32, .tapCode), (.outputReadbackFault 8, .tdmLane), (.tbCmd .hypervisor 8 1, .timeBase),
      (.wakeSuppressionEnd 39, .wakeSource), (.ancStart (.slice (2 ^ 20)), .pasid),
      (.canFrameRx 15 { canFrame1 with data := List.replicate 65 0 } true, .payload),
      (.canFrameRx 15 { canFrame1 with id := 2 ^ 11 } true, .identifier),
      (.switchFrameIngress 21 { ethFrame with vlan := some 4096 }, .vlan), (.tileDrain 15 (.parityDirty (2 ^ 32)), .detail),
      (.droneClaim (.shader 48), .unit)] : List (Instr × Defect)) →
    p.1.defects = [p.2] ∧ p.1.wf = false := by decide +kernel

theorem test_well_formed_at_bounds : ∀ c, c ∈ ([.nop 262143 0, .windowEnd 63, .mret 28 .u, .wakeSuppressionEnd 38,
    .canFrameRx 15 canFrame1 true, .switchFrameIngress 21 ethFrame] : List Instr) → c.wf = true := by decide +kernel

/-! ## Single steps with results worked out by hand from the spec -/

/-- R251: PC = A[12:8] XOR A[17:13] XOR A[22:18]. -/
theorem test_pc_hash : pcOf 0x00402100 = (1 ^^^ 1 ^^^ 16) ∧ pcOf 0x1F00 = 31 := by decide

/-- R346: 1 s and 5 ns as a time value. -/
theorem test_time_value : (at_ live 1000000005).tbBytes 1 = leBytes 8 1 ++ leBytes 4 5 ++ leBytes 4 0 := by decide +kernel

/-- R441: a counter stops at 2^48 - 1; in compatibility mode it wraps at 2^32. -/
theorem test_counter_ends : NMap.get 0 (live.count 5 (2 ^ 48)).ctr.counts 5 = 2 ^ 48 - 1
    ∧ NMap.get 0 ((put live [(0x2002, 1, 1, 0)]).count 5 (2 ^ 32 + 3)).ctr.counts 5 = 3 := by decide +kernel

/-- R242: two writes of the signal page gather in one word. -/
theorem test_signal_word : (match exec (.signalPageWrite 504 63) live with
    | .next t => (match exec (.signalPageWrite 504 0) t with
      | .next u => NMap.get 0 u.lnk.words 63
      | _ => 0)
    | _ => 0) = 2 ^ 63 + 1 := by decide +kernel

/-- R437: the TAP's IDCODE. -/
theorem test_idcode : (match exec .idcode live with
    | .next t => t.out
    | _ => []) = [.readData (some 0x39600A79)] := by decide +kernel

end Sys2Proof.Tests
end

/-! # Number formats: block scaling (R66) -/

namespace Sys2Proof.Machine

/-- Scaling a finite value moves its exponent only, so no rounding enters. -/
@[simp] theorem Num.scale_fin (k : Int) (neg : Bool) (m : Nat) (e : Int) :
    (Num.fin neg m e).scale k = .fin neg m (e + k) := rfl

/-- R66, second sentence: the element does not matter. -/
@[simp] theorem scaledElem_nanScale (v : Num) : scaledElem v 0xFF = .nan := if_pos rfl

/-- R66, first sentence: the bias of the scale code is 127. -/
theorem scaledElem_of_ne_nanScale {c : Nat} (hc : c ≠ 0xFF) (v : Num) :
    scaledElem v c = v.scale ((c : Int) - 127) := if_neg hc

/-- Settles O16: the two branches of `scaledElem`, the second on a finite element. -/
theorem scaleCodes : Obligations.ScaleCodes := by
  unfold Obligations.ScaleCodes
  intro v
  refine ⟨scaledElem_nanScale v, ?_⟩
  intro neg m c e hc
  rw [scaledElem_of_ne_nanScale hc, Num.scale_fin]

end Sys2Proof.Machine

/-! # Doorbells (R199, R200) -/

namespace Sys2Proof.Machine

namespace State

/-! ## Posting an event changes no queue (R221) -/

/-- An interrupt leaves the module, or sets bits of the signal page. -/
theorem msi_steady (s : State) (pasid addr data : Nat) : (s.msi pasid addr data).steady = s.steady := by
  unfold msi sendMsi signalWrite
  dsimp only
  (repeat' split) <;> rfl

theorem queues_of_steady {s t : State} (h : t.steady = s.steady) : t.que.queues = s.que.queues :=
  congrArg (fun g => g.2.1.queues) h

theorem eventIrq_queues (s : State) (k : Nat) : (s.eventIrq k).que.queues = s.que.queues := by
  have sent (t : State) (a b c : Nat) : (t.msi a b c).que.queues = t.que.queues := queues_of_steady (msi_steady t a b c)
  unfold eventIrq
  dsimp only
  split
  · exact sent _ _ _ _
  · split
    · rfl
    · exact sent _ _ _ _

/-- An event is a store, an interrupt and the slice's own counts. -/
theorem postEvent_queues (s : State) (k event status queue detail : Nat) :
    (s.postEvent k event status queue detail).que.queues = s.que.queues := by
  have stored (m : Requester) (pasid va : Nat) (bs : List Byte) (what : AckFor) :
      (s.storeVa m pasid va bs what).2.que.queues = s.que.queues := queues_of_steady (storeVa_steady s m pasid va bs what)
  unfold postEvent
  dsimp only
  split
  · rfl
  · split
    · rfl
    · split
      · rfl
      · split
        · exact (eventIrq_queues _ _).trans (stored _ _ _ _ _)
        · exact stored _ _ _ _ _

/-! ## DOORBELL_INVALID -/

theorem doorbellInvalid_of_owner {s : State} {q k : Nat} (h : s.queueOwner q = some k) (v : Nat) :
    s.doorbellInvalid q v = s.postEvent k 0x0003 0 q v := by
  unfold doorbellInvalid
  rw [h]

theorem doorbellInvalid_of_no_owner {s : State} {q : Nat} (h : s.queueOwner q = none) (v : Nat) :
    s.doorbellInvalid q v = s := by
  unfold doorbellInvalid
  rw [h]

@[simp] theorem doorbellInvalid_queue (s : State) (q v r : Nat) : (s.doorbellInvalid q v).queue r = s.queue r := by
  have h : (s.doorbellInvalid q v).que.queues = s.que.queues := by
    cases ho : s.queueOwner q with
    | none => rw [doorbellInvalid_of_no_owner ho]
    | some k => rw [doorbellInvalid_of_owner ho, postEvent_queues]
  exact congrArg (NMap.get {} · r) h

/-! ## The three outcomes of a doorbell write

`p` and `c` are the counts that the write asks for and `shown` the value that DOORBELL_INVALID carries (Table QUE-1): the two
halves and the whole of an 8-byte value, or the one count of a 4-byte write. -/

section
variable {s : State} {off q p c shown : Nat} {wide : Bool} {v : BitVec 64} (hq : off / 8 = q)
  (hp : p = if wide ∨ off % 8 < 4 then v.toNat % 4294967296 else (s.queue q).p)
  (hc : c = if wide then v.toNat / 4294967296 else if off % 8 < 4 then (s.queue q).c else v.toNat % 4294967296)
  (hs : shown = if wide then v.toNat else v.toNat % 4294967296)
include hq

include hs in
theorem doorbell_unconfigured (hx : (s.queue q).state = .unconfigured) :
    s.doorbell off wide v = s.doorbellInvalid q shown := by
  subst hq hs
  exact if_pos hx

include hp hc hs in
theorem doorbell_boundBroken (hx : (s.queue q).state ≠ .unconfigured)
    (hb : 2 ^ (s.queue q).ringLog2 < diff32 p (s.queue q).f ∨ 2 ^ (s.queue q).cringLog2 < diff32 (s.queue q).wr c) :
    s.doorbell off wide v = s.doorbellInvalid q shown := by
  subst hq hp hc hs
  exact (if_neg hx).trans (if_pos hb)

include hp hc in
theorem doorbell_accepted (hx : (s.queue q).state ≠ .unconfigured)
    (hr : diff32 p (s.queue q).f ≤ 2 ^ (s.queue q).ringLog2) (hw : diff32 (s.queue q).wr c ≤ 2 ^ (s.queue q).cringLog2)
    {t : State} (ht : t = (s.count 324 1).setQueue q { s.queue q with
      p := p, c := c, bells := if p = (s.queue q).p then (s.queue q).bells else (s.queue q).bells ++ [(p, s.now)] }) :
    s.doorbell off wide v = State.needContext { t with pwr := { t.pwr with dwell := false, busyAt := t.now } } q true := by
  have hb := not_or.2 ⟨Nat.not_lt.2 hr, Nat.not_lt.2 hw⟩
  subst hq hp hc ht
  exact (if_neg hx).trans (if_neg hb)

end

end State

/-- A doorbell inside the region of 2 MiB ends IDLE or SLEEP first (R418), then writes the queue. -/
theorem exec_doorbellWrite {off : Nat} (h : off < 2097152) (wide : Bool) (v : BitVec 64) (s : State) :
    exec (.doorbellWrite off wide v) s = .next (s.workArrives.doorbell off wide v) :=
  congrArg Host.Outcome.next (if_pos h)

/-- Settles O18: the woken state takes one of the three branches of `State.doorbell`; a refused write posts an event at most,
which changes no queue. -/
theorem doorbellBounds : Obligations.DoorbellBounds := by
  unfold Obligations.DoorbellBounds
  intro s u q p c v hu hq hp hc
  have hoff : 8 * q / 8 = q := Nat.mul_div_cancel_left q (by decide)
  rw [exec_doorbellWrite (by omega), ← hu]
  refine ⟨?accepted, ?boundBroken, ?unconfigured⟩
  case accepted =>
    intro hx hr hw
    exact ⟨_, rfl, congrArg _ (State.doorbell_accepted hoff hp hc hx hr hw rfl)⟩
  case boundBroken =>
    intro hx hb
    rw [State.doorbell_boundBroken hoff hp hc rfl hx hb]
    refine ⟨fun k hk => congrArg _ (State.doorbellInvalid_of_owner hk _), fun t ht => ?_⟩
    have same : t.queue q = s.queue q := by
      cases ht
      rw [State.doorbellInvalid_queue, hu, State.workArrives_queue]
    rw [same]
    exact ⟨rfl, rfl⟩
  case unconfigured =>
    intro hx
    rw [State.doorbell_unconfigured hoff rfl hx]
    exact ⟨fun k hk => congrArg _ (State.doorbellInvalid_of_owner hk _),
      fun hk => congrArg _ (State.doorbellInvalid_of_no_owner hk _)⟩

end Sys2Proof.Machine

/-! # Time values (R346) -/

namespace Sys2Proof.Machine

/-- `n` little-endian bytes keep a number modulo 256^n, whatever its size. -/
theorem leNat_leBytes_mod (n v : Nat) : leNat (leBytes n v) = v % 256 ^ n := by
  induction n generalizing v with
  | zero => exact (Nat.mod_one v).symm
  | succ n ih =>
    calc leNat (leBytes (n + 1) v)
      _ = v % 256 + 256 * leNat (leBytes n (v / 256)) := rfl
      _ = v % (256 * 256 ^ n) := by rw [ih, Nat.mod_mul]
      _ = v % 256 ^ (n + 1) := by rw [Nat.pow_succ']

/-- A slice that falls on one part of a concatenation is that part. -/
theorem slice_append_middle {pre mid : List Byte} {o n : Nat} (ho : pre.length = o) (hn : mid.length = n)
    (post : List Byte) : slice (pre ++ (mid ++ post)) o n = mid := by
  subst ho hn
  simp [slice]

/-- The field at which a number was written reads that number, modulo the field's range. -/
theorem field_append_leBytes {pre : List Byte} {o : Nat} (ho : pre.length = o) (n v : Nat) (post : List Byte) :
    field (pre ++ (leBytes n v ++ post)) o n = v % 256 ^ n := by
  rw [field, slice_append_middle ho (State.length_leBytes n v), leNat_leBytes_mod]

namespace State

variable (s : State) (n : Nat)

/-- The layout of R346, associated to the right as `field_append_leBytes` reads it. -/
theorem tbBytes_layout : s.tbBytes n = leBytes 8 (s.tbSeconds n) ++ (leBytes 4 ((s.base n).value / 281474976710656 % 1000000000)
    ++ (leBytes 2 ((s.base n).value / 4294967296 % 65536) ++ (leBytes 2 0 ++ []))) := by
  simp only [tbBytes, List.append_assoc, List.append_nil]

theorem length_tbBytes : (s.tbBytes n).length = 16 := by
  simp only [tbBytes, List.length_append, length_leBytes]

/-- Bytes 0 to 7. -/
theorem tbBytes_seconds : field (s.tbBytes n) 0 8 = s.tbSeconds n % 2 ^ 64 := by
  rw [tbBytes_layout]
  exact field_append_leBytes (pre := []) rfl 8 _ _

/-- Bytes 8 to 11: a remainder by 10^9 fits its 32 bits. -/
theorem tbBytes_nanoseconds : field (s.tbBytes n) 8 4 = (s.base n).value / 281474976710656 % 1000000000 := by
  rw [tbBytes_layout, field_append_leBytes (length_leBytes 8 _)]
  omega

/-- Bytes 12 and 13. -/
theorem tbBytes_fraction : field (s.tbBytes n) 12 2 = (s.base n).value / 4294967296 % 65536 := by
  rw [tbBytes_layout, ← List.append_assoc, field_append_leBytes (by simp only [List.length_append, length_leBytes])]
  omega

/-- Bytes 14 and 15. -/
theorem tbBytes_zero : field (s.tbBytes n) 14 2 = 0 := by
  rw [tbBytes_layout, ← List.append_assoc, ← List.append_assoc,
    field_append_leBytes (by simp only [List.length_append, length_leBytes]), Nat.zero_mod]

/-- Seconds and nanoseconds together are the whole nanoseconds of the base. -/
theorem tbSeconds_nanoseconds :
    s.tbSeconds n * 10 ^ 9 + field (s.tbBytes n) 8 4 = (s.base n).value / 281474976710656 := by
  rw [tbBytes_nanoseconds]
  exact Nat.div_add_mod' _ _

/-- A base's value in its three parts: whole nanoseconds, the 16 bits of fraction that a time value shows, and the 32
bits below. -/
theorem base_value_parts : (s.base n).value
    = (s.base n).value / 281474976710656 * 2 ^ 48 + field (s.tbBytes n) 12 2 * 2 ^ 32 + (s.base n).value % 2 ^ 32 := by
  rw [tbBytes_fraction]
  omega

end State

/-- Settles O15: the four fields of the layout, then the base's value put together from them; what TIMESTAMP writes is
`Work.timestamp` itself. -/
theorem timeValues : Obligations.TimeValues := by
  unfold Obligations.TimeValues
  intro s n w d
  refine ⟨s.length_tbBytes n, s.tbBytes_seconds n, ?nanosecondsBelow, s.tbBytes_zero n, ?unsigned64, ?parts, rfl⟩
  case nanosecondsBelow =>
    rw [State.tbBytes_nanoseconds]
    exact Nat.mod_lt _ (by decide)
  case unsigned64 =>
    rw [State.tbSeconds_nanoseconds]
    rfl
  case parts =>
    rw [State.tbSeconds_nanoseconds]
    exact s.base_value_parts n

end Sys2Proof.Machine

/-! # The secure watermark (R391, R393) -/

namespace Sys2Proof.Machine

namespace State

/-- The row of a number whose effect aborts: the abort is answered, and nothing else happens. -/
theorem rowNum_aborts {s : State} {d : Dom} {idx sub n i c : Nat} {x : Extra} (hs : s.servesNow (pathOf d))
    (hn : s.takesNum d idx sub n i) (hc : s.roused.applyWrite d x none i idx sub (.num n) = .abort c) :
    s.rowNum d idx sub n x = s.roused.emit (.answer (pathOf d) c []) :=
  rowNum_settles hs hn hc

/-- The effect of 0x2D01:01 depends neither on the domain nor on what the row brings with it. -/
theorem applyWrite_secureWatermark (s : State) (d : Dom) (x : Extra) (bw : Option Nat) (i v : Nat) :
    s.applyWrite d x bw i 0x2D01 1 (.num v) = s.writeWatermark v := rfl

/-- A raise is in force at once, and it ends any lower. -/
@[simp] theorem raiseWatermark_sec (s : State) (v : Nat) :
    (s.raiseWatermark v).sec = { s.sec with watermark := v, target := none } := rfl

/-! ## The outcomes of a write of the watermark -/

section
variable {s t : State} {d : Dom} {v i c : Nat}

/-- R393: below the watermark in force while a scrub runs. -/
theorem writeWatermark_scrubBusy (hv : v < s.sec.watermark) (ht : s.sec.target ≠ none) :
    s.writeWatermark v = .abort 0x08000A03 :=
  if_pos ⟨Option.isSome_iff_ne_none.2 ht, hv⟩

/-- R391: a bad value, where R393 does not refuse the write first. -/
theorem writeWatermark_invalid (hf : s.sec.watermark ≤ v ∨ s.sec.target = none)
    (hb : s.get 0x2D01 3 < v ∨ 0x05BFFFFFFF < v ∨ v % 67108864 ≠ 0) :
    s.writeWatermark v = .abort 0x08000A02 := by
  have free : ¬ (s.sec.target.isSome ∧ v < s.sec.watermark) := by
    rintro ⟨running, below⟩
    rcases hf with above | idle
    · exact Nat.not_lt.2 above below
    · exact Option.isSome_iff_ne_none.1 running idle
  exact (if_neg free).trans (if_pos hb)

/-- R391 and R393: a raise first cancels a lower that runs. -/
theorem writeWatermark_raises (hw : s.sec.watermark ≤ v) (hr : v ≤ s.get 0x2D01 3) (hm : v ≤ 0x05BFFFFFFF)
    (hg : v % 67108864 = 0) : s.writeWatermark v = .ok ((s.set 0x2D01 1 v).cancelLower.raiseWatermark v) := by
  have free : ¬ (s.sec.target.isSome ∧ v < s.sec.watermark) := fun h => Nat.not_lt.2 hw h.2
  have good : ¬ (s.get 0x2D01 3 < v ∨ 0x05BFFFFFFF < v ∨ v % 67108864 ≠ 0) := by omega
  exact (if_neg free).trans ((if_neg good).trans (if_pos hw))

/-! ## The row of the entry has the outcome of that write -/

theorem rowNum_secureWatermark_ok (hs : s.servesNow (pathOf d)) (hn : s.takesNum d 0x2D01 1 v i)
    (h : s.roused.writeWatermark v = .ok t) : s.rowNum d 0x2D01 1 v = t.answered d :=
  rowNum_acts hs hn ((applyWrite_secureWatermark ..).trans h)

theorem rowNum_secureWatermark_abort (hs : s.servesNow (pathOf d)) (hn : s.takesNum d 0x2D01 1 v i)
    (h : s.roused.writeWatermark v = .abort c) :
    s.rowNum d 0x2D01 1 v = s.roused.emit (.answer (pathOf d) c []) :=
  rowNum_aborts hs hn ((applyWrite_secureWatermark ..).trans h)

end

end State

/-! ## The two commands, told apart by the watermark in force -/

theorem exec_secureWatermarkRaise {s : State} {v : Nat} (h : s.sec.watermark ≤ v) (d : Dom) :
    exec (.secureWatermarkRaise d v) s = .next (s.rowNum d 0x2D01 1 v) :=
  congrArg Host.Outcome.next (if_pos h)

theorem exec_secureWatermarkLower {s : State} {v : Nat} (h : v < s.sec.watermark) (d : Dom) :
    exec (.secureWatermarkLower d v) s = .next (s.rowNum d 0x2D01 1 v) :=
  congrArg Host.Outcome.next (if_pos h)

/-- Settles O20: each command is the row of the watermark's entry, and the row has the outcome of `State.writeWatermark`. -/
theorem watermarkRaisesAndScrubs : Obligations.WatermarkRaisesAndScrubs := by
  unfold Obligations.WatermarkRaisesAndScrubs
  intro s d v i hs hn
  refine ⟨?raised, ?scrubBusy, ?badRaise, ?badLower⟩
  case raised =>
    intro hw hr hm hg
    rw [exec_secureWatermarkRaise hw, State.rowNum_secureWatermark_ok hs hn (State.writeWatermark_raises hw hr hm hg)]
    refine ⟨_, rfl, ?_⟩
    rw [State.raiseWatermark_sec]
    exact ⟨rfl, rfl⟩
  case scrubBusy =>
    intro hv ht
    rw [exec_secureWatermarkLower hv, State.rowNum_secureWatermark_abort hs hn (State.writeWatermark_scrubBusy hv ht)]
  case badRaise =>
    intro hw hb
    rw [exec_secureWatermarkRaise hw, State.rowNum_secureWatermark_abort hs hn (State.writeWatermark_invalid (.inl hw) hb)]
  case badLower =>
    intro hv ht hb
    rw [exec_secureWatermarkLower hv, State.rowNum_secureWatermark_abort hs hn (State.writeWatermark_invalid (.inr ht) hb)]

end Sys2Proof.Machine

/-! # OFF exit (R415) -/

namespace Sys2Proof.Machine

namespace State

/-! ## Records, and a change of ceiling or voltage, leave the power state -/

@[simp] theorem notifyFrame_pwr (s : State) (slot : Nat) : (s.notifyFrame slot).2.pwr = s.pwr := rfl

@[simp] theorem enterRecord_pwr (s : State) (r : ErrRec) : (s.enterRecord r).pwr = s.pwr := by
  simp only [enterRecord, apply_ite pwr, emit_pwr, notifyFrame_pwr, set_pwr, bump_pwr, ite_self]

@[simp] theorem addRecord_pwr (s : State) (status block unit : Nat) (detail : List Byte) :
    (s.addRecord status block unit detail).pwr = s.pwr := by
  simp only [addRecord, apply_ite pwr, enterRecord_pwr, ite_self]

@[simp] theorem railSag_pwr (s : State) : s.railSag.pwr = s.pwr := by
  simp only [railSag, apply_ite pwr, addRecord_pwr, setGov_pwr, ite_self]

@[simp] theorem railAt_pwr (s : State) (mv : Nat) : (s.railAt mv).pwr = s.pwr := railSag_pwr _

@[simp] theorem setTarget_pwr (s : State) (mv : Nat) : (s.setTarget mv).pwr = s.pwr := by
  simp only [setTarget, apply_ite pwr, set_pwr, bump_pwr, setGov_pwr, railAt_pwr, ite_self]

@[simp] theorem retarget_pwr (s : State) (c mv : Nat) : (s.retarget c mv).pwr = s.pwr := by
  unfold retarget
  dsimp only
  (repeat' split) <;> simp only [setGov_pwr, setTarget_pwr]

@[simp] theorem aim_pwr (s : State) : s.aim.pwr = s.pwr := by
  simp only [aim, set_pwr, apply_ite pwr, retarget_pwr, ite_self]

@[simp] theorem renewChallenge_pwr (s : State) : s.renewChallenge.pwr = s.pwr := rfl

/-! ## The main-side reset -/

/-- The main side is in reset until MAIN_SIDE_START (R428), and the kind of the reset is kept for it. Of the power state
before, only the boot records and the mark of a controlled power-down (R378) are left. -/
theorem resetMain_pwr (s : State) (cold : Bool) : (s.resetMain cold).pwr =
    { inReset := true, cold := cold, bootRecords := s.pwr.bootRecords, controlled := s.pwr.controlled } := by
  unfold resetMain
  dsimp only
  rw [renewChallenge_pwr, aim_pwr, set_pwr]
  exact foldl_keeps pwr (fun r (z : Nat × Nat) => r.zeroMem z.1 z.2) (fun r z => zeroMem_pwr r z.1 z.2) _ _

/-- An entry of octets reads back what was written last. -/
theorem getB_setB_same (s : State) (x a : Nat) (b : List Byte) (i : Nat) : (s.setB x a b i).getB x a i = b := by
  unfold getB setB
  rw [val_setVal_same]

/-! ## What OFF exit leaves behind -/

section
variable {s : State} (ho : s.pwrState = 4) (hw : s.pwr.wake.isSome = true)
include ho hw

/-- The branch of `exitOff` that ends OFF. -/
theorem exitOff_of_wake :
    s.exitOff = State.setB { s.resetMain true with time := {} } 0x2140 4 (lastWakeBytes 0 4 0 0) := by
  have ends : ¬ (s.pwrState ≠ 4 ∨ s.pwr.wake.isNone = true) := by
    simp [ho, Option.isSome_iff_ne_none.1 hw]
  exact if_neg ends

theorem exitOff_pwr : s.exitOff.pwr = (s.resetMain true).pwr := by
  rw [exitOff_of_wake ho hw]
  rfl

/-- R347: unlike the main-side reset alone, leaving OFF restarts every base, with its step re-armed. -/
theorem exitOff_base (n : Nat) : s.exitOff.base n = {} := by
  rw [exitOff_of_wake ho hw]
  rfl

theorem exitOff_lastWake : s.exitOff.getB 0x2140 4 = lastWakeBytes 0 4 0 0 := by
  rw [exitOff_of_wake ho hw, getB_setB_same]

end

end State

/-- Settles O25: OFF_EXIT's next state is `State.exitOff`, whose power state, bases and LAST_WAKE have one lemma each. -/
theorem offExitStartsAfresh : Obligations.OffExitStartsAfresh := by
  unfold Obligations.OffExitStartsAfresh
  intro s ho hw
  have reset := (State.exitOff_pwr ho hw).trans (s.resetMain_pwr true)
  refine ⟨s.exitOff, rfl, ?inReset, ?cold, ?bases, ?lastWake⟩
  case inReset => rw [reset]
  case cold => rw [reset]
  case bases =>
    intro n
    rw [State.exitOff_base ho hw]
  case lastWake =>
    rw [State.exitOff_lastWake ho hw]
    decide

end Sys2Proof.Machine

/-! # Performance counters (R38, R441) -/

namespace Sys2Proof.Machine

namespace State

/-! ## What counting does to one counter and to the others -/

section
variable (s : State) (i n : Nat)

/-- R441: the sum wraps at 32 bits with COMPAT_MODE 1, and saturates at 48 bits without. -/
theorem count_same : NMap.get 0 (s.count i n).ctr.counts i =
    if s.compat then (NMap.get 0 s.ctr.counts i + n) % 2 ^ 32 else min (NMap.get 0 s.ctr.counts i + n) (2 ^ 48 - 1) :=
  NMap.get_set_same ..

theorem count_other {j : Nat} (hj : j ≠ i) :
    NMap.get 0 (s.count i n).ctr.counts j = NMap.get 0 s.ctr.counts j := NMap.get_set_other _ _ _ _ _ hj

end

/-! ## A write of COMPAT_MODE -/

/-- R441: a clear reaches all counters at once. -/
@[simp] theorem clearCounters_counts (s : State) : s.clearCounters.ctr.counts = [] := rfl

/-- The effect of 0x2002:01 depends neither on the domain nor on what the row brings with it. -/
theorem applyWrite_compatMode (s : State) (d : Dom) (x : Extra) (bw : Option Nat) (i v : Nat) :
    s.applyWrite d x bw i 0x2002 1 (.num v) = s.writeCompat v := rfl

/-- R38: with ENGINE_ENABLE 0 and every engine off, nothing refuses the write. -/
theorem writeCompat_accepted {s : State} (v : Nat) (he : s.get 0x2601 1 = 0)
    (hoff : ∀ e, e < 16 → (s.engine e).state = .off) : s.writeCompat v = .ok (s.set 0x2002 1 v).clearCounters := by
  have idle : ¬ ((List.range 16).any fun e => decide ((s.engine e).state ≠ .off)) = true := by
    simpa using hoff
  exact if_neg (not_or.2 ⟨not_not.2 he, idle⟩)

/-- The row of COMPAT_MODE, performed and accepted. -/
theorem rowNum_compatMode {s : State} {d : Dom} {v i : Nat} (hs : s.servesNow (pathOf d))
    (hn : s.takesNum d 0x2002 1 v i) (he : s.get 0x2601 1 = 0) (hoff : ∀ e, e < 16 → (s.engine e).state = .off) :
    s.rowNum d 0x2002 1 v = (s.roused.set 0x2002 1 v).clearCounters.answered d :=
  rowNum_acts hs hn ((applyWrite_compatMode ..).trans (writeCompat_accepted v he hoff))

end State

theorem exec_compatModeWrite (d : Dom) (v : Nat) (s : State) :
    exec (.compatModeWrite d v) s = .next (s.rowNum d 0x2002 1 v) := rfl

/-- Settles O14: the two branches of `State.count` at its own counter, its frame at every other, and an accepted write of
COMPAT_MODE, which ends in `State.clearCounters`. -/
theorem countersSaturateOrWrap : Obligations.CountersSaturateOrWrap := by
  unfold Obligations.CountersSaturateOrWrap
  intro s
  refine ⟨?saturates, ?wraps, ?others, ?clears⟩
  case saturates =>
    intro i n h
    rw [s.count_same i n, if_neg (Bool.eq_false_iff.1 h)]
    exact ⟨rfl, by omega⟩
  case wraps =>
    intro i n h
    rw [s.count_same i n, if_pos h]
    exact ⟨rfl, Nat.mod_lt _ (by decide)⟩
  case others =>
    intro i j n hj
    exact s.count_other i n hj
  case clears =>
    intro d v i hs hn he hoff
    rw [exec_compatModeWrite, State.rowNum_compatMode hs hn he hoff]
    refine ⟨_, rfl, fun j => ?_⟩
    rw [State.answered, State.emit_ctr, State.clearCounters_counts]
    rfl

end Sys2Proof.Machine

/-! # Steps: the front command, the idle step, and what every step keeps -/

namespace Sys2Proof.Machine

open Sys2Proof

theorem step_of_empty {s : State} (h : s.pending = []) : step s = .next s.idle := by
  unfold step
  rw [h]

theorem step_of_front {s : State} {c : Instr} {q : List Instr} (h : s.pending = c :: q) :
    step s = exec c { s with pending := q } := by
  unfold step
  rw [h]

/-- Whatever is closed under the changes of `Closed` and holds of the state with the front command taken holds after the step. -/
theorem keep_step {P : KProp} (C : Closed P) {s t : State} (h : okS P { s with pending := s.pending.tail })
    (ht : step s = .next t) : okS P t := by
  cases hq : s.pending with
  | nil =>
    rw [step_of_empty hq] at ht
    cases ht
    have still : okS P s := by
      simpa only [okS, hq, List.tail_nil] using h
    exact keep_State_idle C s still
  | cons c q =>
    rw [hq] at h
    rw [step_of_front hq] at ht
    have hk := keep_exec C c _ h
    rw [List.tail_cons, ht] at hk
    exact hk

/-- Settles O7: the canonical form is closed under every change that a command makes to HBM. -/
theorem stepKeepsMemoryCanonical : Obligations.StepKeepsMemoryCanonical := by
  unfold Obligations.StepKeepsMemoryCanonical
  intro s t hwf ht
  exact (Memory.wf_iff t).2 (keep_step closed_memory ((Memory.wf_iff s).1 hwf) ht)

/-- Settles O8: no command writes the queue, so it is what the step left of it. -/
theorem stepTakesTheFrontCommand : Obligations.StepTakesTheFrontCommand := by
  unfold Obligations.StepTakesTheFrontCommand
  intro s t ht
  exact keep_step (closed_pending s.pending.tail) rfl ht

/-- Settles O9: a command blows the fuse or leaves it. -/
theorem blownDebugFuseStaysBlown : Obligations.BlownDebugFuseStaysBlown := by
  unfold Obligations.BlownDebugFuseStaysBlown
  intro s t hblown ht
  exact keep_step closed_fuse hblown ht

/-- Settles O1. -/
theorem stepRunsFront : Obligations.StepRunsFront := by
  unfold Obligations.StepRunsFront
  intro c q s h
  exact step_of_front h

/-- No arm of `exec` is a fault or a refusal. -/
theorem exec_next (c : Instr) (s : State) : ∃ t, exec c s = .next t := by
  cases c <;> exact ⟨_, rfl⟩

/-- Settles O4: the empty queue idles, and every command answers a next state. -/
theorem everyStepGoesOn : Obligations.EveryStepGoesOn := by
  unfold Obligations.EveryStepGoesOn
  intro s
  cases hq : s.pending with
  | nil => exact ⟨_, step_of_empty hq⟩
  | cons c q =>
    obtain ⟨t, ht⟩ := exec_next c { s with pending := q }
    exact ⟨t, (step_of_front hq).trans ht⟩

/-- Where no frame waits, no port sends. -/
theorem State.transmitAll_of_empty {s : State} (h : ∀ p, p < 4 → s.queuedAt p = []) : s.transmitAll = s := by
  unfold State.transmitAll
  simp [List.range_succ, h]

/-- Settles O2: with nothing parked and nothing waiting at a port, neither half of `State.idle` does anything. -/
theorem stepIdlesOnEmptyQueue : Obligations.StepIdlesOnEmptyQueue := by
  unfold Obligations.StepIdlesOnEmptyQueue
  intro s h
  refine ⟨step_of_empty h, fun hparked hports => ?_⟩
  have still : s.idle = s := by
    rw [State.idle, if_pos hparked, State.transmitAll_of_empty hports]
  rw [step_of_empty h, still]

/-- Settles O3: the table lists no bits, so `decodeTableWord` finds no row. -/
theorem tableRowsHaveNoWords : Obligations.TableRowsHaveNoWords := by
  unfold Obligations.TableRowsHaveNoWords
  intro nbits w s
  exact ⟨rfl, rfl⟩

/-- Settles O6: HBM lists no byte at reset. -/
theorem resetMemoryIsCanonical : Obligations.ResetMemoryIsCanonical := by
  unfold Obligations.ResetMemoryIsCanonical
  decide

/-! ## HBM -/

/-- Settles O10: stores and fills are read back, and both leave every other byte. -/
theorem hbmReadsBackWhatIsWritten : Obligations.HbmReadsBackWhatIsWritten := by
  unfold Obligations.HbmReadsBackWhatIsWritten
  intro s
  refine ⟨fun a bs => ⟨fun i h => ?stored, fun x hx => s.readByte_writeMem_outside a x bs hx⟩,
    fun a n => ⟨fun x hlo hhi => ?zeroed, fun x hx => ?outside⟩⟩
  case stored =>
    rw [s.readByte_writeMem_inside a i bs h, List.getD_eq_getElem bs 0 h]
  case zeroed =>
    rw [s.readByte_zeroMem, if_pos ⟨hlo, hhi⟩]
  case outside =>
    rw [s.readByte_zeroMem, if_neg (by omega)]

/-! ## Entries of the dictionary -/

/-- Settles O12: entries of one key read back what is set, and entries of different keys do not meet. -/
theorem entriesReadBack : Obligations.EntriesReadBack := by
  unfold Obligations.EntriesReadBack
  intro s x a i n v
  refine ⟨s.get_set_same x a n i, s.val_setVal_same x a v i, fun y b k hx hy ha hb hne => ?_⟩
  have apart : entryKey k y b ≠ entryKey i x a := by
    refine (State.entryKey_ne ha hb hx hy ?_).symm
    by_contra hcon
    push Not at hcon
    obtain ⟨rfl, rfl, rfl⟩ := hcon
    exact hne rfl
  exact ⟨s.get_set_other x a n i y b k apart, s.val_setVal_other x a v i y b k apart⟩

end Sys2Proof.Machine

/-! # Reset -/

namespace Sys2Proof.Machine

open Sys2Proof

/-- Settles O5: nothing is listed at reset, so every table reads its unlisted value and every entry its default. -/
theorem resetState : Obligations.ResetState := by
  unfold Obligations.ResetState
  refine ⟨rfl, rfl, rfl, rfl, fun _ => rfl, ?bases, fun _ => ⟨rfl, rfl, rfl⟩, ?slices, fun _ => ⟨rfl, rfl⟩,
    ?partitions, rfl, rfl, rfl, fun _ => rfl, rfl, fun _ => rfl, fun _ => rfl⟩
  case bases =>
    intro n
    show 0 / 281474976710656 % 18446744073709551616 = 0
    decide
  case slices => decide +kernel
  case partitions => decide +kernel

end Sys2Proof.Machine

/-! # A store, granule by granule (R252) -/

namespace Sys2Proof.Machine

open Sys2Proof

namespace State

/-- What of HBM a read of a byte, or the test for poison, depends on. -/
abbrev contents (s : State) := (s.mem.cells, s.mem.epoch, s.mem.zeroed, s.mem.poisoned)

theorem readByte_of_contents {s t : State} (h : t.contents = s.contents) (x : Nat) : t.readByte x = s.readByte x := by
  simp only [contents, Prod.mk.injEq] at h
  obtain ⟨hcells, hepoch, hzeroed, -⟩ := h
  simp only [readByte, blank, hcells, hepoch, hzeroed]

/-- Charging moves open rows and counts, no byte. -/
theorem chargeAs_contents (s : State) (m : Requester) (c a n : Nat) : (s.chargeAs m c a n).contents = s.contents := by
  unfold chargeAs
  dsimp only
  (repeat' split) <;> rfl

theorem chargeGranule_contents (s : State) (m : Requester) (a n : Nat) : (s.chargeGranule m a n).contents = s.contents :=
  chargeAs_contents ..

theorem writeMem_poisoned (s : State) (a : Nat) (bs : List Byte) : (s.writeMem a bs).mem.poisoned = s.mem.poisoned := by
  induction bs generalizing s a with
  | nil => rfl
  | cons b bs ih => exact ih ..

/-- A store is read back inside its range and leaves every byte outside. -/
theorem readByte_writeMem (s : State) (a x : Nat) (bs : List Byte) :
    (s.writeMem a bs).readByte x = if a ≤ x ∧ x < a + bs.length then bs.getD (x - a) 0 else s.readByte x := by
  split
  · next h =>
    have hx : a + (x - a) = x := by omega
    have stored := s.readByte_writeMem_inside a (x - a) bs (by omega)
    rwa [hx] at stored
  · exact s.readByte_writeMem_outside a x bs (by omega)

/-- A granule's part of a store, where no granule is poisoned. -/
theorem storeGranule_reads {s : State} (hp : s.mem.poisoned = []) (m : Requester) (a : Nat) (bs : List Byte) :
    (s.storeGranule m a bs).mem.poisoned = []
    ∧ ∀ x, (s.storeGranule m a bs).readByte x
      = if a ≤ x ∧ x < a + bs.length then bs.getD (x - a) 0 else s.readByte x := by
  have once := s.chargeGranule_contents m a 64
  have twice := ((s.chargeGranule m a 64).chargeGranule_contents m a 64).trans once
  have clean {t : State} (ht : t.contents = s.contents) : t.mem.poisoned = [] :=
    (congrArg (fun c => c.2.2.2) ht).trans hp
  have stored {t : State} (ht : t.contents = s.contents) (x : Nat) : (t.writeMem a bs).readByte x
      = if a ≤ x ∧ x < a + bs.length then bs.getD (x - a) 0 else s.readByte x := by
    rw [readByte_writeMem, readByte_of_contents ht]
  unfold storeGranule
  dsimp only
  split
  case isTrue whole =>
    refine ⟨?_, fun x => stored once x⟩
    show ((s.chargeGranule m a 64).writeMem a bs).mem.poisoned.filter (· ≠ a / 64) = []
    rw [writeMem_poisoned, clean once, List.filter_nil]
  case isFalse part =>
    have sound : ((s.chargeGranule m a 64).chargeGranule m a 64).mem.poisoned.contains (a / 64) = false := by
      rw [clean twice]
      rfl
    rw [sound, if_neg Bool.false_ne_true]
    exact ⟨(writeMem_poisoned ..).trans (clean twice), stored twice⟩

/-- The part of a store of `data` at `a` that falls into granule `g`. -/
def storePart (s : State) (m : Requester) (a : Nat) (data : List Byte) (g : Nat) : State :=
  s.storeGranule m (max a (g * 64)) ((data.drop (max a (g * 64) - a)).take
    (min (a + data.length) (g * 64 + 64) - max a (g * 64)))

/-- The first `k` granules of a store hold its bytes; everything else reads as before. -/
theorem storeParts_reads {s : State} (hp : s.mem.poisoned = []) (m : Requester) (a : Nat) (data : List Byte) (k : Nat)
    (hk : k ≤ cdiv (a % 64 + data.length) 64) :
    (((List.range k).map (a / 64 + ·)).foldl (fun t g => t.storePart m a data g) s).mem.poisoned = []
    ∧ ∀ x, (((List.range k).map (a / 64 + ·)).foldl (fun t g => t.storePart m a data g) s).readByte x
      = if a ≤ x ∧ x < min (a + data.length) ((a / 64 + k) * 64) then data.getD (x - a) 0 else s.readByte x := by
  induction k with
  | zero =>
    refine ⟨hp, fun x => ?_⟩
    rw [if_neg (by omega)]
    rfl
  | succ k ih =>
    obtain ⟨clean, reads⟩ := ih (by omega)
    rw [List.range_succ, List.map_append, List.foldl_append]
    obtain ⟨cleanNext, readsNext⟩ := storeGranule_reads clean m (max a ((a / 64 + k) * 64))
      ((data.drop (max a ((a / 64 + k) * 64) - a)).take
        (min (a + data.length) ((a / 64 + k) * 64 + 64) - max a ((a / 64 + k) * 64)))
    refine ⟨cleanNext, fun x => (readsNext x).trans ?_⟩
    have begun : (a / 64 + k) * 64 < a + data.length := by
      unfold cdiv at hk
      omega
    rw [reads, List.length_take, List.length_drop]
    by_cases new : max a ((a / 64 + k) * 64) ≤ x ∧ x < min (a + data.length) ((a / 64 + k) * 64 + 64)
    · rw [if_pos (by omega), if_pos (by omega)]
      simp only [List.getD_eq_getElem?_getD, List.getElem?_take, List.getElem?_drop]
      rw [if_pos (by omega)]
      congr 2
      omega
    · rw [if_neg (by omega)]
      exact if_congr (by omega) rfl rfl

/-- A request whose class is not at its cap, and which no feedback holds, is performed. -/
theorem request_performs {s : State} {r : HeldReq} (hc : s.compat = true ∨ s.capped (s.classOf r.m) = false)
    (hf : s.mem.feedback.contains (pcOf r.addr) = false ∨ s.feedbackHolds (s.classOf r.m) = false) :
    s.request r = s.perform r := by
  have free : s.capHolds (s.classOf r.m) = false := by
    unfold capHolds
    rcases hc with h | h <;> simp [h]
  have unheld : (s.mem.feedback.contains (pcOf r.addr) && s.feedbackHolds (s.classOf r.m)) = false := by
    rcases hf with h | h <;> rw [h]
    · rfl
    · exact Bool.and_false _
  unfold request
  simp only [free, unheld, Bool.false_eq_true, if_false]

/-- A store inside HBM that is not refused goes granule by granule. -/
theorem store_parts {s : State} {m : Requester} {a : Nat} {data : List Byte} (hne : data ≠ [])
    (hin : inHbm (a + data.length - 1) = true) (hr : s.refuses m a data.length = false) :
    s.store m a data = (granulesOf a data.length).foldl (fun t g => t.storePart m a data g) s := by
  unfold store
  rw [if_neg hne, hin, hr]
  rfl

/-- A store of whole range reads back its bytes and leaves the rest of HBM. -/
theorem store_reads {s : State} {m : Requester} {a : Nat} {data : List Byte} (hp : s.mem.poisoned = []) (hne : data ≠ [])
    (hin : inHbm (a + data.length - 1) = true) (hr : s.refuses m a data.length = false) (x : Nat) :
    (s.store m a data).readByte x = if a ≤ x ∧ x < a + data.length then data.getD (x - a) 0 else s.readByte x := by
  rw [store_parts hne hin hr]
  refine ((storeParts_reads hp m a data _ le_rfl).2 x).trans (if_congr ?_ rfl rfl)
  unfold cdiv
  omega

end State

/-- A store at its master, not held. -/
theorem exec_partialGranuleWrite {s : State} {m : Requester} {addr : Nat} {data : List Byte}
    (hc : s.compat = true ∨ s.capped (s.classOf m) = false)
    (hf : s.mem.feedback.contains (pcOf addr) = false ∨ s.feedbackHolds (s.classOf m) = false) :
    exec (.partialGranuleWrite m addr data) s = .next (s.store m addr data) :=
  congrArg Host.Outcome.next (State.request_performs (r := ⟨m, true, addr, data.length, data, .ok, none⟩) hc hf)

/-- Settles O11: the request is performed, and the granules of the store together write its bytes. -/
theorem storeWritesOnlyItsBytes : Obligations.StoreWritesOnlyItsBytes := by
  unfold Obligations.StoreWritesOnlyItsBytes
  intro s m addr data hp hc hf hne hin hr
  refine ⟨_, exec_partialGranuleWrite hc hf, fun i h => ?stored, fun x hx => ?elsewhere⟩
  case stored =>
    rw [State.store_reads hp hne hin hr, if_pos (by omega), Nat.add_sub_cancel_left, List.getD_eq_getElem _ _ h]
  case elsewhere =>
    rw [State.store_reads hp hne hin hr, if_neg (by omega)]

end Sys2Proof.Machine

/-! # The domain of a dictionary access (R20, R22, R23) -/

namespace Sys2Proof.Machine

open Sys2Proof

namespace State

theorem domainAllows_mask {s : State} {d : Dom} {mask idx : Nat} (h : s.domainAllows d mask idx = true) :
    mask &&& Dom.bit d ≠ 0 := of_decide_eq_true (Bool.and_eq_true_iff.1 h).1

section
variable {s : State} {d : Dom} {idx sub i : Nat} {w : Bool} {e : EntryDef}

/-- An entry that the mask keeps from the domain is not reached, whatever its access type. -/
theorem entryFor_domain (ht : s.fw.tablesLost = false) (hx : indexExists idx = true) (he : lookupEntry idx sub = some e)
    (hm : (if w then e.writeMask else readMask idx) &&& Dom.bit d = 0) : s.entryFor d idx sub w = .error Ab.domain := by
  have shut : s.domainAllows d (if w then e.writeMask else readMask idx) idx = false := by
    unfold domainAllows
    rw [decide_eq_false (not_not.2 hm), Bool.false_and]
  unfold entryFor
  simp only [ht, hx, he, shut, Bool.false_eq_true, false_and, if_false, Bool.not_true, Bool.not_false, if_true]

/-- An index that does not exist is not reached. -/
theorem entryFor_noIndex (hx : indexExists idx = false) : s.entryFor d idx sub w = .error Ab.noIndex := by
  unfold entryFor
  simp only [hx, Bool.not_false, if_true, ite_self]

/-- An entry that is reached has the domain in the mask of the access. -/
theorem entryFor_allows (h : s.entryFor d idx sub w = .ok (e, i)) :
    (if w then e.writeMask else readMask idx) &&& Dom.bit d ≠ 0 := by
  have he := entryFor_lookup h
  refine domainAllows_mask (s := s) (idx := idx) ?_
  by_contra shut
  unfold entryFor at h
  simp only [he, Bool.eq_false_iff.2 shut, Bool.not_false, if_true] at h
  split at h
  · cases h
  · split at h <;> cases h

end

/-- An access that reaches no entry changes nothing. -/
theorem dictWrite_unreached {s : State} {a : Access} {c : Nat} (h : s.entryFor a.dom a.idx a.sub true = .error c) (x : Extra) :
    s.dictWrite a x = (c, s) := by
  unfold dictWrite
  rw [h]

theorem dictRead_unreached {s : State} {d : Dom} {idx sub c : Nat} (h : s.entryFor d idx sub false = .error c) (off len : Nat) :
    s.dictRead d idx sub off len = .error c := by
  unfold dictRead
  rw [h]

/-- R32: on a worker the range 0x2C00 is not its own hypervisor's. -/
theorem dictWrite_managerOnly {s : State} {a : Access} {e : EntryDef} {i : Nat}
    (h : s.entryFor a.dom a.idx a.sub true = .ok (e, i)) (hm : a.mgr = false) (hg : s.managerOnly a.dom a.idx = true)
    (x : Extra) : s.dictWrite a x = (Ab.domain, s) := by
  unfold dictWrite
  rw [h]
  dsimp only
  rw [hg, hm]
  rfl

end State

/-- Settles O13: the domain is checked where the entry is looked up, before type, value and range. -/
theorem domainComesBeforeAccessType : Obligations.DomainComesBeforeAccessType := by
  unfold Obligations.DomainComesBeforeAccessType
  intro s e ht
  refine ⟨?writeDenied, ?readDenied, ?writeServed, ?readServed, ?managerOnly⟩
  case writeDenied =>
    intro a x hx he hm
    exact State.dictWrite_unreached (State.entryFor_domain (w := true) ht hx he hm) x
  case readDenied =>
    intro d idx sub off len hx he hm
    exact State.dictRead_unreached (State.entryFor_domain (w := false) ht hx he hm) off len
  case writeServed =>
    intro a x t he hw hm
    have aborted {c : Nat} (hc : c ≠ 0) (h : s.entryFor a.dom a.idx a.sub true = .error c) : False := by
      rw [State.dictWrite_unreached h] at hw
      exact hc (congrArg Prod.fst hw)
    cases hx : indexExists a.idx with
    | false => exact aborted (by decide) (State.entryFor_noIndex hx)
    | true => exact aborted (by decide) (State.entryFor_domain (w := true) ht hx he hm)
  case readServed =>
    intro d idx sub off len b hr
    cases h : s.entryFor d idx sub false with
    | error c =>
      rw [State.dictRead_unreached h] at hr
      cases hr
    | ok r => exact State.entryFor_allows (w := false) h
  case managerOnly =>
    intro a x i h hm hd hlo hhi hw
    exact State.dictWrite_managerOnly h hm (decide_eq_true ⟨hlo, hhi, hw, hd⟩) x

end Sys2Proof.Machine

/-! # The hash of pseudo-channels (R251) -/

namespace Sys2Proof.Machine

open Sys2Proof

/-- A byte of block `i` of row `r` of 8 KiB: the block's number is in A[12:8], the row's in the bits above. -/
theorem pcOf_block (r i k : Nat) (hi : i < 32) (hk : k < 256) :
    pcOf (8192 * r + 256 * i + k) = i ^^^ (r % 32) ^^^ (r / 32 % 32) := by
  have low : bits (8192 * r + 256 * i + k) 12 8 = i := by
    simp only [bits, Nat.shiftRight_eq_div_pow]
    omega
  have middle : bits (8192 * r + 256 * i + k) 17 13 = r % 32 := by
    simp only [bits, Nat.shiftRight_eq_div_pow]
    omega
  have high : bits (8192 * r + 256 * i + k) 22 18 = r / 32 % 32 := by
    simp only [bits, Nat.shiftRight_eq_div_pow]
    omega
  rw [pcOf, low, middle, high]

/-- Settles O17: within a row the hash is the block's number under two fixed masks. -/
theorem consecutiveBlocksSpread : Obligations.ConsecutiveBlocksSpread := by
  unfold Obligations.ConsecutiveBlocksSpread
  intro row i j hi hj
  have first (n : Nat) (hn : n < 32) : pcOf (8192 * row + 256 * n) = n ^^^ (row % 32) ^^^ (row / 32 % 32) :=
    pcOf_block row n 0 hn (by decide)
  refine ⟨?below, fun k hk => ?whole, fun h => ?apart⟩
  case below =>
    rw [first i hi]
    have row5 (n : Nat) : n % 32 < 2 ^ 5 := Nat.mod_lt n (by decide)
    exact Nat.xor_lt_two_pow (Nat.xor_lt_two_pow hi (row5 _)) (row5 _)
  case whole => rw [first i hi, pcOf_block row i k hi hk]
  case apart =>
    rw [first i hi, first j hj] at h
    exact Nat.xor_left_injective (Nat.xor_left_injective h)

end Sys2Proof.Machine

/-! # SKEOT_LOAD (R430, R431) -/

namespace Sys2Proof.Machine

open Sys2Proof

/-- The firmware's state as SKEOT_LOAD answers it; 0 to go on. -/
def loadAnswer (st : Nat) : Int := if st = 2 then sbiAvailable else if st = 1 ∨ st = 3 then sbiStarted else 0

theorem exec_skeotLoad (mode : HartMode) (addr len node : Nat) (s : State) :
    exec (.skeotLoad mode addr len node) s
      = .next (s.skeot mode addr len node loadAnswer fun t => t.loadHere (t.readMem addr len)) := rfl

namespace State

section
variable {s : State} {addr len node : Nat} {ret : Nat → Int} {run : State → State}

theorem skeot_denied {mode : HartMode} (h : mode ≠ .hs) : s.skeot mode addr len node ret run = s.emit (.sbi sbiDenied 0) :=
  if_pos h

theorem skeot_badNode (h : s.nodeOk node = false) : s.skeot .hs addr len node ret run = s.emit (.sbi sbiInvalid 0) := by
  simp only [skeot, h, ne_eq, not_true_eq_false, Bool.not_false, if_true, if_false]

theorem skeot_answered (h : s.nodeOk node = true) (hr : ret (s.fwOf node).1.1 ≠ 0) :
    s.skeot .hs addr len node ret run = (s.fwOf node).2.emit (.sbi (ret (s.fwOf node).1.1) 0) := by
  simp only [skeot, h, hr, ne_eq, not_true_eq_false, not_false_eq_true, Bool.not_true, Bool.false_eq_true, if_true, if_false]

theorem skeot_badImage (h : s.nodeOk node = true) (hr : ret (s.fwOf node).1.1 = 0)
    (hi : (s.fwOf node).2.imageOk addr len = false) :
    s.skeot .hs addr len node ret run = (s.fwOf node).2.emit (.sbi sbiInvalid 0) := by
  simp only [skeot, h, hr, hi, ne_eq, not_true_eq_false, Bool.not_true, Bool.not_false, Bool.false_eq_true, if_true, if_false]

theorem skeot_starts (h : s.nodeOk node = true) (hr : ret (s.fwOf node).1.1 = 0)
    (hi : (s.fwOf node).2.imageOk addr len = true) :
    s.skeot .hs addr len node ret run = State.emit (if (s.fwOf node).2.isHere node then run (s.fwOf node).2
      else (s.fwOf node).2.sendImage node addr len) (.sbi 0 0) := by
  simp only [skeot, h, hr, hi, ne_eq, not_true_eq_false, Bool.not_true, Bool.false_eq_true, if_false]

end

end State

/-- Settles O19: the checks of R430 in their order, one lemma each. -/
theorem loadCallAnswers : Obligations.LoadCallAnswers := by
  unfold Obligations.LoadCallAnswers
  intro s mode addr len node
  rw [exec_skeotLoad]
  by_cases hmode : mode = .hs
  case neg =>
    refine ⟨s, ?_, fun _ => rfl⟩
    rw [State.skeot_denied hmode, if_pos hmode]
    rfl
  subst hmode
  rw [if_neg (not_not.2 rfl)]
  cases hnode : s.nodeOk node with
  | false =>
    refine ⟨s, ?_, fun _ => rfl⟩
    rw [State.skeot_badNode hnode]
    rfl
  | true =>
    rw [if_neg (by decide)]
    refine Exists.imp (fun t answered => And.intro answered (by simp)) ?_
    by_cases running : (s.fwOf node).1.1 = 2
    · have answer : loadAnswer (s.fwOf node).1.1 = -6 := if_pos running
      refine ⟨(s.fwOf node).2, ?_⟩
      rw [State.skeot_answered hnode (by rw [answer]; decide), answer, if_pos running]
    by_cases starting : (s.fwOf node).1.1 = 1 ∨ (s.fwOf node).1.1 = 3
    · have answer : loadAnswer (s.fwOf node).1.1 = -7 := (if_neg running).trans (if_pos starting)
      refine ⟨(s.fwOf node).2, ?_⟩
      rw [State.skeot_answered hnode (by rw [answer]; decide), answer, if_neg running, if_pos starting]
    have answer : loadAnswer (s.fwOf node).1.1 = 0 := (if_neg running).trans (if_neg starting)
    rw [if_neg running, if_neg starting]
    cases himage : (s.fwOf node).2.imageOk addr len with
    | false =>
      refine ⟨(s.fwOf node).2, ?_⟩
      rw [State.skeot_badImage hnode answer himage]
      rfl
    | true => exact ⟨_, congrArg Host.Outcome.next (State.skeot_starts hnode answer himage)⟩

end Sys2Proof.Machine

/-! # The signal page (R242) -/

namespace Sys2Proof.Machine

open Sys2Proof

theorem exec_signalPageWrite (off v : Nat) (s : State) : exec (.signalPageWrite off v) s = .next (s.signalWrite off v) := rfl

/-- A write of a bit's number at the offset of a word. -/
theorem State.signalWrite_sets {s : State} {off v : Nat} (hv : v < 64) (ho : off < 512) (ha : off % 8 = 0) :
    s.signalWrite off v = { s with lnk := { s.lnk with
      words := NMap.set 0 s.lnk.words (off / 8) (NMap.get 0 s.lnk.words (off / 8) ||| 2 ^ v)
      pendingBits := if s.get 0x2C00 1 < 192 then s.lnk.pendingBits ||| 2 ^ s.get 0x2C00 1 else s.lnk.pendingBits } } :=
  if_neg (by omega)

/-- A value that is no bit's number is ignored. -/
theorem State.signalWrite_ignores {s : State} {v : Nat} (hv : 63 < v) (off : Nat) : s.signalWrite off v = s :=
  if_pos (.inl hv)

/-- Settles O24: word `w` stands at offset 8 w, and no other word moves. -/
theorem signalWords : Obligations.SignalWords := by
  unfold Obligations.SignalWords
  intro s off b
  refine ⟨fun w hw hb ho => ?sets, fun hb => ?ignores⟩
  case sets =>
    subst ho
    have word : 8 * w / 8 = w := Nat.mul_div_cancel_left w (by decide)
    rw [exec_signalPageWrite, State.signalWrite_sets hb (by omega) (by omega), word]
    exact ⟨_, rfl, NMap.get_set_same .., fun x hx => NMap.get_set_other _ _ _ _ _ hx, fun hm => if_pos hm⟩
  case ignores => rw [exec_signalPageWrite, State.signalWrite_ignores hb]

end Sys2Proof.Machine

/-! # Time bases (R345, R349) -/

namespace Sys2Proof.Machine

open Sys2Proof

namespace State

theorem base_setBase_same (s : State) (n : Nat) (x : TimeBase) : (s.setBase n x).base n = x := NMap.get_set_same ..

theorem base_setBase_other (s : State) {n m : Nat} (h : m ≠ n) (x : TimeBase) : (s.setBase n x).base m = s.base m :=
  NMap.get_set_other _ _ _ _ _ h

/-- R345: a tick with nothing pending. -/
theorem tickBase_plain {s : State} {n : Nat} (hs : (s.base n).pendStep = none) (hi : (s.base n).pendIncr = none) :
    s.tickBase n = s.setBase n { s.base n with value := ((s.base n).value + s.get (0x2210 + n) 4) % tbModulus } := by
  simp only [tickBase, hs, hi]

/-- What a requester's joint snapshot latches of base `n` (R349): TB3 is the secure domain's. -/
def jointValue (s : State) (r n : Nat) : Nat := if n = 3 ∧ !s.secureReader r then 0 else s.tb n

/-- Bases 0 to `k` - 1 latched for a requester. -/
theorem jointSnap_upTo (s : State) (r k : Nat) : (List.range k).foldl (fun (t : State) n =>
      let v := if n = 3 ∧ !t.secureReader r then 0 else t.tb n
      { t with time := { t.time with joint := NMap.set 0 t.time.joint (r * 8 + n) v } }) s
    = { s with time := { s.time with
        joint := (List.range k).foldl (fun m n => NMap.set 0 m (r * 8 + n) (s.jointValue r n)) s.time.joint } } := by
  induction k with
  | zero => rfl
  | succ k ih =>
    rw [List.range_succ, List.foldl_append, List.foldl_append, ih]
    rfl

/-- A joint snapshot changes the joint latches only. -/
theorem jointSnap_eq (s : State) (r : Nat) : s.jointSnap r = { s with time := { s.time with
    joint := (List.range 8).foldl (fun m n => NMap.set 0 m (r * 8 + n) (s.jointValue r n)) s.time.joint } } :=
  s.jointSnap_upTo r 8

end State

/-- A run of writes at `r * 8 + n` for `n` below `k`: each is read back, and the rest stands. -/
theorem get_foldl_set (f : Nat → Nat) (m : NMap Nat) (r k x : Nat) :
    NMap.get 0 ((List.range k).foldl (fun m n => NMap.set 0 m (r * 8 + n) (f n)) m) x
      = if r * 8 ≤ x ∧ x < r * 8 + k then f (x - r * 8) else NMap.get 0 m x := by
  induction k with
  | zero =>
    rw [if_neg (by omega)]
    rfl
  | succ k ih =>
    rw [List.range_succ, List.foldl_append]
    show NMap.get 0 (NMap.set 0 _ (r * 8 + k) (f k)) x = _
    by_cases hx : x = r * 8 + k
    · subst hx
      rw [NMap.get_set_same, if_pos (by omega), Nat.add_sub_cancel_left]
    · rw [NMap.get_set_other _ _ _ _ _ hx, ih]
      exact if_congr (by omega) rfl rfl

/-- TB_INCREMENT of each base is nominal until it is written. -/
theorem defaultVal_increment : ∀ n, n < 8 → defaultVal (0x2210 + n) 4 = .num 281474976710656 := by decide +kernel

theorem exec_jointSnapshot (r : Nat) (s : State) :
    exec (.jointSnapshot r) s = .next ((s.jointSnap r).emit (.readData (some (s.tb 1)))) := rfl

/-- Settles O26: a tick writes its own base, and the table gives TB_INCREMENT of each base its default. -/
theorem ticksAdvanceBases : Obligations.TicksAdvanceBases := by
  unfold Obligations.TicksAdvanceBases
  intro s n hs hi
  rw [State.tickBase_plain hs hi]
  refine ⟨?advances, fun m hm => s.base_setBase_other hm _, ?nominal⟩
  case advances =>
    rw [State.base_setBase_same]
    rfl
  case nominal => exact defaultVal_increment n

/-- Settles O28: the eight latches of the requester are written, no other, and TB1 is returned. -/
theorem jointSnapshotIsOneTick : Obligations.JointSnapshotIsOneTick := by
  unfold Obligations.JointSnapshotIsOneTick
  intro s r n hn
  rw [exec_jointSnapshot, State.jointSnap_eq]
  refine ⟨_, rfl, rfl, ?own, fun k hk => ?others⟩
  case own =>
    refine (get_foldl_set ..).trans ?_
    rw [if_pos (by omega), Nat.add_sub_cancel_left]
    simp only [State.jointValue, Bool.not_eq_true']
  case others =>
    refine (get_foldl_set ..).trans (if_neg (by omega))

end Sys2Proof.Machine

/-! # Returns from M-mode (R398) -/

namespace Sys2Proof.Machine

open Sys2Proof

namespace State

theorem hart_setHart_same (s : State) (h : Nat) (x : Hart) : (s.setHart h x).hart h = x := NMap.get_set_same ..

theorem hart_setHart_other (s : State) {h k : Nat} (hk : k ≠ h) (x : Hart) : (s.setHart h x).hart k = s.hart k :=
  NMap.get_set_other _ _ _ _ _ hk

/-- An integer register after the world's clearing: a0 to a3 stand. -/
theorem worldClear_x (h : Hart) (r : Nat) :
    NMap.get 0 (worldClear h).x r = if 10 ≤ r ∧ r ≤ 13 then NMap.get 0 h.x r else 0 := by
  refine (NMap.get_filter 0 (fun k => decide (10 ≤ k ∧ k ≤ 13)) h.x r).trans ?_
  simp only [decide_eq_true_eq]

/-- An application hart leaves M-mode. -/
theorem mret_leaves {s : State} {h : Nat} {into : HartMode} (hh : h < 24) (hm : (s.hart h).mode = .m) (hi : into ≠ .m) :
    s.mret h into = s.setHart h { worldClear { s.hart h with mode := into } with
      halted := (s.hart h).halted || (s.hart h).haltPending, haltPending := false } := by
  have app : ¬ ((s.hart h).mode ≠ .m ∨ 24 ≤ h) := by
    rw [hm]
    simpa using hh
  exact (if_neg app).trans (if_neg hi)

end State

theorem exec_mret (h : Nat) (into : HartMode) (s : State) : exec (.mret h into) s = .next (s.mret h into) := rfl

/-- Settles O27: the hart alone is written, and its registers are those that the world's clearing leaves. -/
theorem returnFromMachineMode : Obligations.ReturnFromMachineMode := by
  unfold Obligations.ReturnFromMachineMode
  intro s h into hh hm hi
  rw [exec_mret, State.mret_leaves hh hm hi]
  refine ⟨_, rfl, ?mode, fun r hr => ?cleared, fun r hlo hhi => ?kept, ?float, ?vector,
    fun k hk => s.hart_setHart_other hk _⟩
  all_goals rw [State.hart_setHart_same]
  case mode => rfl
  case cleared => exact (State.worldClear_x _ r).trans (if_neg (by omega))
  case kept => exact (State.worldClear_x _ r).trans (if_pos ⟨hlo, hhi⟩)
  case float => rfl
  case vector => rfl

end Sys2Proof.Machine

/-! # The effect of a dictionary write, chapter by chapter

Which chapter's write function an index reaches (`State.applyWrite`), and the row of a number or a string whose effect is
known. -/

namespace Sys2Proof.Machine

open Sys2Proof

namespace State

section
variable {s : State} {d : Dom} {x : Extra} {bw : Option Nat} {i idx sub n : Nat} {v : DVal}

theorem applyWrite_communication (lo : 0x1100 ≤ idx) (hi : idx < 0x2000) :
    s.applyWrite d x bw i idx sub v = .ok (s.setVal idx sub v) := by
  unfold applyWrite
  simp (disch := omega) only [if_neg, if_pos]

theorem applyWrite_governor (lo : 0x2003 ≤ idx) (hi : idx < 0x2120) :
    s.applyWrite d x bw i idx sub (.num n) = s.governorWrite idx sub n := by
  unfold applyWrite
  simp (disch := omega) only [if_neg, if_pos]

theorem applyWrite_functions (m : Nat) :
    s.applyWrite d { stopped := some m } bw i 0x2130 sub (.num n) = s.powerWrite 0x2130 sub n m := rfl

theorem applyWrite_time (lo : 0x2200 ≤ idx) (hi : idx < 0x2300) :
    s.applyWrite d x bw i idx sub v = s.timeWrite idx sub v := by
  unfold applyWrite
  simp (disch := omega) only [if_neg, if_pos]

theorem applyWrite_partition (lo : 0x2300 ≤ idx) (hi : idx < 0x2340) :
    s.applyWrite d x bw i idx sub v = s.partitionWrite idx sub v := by
  unfold applyWrite
  simp (disch := omega) only [if_neg, if_pos]

theorem applyWrite_bandwidth (lo : 0x2400 ≤ idx) (hi : idx < 0x2500) :
    s.applyWrite d x bw i idx sub (.num n) = s.bandwidthWrite idx sub n bw := by
  unfold applyWrite
  simp (disch := omega) only [if_neg, if_pos]

theorem applyWrite_slice (lo : 0x2511 ≤ idx) (hi : idx < 0x2600) :
    s.applyWrite d x bw i idx sub v = s.sliceWrite d idx sub v := by
  unfold applyWrite
  simp (disch := omega) only [if_neg, if_pos]

theorem applyWrite_placement (lo : 0x2600 ≤ idx) (hi : idx < 0x2700) :
    s.applyWrite d x bw i idx sub (.num n) = s.placementWrite idx sub n := by
  unfold applyWrite
  simp (disch := omega) only [if_neg, if_pos]

theorem applyWrite_pool (lo : 0x2700 ≤ idx) (hi : idx < 0x2800) :
    s.applyWrite d x bw i idx sub (.num n) = s.poolWrite (i - 1) idx sub n := by
  unfold applyWrite
  simp (disch := omega) only [if_neg, if_pos]

theorem applyWrite_params : s.applyWrite d x bw i 0x2800 1 (.num n) = s.writeParams (i - 1) n := rfl

theorem applyWrite_display (lo : 0x2801 ≤ idx) (hi : idx < 0x2900) :
    s.applyWrite d x bw i idx sub (.num n) = s.displayWrite d idx sub n := by
  unfold applyWrite
  simp (disch := omega) only [if_neg, if_pos]

theorem applyWrite_lanes (lo : 0x2900 ≤ idx) (hi : idx < 0x2A00) :
    s.applyWrite d x bw i idx sub (.num n) = s.lanesWrite sub n := by
  unfold applyWrite
  simp (disch := omega) only [if_neg, if_pos]

theorem applyWrite_acoustic (lo : 0x2A00 ≤ idx) (hi : idx < 0x2B00) :
    s.applyWrite d x bw i idx sub (.num n) = s.acuWrite d idx sub n := by
  unfold applyWrite
  simp (disch := omega) only [if_neg, if_pos]

/-- All of the gateway's first range but GO_STATE, where no cable test comes with the row. -/
theorem applyWrite_gateway (lo : 0x2B00 ≤ idx) (hi : idx < 0x2C00) (go : ¬ (idx = 0x2BA0 ∧ sub = 0x0C)) :
    s.applyWrite d {} bw i idx sub v = s.gatewayWrite idx sub v := by
  unfold applyWrite
  simp (disch := omega) only [if_neg, if_pos]

theorem applyWrite_cableTest {p r : Nat} (hp : p < 20) :
    s.applyWrite d { cable := some r } bw i (0x2B40 + p) 6 v = .ok (s.cableDiag p r) := by
  have port : 0x2B40 ≤ 0x2B40 + p ∧ 0x2B40 + p < 0x2B54 := ⟨by omega, by omega⟩
  unfold applyWrite
  simp (disch := omega) only [if_neg, if_pos, Nat.add_sub_cancel_left, port, and_self, if_true]

theorem applyWrite_routes (lo : 0x4000 ≤ idx) (hi : idx < 0x4700) :
    s.applyWrite d x bw i idx sub v = s.gatewayWrite idx sub v := by
  unfold applyWrite
  simp (disch := omega) only [if_neg, if_pos]

/-- All of the links' range where no cabling comes with the row. -/
theorem applyWrite_links (lo : 0x2C00 ≤ idx) (hi : idx < 0x2D00) :
    s.applyWrite d {} bw i idx sub v = s.linkWrite idx sub v := by
  unfold applyWrite
  simp (disch := omega) only [if_neg, if_pos]

theorem applyWrite_security (lo : 0x2D00 ≤ idx) (hi : idx < 0x2E02) :
    s.applyWrite d x bw i idx sub v = s.securityWrite idx sub v := by
  unfold applyWrite
  simp (disch := omega) only [if_neg, if_pos]

theorem applyWrite_counters (lo : 0x2E03 ≤ idx) (hi : idx < 0x3000) :
    s.applyWrite d x bw i idx sub (.num n) = s.counterWrite idx sub n := by
  unfold applyWrite
  simp (disch := omega) only [if_neg, if_pos]

theorem applyWrite_plain (lo : 0x4700 ≤ idx) : s.applyWrite d x bw i idx sub (.num n) = .ok (s.set idx sub n) := by
  unfold applyWrite
  simp (disch := omega) only [if_neg]

end

/-! ## The row of a command whose unit is in range -/

section
variable {s t : State} {d : Dom} {x : Extra} {i idx sub n c : Nat} {C : Prop} [Decidable C]

/-- A row is the access of its unit. -/
theorem next_if {r : State} (hC : C) (h : r = t) : (Host.Outcome.next (if C then r else s) : Out) = .next t :=
  congrArg Host.Outcome.next ((if_pos hC).trans h)

theorem rowNum_if_acts (hC : C) (hs : s.servesNow (pathOf d)) (hn : s.takesNum d idx sub n i)
    (ht : s.roused.applyWrite d x none i idx sub (.num n) = .ok t) :
    (Host.Outcome.next (if C then s.rowNum d idx sub n x else s) : Out) = .next (t.answered d) :=
  next_if hC (rowNum_acts hs hn ht)

theorem rowNum_if_aborts (hC : C) (hs : s.servesNow (pathOf d)) (hn : s.takesNum d idx sub n i)
    (hc : s.roused.applyWrite d x none i idx sub (.num n) = .abort c) :
    (Host.Outcome.next (if C then s.rowNum d idx sub n x else s) : Out) =
      .next (s.roused.emit (.answer (pathOf d) c [])) :=
  next_if hC (rowNum_aborts hs hn hc)

end

end State

end Sys2Proof.Machine

/-! # CAN and Ethernet settings while a port is on (R326, R331) -/

namespace Sys2Proof.Machine

open Sys2Proof

namespace State

section
variable {s : State} {d : Dom} {bw : Option Nat} {i sub v : Nat}

theorem applyWrite_can {n : Nat} (hn : n < 16) :
    s.applyWrite d {} bw i (0x2B10 + n) sub (.num v) = s.canWrite n sub v := by
  rw [applyWrite_gateway (by omega) (by omega) (by omega)]
  unfold gatewayWrite
  simp (disch := omega) only [if_neg, if_pos, Nat.add_sub_cancel_left]

theorem applyWrite_eth {p : Nat} (hp : p < 20) :
    s.applyWrite d {} bw i (0x2B40 + p) sub (.num v) = s.ethWrite p sub v := by
  rw [applyWrite_gateway (by omega) (by omega) (by omega)]
  unfold gatewayWrite
  simp (disch := omega) only [if_neg, if_pos, Nat.add_sub_cancel_left]

theorem ethWrite_busy {p : Nat} (h1 : sub ≠ 1) (h6 : sub ≠ 6) (ho : s.get (0x2B40 + p) 1 ≠ 0) :
    s.ethWrite p sub v = .abort 0x08000C09 :=
  (if_neg h1).trans ((if_neg h6).trans (if_pos ho))

/-! ## The outcomes of a write of a CAN entry -/

variable {n : Nat}

/-- CAN0 to CAN11 have no CAN XL. -/
theorem canWrite_excluded (h : n < 12 ∧ ((sub = 6 ∧ v = 1) ∨ (sub = 3 ∧ v = 10000))) :
    s.canWrite n sub v = .abort 0x06090030 := if_pos h

variable (hx : ¬ (n < 12 ∧ ((sub = 6 ∧ v = 1) ∨ (sub = 3 ∧ v = 10000)))) (hf : s.canFenced n = false)
include hx hf

theorem canWrite_busy (hb : (2 ≤ sub ∧ sub ≤ 6) ∨ (0x10 ≤ sub ∧ sub ≤ 0x15)) (ho : s.get (0x2B10 + n) 1 ≠ 0) :
    s.canWrite n sub v = .abort 0x08000C09 := by
  unfold canWrite
  simp only [hx, hf, decide_eq_true hb, decide_eq_true ho, if_false, if_true, Bool.false_eq_true, Bool.and_self]
  rfl

theorem canWrite_free (hb : (2 ≤ sub ∧ sub ≤ 6) ∨ (0x10 ≤ sub ∧ sub ≤ 0x15) → s.get (0x2B10 + n) 1 = 0) :
    s.canWrite n sub v = if sub = 1 then s.canMode n v else if sub = 8 then .ok (s.canCmd n v)
      else .ok (s.set (0x2B10 + n) sub v) := by
  have free : ¬ (((2 ≤ sub ∧ sub ≤ 6) ∨ (0x10 ≤ sub ∧ sub ≤ 0x15)) ∧ s.get (0x2B10 + n) 1 ≠ 0) := fun h => h.2 (hb h.1)
  unfold canWrite
  simp only [hx, hf, if_false, Bool.false_eq_true, ← Bool.decide_and, decide_eq_true_eq, free]

theorem canWrite_sets (hb : (2 ≤ sub ∧ sub ≤ 6) ∨ (0x10 ≤ sub ∧ sub ≤ 0x15) → s.get (0x2B10 + n) 1 = 0)
    (h1 : sub ≠ 1) (h8 : sub ≠ 8) : s.canWrite n sub v = .ok (s.set (0x2B10 + n) sub v) := by
  rw [canWrite_free hx hf hb, if_neg h1, if_neg h8]

end

end State

/-- Settles O21: each clause is one outcome of `State.canWrite` or `State.ethWrite`. -/
theorem portsBusyWhileEnabled : Obligations.PortsBusyWhileEnabled := by
  unfold Obligations.PortsBusyWhileEnabled
  intro s d hs
  refine ⟨fun n sub v i hn hsub ht hf => ⟨?busy, ?off, ?noXl⟩, ?ethernet⟩
  case busy =>
    intro hon hx
    exact State.rowNum_if_aborts ⟨hn, by omega⟩ hs ht
      ((State.applyWrite_can hn).trans (State.canWrite_busy (by omega) hf hsub hon))
  case off =>
    intro hoff hx
    exact State.rowNum_if_acts ⟨hn, by omega⟩ hs ht
      ((State.applyWrite_can hn).trans (State.canWrite_sets (by omega) hf (fun _ => hoff) (by omega) (by omega)))
  case noXl =>
    intro hlow h6 h1
    exact State.rowNum_if_aborts ⟨hn, by omega⟩ hs ht
      ((State.applyWrite_can hn).trans (State.canWrite_excluded (by omega)))
  case ethernet =>
    intro p sub v i hp lo hi ht hon
    exact State.rowNum_if_aborts ⟨hp, by omega⟩ hs ht
      ((State.applyWrite_eth hp).trans (State.ethWrite_busy (by omega) (by omega) hon))

end Sys2Proof.Machine

/-! # Display timing while an output is on (R286) -/

namespace Sys2Proof.Machine

open Sys2Proof

namespace State

section
variable {s : State} {d : Dom} {o sub v : Nat} (ho : o < 4)
include ho

theorem displayWrite_busy (hb : 2 ≤ sub ∧ sub ≤ 7 ∧ s.get (0x2880 + o) 1 = 1) :
    s.displayWrite d (0x2880 + o) sub v = .abort 0x08000723 :=
  (if_pos (by omega)).trans (if_pos hb)

theorem displayWrite_small (h1 : sub = 1 ∧ v = 1)
    (ht : s.get (0x2880 + o) 4 < s.get (0x2880 + o) 2 + 32 ∨ s.get (0x2880 + o) 5 < s.get (0x2880 + o) 3 + 8) :
    s.displayWrite d (0x2880 + o) sub v = .abort 0x06090030 :=
  (if_pos (by omega)).trans ((if_neg (by omega)).trans (if_pos ⟨h1.1, h1.2, ht⟩))

theorem displayWrite_output (hb : 2 ≤ sub ∧ sub ≤ 7 → s.get (0x2880 + o) 1 ≠ 1)
    (ht : sub = 1 ∧ v = 1 →
      s.get (0x2880 + o) 2 + 32 ≤ s.get (0x2880 + o) 4 ∧ s.get (0x2880 + o) 3 + 8 ≤ s.get (0x2880 + o) 5) :
    s.displayWrite d (0x2880 + o) sub v = .ok (s.set (0x2880 + o) sub v) :=
  (if_pos (by omega)).trans ((if_neg fun h => hb ⟨h.1, h.2.1⟩ h.2.2).trans (if_neg (by omega)))

end

end State

/-- Settles O22: the two refusals of `State.displayWrite`. -/
theorem outputsBusyWhileEnabled : Obligations.OutputsBusyWhileEnabled := by
  unfold Obligations.OutputsBusyWhileEnabled
  intro s d o sub v i hs ho ht
  have row {c : Nat} (h : s.roused.displayWrite d (0x2880 + o) sub v = .abort c) :
      exec (.outputEnableWrite d o sub v) s = .next (s.roused.emit (.answer (pathOf d) c [])) :=
    State.rowNum_if_aborts ho hs ht ((State.applyWrite_display (by omega) (by omega)).trans h)
  refine ⟨?busy, ?small⟩
  case busy => exact fun lo hi on => row (State.displayWrite_busy ho ⟨lo, hi, on⟩)
  case small => exact fun h1 hv small => row (State.displayWrite_small ho ⟨h1, hv⟩ small)

end Sys2Proof.Machine

/-! # The enclave binding of a slice (R396) -/

namespace Sys2Proof.Machine

open Sys2Proof

namespace State

section
variable {s : State} {k v : Nat} (hv : v ≤ 255 ∨ v = 0xFFFF)
include hv

theorem writeSliceEnclave_sets
    (h : s.sliceState k = 0 ∨ (s.sliceState k = 1 ∧ s.memUsed k = 0 ∧ s.holdsParamBuffer k = false)) :
    s.writeSliceEnclave k v = .ok (s.set 0x2D12 (k + 1) v) :=
  (if_neg (by omega)).trans (if_pos (by simpa only [Bool.not_eq_true'] using h))

theorem writeSliceEnclave_refuses
    (h : ¬ (s.sliceState k = 0 ∨ (s.sliceState k = 1 ∧ s.memUsed k = 0 ∧ s.holdsParamBuffer k = false))) :
    s.writeSliceEnclave k v = .abort 0x08000A04 :=
  (if_neg (by omega)).trans (if_neg (by simpa only [Bool.not_eq_true'] using h))

end

end State

/-- Settles O23: the two outcomes of `State.writeSliceEnclave` for a value in range. -/
theorem sliceEnclaveGate : Obligations.SliceEnclaveGate := by
  unfold Obligations.SliceEnclaveGate
  intro s d k v i hs hk ht hv
  refine ⟨?free, ?bound⟩
  case free => exact fun h => State.rowNum_if_acts hk hs ht (State.writeSliceEnclave_sets (s := s.roused) hv h)
  case bound => exact fun h => State.rowNum_if_aborts hk hs ht (State.writeSliceEnclave_refuses (s := s.roused) hv h)

end Sys2Proof.Machine

/-! # Communication and device entries (R25, R37, R39, R45, R58) -/

namespace Sys2Proof.Machine

open Sys2Proof

namespace State

section
variable {s : State} {d : Dom} {idx sub n i : Nat}

/-- The bytes of a row's number are those of the type of the entry that the access finds. -/
theorem rowNum_bytes {e : EntryDef} (he : s.entryFor d idx sub true = .ok (e, i)) (x : Extra) :
    s.rowNum d idx sub n x = s.rowWrite d idx sub (leBytes e.ty.size n) x := by
  unfold rowNum
  rw [entryFor_lookup he]

theorem governorWrite_setting (h : sub = 5 → n % 5 = 0) :
    s.governorWrite 0x2110 sub n = .ok (aim (if (s.set 0x2110 sub n).govFixed then (s.set 0x2110 sub n).dropLoops
      else s.set 0x2110 sub n)) :=
  (if_neg (by decide)).trans (if_neg fun bad => bad.2 (h bad.1))

end

end State

/-- Settles O30: each row is its access, whose effect is the entry's own. -/
theorem communicationAndDeviceRows : Obligations.CommunicationAndDeviceRows := by
  unfold Obligations.CommunicationAndDeviceRows
  intro s d hs
  refine ⟨?store, ?restore, ?number, ?string, ?ack, ?compat, ?governor, ?railMin⟩
  case store => exact fun v i ht => congrArg Host.Outcome.next (State.rowNum_acts hs ht rfl)
  case restore => exact fun v i ht => congrArg Host.Outcome.next (State.rowNum_acts hs ht rfl)
  case number =>
    intro idx sub n i e hi he ht
    exact State.next_if hi ((State.rowNum_bytes he {}).symm.trans
      (State.rowNum_acts hs ht (State.applyWrite_communication (by omega) (by omega))))
  case string =>
    intro idx sub b i hi ht
    exact State.next_if hi (State.rowStr_acts hs ht (State.applyWrite_communication (by omega) (by omega)))
  case ack => exact fun v i t ht h => congrArg Host.Outcome.next (State.rowNum_acts hs ht h)
  case compat =>
    exact fun v i ht he hoff => congrArg Host.Outcome.next (State.rowNum_compatMode hs ht he fun e _ => hoff e)
  case governor =>
    intro sub v i ht h5
    exact State.next_if rfl (State.rowNum_acts hs ht
      ((State.applyWrite_governor (by omega) (by omega)).trans (State.governorWrite_setting h5)))
  case railMin => exact fun v i ht => congrArg Host.Outcome.next (State.rowNum_acts hs ht rfl)

end Sys2Proof.Machine

/-! # Queues and slices (R202 to R206, R210 to R219) -/

namespace Sys2Proof.Machine

open Sys2Proof

namespace State

section
variable {s : State} {d : Dom} {q k c : Nat}

/-! ## Queue commands (Tables QUE-4 and QUE-5) -/

/-- A queue's number and a command, as QUEUE_CMD joins them. -/
theorem queueCmd_command (hq : q < 262144) (hc : c < 16) (h : s.queueAccess d q = .ok k) :
    s.queueCmd d (q + c * 268435456) = s.queueCommand c q := by
  have number : bits (q + c * 268435456) 17 0 = q := by unfold bits; omega
  have command : bits (q + c * 268435456) 31 28 = c := by unfold bits; omega
  unfold queueCmd
  simp only [number, command, h]

theorem queueCommand_enable (h : (s.queue q).state = .disabled) :
    s.queueCommand 1 q = .ok ((s.setQueue q { s.queue q with state := .enabled }).needContext q false) := by
  unfold queueCommand
  simp only [h, if_true]

theorem queueCommand_disable (h : (s.queue q).state = .enabled ∨ (s.queue q).state = .halted) :
    s.queueCommand 2 q = .ok ((s.setQueue q { s.queue q with state := .disabling }).settleDisable q) := by
  unfold queueCommand
  rcases h with h | h <;> simp [h]

theorem queueCommand_restart (h : (s.queue q).state = .halted) :
    s.queueCommand 3 q = .ok ((s.setQueue q { s.queue q with state := .enabled }).needContext q false) := by
  unfold queueCommand
  simp [h]

theorem queueCommand_resetCounts (h : (s.queue q).state = .disabled) :
    s.queueCommand 4 q = .ok (s.setQueue q { s.queue q with p := 0, f := 0, wr := 0, c := 0, bells := [] }) := by
  unfold queueCommand
  simp [h]

/-- The row of a queue command is the command. -/
theorem rowQueueCmd {t : State} {i : Nat} (hs : s.servesNow (pathOf d)) (hq : q < 262144)
    (ht : s.takesNum d 0x2510 2 (q + c * 268435456) i) (hc : c < 16) (hk : s.queueAccess d q = .ok k)
    (h : s.roused.queueCommand c q = .ok t) : s.rowNum d 0x2510 2 (q + c * 268435456) = t.answered d :=
  rowNum_acts hs ht ((queueCmd_command (s := s.roused) hq hc hk).trans h)

/-! ## Queue configuration (Table QUE-3) -/

/-- The fields of a QUEUE_CONFIG value are within their ranges. -/
def configFits (b : List Byte) : Prop :=
  (4 ≤ field b 4 1 ∧ field b 4 1 ≤ 20) ∧ (4 ≤ field b 5 1 ∧ field b 5 1 ≤ 20) ∧ field b 6 1 ≤ 3 ∧ field b 8 8 % 4096 = 0
    ∧ field b 16 8 % 4096 = 0 ∧ field b 24 8 % 4 = 0 ∧ field b 7 1 ≤ 1 ∧ field b 36 2 ≤ 1000

theorem queueConfig_accepted {b : List Byte} (hb : b.length = 48) (hq : field b 0 4 ≤ 262143)
    (hk : s.queueAccess d (field b 0 4) = .ok k) (hf : configFits b) (hp : field b 6 1 ≤ s.get (0x2540 + k) 8)
    (hx : (s.queue (field b 0 4)).state = .unconfigured ∨ (s.queue (field b 0 4)).state = .disabled) :
    s.queueConfig d b = .ok (s.setQueue (field b 0 4) { s.queue (field b 0 4) with
      state := .disabled, ringLog2 := field b 4 1, cringLog2 := field b 5 1, priority := field b 6 1
      msiEnable := (field b 7 1).testBit 0, ringVa := field b 8 8, cringVa := field b 16 8
      msiAddr := field b 24 8, msiData := field b 32 4, holdoffUs := field b 36 2 }) := by
  obtain ⟨ring, cring, prio, ringVa, cringVa, msi, flags, holdoff⟩ := hf
  have idle : ¬ ((s.queue (field b 0 4)).state ≠ .unconfigured ∧ (s.queue (field b 0 4)).state ≠ .disabled) := by
    rintro ⟨n1, n2⟩
    exact hx.elim n1 n2
  unfold queueConfig
  simp only [hk]
  rw [if_neg (by omega), if_neg (by omega), if_neg (by omega), if_neg (by omega), if_neg idle]

/-! ## Slices (Table QUE-7) -/

theorem applyWrite_sliceNum {x : Extra} {bw : Option Nat} {i sub n : Nat} (hk : k < 64) :
    s.applyWrite d x bw i (0x2540 + k) sub (.num n) = s.sliceWrite d (0x2540 + k) sub (.num n) :=
  applyWrite_slice (by omega) (by omega)

theorem applyWrite_blocks {x : Extra} {bw : Option Nat} {i : Nat} (hk : k < 64) (b : List Byte) :
    s.applyWrite d x bw i (0x2540 + k) 9 (.oct b) = s.writeBlocks k b := by
  rw [applyWrite_slice (by omega) (by omega)]
  unfold sliceWrite
  simp only [Nat.add_sub_cancel_left, if_true]

theorem sliceWrite_create : s.sliceWrite d (0x2540 + k) 2 (.num 1) = s.sliceCreate k := by
  simp [sliceWrite]

theorem sliceWrite_destroy : s.sliceWrite d (0x2540 + k) 2 (.num 2) = s.sliceDestroy k := by
  simp [sliceWrite]

theorem sliceWrite_quota (n : Nat) : s.sliceWrite d (0x2540 + k) 4 (.num n) = .ok (s.writeQuota k n) := by
  simp [sliceWrite]

theorem sliceWrite_grace (n : Nat) : s.sliceWrite d (0x2540 + k) 6 (.num n) = .ok ((s.set (0x2540 + k) 6 n).suspend k) := by
  simp [sliceWrite]

theorem sliceWrite_share (n : Nat) : s.sliceWrite d (0x2540 + k) 7 (.num n) = s.writeShare k n := by
  simp [sliceWrite]

/-- A PASID and blocks of its own. -/
theorem sliceCreate_accepted (h0 : s.sliceState k = 0) (hp : s.slicePasid k ≠ 0)
    (hj : ∀ j, j < 64 → j ≠ k → s.sliceState j ≠ 0 →
      s.slicePasid j ≠ s.slicePasid k ∧ blocksMeet (s.getB (0x2540 + j) 9) (s.getB (0x2540 + k) 9) = false) :
    s.sliceCreate k = .ok ((s.setSlice k { shareNow := (s.sliceX k).shareNow }).set (0x2540 + k) 3 1) := by
  unfold sliceCreate
  dsimp only
  refine (if_neg (by omega)).trans (if_neg ?_)
  simp only [List.any_eq_true, List.mem_filter, List.mem_range, decide_eq_true_eq, Bool.or_eq_true]
  rintro ⟨j, ⟨lt, ne, ex⟩, clash⟩
  obtain ⟨pasid, blocks⟩ := hj j lt ne ex
  rcases clash with same | meet
  · exact pasid same
  · rw [blocks] at meet
    cases meet

theorem sliceDestroy_accepted (h : s.sliceState k = 1 ∨ s.sliceState k = 2) :
    s.sliceDestroy k = .ok ((s.setSlice k { s.sliceX k with graceStart := none }).set (0x2540 + k) 3 3) := if_pos h

theorem writeShare_accepted {v : Nat}
    (h : ((List.range 64).filter (· ≠ k)).foldl (fun a j => a + s.get (0x2540 + j) 7) 0 + v ≤ 256) :
    s.writeShare k v = .ok (s.set (0x2540 + k) 7 v) := if_neg (Nat.not_lt.2 h)

end

end State

/-- Settles O31: a queue's rows by the outcomes of `State.queueCommand` and `State.queueConfig`, a slice's by those of
`State.sliceWrite`. -/
theorem queueAndSliceRows : Obligations.QueueAndSliceRows := by
  unfold Obligations.QueueAndSliceRows
  intro s d hs
  refine ⟨?config, ?enable, ?disable, ?restart, ?reset, ?create, ?destroy, ?blocks, ?quota, ?grace, ?share⟩
  case config =>
    intro data i k ht hl hq hk hr hc hp hra hca hm hf hh hx
    exact congrArg Host.Outcome.next (State.rowWhole_acts hs ht (State.queueConfig_accepted (s := s.roused) hl hq hk
      ⟨hr, hc, hp.1, hra, hca, hm, hf, hh⟩ hp.2 hx))
  case enable =>
    intro q i k hq ht hk hx
    exact State.next_if hq (State.rowQueueCmd (c := 1) hs hq (by simpa using ht) (by decide) hk
      (State.queueCommand_enable (s := s.roused) hx))
  case disable =>
    intro q i k hq ht hk hx
    exact State.next_if hq (State.rowQueueCmd hs hq ht (by decide) hk (State.queueCommand_disable (s := s.roused) hx))
  case restart =>
    intro q i k hq ht hk hx
    exact State.next_if hq (State.rowQueueCmd hs hq ht (by decide) hk (State.queueCommand_restart (s := s.roused) hx))
  case reset =>
    intro q i k hq ht hk hx
    exact State.next_if hq (State.rowQueueCmd hs hq ht (by decide) hk (State.queueCommand_resetCounts (s := s.roused) hx))
  case create =>
    intro k i hk ht h0 hp hj
    exact State.rowNum_if_acts hk hs ht ((State.applyWrite_sliceNum hk).trans (State.sliceWrite_create.trans
      (State.sliceCreate_accepted (s := s.roused) h0 hp hj)))
  case destroy =>
    intro k i hk ht h
    exact State.rowNum_if_acts hk hs ht ((State.applyWrite_sliceNum hk).trans (State.sliceWrite_destroy.trans
      (State.sliceDestroy_accepted (s := s.roused) h)))
  case blocks =>
    intro k i data t hk ht h
    have effect (w : State) (e : w.writeBlocks k data = .ok t) :
        w.applyWrite d {} none i (0x2540 + k) 9 (.oct data) = .ok t := (State.applyWrite_blocks hk data).trans e
    rcases ht with ht | ht
    · exact State.next_if hk (State.rowWhole_acts hs ht (effect _ h))
    · exact State.next_if hk (State.rowStr_acts hs ht (effect _ h))
  case quota =>
    intro k i v hk ht
    exact State.rowNum_if_acts hk hs ht ((State.applyWrite_sliceNum hk).trans (State.sliceWrite_quota v))
  case grace =>
    intro k i v hk ht
    exact State.rowNum_if_acts hk hs ht ((State.applyWrite_sliceNum hk).trans (State.sliceWrite_grace v))
  case share =>
    intro k i v hk ht h
    exact State.rowNum_if_acts hk hs ht ((State.applyWrite_sliceNum hk).trans ((State.sliceWrite_share v).trans
      (State.writeShare_accepted (s := s.roused) h)))

end Sys2Proof.Machine

/-! # Cache, placement, engines and counters (R110, R133, R134, R174 to R177, R190 to R195, R441, R444, R445) -/

namespace Sys2Proof.Machine

open Sys2Proof

namespace State

section
variable {s : State} {d : Dom} {p k sub n : Nat}

/-! ## Pools: pool `p` of slice `k` -/

theorem applyWrite_poolEntry {x : Extra} {bw : Option Nat} (hp : p < 16) :
    s.applyWrite d x bw (k + 1) (0x2710 + p) sub (.num n) = s.poolWrite k (0x2710 + p) sub n :=
  applyWrite_pool (by omega) (by omega)

theorem poolWrite_create : s.poolWrite k (0x2710 + p) 9 1 = s.poolCreate (k * 16 + p) := by
  simp [poolWrite]

theorem poolWrite_destroy (h : s.poolSeqs (k * 16 + p) = []) :
    s.poolWrite k (0x2710 + p) 9 2 = .ok (s.poolRemove (k * 16 + p)) := by
  simp [poolWrite, poolDestroy, h]

theorem poolWrite_trim : s.poolWrite k (0x2710 + p) 9 3 = .ok (s.poolTrim (k * 16 + p)) := by
  simp [poolWrite]

theorem poolWrite_entry (h9 : sub ≠ 9) (ha : s.poolActive (k * 16 + p) = false) (h1 : sub = 1 → n % 65536 = 0)
    (h7 : sub = 7 → n % 32 = 0) : s.poolWrite k (0x2710 + p) sub n = .ok (s.set (0x2710 + p) sub n (k + 1)) := by
  unfold poolWrite
  simp only [Nat.add_sub_cancel_left, ha]
  rw [if_neg h9, if_neg Bool.false_ne_true, if_neg fun bad => bad.2 (h1 bad.1), if_neg fun bad => bad.2 (h7 bad.1)]

/-! ## Placement and engines -/

theorem placementWrite_share
    (h : ((List.range 64).filter (· + 1 ≠ k + 1)).foldl (fun a j => a + s.get 0x2604 (j + 1)) 0 + n ≤ 256) :
    s.placementWrite 0x2604 (k + 1) n = .ok (s.set 0x2604 (k + 1) n) :=
  (if_neg (by decide)).trans ((if_pos rfl).trans (if_neg (Nat.not_lt.2 h)))

theorem placementWrite_policy {idx : Nat} (hi : idx = 0x2603 ∨ (idx = 0x2605 ∧ sub ≠ 4))
    (hw : idx = 0x2605 → sub = 2 → ∀ j, j < 8 → (s.partActive j && s.ownsWindow j) = false) :
    s.placementWrite idx sub n = .ok (s.set idx sub n) := by
  unfold placementWrite
  rw [if_neg (by omega), if_neg (by omega)]
  by_cases window : idx = 0x2605 ∧ sub = 2
  · have unowned : ¬ ((List.range 8).any fun j => s.partActive j && s.ownsWindow j) = true := by
      simp only [List.any_eq_true, List.mem_range, not_exists, not_and, Bool.not_eq_true]
      exact hw window.1 window.2
    rw [if_pos window, if_neg unowned]
  · rw [if_neg window, if_neg (by omega), if_neg (by omega)]

theorem writeEngineEnable_accepted
    (h : ∀ e, e < 16 → (s.get 0x2601 1).testBit e = true → n.testBit e = false → s.heldBlock e = false ∧ s.reserved e = false) :
    s.writeEngineEnable n =
      .ok ((List.range 16).foldl (fun t e => t.requestEngine e (n.testBit e)) (s.set 0x2601 1 n)) := by
  have cleared (e : Nat) (he : e ∈ (List.range 16).filter fun e => (s.get 0x2601 1).testBit e && !n.testBit e) :
      s.heldBlock e = false ∧ s.reserved e = false := by
    obtain ⟨lt, bits⟩ := List.mem_filter.1 he
    obtain ⟨was, off⟩ := Bool.and_eq_true_iff.1 bits
    exact h e (List.mem_range.1 lt) was (Bool.not_eq_true' _ ▸ off)
  unfold writeEngineEnable
  dsimp only
  rw [if_neg, if_neg]
  · simpa only [Bool.not_eq_true, List.any_eq_false] using fun e he => (cleared e he).2
  · simpa only [Bool.not_eq_true, List.any_eq_false] using fun e he => (cleared e he).1

/-! ## The rings of the counters -/

theorem counterWrite_dumpRing (h : sub = 1 → n ≠ 0 → n % 4096 = 0 ∧ s.sec.watermark ≤ n ∧ n < generalEnd) :
    s.counterWrite 0x2F02 sub n = .ok (if sub = 1 ∨ sub = 2 then
      { ((s.set 0x2F02 sub n).set 0x2F02 4 0).set 0x2F02 5 0 with ctr := { s.ctr with lastDump := s.now } }
      else s.set 0x2F02 sub n) := by
  have good : ¬ (sub = 1 ∧ n ≠ 0 ∧ (n % 4096 ≠ 0 ∨ n < s.sec.watermark ∨ generalEnd ≤ n)) := by
    rintro ⟨base, on, bad⟩
    have := h base on
    omega
  exact (if_neg (by decide)).trans ((if_pos rfl).trans (if_neg good))

theorem counterWrite_tagRing (h : sub = 2 → n ≠ 0 → n % 64 = 0 ∧ s.sec.watermark ≤ n ∧ n < generalEnd) :
    s.counterWrite 0x2F03 sub n = .ok (if sub = 2 then ((s.set 0x2F03 sub n).set 0x2F03 4 0).set 0x2F03 5 0
      else if sub = 1 then (s.set 0x2F03 sub n).drawTag else s.set 0x2F03 sub n) := by
  have good : ¬ (sub = 2 ∧ n ≠ 0 ∧ (n % 64 ≠ 0 ∨ n < s.sec.watermark ∨ generalEnd ≤ n)) := by
    rintro ⟨base, on, bad⟩
    have := h base on
    omega
  exact (if_neg (by decide)).trans ((if_neg (by decide)).trans (if_neg good))

end

end State

/-- Settles O32: each row is its access, whose effect is the outcome of its chapter's write function. -/
theorem cacheAndEngineRows : Obligations.CacheAndEngineRows := by
  unfold Obligations.CacheAndEngineRows
  intro s d hs
  refine ⟨?create, ?destroy, ?trim, ?entry, ?nodes, ?share, ?policy, ?retest, ?counters, ?engines, ?pmu, ?dump, ?tag⟩
  case create =>
    intro p k t hp ht h
    exact State.rowNum_if_acts hp hs ht ((State.applyWrite_poolEntry hp).trans (State.poolWrite_create.trans h))
  case destroy =>
    intro p k hp ht h
    exact State.rowNum_if_acts hp hs ht ((State.applyWrite_poolEntry hp).trans (State.poolWrite_destroy (s := s.roused) h))
  case trim =>
    intro p k hp ht
    exact State.rowNum_if_acts hp hs ht ((State.applyWrite_poolEntry hp).trans State.poolWrite_trim)
  case entry =>
    intro p k sub v hp h9 ht ha h1 h7
    exact State.rowNum_if_acts ⟨hp, h9⟩ hs ht ((State.applyWrite_poolEntry hp).trans
      (State.poolWrite_entry (s := s.roused) h9 ha h1 h7))
  case nodes =>
    intro k v i hk ht
    exact State.rowNum_if_acts hk hs ht (State.applyWrite_plain (by omega))
  case share =>
    intro k v i hk ht h
    exact State.rowNum_if_acts hk hs ht ((State.applyWrite_placement (by omega) (by omega)).trans
      (State.placementWrite_share (s := s.roused) h))
  case policy =>
    intro idx sub v i hi ht hw
    exact State.rowNum_if_acts hi hs ht ((State.applyWrite_placement (by omega) (by omega)).trans
      (State.placementWrite_policy (s := s.roused) hi hw))
  case retest => exact fun v i ht => congrArg Host.Outcome.next (State.rowNum_acts hs ht rfl)
  case counters => exact fun v i ht => congrArg Host.Outcome.next (State.rowNum_acts hs ht rfl)
  case engines =>
    exact fun v i ht h => congrArg Host.Outcome.next (State.rowNum_acts hs ht
      (State.writeEngineEnable_accepted (s := s.roused) h))
  case pmu => exact fun v i ht => congrArg Host.Outcome.next (State.rowNum_acts hs ht rfl)
  case dump =>
    intro sub v i ht h
    exact State.rowNum_if_acts (.inl rfl) hs ht ((State.applyWrite_counters (by omega) (by omega)).trans
      (State.counterWrite_dumpRing (s := s.roused) h))
  case tag =>
    intro sub v i ht h
    exact State.rowNum_if_acts (.inr rfl) hs ht ((State.applyWrite_counters (by omega) (by omega)).trans
      (State.counterWrite_tagRing (s := s.roused) h))

end Sys2Proof.Machine

/-! # Links and bandwidth (R222, R225 to R229, R236, R244, R263, R264) -/

namespace Sys2Proof.Machine

open Sys2Proof

namespace State

section
variable {s : State} {d : Dom}

/-! ## Links -/

theorem applyWrite_portARole (bw : Option Nat) (i v : Nat) :
    s.applyWrite d {} bw i 0x2C01 1 (.num v) = s.portARole v := rfl

theorem portARole_accepted {v : Nat} (h : v = 1 → s.nodeId = 0 ∨ s.nodeId = 0xFF) :
    s.portARole v = .ok (if v = s.get 0x2C01 1 then s else (s.set 0x2C01 1 v).retrain 0) := by
  unfold portARole
  rw [if_neg (by omega)]
  split <;> rfl

theorem topologyCmd_accepted (tree : List (Nat × Nat)) (h : s.nodeId = 0 ∨ s.nodeId = 0xFF) :
    s.topologyCmd tree = .ok (s.enumerate tree) := if_neg (by omega)

theorem applyWrite_outWin {w : Nat} (bw : Option Nat) (i : Nat) (b : List Byte) :
    s.applyWrite d {} bw i 0x2C03 (w + 1) (.oct b) = s.writeOutWin w b := rfl

/-- A window of whole units, within the aperture, that overlaps no other window that is on. -/
theorem writeOutWin_accepted {w : Nat} {b : List Byte} {y : OutWin} (hy : y = outWinOf b)
    (hb : y.base % 2097152 = 0) (hz : y.size % 2097152 = 0) (ht : y.target % 2097152 = 0)
    (hn : y.node ≤ 191) (hm : y.mode ≤ 1) (hc : y.cls ≤ 3)
    (hon : y.on = true → y.size ≠ 0 ∧ y.base + y.size ≤ 0x4000000000 ∧
      ∀ v, v < 64 → v ≠ w → (s.outWin v).on = true →
        y.base + y.size ≤ (s.outWin v).base ∨ (s.outWin v).base + (s.outWin v).size ≤ y.base) :
    s.writeOutWin w b = .ok (s.setB 0x2C03 (w + 1) (slice b 0 27 ++ [if y.on then 1 else 0, 0, 0, 0, 0])) := by
  subst hy
  have clear : ((outWinOf b).on && (List.range 64).any fun v => decide (v ≠ w ∧ (outWinOf b).base < (s.outWin v).base
      + (s.outWin v).size ∧ (s.outWin v).base < (outWinOf b).base + (outWinOf b).size) && (s.outWin v).on) ≠ true := by
    simp only [ne_eq, Bool.and_eq_true, List.any_eq_true, List.mem_range, decide_eq_true_eq]
    rintro ⟨on, v, lt, ⟨ne, below, above⟩, other⟩
    have := (hon on).2.2 v lt ne other
    omega
  unfold writeOutWin apertureSize
  dsimp only
  rw [if_neg, if_neg, if_neg (by omega)]
  · rintro ⟨on, bad⟩
    have := hon on
    omega
  · rintro (bad | bad | bad | bad)
    · exact bad hb
    · exact bad hz
    · exact bad ht
    · exact clear bad

theorem applyWrite_laneCmd {l n : Nat} (hl : l < 64) (bw : Option Nat) (i : Nat) :
    s.applyWrite d {} bw i (0x2C40 + l) 6 (.num n) = if n = 1 then s.laneOpen l else .ok (s.laneClose l) := by
  rw [applyWrite_links (by omega) (by omega)]
  unfold linkWrite
  simp (disch := omega) only [if_neg, if_pos, Nat.add_sub_cancel_left, if_true]

/-! ## Bandwidth -/

variable {c v : Nat}

theorem bandwidthWrite_guarantee (total : Option Nat) :
    s.bandwidthWrite (0x2410 + c) 1 v total = s.writeGuarantee c v total := by
  simp [bandwidthWrite]

theorem bandwidthWrite_cap (total : Option Nat) (h : v = 0 ∨ s.get (0x2410 + c) 1 ≤ v) :
    s.bandwidthWrite (0x2410 + c) 2 v total = .ok (s.set (0x2410 + c) 2 v) :=
  (if_pos (by omega)).trans ((if_neg (by omega)).trans (if_neg (by omega)))

/-- No cap, no partition's window and no sum of guarantees stands against the value. -/
theorem writeGuarantee_accepted (h15 : c = 15 → v = 0) (hcap : s.get (0x2410 + c) 2 = 0 ∨ v ≤ s.get (0x2410 + c) 2)
    (hpart : ∀ k, k < 8 → s.partActive k = true → s.ownsWindow k = true → s.get (0x2310 + k) 4 = c →
      s.get 0x2605 2 ≤ v ∨ s.get (0x2410 + c) 1 ≤ v)
    (hsum : v ≤ s.get (0x2410 + c) 1 ∨ s.guaranteesBut c + v ≤ 7372) :
    s.writeGuarantee c v none = .ok (s.set (0x2410 + c) 1 v) := by
  have unowned : ¬ ((List.range 8).any fun k => s.partActive k && s.ownsWindow k && decide (s.get (0x2310 + k) 4 = c
      ∧ v < s.get 0x2605 2 ∧ v < s.get (0x2410 + c) 1)) = true := by
    simp only [List.any_eq_true, List.mem_range, Bool.and_eq_true, decide_eq_true_eq]
    rintro ⟨k, lt, ⟨active, owns⟩, class_, below, lower⟩
    have := hpart k lt active owns class_
    omega
  unfold writeGuarantee
  dsimp only [Option.getD_none]
  rw [if_neg (by omega), if_neg (by omega), if_neg unowned, if_neg (by omega)]

end

end State

/-- Settles O33: the rows of the links by the outcomes of their entries' writes, those of the classes by
`State.bandwidthWrite`. -/
theorem linkAndBandwidthRows : Obligations.LinkAndBandwidthRows := by
  unfold Obligations.LinkAndBandwidthRows
  intro s d hs
  refine ⟨?role, ?topology, ?window, ?laneOpen, ?laneClose, ?guarantee, ?cap, ?clear⟩
  case role =>
    intro v i ht h
    exact congrArg Host.Outcome.next (State.rowNum_acts hs ht
      ((State.applyWrite_portARole _ _ _).trans (State.portARole_accepted (s := s.roused) h)))
  case topology =>
    intro v i tree ht h
    exact congrArg Host.Outcome.next (State.rowNum_acts hs ht (State.topologyCmd_accepted (s := s.roused) tree h))
  case window =>
    intro w i data hw ht hb hz hg hn hm hc hon
    exact State.next_if hw (State.rowStr_acts hs ht ((State.applyWrite_outWin _ _ _).trans
      (State.writeOutWin_accepted (s := s.roused) rfl hb hz hg hn hm hc hon)))
  case laneOpen =>
    intro l i t hl ht h
    exact State.rowNum_if_acts hl hs ht ((State.applyWrite_laneCmd hl _ _).trans ((if_pos rfl).trans h))
  case laneClose =>
    intro l i hl ht
    exact State.rowNum_if_acts hl hs ht ((State.applyWrite_laneCmd hl _ _).trans (if_neg (by decide)))
  case guarantee =>
    intro c v i hc ht h15 hcap hpart hsum
    exact State.rowNum_if_acts hc hs ht ((State.applyWrite_bandwidth (by omega) (by omega)).trans
      ((State.bandwidthWrite_guarantee _).trans (State.writeGuarantee_accepted (s := s.roused) h15 hcap hpart hsum)))
  case cap =>
    intro c v i hc ht h
    exact State.rowNum_if_acts hc hs ht ((State.applyWrite_bandwidth (by omega) (by omega)).trans
      (State.bandwidthWrite_cap (s := s.roused) _ h))
  case clear => exact fun v i ht => congrArg Host.Outcome.next (State.rowNum_acts hs ht rfl)

end Sys2Proof.Machine

/-! # Display, planner and acoustic entries (R279, R286 to R293, R300, R310 to R324) -/

namespace Sys2Proof.Machine

open Sys2Proof

namespace State

section
variable {s : State} {d : Dom} {o k p sub v : Nat}

/-! ## Graphics, display and planner -/

theorem writeParams_accepted (h : v % 1048576 = 0) : s.writeParams k v = .ok { s.set 0x2800 1 v (k + 1) with
    gfx := { s.gfx with paramOrder := NMap.set 0 s.gfx.paramOrder k s.que.acceptCount } } :=
  if_neg (not_not.2 h)

/-- Layers: no condition of the output stands against them. -/
theorem displayWrite_layer {idx : Nat} (lo : 0x2890 ≤ idx) (hi : idx < 0x28A0) :
    s.displayWrite d idx sub v = .ok (s.set idx sub v) :=
  (if_neg (by omega)).trans (if_neg (by omega))

/-- R293: the slice that owns the pose. -/
theorem displayWrite_pose (hk : s.sliceOf p = some k) (ho : s.get 0x28A0 1 = k) :
    s.displayWrite (.slice p) 0x28A0 2 v = .ok (s.set 0x28A0 2 v (k + 1)) := by
  refine (if_neg (by decide)).trans ((if_pos ⟨rfl, rfl⟩).trans ?_)
  simp only [hk]
  exact if_pos ho

theorem lanesWrite_accepted (h : s.lanesReservedSum - s.get 0x2901 sub + v ≤ 16) :
    s.lanesWrite sub v = .ok (s.set 0x2901 sub v) := if_neg (Nat.not_lt.2 h)

/-! ## The acoustic engine -/

theorem setAcu_of_owner {fn : Nat} (h : s.acuOwner fn = some k) : s.setAcu fn sub v = s.set 0x2A00 sub v (k + 1) := by
  unfold setAcu
  rw [h]

theorem acuWrite_tdmDir {lane : Nat} : s.acuWrite d (0x2A18 + lane) 1 v =
    .ok ((s.set (0x2A18 + lane) 1 v).set (0x2A18 + lane) 4 (if v = 0 then 0 else 1)) := by
  unfold acuWrite acuLineWrite
  simp (disch := omega) only [if_neg, if_true]

/-- A command of the cancellation's owner. -/
theorem acuWrite_anc (hk : s.sliceOf p = some k) (ho : s.acuOwner 1 = some k) :
    s.acuWrite (.slice p) 0x2A00 0x0A v = s.ancCmd v := by
  simp [acuWrite, acuOwnWrite, hk, acuFn, ho]

/-- A command of the voice separation's owner. -/
theorem acuWrite_voice (hk : s.sliceOf p = some k) (ho : s.acuOwner 2 = some k) :
    s.acuWrite (.slice p) 0x2A00 0x14 v = s.voiceCmd v := by
  simp [acuWrite, acuOwnWrite, hk, acuFn, ho]

theorem ancCmd_stop : s.ancCmd 2 = .ok (if s.ancRuns then s.beginFade 0 else s.setAcu 1 0x0B 0) := rfl

section
variable (ho : s.acuOwner 1 = some k)
include ho

/-- What a start of the cancellation leaves: the taps of the owner's control set, and nothing of an earlier run. -/
theorem ancCmd_start (hi : ∀ c, c ∈ s.ancRefs ++ s.ancErrs → s.inputSrc c < 0x8000)
    (hs : ∀ c, c ∈ s.ancSpeakers → s.outputDst c ≠ 0xFFFF) (h0 : s.coefReady 1 0 = true) (h1 : s.coefReady 1 1 = true)
    (hl : (s.ancRefs.length * s.ancSpeakers.length * s.acuGet 1 4
        + s.ancRefs.length * s.ancSpeakers.length * s.ancErrs.length * s.acuGet 1 5
        + s.ancRefs.length * s.ancSpeakers.length * s.ancErrs.length * s.acuGet 1 4) * s.ancBlockLen
        ≤ s.get 0x2A10 4 * 64 * (16666 * s.ancBlockLen - 2048)) :
    s.ancCmd 1 = .ok (State.set { s with acu := { s.acu with
        taps := ((s.coefSet k 1).map (·.codes)).getD [], cfg := [s.acuGet 1 7, s.acuGet 1 8, s.acuGet 1 9], capture := []
        ready := none, result := none, sending := [], seen := [], sent := [], fade := none } } 0x2A00 0x0B 1 (k + 1)) := by
  have mapped : ((s.ancRefs ++ s.ancErrs).all (fun c => decide (s.inputSrc c < 0x8000))
      && s.ancSpeakers.all fun c => decide (s.outputDst c ≠ 0xFFFF)) = true :=
    Bool.and_eq_true_iff.2 ⟨List.all_eq_true.2 fun c hc => decide_eq_true (hi c hc),
      List.all_eq_true.2 fun c hc => decide_eq_true (hs c hc)⟩
  unfold ancCmd
  simp only [mapped, h0, h1, ho, Bool.and_self, Bool.not_true, Bool.false_eq_true, if_false, if_true]
  exact (if_neg (Nat.not_lt.2 hl)).trans (congrArg WRes.ok (setAcu_of_owner ho))

theorem ancCmd_freeze : s.ancCmd 3 = .ok (if s.ancRuns then s.set 0x2A00 0x0B 2 (k + 1) else s) := by
  rw [← setAcu_of_owner ho]
  rfl

theorem ancCmd_resume : s.ancCmd 4 = .ok (if s.ancRuns then s.set 0x2A00 0x0B 1 (k + 1) else s) := by
  rw [← setAcu_of_owner ho]
  rfl

end

section
variable (ho : s.acuOwner 2 = some k)
include ho

theorem voiceCmd_start (hl : cdiv s.voiceMics.length 8 ≤ s.get 0x2A10 5) (hc : s.coefReady 2 2 = true) :
    s.voiceCmd 1 = .ok ((State.set { s with acu := { s.acu with voiceFrames := 0, voiceTimes := [] } }
      0x2A00 0x15 1 (k + 1)).setAcu 2 0x16 0) := by
  unfold voiceCmd
  simp only [hc, Bool.not_true, Bool.false_eq_true, if_false, if_true]
  exact (if_neg (Nat.not_lt.2 hl)).trans (congrArg (fun w => WRes.ok (setAcu w 2 0x16 0)) (setAcu_of_owner ho))

theorem voiceCmd_stop : s.voiceCmd 2 = .ok (s.set 0x2A00 0x15 0 (k + 1)) := by
  rw [← setAcu_of_owner ho]
  rfl

end

end

end State

/-- Settles O34: each row is its access, whose effect is the outcome of its chapter's write function. -/
theorem displayAndAcousticRows : Obligations.DisplayAndAcousticRows := by
  unfold Obligations.DisplayAndAcousticRows
  intro s d hs
  have anc {t : State} {p k i v : Nat} (hd : d = .slice p) (hk : s.sliceOf p = some k) (ho : s.acuOwner 1 = some k)
      (ht : s.takesNum d 0x2A00 0x0A v i) (h : s.roused.ancCmd v = .ok t) : s.rowNum d 0x2A00 0x0A v = t.answered d := by
    subst hd
    exact State.rowNum_acts hs ht ((State.applyWrite_acoustic (by omega) (by omega)).trans
      ((State.acuWrite_anc (s := s.roused) hk ho).trans h))
  have voice {t : State} {p k i v : Nat} (hd : d = .slice p) (hk : s.sliceOf p = some k) (ho : s.acuOwner 2 = some k)
      (ht : s.takesNum d 0x2A00 0x14 v i) (h : s.roused.voiceCmd v = .ok t) : s.rowNum d 0x2A00 0x14 v = t.answered d := by
    subst hd
    exact State.rowNum_acts hs ht ((State.applyWrite_acoustic (by omega) (by omega)).trans
      ((State.acuWrite_voice (s := s.roused) hk ho).trans h))
  refine ⟨?params, ?output, ?layer, ?pose, ?lanes, ?tdm, ?entry, ?ancStart, ?ancStop, ?ancFreeze, ?ancResume, ?voiceStart,
    ?voiceStop⟩
  case params =>
    exact fun v k ht h => congrArg Host.Outcome.next (State.rowNum_acts hs ht
      (State.applyWrite_params.trans (State.writeParams_accepted (s := s.roused) h)))
  case output =>
    intro o sub v i ho ht hb hz
    exact State.rowNum_if_acts ho hs ht ((State.applyWrite_display (by omega) (by omega)).trans
      (State.displayWrite_output (s := s.roused) ho hb hz))
  case layer =>
    intro o k sub v i ho hk ht
    exact State.rowNum_if_acts ⟨ho, hk⟩ hs ht ((State.applyWrite_display (by omega) (by omega)).trans
      (State.displayWrite_layer (by omega) (by omega)))
  case pose =>
    intro v i k p hd ht hk ho
    subst hd
    exact congrArg Host.Outcome.next (State.rowNum_acts hs ht ((State.applyWrite_display (by omega) (by omega)).trans
      (State.displayWrite_pose (s := s.roused) hk ho)))
  case lanes =>
    intro k v i hk ht h
    exact State.rowNum_if_acts hk hs ht ((State.applyWrite_lanes (by omega) (by omega)).trans
      (State.lanesWrite_accepted (s := s.roused) h))
  case tdm =>
    intro lane v i hl ht
    exact State.rowNum_if_acts hl hs ht ((State.applyWrite_acoustic (by omega) (by omega)).trans State.acuWrite_tdmDir)
  case entry =>
    intro idx sub v i t lo hi ht h
    exact State.rowNum_if_acts ⟨lo, hi⟩ hs ht ((State.applyWrite_acoustic (by omega) (by omega)).trans h)
  case ancStart =>
    intro p k i hd hk ho ht hi hsp h0 h1 hl
    exact congrArg Host.Outcome.next (anc hd hk ho ht (State.ancCmd_start (s := s.roused) ho hi hsp h0 h1 hl))
  case ancStop =>
    exact fun p k i hd hk ho ht => congrArg Host.Outcome.next (anc hd hk ho ht State.ancCmd_stop)
  case ancFreeze =>
    exact fun p k i hd hk ho ht => congrArg Host.Outcome.next (anc hd hk ho ht (State.ancCmd_freeze (s := s.roused) ho))
  case ancResume =>
    exact fun p k i hd hk ho ht => congrArg Host.Outcome.next (anc hd hk ho ht (State.ancCmd_resume (s := s.roused) ho))
  case voiceStart =>
    intro p k i hd hk ho ht hl hc
    exact congrArg Host.Outcome.next (voice hd hk ho ht (State.voiceCmd_start (s := s.roused) ho hl hc))
  case voiceStop =>
    exact fun p k i hd hk ho ht => congrArg Host.Outcome.next (voice hd hk ho ht (State.voiceCmd_stop (s := s.roused) ho))

end Sys2Proof.Machine

/-! # Gateway entries (R326 to R339) -/

namespace Sys2Proof.Machine

open Sys2Proof

namespace State

section
variable {s : State} {d : Dom} {bw : Option Nat} {i n p sub v : Nat} {b : List Byte}

/-! ## CAN -/

/-- A write of CAN_MODE or of CAN_CMD meets neither an exclusion nor a port that is on. -/
theorem canWrite_command (hf : s.canFenced n = false) (h : sub = 1 ∨ sub = 8) :
    s.canWrite n sub v = if sub = 1 then s.canMode n v else if sub = 8 then .ok (s.canCmd n v)
      else .ok (s.set (0x2B10 + n) sub v) :=
  canWrite_free (by omega) hf (by omega)

theorem canMode_off :
    s.canMode n 0 = .ok (((s.setCan n {}).txDropped n (s.can n).tx.length).set (0x2B10 + n) 1 0) := rfl

/-- Every rate pair of Table GTW-2 but those of the other frame family. -/
theorem canMode_on (hv : v ≠ 0) (hx : s.get (0x2B10 + n) 6 = 1 →
      s.get (0x2B10 + n) 3 = 2000 ∨ s.get (0x2B10 + n) 3 = 5000 ∨ s.get (0x2B10 + n) 3 = 10000)
    (hc : s.get (0x2B10 + n) 6 ≠ 1 → s.get (0x2B10 + n) 3 ≠ 10000) :
    s.canMode n v = .ok (if (s.can n).st = 0 then (s.set (0x2B10 + n) 1 v).setCan n { s.can n with st := 1 }
      else s.set (0x2B10 + n) 1 v) := by
  unfold canMode
  dsimp only
  rw [if_neg, if_neg hv]
  rintro ⟨-, ⟨xl, other⟩ | ⟨plain, ten⟩⟩
  · rcases hx xl with h | h | h <;> simp [h] at other
  · exact hc (by simpa using plain) ten

/-! ## LIN -/

theorem applyWrite_linCmd (hn : n < 8) :
    s.applyWrite d {} bw i (0x2B30 + n) 5 (.num v) = .ok (s.linCmd n v) := by
  rw [applyWrite_gateway (by omega) (by omega) (by omega)]
  unfold gatewayWrite linWrite
  simp (disch := omega) only [if_neg, if_pos, Nat.add_sub_cancel_left, if_true]

theorem linCmd_sleep (hm : s.get (0x2B30 + n) 1 = 1) (hs : s.linState n = 1) : s.linCmd n 1 =
    ((s.emit (.linHeader n 0x3C)).emit (.bus (0x20 + n) goToSleep)).set (0x2B30 + n) 6 2 :=
  if_pos (⟨hm, hs⟩ : s.get (0x2B30 + n) 1 = 1 ∧ s.linState n = 1)

theorem linCmd_wake (h : s.linState n = 1 ∨ s.linState n = 2) :
    s.linCmd n 2 = (s.emit (.linWake n)).set (0x2B30 + n) 6 1 := if_pos h

/-! ## Ethernet, switch and gates -/

theorem cableDiag_on {r : Nat} (h : s.get (0x2B40 + p) 1 ≠ 0) :
    s.cableDiag p r = (s.set (0x2B40 + p) 5 0).cableResult p r := if_neg h

theorem ethWrite_off : s.ethWrite p 1 0 = .ok (State.set (State.set ((List.range 8).foldl (fun t c =>
      { t with gtw := { t.gtw with queues := NMap.set [] t.gtw.queues (p * 8 + c) [] } }) s)
        (0x2B40 + p) 1 0) (0x2B40 + p) 5 0) := rfl

theorem ethWrite_on (hv : v ≠ 0) : s.ethWrite p 1 v = .ok (s.set (0x2B40 + p) 1 v) :=
  congrArg WRes.ok (if_neg hv)

theorem ethWrite_sets (h1 : sub ≠ 1) (h6 : sub ≠ 6) (ho : s.get (0x2B40 + p) 1 = 0)
    (h2 : sub = 2 → v ≤ if p < 16 then 1 else 7) (h3 : sub = 3 → v ≤ if p < 4 then 2 else 0) :
    s.ethWrite p sub v = .ok (s.set (0x2B40 + p) sub v) :=
  (if_neg h1).trans ((if_neg h6).trans ((if_neg (not_not.2 ho)).trans
    ((if_neg fun bad => Nat.not_lt.2 (h2 bad.1) bad.2).trans (if_neg fun bad => Nat.not_lt.2 (h3 bad.1) bad.2))))

theorem applyWrite_switch : s.applyWrite d {} bw i 0x2B60 sub (.oct b) = s.switchWrite sub b := rfl

theorem switchWrite_accepted (h : switchTableOk sub b = true) :
    s.switchWrite sub b = .ok ((if sub = 5 then s.startShapers b else s).setB 0x2B60 sub b) := if_pos h

theorem applyWrite_gclCommit (hp : p < 22) :
    s.applyWrite d {} bw i (0x2B80 + p) 4 (.num v) = s.gclCommit p := by
  rw [applyWrite_gateway (by omega) (by omega) (by omega)]
  unfold gatewayWrite gclWrite
  simp (disch := omega) only [if_neg, if_pos, Nat.add_sub_cancel_left, if_true]

theorem gclCommit_accepted (hb : s.getB (0x2B80 + p) 1 ≠ []) (hc : s.get (0x2B80 + p) 3 ≠ 0) :
    s.gclCommit p = .ok (State.set { s with gtw := { s.gtw with
      gclPend := NMap.set none s.gtw.gclPend p (some {
        entries := (records 8 (s.getB (0x2B80 + p) 1)).map fun r => (field r 0 1, field r 4 4)
        base := if s.tb 0 ≤ s.get (0x2B80 + p) 2 then s.get (0x2B80 + p) 2 else
          s.get (0x2B80 + p) 2 + cdiv (s.tb 0 - s.get (0x2B80 + p) 2) (s.get (0x2B80 + p) 3) * s.get (0x2B80 + p) 3
        cycle := s.get (0x2B80 + p) 3 }) } } (0x2B80 + p) 5 1) :=
  if_neg (not_or.2 ⟨hb, hc⟩)

/-! ## The routing table -/

/-- R339: no transfer of the shadow bank is open, and every entry of it passes validation. -/
theorem routeCommit_swaps (hp : NMap.get none s.dic.pieced (entryKey 0 0x4000 1) = none)
    (hr : ∀ r, r ∈ records 32 (s.getB 0x4000 1) → s.routeOk r = true) :
    s.routeCommit = .ok ((State.setB { s with gtw := { s.gtw with lastPass := [] } }
      0x4000 1 (s.getB 0x4000 3)).setB 0x4000 3 (s.getB 0x4000 1)) := by
  have sound : ((records 32 (s.getB 0x4000 1)).mapIdx fun i r => (i, r)).find? (fun e => !s.routeOk e.2) = none := by
    refine List.find?_eq_none.2 fun e he => ?_
    obtain ⟨k, lt, rfl⟩ := List.mem_mapIdx.1 he
    simpa using hr _ (List.getElem_mem lt)
  unfold routeCommit
  dsimp only
  rw [hp, sound]
  rfl

end

end State

/-- Settles O35: each row is its access, whose effect is the outcome of its entry's write. -/
theorem gatewayRows : Obligations.GatewayRows := by
  unfold Obligations.GatewayRows
  intro s d hs
  refine ⟨?recover, ?flush, ?modeOff, ?modeOn, ?setting, ?sleep, ?wake, ?cable, ?ethOff, ?ethOn, ?ethSetting, ?switch, ?gate,
    ?route⟩
  case recover =>
    intro n i hn ht hf
    exact State.rowNum_if_acts hn hs ht ((State.applyWrite_can hn).trans
      (State.canWrite_command (s := s.roused) hf (.inr rfl)))
  case flush =>
    intro n i hn ht hf
    exact State.rowNum_if_acts hn hs ht ((State.applyWrite_can hn).trans
      (State.canWrite_command (s := s.roused) hf (.inr rfl)))
  case modeOff =>
    intro n i hn ht hf
    exact State.rowNum_if_acts ⟨hn, by decide⟩ hs ht ((State.applyWrite_can hn).trans
      ((State.canWrite_command (s := s.roused) hf (.inl rfl)).trans State.canMode_off))
  case modeOn =>
    intro n v i hn hv ht hf hx hc
    exact State.rowNum_if_acts ⟨hn, by decide⟩ hs ht ((State.applyWrite_can hn).trans
      ((State.canWrite_command (s := s.roused) hf (.inl rfl)).trans (State.canMode_on (s := s.roused) hv hx hc)))
  case setting =>
    intro n sub v i hn h1 h8 ht hf hb hx
    exact State.rowNum_if_acts ⟨hn, h8⟩ hs ht ((State.applyWrite_can hn).trans
      (State.canWrite_sets (s := s.roused) (by omega) hf hb h1 h8))
  case sleep =>
    intro n i hn ht hm hl
    exact State.rowNum_if_acts hn hs ht ((State.applyWrite_linCmd hn).trans
      (congrArg WRes.ok (State.linCmd_sleep (s := s.roused) hm hl)))
  case wake =>
    intro n i hn ht hl
    exact State.rowNum_if_acts hn hs ht ((State.applyWrite_linCmd hn).trans
      (congrArg WRes.ok (State.linCmd_wake (s := s.roused) hl)))
  case cable =>
    intro p v r i hp ht hon
    exact State.rowNum_if_acts hp hs ht ((State.applyWrite_cableTest hp).trans
      (congrArg WRes.ok (State.cableDiag_on (s := s.roused) hon)))
  case ethOff =>
    intro p i hp ht
    exact State.rowNum_if_acts ⟨hp, by decide⟩ hs ht ((State.applyWrite_eth hp).trans State.ethWrite_off)
  case ethOn =>
    intro p v i hp hv ht
    exact State.rowNum_if_acts ⟨hp, by decide⟩ hs ht ((State.applyWrite_eth hp).trans (State.ethWrite_on hv))
  case ethSetting =>
    intro p sub v i hp h1 h6 ht ho h2 h3
    exact State.rowNum_if_acts ⟨hp, h6⟩ hs ht ((State.applyWrite_eth hp).trans
      (State.ethWrite_sets (s := s.roused) h1 h6 ho h2 h3))
  case switch =>
    intro sub i data ht h
    exact congrArg Host.Outcome.next (State.rowPiece_acts hs ht (State.applyWrite_switch.trans (State.switchWrite_accepted h)))
  case gate =>
    intro p v i hp ht hb hc
    exact State.rowNum_if_acts hp hs ht ((State.applyWrite_gclCommit hp).trans
      (State.gclCommit_accepted (s := s.roused) hb hc))
  case route =>
    intro v i ht hp hr
    exact congrArg Host.Outcome.next (State.rowNum_acts hs ht ((State.applyWrite_routes (by omega) (by omega)).trans
      (State.routeCommit_swaps (s := s.roused) hp hr)))

end Sys2Proof.Machine

/-! # Hardware, time and power entries (R343, R350 to R352, R409, R410, R426, R454, R455) -/

namespace Sys2Proof.Machine

open Sys2Proof

namespace State

section
variable {s : State} {d : Dom} {bw : Option Nat} {i n sub v : Nat} {b : List Byte}

theorem applyWrite_filter {line : Nat} (hl : line < 10) (hv : v % 10 = 0) :
    s.applyWrite d {} bw i 0x2BA0 (line + 1) (.num v) = .ok (s.set 0x2BA0 (line + 1) v) :=
  (applyWrite_gateway (by omega) (by omega) (by omega)).trans (if_neg (not_not.2 hv))

/-! ## Time bases -/

theorem applyWrite_base {v : DVal} (hn : n < 8) :
    s.applyWrite d {} bw i (0x2210 + n) sub v = s.timeWrite (0x2210 + n) sub v :=
  applyWrite_time (by omega) (by omega)

theorem timeWrite_set (h0 : s.get (0x2210 + n) 1 ≠ 0) (h1 : s.get (0x2210 + n) 1 ≠ 1) (ha : s.get (0x2210 + n) 0x0A ≠ 0)
    (hb : field b 8 4 ≤ 999999999) : s.timeWrite (0x2210 + n) 5 (.oct b) =
      .ok ((s.setBase n { s.base n with pendStep := some (timeOfBytes b) }).set (0x2210 + n) 0x0A 0) := by
  unfold timeWrite
  simp only [Nat.add_sub_cancel_left, if_true]
  rw [if_neg (by omega), if_neg h1, if_neg h0, if_neg ha, if_neg (Nat.not_lt.2 hb)]

theorem timeWrite_rearm : s.timeWrite (0x2210 + n) 6 (.num v) = .ok (s.set (0x2210 + n) 0x0A 1) := by
  unfold timeWrite
  simp (disch := omega) only [if_neg, if_true]

/-- R350: mode 2, within the range of an increment. -/
theorem timeWrite_increment (hm : s.get (0x2210 + n) 1 = 2) (lo : 281193501733945 ≤ v) (hi : v ≤ 281756451687367) :
    s.timeWrite (0x2210 + n) 4 (.num v) = .ok (s.setBase n { s.base n with pendIncr := some v }) := by
  unfold timeWrite
  simp only [Nat.add_sub_cancel_left, if_true]
  rw [if_neg (by omega), if_neg (by decide), if_neg (not_not.2 hm), if_neg (Nat.not_lt.2 hi), if_neg (Nat.not_lt.2 lo)]

theorem timeWrite_mode : s.timeWrite (0x2210 + n) 1 (.num v) = .ok (s.writeMode n v) := by
  unfold timeWrite
  simp (disch := omega) only [if_neg, if_true, Nat.add_sub_cancel_left]

theorem writeMode_follows (hv : v ≠ 0) :
    s.writeMode n v = (s.set (0x2210 + n) 1 v).set (0x2210 + n) 8 0 := if_neg hv

/-! ## Function enables -/

/-- R426: no hart of a cluster that goes runs, and neither a load nor an entry of DEEP SLEEP needs UFS. -/
theorem funcWrite_accepted {m : Nat}
    (h1 : sub = 1 → ∀ c h, c < 3 → h < 8 → (s.get 0x2130 1).testBit c = true → v.testBit c = false → m.testBit (8 * c + h) = true)
    (h3 : sub = 3 → v = 0 → s.fw.state ≠ 1 ∧ s.fw.state ≠ 3 ∧ s.pwr.entering = none) :
    s.funcWrite sub v m = .ok ((funcsOf sub).foldl (fun t f =>
      t.driveFunc f (v.testBit (f - (funcsOf sub).headD 0))) (s.set 0x2130 sub v)) := by
  refine if_neg ?_
  split
  next one =>
    subst one
    simp only [List.any_eq_true, List.mem_range, Bool.and_eq_true, Bool.not_eq_true', not_exists, not_and]
    rintro c hc ⟨was, off⟩ h hh running
    rw [h1 rfl c h hc hh was off] at running
    cases running
  next other =>
    simp only [Bool.and_eq_true, decide_eq_true_eq, Bool.or_eq_true]
    rintro ⟨⟨ufs, off⟩, busy⟩
    obtain ⟨load, update, awake⟩ := h3 ufs off
    rw [awake] at busy
    rcases busy with busy | busy
    · exact busy.elim load update
    · cases busy

end

end State

/-- Settles O36: each row is its access, whose effect is the outcome of its entry's write. -/
theorem hardwareTimeAndPowerRows : Obligations.HardwareTimeAndPowerRows := by
  unfold Obligations.HardwareTimeAndPowerRows
  intro s d hs
  refine ⟨?filter, ?outputs, ?cameras, ?set, ?rearm, ?increment, ?modeFollows, ?modeFree, ?tolerance, ?functions⟩
  case filter =>
    intro line v i hl ht hv
    exact State.rowNum_if_acts hl hs ht (State.applyWrite_filter hl hv)
  case outputs => exact fun v i ht => congrArg Host.Outcome.next (State.rowNum_acts hs ht rfl)
  case cameras => exact fun v i ht => congrArg Host.Outcome.next (State.rowNum_acts hs ht rfl)
  case set =>
    intro n i data hn ht h0 h1 ha hb
    exact State.next_if hn (State.rowStr_acts hs ht ((State.applyWrite_base hn).trans
      (State.timeWrite_set (s := s.roused) h0 h1 ha hb)))
  case rearm =>
    intro n v i hn ht
    exact State.rowNum_if_acts hn hs ht ((State.applyWrite_base hn).trans State.timeWrite_rearm)
  case increment =>
    intro n v i hn ht hm lo hi
    exact State.rowNum_if_acts hn hs ht ((State.applyWrite_base hn).trans
      (State.timeWrite_increment (s := s.roused) hm lo hi))
  case modeFollows =>
    intro n v i hn hv ht
    exact State.rowNum_if_acts hn hs ht ((State.applyWrite_base hn).trans (State.timeWrite_mode.trans
      (congrArg WRes.ok (State.writeMode_follows hv))))
  case modeFree =>
    intro n i hn ht
    exact State.rowNum_if_acts hn hs ht ((State.applyWrite_base hn).trans State.timeWrite_mode)
  case tolerance => exact fun sub v i ht => congrArg Host.Outcome.next (State.rowNum_acts hs ht rfl)
  case functions =>
    intro sub v m i ht h1 h3
    exact congrArg Host.Outcome.next (State.rowNum_acts hs ht ((State.applyWrite_functions m).trans
      (State.funcWrite_accepted (s := s.roused) h1 h3)))

end Sys2Proof.Machine

/-! # Safety entries and enclaves (R356 to R358, R372, R381 to R386, R395, R396) -/

namespace Sys2Proof.Machine

open Sys2Proof

namespace State

section
variable {s : State} {d : Dom} {x : Extra} {bw : Option Nat} {i k v : Nat}

/-! ## Partitions -/

theorem applyWrite_partCmd (hk : k < 8) : s.applyWrite d x bw i (0x2310 + k) 9 (.num v) =
    if v = 1 then s.activate k else .ok (s.deactivateCmd k) := by
  rw [applyWrite_partition (by omega) (by omega)]
  unfold partitionWrite
  simp (disch := omega) only [if_pos, Nat.add_sub_cancel_left, if_true]

theorem applyWrite_frameCmd (hk : k < 8) :
    s.applyWrite d x bw i (0x2330 + k) 0x0C (.num v) = s.calibrate k := by
  rw [applyWrite_partition (by omega) (by omega)]
  unfold partitionWrite
  simp (disch := omega) only [if_neg, Nat.add_sub_cancel_left, if_true]

/-- The engines of the window in which the partition's tuning frame runs. -/
def windowEngines (s : State) (k : Nat) : Nat := match s.windowRec (s.get (0x2330 + k) 6) with
  | some r => r.2.2.1
  | none => 0

/-- No check fails: the partition is active, its tuning frame pinned to its window's engines, and degraded where one of
them is in quarantine. -/
theorem activate_accepted (hf : s.activationFail k = 0) (ha : s.partActive k = false) :
    s.activate k = .ok (((List.range 16).filter fun e => (s.engine e).quarantined).foldl (fun t e => t.degradeOne e k)
      ((State.set { s with saf := { s.saf with deactivating := s.saf.deactivating.filter (· ≠ k) } }
        (0x2310 + k) 0x0A 1).setTframe k { pinned := s.windowEngines k })) := by
  refine (if_neg (not_not.2 hf)).trans (if_neg ?_)
  exact Bool.eq_false_iff.1 ha

section
variable (ha : s.partActive k = true)
include ha

theorem deactivateCmd_atOnce (h0 : s.get 0x2320 1 = 0) : s.deactivateCmd k = s.deactivate k := by
  unfold deactivateCmd
  simp only [ha, Bool.not_true, Bool.false_eq_true, if_false, h0, if_true]

theorem deactivateCmd_waits (h0 : s.get 0x2320 1 ≠ 0) (hw : s.saf.deactivating.contains k = false) :
    s.deactivateCmd k = { s with saf := { s.saf with deactivating := s.saf.deactivating ++ [k] } } := by
  unfold deactivateCmd
  simp only [ha, Bool.not_true, Bool.false_eq_true, if_false, h0, hw]

end

/-! ## Self-tests -/

section
variable (h : v = 0 → ∀ j, j < 8 → s.partActive j = true → s.get (0x2310 + j) 6 < 2)
include h

/-- No partition that needs its engines tested is active. -/
theorem writeDroneEnable_free :
    ¬ (v = 0 ∧ (List.range 8).any (fun j => s.partActive j && decide (2 ≤ s.get (0x2310 + j) 6))) := by
  simp only [List.any_eq_true, List.mem_range, Bool.and_eq_true, decide_eq_true_eq]
  rintro ⟨off, j, lt, active, two⟩
  exact Nat.not_lt.2 two (h off j lt active)

theorem writeDroneEnable_changes (hv : v ≠ s.get 0x2340 1) : s.writeDroneEnable v =
    .ok (testUnits.foldl droneEnter (s.set 0x2340 1 v)).allTakeWork.allPipesTake :=
  (if_neg (writeDroneEnable_free h)).trans (if_neg hv)

theorem writeDroneEnable_same (hv : v = s.get 0x2340 1) : s.writeDroneEnable v = .ok s :=
  (if_neg (writeDroneEnable_free h)).trans (if_pos hv)

end

/-! ## Hand-back -/

/-- The state in which a hand-back is recorded: the Rearguard in state 0, without fence and cameras, its log closed. -/
def handedBack (s : State) : State :=
  let t := s.dropFence
  let u : State := { t with rg := { t.rg with cameras := [], state := 0, lastFrame := none
                                              log := NMap.set none t.rg.log t.rg.newest ((NMap.get none t.rg.log t.rg.newest).map
                                                fun e => { e with handback := t.rg.time }) } }
  { u with hw := { u.hw with receiving := u.hw.receiving.filter u.camOn } }

theorem handback_accepted (h3 : s.rg.state = 3) (hr : s.rg.restarting = false) :
    s.handback 0x484B = .ok (s.handedBack.safetyRecord St.handbackDone 0x10 0xFF [] 0xFF 0xFF) :=
  if_neg (by simp [h3, hr])

/-! ## Enclaves (Table SEC-4) -/

section
variable {op id first count : Nat}

theorem enclaveBytes_op (h : op < 256) : field (enclaveBytes op id first count) 0 1 = op := by
  simp only [enclaveBytes, List.append_assoc]
  exact (field_append_leBytes (pre := []) rfl 1 op _).trans (Nat.mod_eq_of_lt h)

theorem enclaveBytes_id (h : id < 256) : field (enclaveBytes op id first count) 2 1 = id := by
  simp only [enclaveBytes, List.append_assoc]
  rw [← List.append_assoc, field_append_leBytes (by simp only [List.length_append, length_leBytes])]
  exact Nat.mod_eq_of_lt h

theorem enclaveBytes_first (h : first < 65536) : field (enclaveBytes op id first count) 4 2 = first := by
  simp only [enclaveBytes, List.append_assoc]
  rw [← List.append_assoc (leBytes 1 id), ← List.append_assoc, ← List.append_assoc,
    field_append_leBytes (by simp only [List.length_append, length_leBytes])]
  exact Nat.mod_eq_of_lt h

theorem enclaveBytes_count (h : count < 65536) : field (enclaveBytes op id first count) 6 2 = count := by
  rw [enclaveBytes, ← List.append_nil (_ ++ leBytes 2 count), List.append_assoc,
    field_append_leBytes (by simp only [List.length_append, length_leBytes])]
  exact Nat.mod_eq_of_lt h

end

section
variable {first count : Nat} (hk : k < 256) (hf : first < 65536) (h0 : count ≠ 0) (hc : count ≤ 12288)
include hk hf h0 hc

/-- Granules of general HBM above the reserve, free or already the enclave's, that hold no allocation. -/
theorem enclaveCmd_assign (hg : ∀ g, first ≤ g → g < first + count → s.get 0x2D01 3 ≤ g * 2097152 ∧
      g * 2097152 < generalEnd ∧ (NMap.get 0 s.sec.granules g = 0 ∨ NMap.get 0 s.sec.granules g = k + 1) ∧
      s.granuleUsed g (fun _ => true) = false) :
    s.enclaveCmd (enclaveBytes 1 k first count) =
      .ok (s.giveGranules ((List.range count).map (first + ·)) (k + 1)) := by
  unfold enclaveCmd
  dsimp only
  rw [enclaveBytes_op (by decide), enclaveBytes_id hk, enclaveBytes_first hf, enclaveBytes_count (by omega)]
  refine (if_pos rfl).trans ((if_neg (by omega)).trans (if_neg ?_))
  simp only [List.any_eq_true, List.mem_map, List.mem_range, Bool.or_eq_true, decide_eq_true_eq]
  rintro ⟨-, ⟨j, lt, rfl⟩, bad⟩
  obtain ⟨above, below, own, unused⟩ := hg (first + j) (by omega) (by omega)
  rw [unused] at bad
  rcases bad with (bad | bad) | bad
  · omega
  · exact own.elim bad.1 bad.2
  · cases bad

/-- Granules of the enclave that hold no allocation of a slice bound to it. -/
theorem enclaveCmd_release (hg : ∀ g, first ≤ g → g < first + count → NMap.get 0 s.sec.granules g = k + 1 ∧
      s.granuleUsed g (fun a => decide (a.slice < 64 ∧ s.sliceEnclave a.slice = some k)) = false) :
    s.enclaveCmd (enclaveBytes 2 k first count) =
      .ok (s.giveGranules ((List.range count).map (first + ·)) 0) := by
  unfold enclaveCmd
  dsimp only
  rw [enclaveBytes_op (by decide), enclaveBytes_id hk, enclaveBytes_first hf, enclaveBytes_count (by omega)]
  refine (if_neg (by decide)).trans ((if_pos rfl).trans ((if_neg (by omega)).trans (if_neg ?_)))
  simp only [List.any_eq_true, List.mem_map, List.mem_range, Bool.or_eq_true, decide_eq_true_eq]
  rintro ⟨-, ⟨j, lt, rfl⟩, bad⟩
  obtain ⟨own, unused⟩ := hg (first + j) (by omega) (by omega)
  rw [unused] at bad
  rcases bad with bad | bad
  · exact bad own
  · cases bad

end

theorem enclaveCmd_destroy (hk : k < 256) (hg : ∀ g, (g, k + 1) ∈ s.sec.granules →
      s.granuleUsed g (fun a => decide (a.slice < 64 ∧ s.sliceEnclave a.slice = some k)) = false) :
    s.enclaveCmd (enclaveBytes 3 k 0 0) =
      .ok (s.giveGranules ((s.sec.granules.filter fun g => decide (g.2 = k + 1)).map (·.1)) 0) := by
  unfold enclaveCmd
  dsimp only
  rw [enclaveBytes_op (by decide), enclaveBytes_id hk]
  refine (if_neg (by decide)).trans ((if_neg (by decide)).trans ((if_pos rfl).trans (if_neg ?_)))
  simp only [List.any_eq_true, List.mem_map, List.mem_filter, decide_eq_true_eq]
  rintro ⟨-, ⟨⟨g, e⟩, ⟨mem, own⟩, rfl⟩, bad⟩
  obtain rfl : e = k + 1 := own
  rw [hg g mem] at bad
  cases bad

end

/-- The row of ENCLAVE_CMD is the command. -/
theorem rowEnclave {s t : State} {d : Dom} {b : List Byte} {i : Nat} (hs : s.servesNow (pathOf d))
    (ht : s.takesStr d 0x2D10 1 b i) (h : s.roused.enclaveCmd b = .ok t) :
    s.rowWrite d 0x2D10 1 b = t.answered d :=
  rowStr_acts hs ht h

end State

/-- Settles O37: each row is its access, whose effect is the outcome of its command. -/
theorem safetyRows : Obligations.SafetyRows := by
  unfold Obligations.SafetyRows
  intro s d hs
  refine ⟨?activate, ?atOnce, ?waits, ?calibrate, ?droneChanges, ?droneSame, ?force, ?handback, ?assign, ?release, ?destroy,
    ?binding⟩
  case activate =>
    intro k i hk ht hf ha
    exact State.rowNum_if_acts hk hs ht ((State.applyWrite_partCmd hk).trans
      (State.activate_accepted (s := s.roused) hf ha))
  case atOnce =>
    intro k i hk ht ha h0
    exact State.rowNum_if_acts hk hs ht ((State.applyWrite_partCmd hk).trans
      (congrArg WRes.ok (State.deactivateCmd_atOnce (s := s.roused) ha h0)))
  case waits =>
    intro k i hk ht ha h0 hw
    exact State.rowNum_if_acts hk hs ht ((State.applyWrite_partCmd hk).trans
      (congrArg WRes.ok (State.deactivateCmd_waits (s := s.roused) ha h0 hw)))
  case calibrate =>
    intro k v i t hk ht h
    exact State.rowNum_if_acts hk hs ht ((State.applyWrite_frameCmd hk).trans h)
  case droneChanges =>
    exact fun v i ht hv h => congrArg Host.Outcome.next (State.rowNum_acts hs ht
      (State.writeDroneEnable_changes (s := s.roused) h hv))
  case droneSame =>
    exact fun v i ht hv h => congrArg Host.Outcome.next (State.rowNum_acts hs ht
      (State.writeDroneEnable_same (s := s.roused) h hv))
  case force => exact fun v i ht => congrArg Host.Outcome.next (State.rowNum_acts hs ht rfl)
  case handback =>
    exact fun i ht h3 hr => ⟨s.roused.handedBack, congrArg Host.Outcome.next (State.rowNum_acts hs ht
      (State.handback_accepted (s := s.roused) h3 hr)), rfl, rfl, rfl⟩
  case assign =>
    rintro k i - ht hk first count hf h0 hc hg rfl
    exact congrArg Host.Outcome.next (State.rowEnclave hs ht (State.enclaveCmd_assign (s := s.roused) hk hf h0 hc hg))
  case release =>
    rintro k i - ht hk first count hf h0 hc hg rfl
    exact congrArg Host.Outcome.next (State.rowEnclave hs ht (State.enclaveCmd_release (s := s.roused) hk hf h0 hc hg))
  case destroy =>
    rintro k i - ht hk rfl hg
    exact congrArg Host.Outcome.next (State.rowEnclave hs ht (State.enclaveCmd_destroy (s := s.roused) hk hg))
  case binding =>
    intro k v i hk ht hv h0
    exact State.rowNum_if_acts hk hs ht (State.writeSliceEnclave_sets (s := s.roused) hv (.inl h0))

end Sys2Proof.Machine

/-! # Security entries (R391 to R394, R399, R402, R403, R405 to R408) -/

namespace Sys2Proof.Machine

open Sys2Proof

namespace State

section
variable {s : State} {v : Nat}

/-! ## Watermark and reserve -/

theorem writeWatermark_lowers (hv : v < s.sec.watermark) (ht : s.sec.target = none) (hr : v ≤ s.get 0x2D01 3)
    (hm : v ≤ 0x05BFFFFFFF) (hg : v % 67108864 = 0) : s.writeWatermark v =
      .ok (State.set { s.set 0x2D01 1 v with sec := { s.sec with target := some v } } 0x2D01 4 1) := by
  have idle : ¬ (s.sec.target.isSome = true ∧ v < s.sec.watermark) := by simp [ht]
  exact (if_neg idle).trans ((if_neg (by omega)).trans (if_neg (Nat.not_le.2 hv)))

section
variable (hg : v % 67108864 = 0) (hw : s.sec.watermark ≤ v)
include hg hw

theorem writeReserve_lowers (hr : v ≤ s.get 0x2D01 3) : s.writeReserve v = .ok (s.set 0x2D01 3 v) :=
  (if_neg (not_not.2 hg)).trans ((if_neg (Nat.not_lt.2 hw)).trans (if_pos hr))

/-- R394: no slice exists, and neither an enclave's granule nor a partition's range lies below the new top. -/
theorem writeReserve_raises (hr : s.get 0x2D01 3 < v) (hs : s.anySlice = false) (hm : v ≤ 0x05BFFFFFFF)
    (hgr : ∀ g, g ∈ s.sec.granules → v ≤ g.1 * 2097152)
    (hp : ∀ k, k < 8 → v ≤ (s.partRange k).1 ∨ (s.partRange k).2 ≤ s.sec.watermark) :
    s.writeReserve v = .ok (s.set 0x2D01 3 v) := by
  have granules : ¬ (s.sec.granules.any fun g => decide (g.1 * 2097152 < v)) = true := by
    simpa using hgr
  have ranges : ¬ ((List.range 8).any fun k =>
      decide ((s.partRange k).1 < v ∧ s.sec.watermark < (s.partRange k).2)) = true := by
    simp only [List.any_eq_true, List.mem_range, decide_eq_true_eq]
    rintro ⟨k, lt, below, above⟩
    have := hp k lt
    omega
  unfold writeReserve
  dsimp only
  rw [if_neg (not_not.2 hg), if_neg (Nat.not_lt.2 hw), if_neg (Nat.not_le.2 hr), if_neg (by simp [hs, hm]), if_neg granules,
    if_neg ranges]

end

/-! ## Keys and floors (Table SEC-9) -/

theorem securityWrite_keyProgram {b : List Byte} (hn : field b 0 1 ≤ 3) (hk : s.keySlot (field b 0 1) = none) :
    s.securityWrite 0x2D40 3 (.oct b) = .ok { s with sec := { s.sec with
      slots := NMap.set none s.sec.slots (field b 0 1) (some { hash := b.drop 1 }) } } :=
  if_neg (by simp [hk, hn])

/-- A key is revoked where it was already, or where another good key is left. -/
theorem securityWrite_keyRevoke {k : KeySlot} (hk : s.keySlot v = some k)
    (h : k.revoked = true ∨ ∃ n x, n ≠ v ∧ (n, some x) ∈ s.sec.slots ∧ x.revoked = false) :
    s.securityWrite 0x2D40 4 (.num v) = .ok { s with sec := { s.sec with
      slots := NMap.set none s.sec.slots v (some { k with revoked := true }) } } := by
  have left : ¬ ((s.sec.slots.filter fun e => decide (e.1 ≠ v) && (match e.2 with
      | some k => !k.revoked
      | none => false)) = [] ∧ (!k.revoked) = true) := by
    rintro ⟨none_, good⟩
    rcases h with revoked | ⟨n, x, ne, mem, fresh⟩
    · rw [revoked] at good
      cases good
    · have : (n, some x) ∈ ([] : List (Nat × Option KeySlot)) := none_ ▸ List.mem_filter.2 ⟨mem, by simp [ne, fresh]⟩
      cases this
  show (match s.keySlot v with
    | none => _
    | some k => _) = _
  rw [hk]
  exact if_neg left

theorem securityWrite_floor {b : List Byte} (lo : 1 ≤ field b 0 1) (hi : field b 0 1 ≤ 5)
    (hf : NMap.get 0 s.sec.floors (field b 0 1) ≤ field b 1 4) (hr : field b 1 4 ≤ NMap.get 0 s.sec.running (field b 0 1)) :
    s.securityWrite 0x2D40 6 (.oct b) = .ok { s with sec := { s.sec with
      floors := NMap.set 0 s.sec.floors (field b 0 1) (field b 1 4) } } :=
  if_neg (by omega)

/-! ## Debug sessions (R407) -/

theorem securityWrite_response {b cert : List Byte} (hl : s.sec.lockout = false) (hr : s.responseOk b = true)
    (hc : s.sec.cert = some cert) : s.securityWrite 0x2E01 3 (.oct b) =
      .ok (renewChallenge (setScope { s with sec := { s.sec with refusals := 0 } }
        (if s.sec.debugFuse then 0 else field cert 6 1 &&& s.get 0x2D40 8))) := by
  have granted : s.debugResponse b = (renewChallenge (setScope { s with sec := { s.sec with refusals := 0 } }
      (if s.sec.debugFuse then 0 else field cert 6 1 &&& s.get 0x2D40 8)), false) := by
    unfold debugResponse
    simp only [hl, hr, hc, Bool.not_false, Bool.and_self, if_true]
  show (if (s.debugResponse b).2 then _ else WRes.ok (s.debugResponse b).1) = _
  rw [granted]
  rfl

end

end State

/-- Settles O38: each row is its access, whose effect is the outcome of its entry's write. -/
theorem securityRows : Obligations.SecurityRows := by
  unfold Obligations.SecurityRows
  intro s d hs
  have row {idx sub v i : Nat} {t : State} (lo : 0x2D00 ≤ idx) (hi : idx < 0x2E02) (ht : s.takesNum d idx sub v i)
      (h : s.roused.securityWrite idx sub (.num v) = .ok t) :
      (Host.Outcome.next (s.rowNum d idx sub v) : Out) = .next (t.answered d) :=
    congrArg Host.Outcome.next (State.rowNum_acts hs ht ((State.applyWrite_security lo hi).trans h))
  have string {idx sub i : Nat} {b : List Byte} {t : State} (lo : 0x2D00 ≤ idx) (hi : idx < 0x2E02)
      (ht : s.takesStr d idx sub b i) (h : s.roused.securityWrite idx sub (.oct b) = .ok t) :
      (Host.Outcome.next (s.rowWrite d idx sub b) : Out) = .next (t.answered d) :=
    congrArg Host.Outcome.next (State.rowStr_acts hs ht ((State.applyWrite_security lo hi).trans h))
  refine ⟨?raise, ?lower, ?reserveLower, ?reserveRaise, ?hold, ?notice, ?kick, ?program, ?revoke, ?floor, ?fuse, ?policy,
    ?fmpKey, ?cert, ?response, ?endSession⟩
  case raise =>
    intro v i ht hw hr hm hg
    exact (exec_secureWatermarkRaise hw d).trans (congrArg Host.Outcome.next (State.rowNum_secureWatermark_ok hs ht
      (State.writeWatermark_raises (s := s.roused) hw hr hm hg)))
  case lower =>
    intro v i ht hv h0 hr hm hg
    exact (exec_secureWatermarkLower hv d).trans (congrArg Host.Outcome.next (State.rowNum_secureWatermark_ok hs ht
      (State.writeWatermark_lowers (s := s.roused) hv h0 hr hm hg)))
  case reserveLower =>
    intro v i ht hg hw hr
    exact row (by decide) (by decide) ht (State.writeReserve_lowers (s := s.roused) hg hw hr)
  case reserveRaise =>
    intro v i ht hg hw hr ha hm hgr hp
    exact row (by decide) (by decide) ht (State.writeReserve_raises (s := s.roused) hg hw hr ha hm hgr hp)
  case hold => exact fun i data ht => string (by decide) (by decide) ht rfl
  case notice => exact fun v i ht => row (by decide) (by decide) ht rfl
  case kick => exact fun v i ht => row (by decide) (by decide) ht rfl
  case program =>
    exact fun i data ht hn hk => string (by decide) (by decide) ht (State.securityWrite_keyProgram (s := s.roused) hn hk)
  case revoke =>
    exact fun v i k ht hk h => row (by decide) (by decide) ht (State.securityWrite_keyRevoke (s := s.roused) hk h)
  case floor =>
    exact fun i data ht lo hi hf hr => string (by decide) (by decide) ht
      (State.securityWrite_floor (s := s.roused) lo hi hf hr)
  case fuse => exact fun v i ht => row (by decide) (by decide) ht rfl
  case policy => exact fun v i ht => row (by decide) (by decide) ht rfl
  case fmpKey => exact fun i data ht => string (by decide) (by decide) ht rfl
  case cert => exact fun i data ht => congrArg Host.Outcome.next (State.rowPiece_acts hs ht rfl)
  case response =>
    exact fun i data cert ht hl hr hc => string (by decide) (by decide) ht
      (State.securityWrite_response (s := s.roused) hl hr hc)
  case endSession => exact fun v i ht => row (by decide) (by decide) ht rfl

end Sys2Proof.Machine

/-! # The paths to the dictionary (R26 to R35) -/

namespace Sys2Proof.Machine

open Sys2Proof

namespace State

section
variable {s : State}

/-! ## FMP (R27 to R29) -/

/-- A datagram for this node that the cache does not answer: its freshness is kept, and it is executed and answered. -/
theorem runFmp_executes {d : Datagram} {q : FmpReq} {r : State} (hq : s.fmpAccept d = some q)
    (hr : r = if q.tagged then { s with dic := { s.dic with fresh := NMap.set none s.dic.fresh d.src (some q.fresh) } } else s)
    (ht : q.target = 0xFF ∨ q.target = s.nodeId) (hc : ∀ e, e ∈ s.dic.fmpCache → e.src ≠ d.src ∨ e.seq ≠ q.seq) :
    s.runFmp d = (r.fmpExecute d.src q).2.fmpReply d q (r.fmpExecute d.src q).1 := by
  have node : r.nodeId = s.nodeId := by rw [hr]; split <;> rfl
  have cache : r.dic.fmpCache = s.dic.fmpCache := by rw [hr]; split <;> rfl
  have new : r.dic.fmpCache.find? (fun e => decide (e.src = d.src ∧ e.seq = q.seq ∧ r.now ≤ e.time + 1000000000)) = none := by
    refine List.find?_eq_none.2 fun e he hit => ?_
    obtain ⟨src, seq, -⟩ := of_decide_eq_true hit
    exact (hc e (cache ▸ he)).elim (· src) (· seq)
  have here : ¬ (q.target ≠ 0xFF ∧ q.target ≠ r.nodeId) := fun away => ht.elim away.1 (node ▸ away.2)
  unfold runFmp
  simp only [hq, ← hr, new]
  exact if_neg here

/-! ## Windows (R31) -/

theorem windowRequest_idle {w : Space} {req : Nat} (hs : s.servesNow (.window w)) (hb : (s.window w).busy = false) :
    s.windowRequest w req =
      (roused (s.setWindow w { s.window w with busy := true, raced := [], mgr := false })).runWindow w req :=
  (if_neg (Bool.eq_false_iff.1 hb)).trans
    (onPath_serves (s.setWindow w { s.window w with busy := true, raced := [], mgr := false }) (.window w req) _ hs)

/-! ## Held requests and transfers in pieces (R30, R35) -/

theorem serveHeld_oldest {p : Path} {h : Held} (hf : s.fwRunning = true)
    (hh : s.dic.held.find? (fun h => decide (Held.path h = p)) = some h) :
    s.serveHeld p = runHeld { s with dic := { s.dic with held := s.dic.held.erase h } } h := by
  unfold serveHeld
  simp only [hf, hh, Bool.not_true, Bool.false_eq_true, if_false]

theorem pieceLapse_lapses {idx sub inst : Nat} {p : Pieced} (hp : NMap.get none s.dic.pieced (entryKey inst idx sub) = some p)
    (ht : p.last + 1000000000 ≤ s.now) : s.pieceLapse idx sub inst = { s with dic := { s.dic with
      pieced := NMap.set none s.dic.pieced (entryKey inst idx sub) none
      abandoned := (entryKey inst idx sub, p.path, p.src) ::
        s.dic.abandoned.filter (· ≠ (entryKey inst idx sub, p.path, p.src)) } } := by
  unfold pieceLapse
  simp only [hp]
  exact if_neg (Nat.not_lt.2 ht)

end

end State

/-! ## USDO (R26) -/

theorem exec_usdoSessionTimeout {s : State} {u : UsdoSession} (hv : s.usdoServes = true) (hu : s.dic.usdo = some u)
    (ht : u.last + 1000000000 ≤ s.now) : exec .usdoSessionTimeout s =
      .next (State.emit { s with dic := { s.dic with usdo := none } } (.answer .usdo Ab.timeout [])) := by
  show Host.Outcome.next (match s.dic.usdo with
    | none => s
    | some u => _) = _
  rw [hu]
  exact congrArg Host.Outcome.next ((if_neg (Nat.not_lt.2 ht)).trans (if_pos hv))

/-- Settles O39: a path that serves runs its request in the roused state, and each request has one lemma. -/
theorem dictionaryPathsServe : Obligations.DictionaryPathsServe := by
  unfold Obligations.DictionaryPathsServe
  intro s
  refine ⟨?request, ?abort, ?timeout, ?fmp, ?window, ?held, ?piece⟩
  case request => exact fun r hv hs => State.next_if hv (State.onPath_serves s (.usdo r) _ hs)
  case abort => exact fun hv hs => State.next_if hv (State.onPath_serves s .usdoAbort _ hs)
  case timeout => exact fun u hv hu ht => exec_usdoSessionTimeout hv hu ht
  case fmp =>
    intro d q r hs hq hr ht hc
    have run : s.onPath (.fmp d) (fun s => s.runFmp d) = (r.fmpExecute d.src q).2.fmpReply d q (r.fmpExecute d.src q).1 :=
      (State.onPath_serves s (.fmp d) _ hs).trans (State.runFmp_executes (s := s.roused) hq hr ht hc)
    exact ⟨fun h => State.next_if h run, fun h => State.next_if h run, fun h => State.next_if h run⟩
  case window =>
    intro w req hs hb
    have run := State.windowRequest_idle (req := req.toNat) hs hb
    exact ⟨fun h => congrArg Host.Outcome.next ((if_neg (by omega)).trans run),
      fun h => congrArg Host.Outcome.next ((if_neg (by omega)).trans run)⟩
  case held => exact fun p h hf hh => congrArg Host.Outcome.next (State.serveHeld_oldest hf hh)
  case piece => exact fun idx sub inst p hp ht => congrArg Host.Outcome.next (State.pieceLapse_lapses hp ht)

end Sys2Proof.Machine

/-! # Descriptors (R81 to R177, R244 to R248, R270 to R324) -/

namespace Sys2Proof.Machine

open Sys2Proof

namespace State

section
variable {s t : State} {q n op : Nat} {d : Desc}

theorem readyDesc_of_ready (h : s.ready q n op d) : s.readyDesc q n (· = op) = some d :=
  readyDesc_of h (decide_eq_true rfl)

theorem runDesc_of_ready (h : s.ready q n op d) (f : Work → Desc → Work) :
    s.runDesc q n (· = op) f = s.performed q n d f :=
  runDesc_ready f (readyDesc_of_ready h)

theorem beginDirect_of_begins (h : s.begins q n op d) :
    s.beginDirect q n (· = op) = some ({ d with phase := .running }, s.begun q n d) :=
  beginDirect_of h (decide_eq_true rfl)

theorem runDirect_of_begins (h : s.begins q n op d) (f : Work → Desc → Work) :
    s.runDirect q n (· = op) f = (s.begun q n d).performed q n { d with phase := .running } f :=
  runDirect_begins f (beginDirect_of_begins h)

/-- A planner operation whose inputs are there. -/
theorem runPlanner_ready (h : s.readyDirect q n (· = op) = (some d, t)) (f : Work → Desc → Work) :
    s.runPlanner q n op f = State.finish (f { t.startWork q n d with m := .planner (t.queueSlice q) } d).s q n
      (f { t.startWork q n d with m := .planner (t.queueSlice q) } d).st
      (f { t.startWork q n d with m := .planner (t.queueSlice q) } d).det
      (f { t.startWork q n d with m := .planner (t.queueSlice q) } d).fl := by
  unfold runPlanner
  rw [h]

/-- A shader operation whose module is there. -/
theorem runShader_ready (h : s.readyDirect q n (· = op) = (some d, t)) (hd : t.readyDesc q n (· = op) = some d)
    (f : Work → Desc → Work) : s.runShader q n op f = t.performed q n d f := by
  unfold runShader
  rw [h]
  exact runDesc_ready f hd

end

end State

section
variable {s t : State} {q n : Nat} {d : Desc}

theorem exec_conv (h : s.ready q n 0x0200 d) :
    exec (.conv q n) s = .next ((s.performed q n d Work.conv).convEnd q n) := by
  show execConv q n s = _
  unfold execConv
  rw [State.readyDesc_of_ready h]
  exact congrArg (fun u => Host.Outcome.next (State.convEnd u q n)) (State.runDesc_of_ready h _)

/-- R100: the kernel stays while an earlier dispatch uses it. -/
theorem exec_kernelFree (h : s.ready q n 0x0702 d) : exec (.kernelFree q n) s =
    .next (if s.kernelBusy (s.queueSlice q) (d.fld 79 64) d.order then s else s.performed q n d Work.kernelFree) := by
  show execKernelFree q n s = _
  unfold execKernelFree
  rw [State.readyDesc_of_ready h, State.runDesc_of_ready h]

end

/-- Settles O41: a ready descriptor has its family's effect and completes; only the convolution ends with more, and only
KERNEL_FREE may wait. -/
theorem computeDescriptorsRun : Obligations.ComputeDescriptorsRun := by
  unfold Obligations.ComputeDescriptorsRun
  intro s q n d
  have run {op : Nat} {f : Work → Desc → Work} (h : s.ready q n op d) :
      (Host.Outcome.next (s.runDesc q n (· = op) f) : Out) = .next (s.performed q n d f) :=
    congrArg Host.Outcome.next (State.runDesc_of_ready h f)
  exact ⟨run, run, run, run, run, run, run, run, run, run, run, run, run, run, run, exec_conv, run, run, run, run, run, run,
    run, run, run, run, run, run, run, run, exec_kernelFree⟩

/-! ## Control descriptors (R99, R170 to R172) -/

namespace State

section
variable {s : State} {q n : Nat} {d : Desc} (h : s.begins q n 0x0602 d)
include h

theorem beginWait_met (hm : (s.begun q n d).waitMet (s.queueSlice q) { d with phase := .running } = true) :
    s.beginWait q n = (s.begun q n d).finish q n 0 0 0 := by
  unfold beginWait
  rw [beginDirect_of_begins h]
  exact if_pos hm

section
variable (hm : (s.begun q n d).waitMet (s.queueSlice q) { d with phase := .running } = false)
include hm

theorem beginWait_unlimited (h0 : d.fld 223 192 = 0) : s.beginWait q n = s.begun q n d := by
  unfold beginWait
  rw [beginDirect_of_begins h]
  exact (if_neg (Bool.eq_false_iff.1 hm)).trans (if_pos h0)

theorem beginWait_limited (h0 : d.fld 223 192 ≠ 0) : s.beginWait q n = (s.begun q n d).setDesc q n { d with
    phase := .running, deadline := some (s.now + 1000 * d.fld 223 192), tDeal := s.now } := by
  unfold beginWait
  rw [beginDirect_of_begins h]
  exact (if_neg (Bool.eq_false_iff.1 hm)).trans (if_neg h0)

end

end

theorem waitExpired_due {s : State} {q n due : Nat} {d : Desc} (hd : s.desc q n = some d) (hp : d.phase = .running)
    (ho : d.opcode s.compat = 0x0602) (hl : d.deadline = some due) (ht : due ≤ s.now) : s.waitExpired q n =
      s.finish q n St.waitTimeout (s.syncCounter (s.queueSlice q) (d.fld 71 64) % 4294967296) 0 := by
  unfold waitExpired
  simp only [hd, hl]
  exact if_pos ⟨hp, ho, ht⟩

end State

/-- Settles O42: a descriptor without tiles that may begin begins and completes; WAIT has one lemma per outcome. -/
theorem controlDescriptorsRun : Obligations.ControlDescriptorsRun := by
  unfold Obligations.ControlDescriptorsRun
  intro s q n d
  have run {op : Nat} {f : Work → Desc → Work} (h : s.begins q n op d) :
      (Host.Outcome.next (s.runDirect q n (· = op) f) : Out) =
        .next ((s.begun q n d).performed q n { d with phase := .running } f) :=
    congrArg Host.Outcome.next (State.runDirect_of_begins h f)
  refine ⟨run, run, ?met, ?unlimited, ?limited, ?expired, run, run, run, run, run⟩
  case met => exact fun h hm => congrArg Host.Outcome.next (State.beginWait_met h hm)
  case unlimited => exact fun h hm h0 => congrArg Host.Outcome.next (State.beginWait_unlimited h hm h0)
  case limited => exact fun h hm h0 => congrArg Host.Outcome.next (State.beginWait_limited h hm h0)
  case expired => exact fun due hd hp ho hl ht => congrArg Host.Outcome.next (State.waitExpired_due hd hp ho hl ht)

/-! ## Direct families (R244 to R247, R270 to R289, R295 to R308, R323, R324) -/

section
variable {s t : State} {q n : Nat} {d : Desc}

theorem exec_acuCoefLoad (h : s.readyDirect q n (· = 0x0A00) = (some d, t)) : exec (.acuCoefLoad q n) s =
    .next (State.finish (Work.coefLoad { t.startWork q n d with m := .acoustic (t.queueSlice q) } d).s q n
      (Work.coefLoad { t.startWork q n d with m := .acoustic (t.queueSlice q) } d).st
      (Work.coefLoad { t.startWork q n d with m := .acoustic (t.queueSlice q) } d).det
      (Work.coefLoad { t.startWork q n d with m := .acoustic (t.queueSlice q) } d).fl) := by
  show execAcuCoefLoad q n s = _
  unfold execAcuCoefLoad
  rw [h]

/-- R272: the shader stays while an earlier pass uses it. -/
theorem exec_gfxShaderFree (h : s.readyDirect q n (· = 0x0802) = (some d, t)) (hd : t.readyDesc q n (· = 0x0802) = some d) :
    exec (.gfxShaderFree q n) s = .next (if t.shaderBusy (t.queueSlice q) (d.fld 79 64) d.order then t
      else t.performed q n d Work.shaderFree) := by
  show execGfxShaderFree q n s = _
  unfold execGfxShaderFree
  rw [h]
  exact congrArg (fun u => Host.Outcome.next (if t.shaderBusy (t.queueSlice q) (d.fld 79 64) d.order then t else u))
    (State.runDesc_ready _ hd)

section
variable (h : s.readyDirect q n (· = 0x0902) = (some d, t))
include h

theorem exec_plnLatticeFree : exec (.plnLatticeFree q n) s =
    .next (if t.latticeBusy (t.queueSlice q) (d.fld 71 64) d.order then t
      else t.runPlanner q n 0x0902 Work.latticeFree) := by
  show execPlnLatticeFree q n s = _
  unfold execPlnLatticeFree
  rw [h]

theorem exec_plnLatticeFree_busy (hb : t.latticeBusy (t.queueSlice q) (d.fld 71 64) d.order = true) :
    exec (.plnLatticeFree q n) s = .next t :=
  (exec_plnLatticeFree h).trans (congrArg Host.Outcome.next (if_pos hb))

theorem exec_plnLatticeFree_free (hb : t.latticeBusy (t.queueSlice q) (d.fld 71 64) d.order = false) :
    exec (.plnLatticeFree q n) s = .next (t.runPlanner q n 0x0902 Work.latticeFree) :=
  (exec_plnLatticeFree h).trans (congrArg Host.Outcome.next (if_neg (Bool.eq_false_iff.1 hb)))

end

end

namespace State

section
variable {s t : State} {q n : Nat} {d : Desc}

/-- R279: the pass starts where it has not yet, and no pass before it still needs the old parameter buffer. -/
theorem gfxPass_starts (h : s.readyDirect q n (· = 0x0800) = (some d, t)) (hn : t.pass q n = none)
    (hb : (t.paramsStale (t.queueSlice q) d.order && t.paramsHeld (t.queueSlice q)) = false) :
    s.gfxPass q n = t.startPass q n d := by
  have free : ¬ ((t.pass q n).isSome = true ∨
      (t.paramsStale (t.queueSlice q) d.order = true ∧ t.paramsHeld (t.queueSlice q) = true)) := by
    rw [hn, ← Bool.and_eq_true_iff, hb]
    rintro (h | h) <;> cases h
  unfold gfxPass
  rw [h]
  exact if_neg free

/-- R289: by the slice that owns the layer. -/
theorem present_waits (h : s.begins q n 0x0803 d) (ho : (s.layer d.pOut d.pLayer).cfg.headD 0xFF = s.queueSlice q) :
    s.present q n = (s.begun q n d).setLayer d.pOut d.pLayer { s.layer d.pOut d.pLayer with
      ready := (s.layer d.pOut d.pLayer).ready ++ [{
        q := q, n := n, image := d.fld 95 64, root := ((s.tref (d.fld 95 64)).map (·.root)).getD 0, reproj := d.fld 103 102
        pose := [d.fld 191 160, d.fld 223 192, d.fld 255 224, d.fld 287 256] }] } := by
  unfold present
  rw [beginDirect_of_begins h]
  exact if_neg (not_not.2 ho)

theorem planBegin_enters (h : s.readyDirect q n (· = 0x0900) = (some d, t)) (hn : t.plan q n = none) :
    s.planBegin q n = { t with pln := { t.pln with plans := t.pln.plans ++ [{
      q := q, n := n, slice := t.queueSlice q, prio := (t.queue q).priority, order := d.order, lanes := d.fld 244 240
      lattice := d.fld 255 248, budgetUs := d.fld 223 192, finalUs := d.fld 239 224, world := d.fld 159 128
      resp := d.fld 127 96, scratch := d.fld 191 160, req := leBytes 128 (d.data.headD 0) }] } } := by
  unfold planBegin
  rw [h]
  exact if_neg (by simp [hn])

/-- R244 to R246: the checks that can be made pass, and the inputs are here. -/
theorem beginSend_queues (h : s.begins q n 0x0505 d)
    (hg : (s.begun q n d).groupHere { d with phase := .running } = true →
      (s.begun q n d).sendFails q n { d with phase := .running } = none)
    (hi : (s.begun q n d).fetchInputs q n { d with phase := .running } = some t) (hf : t.fetching q n = false)
    (hp : d.phase ≠ .running) : s.beginSend q n = t.queueSend q n { d with phase := .running } := by
  have begun := beginDirect_of_begins h
  obtain ⟨hd, -, ho, hr, -⟩ := h
  have checked : (if (s.begun q n d).groupHere { d with phase := .running }
      then (s.begun q n d).sendFails q n { d with phase := .running } else none) = none := by
    split
    next here => exact hg here
    next => rfl
  unfold beginSend
  rw [hd]
  refine (if_neg (by simp [ho, hr])).trans ((if_neg hp).trans ?_)
  simp only [begun, checked, hi, hf, Bool.false_eq_true, if_false]

theorem sendExpired_fails {e : Nat × Nat × Nat} (he : s.lnk.waiting.find? (fun e => decide (e.1 = q ∧ e.2.1 = n)) = some e)
    (hw : s.get 0x2C02 5 ≠ 0) (ht : e.2.2 + 1000 * s.get 0x2C02 5 ≤ s.now) (hs : s.noSlot q n = true) :
    s.sendExpired q n = runSends (State.finish { s with lnk := { s.lnk with
      waiting := s.lnk.waiting.filter fun e => decide (e.1 ≠ q ∨ e.2.1 ≠ n) } } q n St.waystationFull 0 0) := by
  unfold sendExpired
  simp only [he]
  exact if_neg (by simp [hw, hs, ht])

end

end State

/-- Settles O43: each family's command by the lemma of its operation. -/
theorem directFamiliesRun : Obligations.DirectFamiliesRun := by
  unfold Obligations.DirectFamiliesRun
  intro s q n d t
  refine ⟨exec_acuCoefLoad, ?pass, ?shaderLoad, exec_gfxShaderFree, ?present, ?plan, ?latticeLoad, exec_plnLatticeFree_busy,
    ?latticeFree, ?occupancy, ?send, ?sendWait⟩
  case pass =>
    exact fun h hh hn hb => congrArg Host.Outcome.next ((if_neg (Bool.eq_false_iff.1 hh)).trans
      (State.gfxPass_starts h hn hb))
  case shaderLoad => exact fun h hd => congrArg Host.Outcome.next (State.runShader_ready h hd _)
  case present => exact fun h ho => congrArg Host.Outcome.next (State.present_waits h ho)
  case plan => exact fun h hn => congrArg Host.Outcome.next (State.planBegin_enters h hn)
  case latticeLoad => exact fun h => congrArg Host.Outcome.next (State.runPlanner_ready h _)
  case latticeFree =>
    exact fun h hb hn => (exec_plnLatticeFree_free h hb).trans (congrArg Host.Outcome.next (State.runPlanner_ready hn _))
  case occupancy => exact fun h => congrArg Host.Outcome.next (State.runPlanner_ready h _)
  case send => exact fun h hg hi hf hp => congrArg Host.Outcome.next (State.beginSend_queues h hg hi hf hp)
  case sendWait => exact fun e he hw ht hs => congrArg Host.Outcome.next (State.sendExpired_fails he hw ht hs)

end Sys2Proof.Machine

/-! # Frames that wait at a port (R231, R233, R234) -/

namespace Sys2Proof.Machine

open Sys2Proof

namespace State

/-- What one turn of a port does: the oldest frame `q` of buffer `k` goes to the next hop. -/
def sendOldest (s : State) (p k : Nat) (q : QFrame) : State :=
  ((s.setBuffer k (s.buffer k).tail).passTurn p (q.frame.cls % 4)).leave p q.frame

section
variable (s : State) (p k : Nat) (q : QFrame)

theorem sendOldest_out : (s.sendOldest p k q).out = Output.plomor p q.frame :: s.out :=
  congrArg (Output.plomor p q.frame :: ·) (passTurn_quiet (s.setBuffer k (s.buffer k).tail) p (q.frame.cls % 4)).1

theorem sendOldest_queued : (s.sendOldest p k q).lnk.queued = NMap.set [] s.lnk.queued k (s.buffer k).tail :=
  (passTurn_quiet (s.setBuffer k (s.buffer k).tail) p (q.frame.cls % 4)).2

theorem sendOldest_buffer_same : (s.sendOldest p k q).buffer k = (s.buffer k).tail := by
  unfold buffer
  rw [sendOldest_queued, NMap.get_set_same]
  rfl

theorem sendOldest_buffer_other {j : Nat} (h : j ≠ k) : (s.sendOldest p k q).buffer j = s.buffer j := by
  unfold buffer
  rw [sendOldest_queued, NMap.get_set_other _ _ _ _ _ h]

end

/-- From `s` to `t`, port `p` has sent the frames of the list, each with its buffer, in the order of the list: they are what the
output gained, and what each buffer of `s` held before what it holds in `t`. -/
def SentInOrder (p : Nat) (s t : State) (sent : List (Nat × QFrame)) : Prop :=
  (∀ e, e ∈ sent → e.1 / 12 = p)
  ∧ t.out = (sent.map fun e => Output.plomor p e.2.frame).reverse ++ s.out
  ∧ ∀ k, s.buffer k = (sent.filter fun e => decide (e.1 = k)).map (·.2) ++ t.buffer k

section
variable {p : Nat} {s t : State}

/-- Looking at the buffers sends nothing. -/
theorem SentInOrder.nil (ho : t.out = s.out) (hq : t.lnk.queued = s.lnk.queued) : SentInOrder p s t [] :=
  ⟨nofun, ho, fun k => congrArg (NMap.get [] · k) hq.symm⟩

/-- The oldest frame of a buffer leaves first, then the others. -/
theorem SentInOrder.cons {k : Nat} {q : QFrame} {r : List QFrame} {sent : List (Nat × QFrame)} (hk : k / 12 = p)
    (hb : s.buffer k = q :: r) (h : SentInOrder p (s.sendOldest p k q) t sent) : SentInOrder p s t ((k, q) :: sent) := by
  obtain ⟨ports, out, buffers⟩ := h
  refine ⟨?ports, ?out, ?buffers⟩
  case ports =>
    intro e he
    rcases List.mem_cons.1 he with rfl | he
    · exact hk
    · exact ports e he
  case out =>
    rw [out, sendOldest_out, List.map_cons, List.reverse_cons, List.append_assoc]
    rfl
  case buffers =>
    intro j
    by_cases hj : k = j
    · subst hj
      have rest := buffers k
      rw [sendOldest_buffer_same, hb, List.tail_cons] at rest
      simp [hb, rest]
    · rw [← sendOldest_buffer_other s p k q (Ne.symm hj), buffers j]
      simp [hj]

end

theorem transmit_sentInOrder (p n : Nat) (s : State) : ∃ sent, SentInOrder p s (transmit p n s) sent := by
  induction n generalizing s with
  | zero => exact ⟨[], .nil rfl rfl⟩
  | succ n ih =>
    obtain ⟨out, queued, oldest⟩ := readyFrame_spec p (s.serveOrder p) s
    unfold transmit
    split
    next t taken =>
      rw [taken] at out queued
      exact ⟨[], .nil out queued⟩
    next k q t taken =>
      rw [taken] at out queued oldest
      obtain ⟨served, r, hb⟩ := oldest k q rfl
      obtain ⟨sent, h⟩ := ih (t.sendOldest p k q)
      have hb' : t.buffer k = q :: r := (congrArg (NMap.get [] · k) queued).trans hb
      obtain ⟨ports, outs, buffers⟩ := h.cons (serveOrder_port s p k served) hb'
      refine ⟨(k, q) :: sent, ports, outs.trans (by rw [out]), fun j => ?_⟩
      exact (congrArg (NMap.get [] · j) queued).symm.trans (buffers j)

end State

/-! ## The groups that no frame changes -/

theorem State.mem_of_unsent {s t : State} (h : t.unsent = s.unsent) : t.mem = s.mem := congrArg (fun g => g.2.1) h

theorem State.que_of_unsent {s t : State} (h : t.unsent = s.unsent) : t.que = s.que := congrArg (fun g => g.1.2.1) h

theorem State.kv_of_unsent {s t : State} (h : t.unsent = s.unsent) : t.kv = s.kv :=
  congrArg (fun g => g.1.2.2.2.2.2.2.2.2.2.1) h

/-- Settles O49: by induction on the number of tries, `State.transmit` sends a list of frames in order; the rest of the state
is the part that no frame changes. -/
theorem waitingFramesLeaveInOrder : Obligations.WaitingFramesLeaveInOrder := by
  unfold Obligations.WaitingFramesLeaveInOrder
  intro s p n
  obtain ⟨sent, ports, out, buffers⟩ := State.transmit_sentInOrder p n s
  have rest := State.transmit_unsent p n s
  exact ⟨sent, ports, out, buffers, State.mem_of_unsent rest, State.que_of_unsent rest, State.kv_of_unsent rest⟩

end Sys2Proof.Machine

/-! # Events that leave memory, queues and the KV cache -/

namespace Sys2Proof.Machine

open Sys2Proof

namespace State

/-- Memory, queues and the KV cache. -/
abbrev stored (s : State) := (s.mem, s.que, s.kv)

section
variable {s t u : State}

theorem stored_ite {C : Prop} [Decidable C] (ht : t.stored = s.stored) (hu : u.stored = s.stored) :
    (if C then t else u).stored = s.stored := by
  split
  · exact ht
  · exact hu

/-- A command whose next state has them spares them. -/
theorem spares_of_stored {c : Instr} (hc : exec c s = .next t) (h : t.stored = s.stored) : s.spares c := by
  intro r hr
  rw [hc] at hr
  cases hr
  exact ⟨congrArg (·.1) h, congrArg (·.2.1.queues) h, congrArg (·.2.2) h⟩

end

section
variable (s : State)

/-! ## Records, buses and displays -/

theorem addRecord_stored (a b c : Nat) (l : List Byte) : (s.addRecord a b c l).stored = s.stored := by
  unfold addRecord enterRecord
  refine stored_ite (stored_ite rfl rfl) (stored_ite rfl rfl)

theorem busOff_stored (n : Nat) : (s.busOff n).stored = s.stored := (addRecord_stored ..).trans rfl

theorem canFault_stored (n c : Nat) (l : List Byte) : (s.canFault n c l).stored = s.stored :=
  stored_ite ((addRecord_stored ..).trans rfl) rfl

theorem displayLink_stored (o : Nat) (up : Bool) : (s.displayLink o up).stored = s.stored :=
  stored_ite rfl (stored_ite rfl (stored_ite rfl ((addRecord_stored ..).trans rfl)))

/-! ## Outputs, cameras and coolant -/

theorem goOverload_stored (n : Nat) : (s.goOverload n).stored = s.stored := stored_ite ((addRecord_stored ..).trans rfl) rfl

theorem goOpenLoad_stored (n : Nat) : (s.goOpenLoad n).stored = s.stored := stored_ite ((addRecord_stored ..).trans rfl) rfl

theorem cameraFrame_stored (n : Nat) : (s.cameraFrame n).stored = s.stored := stored_ite rfl (stored_ite rfl rfl)

theorem coolLimit_stored (x y : Int) (suspect : Bool) : (s.coolLimit x y suspect).stored = s.stored := stored_ite rfl rfl

theorem coolDirection_stored (x : Int) : (s.coolDirection x).stored = s.stored :=
  stored_ite rfl (stored_ite (stored_ite ((addRecord_stored ..).trans rfl) rfl) rfl)

theorem coolFlow_stored (x : Int) (power : Nat) : (s.coolFlow x power).stored = s.stored :=
  stored_ite ((addRecord_stored ..).trans rfl) rfl

theorem coolWindow_stored : s.coolWindow.stored = s.stored :=
  stored_ite rfl (stored_ite ((coolFlow_stored ..).trans (coolDirection_stored ..)) (coolDirection_stored s _))

theorem coolant_stored (x y : Int) : (s.coolant x y).stored = s.stored := by
  have limited (r : State) (b : Bool) (h : r.stored = s.stored) : (r.coolLimit x y b).stored = s.stored :=
    (coolLimit_stored ..).trans h
  unfold coolant
  dsimp only
  refine stored_ite ?_ ((coolWindow_stored _).trans ?_)
  all_goals exact stored_ite ((addRecord_stored ..).trans (limited _ _ rfl)) (limited _ _ rfl)

/-! ## Time, self-tests and the Rearguard -/

theorem jointSnap_stored (r : Nat) : (s.jointSnap r).stored = s.stored := by
  unfold jointSnap
  refine foldl_keeps stored _ (fun r n => ?_) _ _
  rfl

theorem holdover_stored (n : Nat) : (s.holdover n).stored = s.stored := stored_ite rfl rfl

theorem leaveIdle_stored : s.leaveIdle.stored = s.stored := by
  unfold leaveIdle releaseIslands
  refine stored_ite ?_ rfl
  exact stored_ite (C := (s.set 0x2120 3 0).gov.settled = true ∧ 660 ≤ (s.set 0x2120 3 0).coreMv) rfl rfl

theorem noteBusy_stored : s.noteBusy.stored = s.stored := stored_ite rfl rfl

theorem sliceStart_stored {u : TestUnit} (hu : u ≠ .serai) : (s.sliceStart u).stored = s.stored := by
  unfold sliceStart
  rw [if_neg hu]
  exact stored_ite ((noteBusy_stored _).trans (leaveIdle_stored s)) rfl

theorem claim_stored (u : TestUnit) : (s.claim u).stored = s.stored := stored_ite rfl rfl

theorem statusFrame_stored : s.statusFrame.stored = s.stored := stored_ite rfl rfl

/-! ## Harts and the debug module -/

theorem setCmderr_stored (e : Nat) : (s.setCmderr e).stored = s.stored := stored_ite rfl rfl

theorem resumeHart_stored (h : Nat) : (s.resumeHart h).stored = s.stored := by
  unfold resumeHart
  refine stored_ite ?_ rfl
  split <;> rfl

theorem setScope_stored (v : Nat) : (s.setScope v).stored = s.stored :=
  (foldl_keeps stored _ (fun r h => stored_ite (resumeHart_stored r h) rfl) _ _).trans rfl

theorem endSession_stored : s.endSession.stored = s.stored := setScope_stored ..

theorem mret_stored (h : Nat) (into : HartMode) : (s.mret h into).stored = s.stored :=
  stored_ite rfl (stored_ite rfl rfl)

theorem dmHalt_stored (h : Nat) : (s.dmHalt h).stored = s.stored :=
  stored_ite rfl (stored_ite (setCmderr_stored ..) (stored_ite rfl (stored_ite rfl rfl)))

theorem dmResume_stored (h : Nat) : (s.dmResume h).stored = s.stored :=
  stored_ite rfl (stored_ite (setCmderr_stored ..) (stored_ite (resumeHart_stored s h) rfl))

theorem dmStep_stored (h : Nat) (e : StepEffect) : (s.dmStep h e).stored = s.stored :=
  stored_ite rfl (stored_ite (setCmderr_stored ..) (stored_ite rfl rfl))

theorem accessRegister_stored (h : Nat) (write : Bool) (r : Nat) (v : BitVec 64) :
    (s.accessRegister h write r v).2.stored = s.stored := by
  unfold accessRegister
  dsimp only
  repeat' split
  all_goals first
    | rfl
    | exact setCmderr_stored ..

/-! ## Power, updates, signals and requests -/

theorem dwellOver_stored : s.dwellOver.stored = s.stored := stored_ite rfl rfl

theorem pauseBegin_stored : s.pauseBegin.stored = s.stored := stored_ite rfl rfl

theorem signalWrite_stored (off b : Nat) : (s.signalWrite off b).stored = s.stored := stored_ite rfl rfl

theorem workArrives_stored : s.workArrives.stored = s.stored := by
  obtain ⟨que, mem, kv⟩ := s.workArrives_frame
  simp only [stored, que, mem, kv]

/-- A request that changes none of them as it is performed changes none as it arrives. -/
theorem onPath_stored {run : State → State} (h : ∀ r, (run r).stored = r.stored) (x : Held) :
    (s.onPath x run).stored = s.stored := by
  have arrived : s.roused.workArrives.stored = s.stored := workArrives_stored s.roused
  exact stored_ite arrived (stored_ite ((h _).trans arrived) (stored_ite arrived arrived))

end

end State

/-- Settles O29: every command's next state is one update whose frame lemma says that it leaves the three groups. -/
theorem eventsSpareMemoryAndQueues : Obligations.EventsSpareMemoryAndQueues := by
  unfold Obligations.EventsSpareMemoryAndQueues
  intro s n a b x w u into v e
  refine ⟨?busOff, ?recovered, ?dominant, ?busFault, ?retry, ?linFault, ?linFree, ?linkDown, ?linkUp, ?overload, ?openLoad,
    ?camTrip, ?camRetry, ?camOpen, ?camFrame, ?coolant, ?snapSec, ?snapAll, ?syncLost, ?slice, ?claim, ?manoeuvre, ?status,
    ?lockstep, ?heartbeat, ?enclave, ?trap, ?mret, ?notice, ?lockout, ?reset, ?idcode, ?dtmcs, ?bypass, ?halt, ?resume, ?step,
    ?register, ?counters, ?dwell, ?pause, ?signal, ?abort⟩
  case busOff => exact State.spares_of_stored rfl (State.stored_ite (s.busOff_stored n) rfl)
  case recovered => exact State.spares_of_stored rfl (State.stored_ite rfl rfl)
  case dominant => exact State.spares_of_stored rfl (s.canFault_stored ..)
  case busFault => exact State.spares_of_stored rfl (State.stored_ite (s.canFault_stored ..) rfl)
  case retry => exact State.spares_of_stored rfl (State.stored_ite rfl rfl)
  case linFault => exact State.spares_of_stored rfl (State.stored_ite ((State.addRecord_stored ..).trans rfl) rfl)
  case linFree => exact State.spares_of_stored rfl (State.stored_ite rfl rfl)
  case linkDown => exact State.spares_of_stored rfl (s.displayLink_stored ..)
  case linkUp => exact State.spares_of_stored rfl (s.displayLink_stored ..)
  case overload => exact State.spares_of_stored rfl (s.goOverload_stored n)
  case openLoad => exact State.spares_of_stored rfl (s.goOpenLoad_stored n)
  case camTrip => exact State.spares_of_stored rfl (State.stored_ite ((State.addRecord_stored ..).trans rfl) rfl)
  case camRetry => exact State.spares_of_stored rfl (State.stored_ite rfl rfl)
  case camOpen => exact State.spares_of_stored rfl (State.stored_ite ((State.addRecord_stored ..).trans rfl) rfl)
  case camFrame => exact State.spares_of_stored rfl (s.cameraFrame_stored n)
  case coolant => exact State.spares_of_stored rfl (s.coolant_stored x x)
  case snapSec => exact State.spares_of_stored rfl (State.stored_ite rfl rfl)
  case snapAll => exact State.spares_of_stored rfl (s.jointSnap_stored n)
  case syncLost => exact State.spares_of_stored rfl ((State.holdover_stored ..).trans (s.addRecord_stored ..))
  case slice => exact fun hu => State.spares_of_stored rfl (s.sliceStart_stored hu)
  case claim => exact State.spares_of_stored rfl (s.claim_stored u)
  case manoeuvre => exact State.spares_of_stored rfl (State.stored_ite rfl rfl)
  case status => exact State.spares_of_stored rfl s.statusFrame_stored
  case lockstep => exact State.spares_of_stored rfl (State.stored_ite rfl rfl)
  case heartbeat => exact State.spares_of_stored rfl (State.stored_ite rfl rfl)
  case enclave => exact State.spares_of_stored rfl (State.stored_ite rfl rfl)
  case trap => exact State.spares_of_stored rfl rfl
  case mret => exact State.spares_of_stored rfl (s.mret_stored n into)
  case notice =>
    refine State.spares_of_stored rfl ?_
    split
    · exact State.stored_ite rfl rfl
    · rfl
  case lockout => exact State.spares_of_stored rfl (State.stored_ite rfl rfl)
  case reset => exact State.spares_of_stored rfl ((State.endSession_stored _).trans rfl)
  case idcode => exact State.spares_of_stored rfl rfl
  case dtmcs => exact State.spares_of_stored rfl rfl
  case bypass => exact State.spares_of_stored rfl (State.stored_ite rfl rfl)
  case halt => exact State.spares_of_stored rfl (s.dmHalt_stored n)
  case resume => exact State.spares_of_stored rfl (s.dmResume_stored n)
  case step => exact State.spares_of_stored rfl (s.dmStep_stored n e)
  case register =>
    exact State.spares_of_stored rfl (State.stored_ite (s.accessRegister_stored n w a v) (s.accessRegister_stored n w a v))
  case counters => exact State.spares_of_stored rfl (State.stored_ite rfl rfl)
  case dwell => exact State.spares_of_stored rfl s.dwellOver_stored
  case pause => exact State.spares_of_stored rfl s.pauseBegin_stored
  case signal => exact State.spares_of_stored rfl (s.signalWrite_stored a b)
  case abort =>
    exact State.spares_of_stored rfl
      (State.stored_ite (s.onPath_stored (run := fun r => r.setUsdo none) (fun _ => rfl) .usdoAbort) rfl)

end Sys2Proof.Machine

/-! # Governor and supply (R41 to R60) -/

namespace Sys2Proof.Machine

open Sys2Proof

namespace State

section
variable {s : State}

/-- An entry whose index or subindex differs from the written one reads as before. -/
theorem get_set_entry {x a y b : Nat} (n : Nat) (hx : x < 65536) (hy : y < 65536) (ha : a < 256) (hb : b < 256)
    (h : x ≠ y ∨ a ≠ b) : (s.set x a n).get y b = s.get y b :=
  get_set_other s x a n 0 y b 0 (entryKey_ne hb ha hy hx (.inr (h.imp Ne.symm Ne.symm)))

theorem addRecord_gov (a b c : Nat) (l : List Byte) : (s.addRecord a b c l).gov = s.gov :=
  congrArg (fun g => g.1.2.2.2.2.2.2.2.2.2.2.2.2.2.2.2.1) (addRecord_unstored s a b c l)

theorem setGov_gov (g : GovState) : (s.setGov g).gov = g := rfl

/-! ## Pace windows (R43, R44) -/

/-- Nothing waits for the window: the steps are counted, and the loops make their step. -/
theorem paceBoundary_counts {x : State} (hx : x = (State.set (s.setGov { s.gov with
          used := [], steps := (s.gov.used.foldl (fun a e => a + e.2) 0 :: s.gov.steps).take 100 }) 0x2111 5
        (min 65535 (State.stepRate (s.setGov { s.gov with
          used := [], steps := (s.gov.used.foldl (fun a e => a + e.2) 0 :: s.gov.steps).take 100 })))))
    (hr : s.gov.release = false) (hc : s.gov.pendCeiling = none) (hm : s.gov.pendMv = none) :
    s.paceBoundary = (if s.gov.settled then x else x.noteRail x.presentMv).noteSubfloor.lowerStep := by
  subst hx
  unfold paceBoundary
  simp only [hr, hc, hm, set_gov, setGov_gov, Bool.false_eq_true, false_and, if_false]

/-! ## The power loop (R47) -/

/-- The mean of the last ten samples is shown. -/
def sampled (s : State) (dw : Nat) : State :=
  (s.setGov { s.gov with powers := (dw :: s.gov.powers).take 10 }).set 0x2111 3
    (min 65535 (((dw :: s.gov.powers).take 10).foldl (· + ·) 0 / ((dw :: s.gov.powers).take 10).length))

theorem sampled_govFixed (dw : Nat) : (s.sampled dw).govFixed = s.govFixed :=
  congrArg (fun n => decide (n = 1)) (get_set_entry (s := s.setGov _) _ (by decide) (by decide) (by decide) (by decide)
    (.inl (by decide)))

theorem sampled_powerLimit (dw : Nat) : (s.sampled dw).powerLimit = s.powerLimit := by
  have limit : (s.sampled dw).get 0x2110 2 = s.get 0x2110 2 :=
    get_set_entry (s := s.setGov _) _ (by decide) (by decide) (by decide) (by decide) (.inl (by decide))
  have coolant : (s.sampled dw).get 0x2150 5 = s.get 0x2150 5 :=
    get_set_entry (s := s.setGov _) _ (by decide) (by decide) (by decide) (by decide) (.inl (by decide))
  unfold powerLimit
  rw [limit, coolant]

theorem powerSample_lowers {dw : Nat} (hf : s.govFixed = false) (hp : s.powerLimit < dw) :
    s.powerSample dw = (s.sampled dw).setGov { (s.sampled dw).gov with powerAct := .lower } := by
  rw [← sampled_govFixed dw] at hf
  rw [← sampled_powerLimit dw] at hp
  exact (if_neg (Bool.eq_false_iff.1 hf)).trans (if_pos hp)

theorem powerSample_fixed {dw : Nat} (hf : s.govFixed = true) :
    s.powerSample dw = (s.sampled dw).setGov { (s.sampled dw).gov with powerAct := .hold, powerCap := none } := by
  rw [← sampled_govFixed dw] at hf
  exact if_pos hf

theorem powerUnmet_says (hf : s.govFixed = false) (ha : s.gov.powerAct = .lower) (hc : s.ceiling = 800)
    (hu : s.gov.unmetSaid = false) :
    s.powerUnmet = addRecord (s.setGov { s.gov with unmetSaid := true }) St.powerLimitUnmet 0x11 0xFF :=
  if_neg (by simp [hf, ha, hc, hu])

/-! ## Supply (R56 to R60) -/

theorem railAt_dark (mv : Nat) : (s.railAt mv).gov.dark = s.gov.dark := by
  unfold railAt noteRail railSag
  split
  · rw [addRecord_gov]
    rfl
  · rfl

variable {in48 in12 r mv : Nat}

/-- The core rail holds its target, or goes on toward it. -/
theorem supplyChange_holds (hm : mv = if s.gov.settled then s.coreMv else s.presentMv) (h1 : s.holdPoint ≤ in48)
    (h2 : 4500 ≤ in48) (hd : s.gov.dark = false) : s.supplyChange in48 in12 r = s.railAt mv := by
  unfold supplyChange
  dsimp only
  rw [if_pos h1, ← hm, if_neg (by omega), railAt_dark, hd]
  rfl

/-- The rail falls with the input, and the always-on rail is lost. -/
theorem supplyChange_darkens (hm : mv = min r (max s.coreMv s.presentMv)) (h1 : in48 < s.holdPoint)
    (h2 : max in48 in12 < 4500) :
    s.supplyChange in48 in12 r = (s.railAt mv).setGov { (s.railAt mv).gov with dark := true } := by
  unfold supplyChange
  dsimp only
  rw [if_neg (Nat.not_le.2 h1), ← hm, if_pos h2]

end

end State

/-- R50. -/
theorem exec_subfloorDoubt {s : State} {since : Nat} (hs : s.gov.subSince = some since) (hd : s.gov.subDoubted = false)
    (ht : since + 1000000 < s.now) : exec .subfloorDoubt s =
      .next (State.doubt (s.setGov { s.gov with subDoubted := true }) St.thermalSubfloor) := by
  show execSubfloorDoubt s = _
  unfold execSubfloorDoubt
  rw [hs]
  exact congrArg Host.Outcome.next (if_neg (by simp [hd, ht]))

/-- Settles O44: each event by the outcome of its function under the clause's condition. -/
theorem governorAndSupplyEvents : Obligations.GovernorAndSupplyEvents := by
  unfold Obligations.GovernorAndSupplyEvents
  intro s
  refine ⟨?pace, ?lowers, ?fixed, ?unmet, ?thermal, ?doubt, ?settled, ?holds, ?darkens, ?reset⟩
  case pace => exact fun x hx hr hc hm => congrArg Host.Outcome.next (State.paceBoundary_counts hx hr hc hm)
  case lowers =>
    intro dw hf hp
    exact ⟨_, congrArg Host.Outcome.next (State.powerSample_lowers hf hp), rfl, rfl, State.get_set_same (s.setGov _) .., rfl, rfl⟩
  case fixed => exact fun dw hf => ⟨_, congrArg Host.Outcome.next (State.powerSample_fixed hf), rfl, rfl⟩
  case unmet => exact fun hf ha hc hu => congrArg Host.Outcome.next (State.powerUnmet_says hf ha hc hu)
  case thermal => exact fun x xs => rfl
  case doubt => exact fun since hs hd ht => exec_subfloorDoubt hs hd ht
  case settled =>
    rintro t u rfl rfl hs
    exact congrArg Host.Outcome.next (if_neg (Bool.eq_false_iff.1 hs))
  case holds => exact fun a b r mv hm h1 h2 hd => congrArg Host.Outcome.next (State.supplyChange_holds hm h1 h2 hd)
  case darkens => exact fun a b r mv hm h1 h2 => congrArg Host.Outcome.next (State.supplyChange_darkens hm h1 h2)
  case reset => exact fun r hr => congrArg Host.Outcome.next (if_pos hr)

end Sys2Proof.Machine

/-! # The front end's events (R198 to R221) -/

namespace Sys2Proof.Machine

open Sys2Proof

namespace State

section
variable {s : State} {q : Nat}

/-- A queue that may fetch, held by no cap, reads the slot of number F or asks for it. -/
theorem fetch_slot {a : Nat} (hm : s.mayFetch q = true) (hh : s.frontHeld q = false)
    (ha : s.slotPa q (s.queue q).f = some a) :
    s.fetch q = if inHbm (a + 63) then s.readSlot q a else s.askSlot q a := by
  unfold fetch
  rw [if_neg (by simp [hm]), if_neg (by simp [hh]), ha]

/-- A readable slot without a poisoned granule is taken. -/
theorem readSlot_takes {a : Nat} {c : State} (hr : s.refuses (.frontEnd (s.queueSlice q)) a 64 = false)
    (hc : c = s.chargeRange (.frontEnd (s.queueSlice q)) a 64)
    (hp : ∀ g, g ∈ granulesOf a 64 → c.mem.poisoned.contains g = false) :
    s.readSlot q a = c.takeSlot q (c.readMem a 64) := by
  subst hc
  have bad : ¬ ((granulesOf a 64).filter fun g =>
      (s.chargeRange (.frontEnd (s.queueSlice q)) a 64).mem.poisoned.contains g) ≠ [] :=
    not_not_intro (List.filter_eq_nil_iff.2 fun g hg => Bool.eq_false_iff.1 (hp g hg))
  unfold readSlot
  rw [if_neg (Bool.eq_false_iff.1 hr)]
  exact if_neg bad

/-- An untagged descriptor leaves its completion record, where it has one, and is forgotten. -/
theorem complete_untagged {n : Nat} {d : Desc} (ho : s.oldestDesc q = some (n, d)) (hd : d.phase = .done)
    (hw : s.awaitsAck q n = false) (hq : q < 262144) (ht : d.tagged = false)
    (hh : (s.leavesRecord d && s.frontHeld q) = false) :
    s.complete q = (if s.leavesRecord d then s.putRecord q d else s).forget q n := by
  unfold complete
  rw [ho]
  dsimp only
  rw [if_neg (by simp [hd, hw]; omega), if_neg (Bool.eq_false_iff.1 hh), if_neg (Bool.eq_false_iff.1 ht)]

end

end State

/-- R209. -/
theorem exec_contextSpillLoad {s : State} {q n : Nat} (hr : (s.queue q).resident = true) (hi : s.idleContext q = true)
    (hn : s.nextPending = some n) :
    exec (.contextSpillLoad q) s = .next { (s.spillContext q true).loadContext n with
      que := { ((s.spillContext q true).loadContext n).que with lastServed := n } } := by
  show execContextSpillLoad q s = _
  unfold execContextSpillLoad
  rw [if_pos (Bool.and_eq_true_iff.2 ⟨hr, hi⟩), hn]

/-- Settles O45: each event by the outcome of its function under the clause's condition. -/
theorem frontEndEvents : Obligations.FrontEndEvents := by
  unfold Obligations.FrontEndEvents
  intro s
  refine ⟨?doorbell, ?context, ?held, ?asked, ?taken, ?record, ?queueIrq, ?sliceIrq, ?rundown, ?grace, ?window⟩
  case doorbell =>
    intro off wide v p c u t hu hoff hx hp hc hr hw ht
    rw [exec_doorbellWrite hoff, ← hu]
    exact congrArg Host.Outcome.next (State.doorbell_accepted rfl hp hc hx hr hw ht)
  case context => exact fun q n hr hi hn => exec_contextSpillLoad hr hi hn
  case held =>
    intro q hm hh
    exact congrArg Host.Outcome.next ((if_neg (by simp [hm])).trans (if_pos hh))
  case asked =>
    intro q a hm hh ha hout
    exact congrArg Host.Outcome.next ((State.fetch_slot hm hh ha).trans (if_neg (Bool.eq_false_iff.1 hout)))
  case taken =>
    intro q a c hm hh ha hin hr hc hp
    exact congrArg Host.Outcome.next
      (((State.fetch_slot hm hh ha).trans (if_pos hin)).trans (State.readSlot_takes hr hc hp))
  case record => exact fun q n d ho hd hw hq ht hh => congrArg Host.Outcome.next (State.complete_untagged ho hd hw hq ht hh)
  case queueIrq => exact fun q hi => congrArg Host.Outcome.next (if_neg (by simp [hi]))
  case sliceIrq => exact fun k hi => congrArg Host.Outcome.next (if_neg (by simp [hi]))
  case rundown =>
    intro k hk hs hr
    exact congrArg Host.Outcome.next (if_neg (by simp [hs, hr]; omega))
  case grace => exact fun k hg => congrArg Host.Outcome.next (if_pos hg)
  case window => exact rfl

end Sys2Proof.Machine

/-! # The engines' events (R85, R110 to R113, R178 to R195) -/

namespace Sys2Proof.Machine

open Sys2Proof

namespace State

section
variable {s : State} {e : Nat}

/-! ## Dealing and draining -/

/-- The descriptor dealt next, with its inputs here and its view converted, is cut into tiles and dealt. -/
theorem deal_next {q n : Nat} {d : Desc} {t u : State} (hn : s.nextDeal = some (q, n, d))
    (ht : s.fetchInputs q n d = some t) (hu : t.convBegin q n d = some u) :
    s.deal q n =
      (let x := (u.desc q n).getD d
      let mask := if x.mask ≠ 0 then x.mask else u.onMask
      let b := u.beginTiles q n x mask
      let may := b.2.dealTargets { q := q, n := n, t := 0, prio := (u.queue q).priority, order := x.order }
      let es := if x.redundant u.compat then may.filter fun e => mask.testBit e else may
      b.2.dealTiles q n b.1 (if es = [] then may else es) (u.queue q).priority 0) := by
  unfold deal
  rw [hn]
  dsimp only
  rw [if_neg (by simp), ht]
  dsimp only
  rw [hu]

/-- A tile of no pair is done. -/
theorem drain_clean {t : Tile} (hr : (s.engine e).running = some t) (ht : t.run = 0) :
    s.drain e .clean = ((s.countDone e t).settleTicks e 0 t).endTile e := by
  unfold drain
  rw [hr]
  dsimp only
  rw [if_neg (by omega), if_neg (by omega)]

/-- Run A of a pair is followed by run B. -/
theorem drain_runA {t : Tile} (hr : (s.engine e).running = some t) (ht : t.run = 1) :
    s.drain e .clean = s.setEngine e { s.engine e with running := some { t with run := 2 } } := by
  unfold drain
  rw [hr]
  dsimp only
  rw [if_neg (by omega), if_pos ht]

/-! ## Saves and restores -/

/-- An engine with a slot to save to saves its tile and takes its next work. -/
theorem pointSave_saves {live k : Nat} {why : StopFor} {t : Tile} {u : State} (hr : (s.engine e).running = some t)
    (hw : (s.engine e).stop = some why) (hk : s.stopSlot e = (some k, u)) :
    s.pointSave e live none = ((u.saveTile e k (min live 7340032)
      (if why = .window then (match u.windowPart e with
        | some p => p + 1
        | none => 0) else 0)).bump 0x2607 (if why = .window then 4 else 3)).serveWork e := by
  unfold pointSave
  rw [hr, hw, hk]
  simp only [reduceCtorEq, if_false, Option.some.injEq, Bool.false_eq_true]
  rfl

/-- A free engine takes the saved tile that it may take. -/
theorem restore_takes {k : Nat} {t : Tile} (hr : (s.engine e).running = none) (hs : (s.engine e).selftest = none)
    (hd : s.droneHolds e = false) (hm : s.mayRestore e k = some t) :
    s.restore e k = State.serveAll (((s.chargeRestore e k t).setSlot k none).setEngine e { s.engine e with
      running := some { t with live := 0, forPart := 0 } }) := by
  unfold restore
  dsimp only
  rw [if_neg (by simp [hr, hs, hd]), hm]

/-! ## Enabling and disabling -/

theorem enableDone_on (hs : (s.engine e).state = .enabling) (hr : (s.engine e).retest = false)
    (hw : (s.engine e).wantDisable = false) :
    s.enableDone e true = (State.aim (State.droneEnter ((s.dropEnginePads e).setEngine e { s.engine e with
      state := .on, wantDisable := false }) e)).dealWaiting.serveAll :=
  (if_neg (not_not_intro hs)).trans ((if_neg (Bool.eq_false_iff.1 hr)).trans
    ((if_neg (by decide)).trans (if_neg (Bool.eq_false_iff.1 hw))))

theorem enableDone_fails (hs : (s.engine e).state = .enabling) (hr : (s.engine e).retest = false) :
    s.enableDone e false = (s.dropEnginePads e).quarantine e 1 :=
  (if_neg (not_not_intro hs)).trans ((if_neg (Bool.eq_false_iff.1 hr)).trans (if_pos rfl))

/-- Abort point A2 with no tile running and no enable that waits. -/
theorem reachA2_reached (hs : (s.engine e).state = .disabling) (hr : (s.engine e).running = none)
    (hw : (s.engine e).wantEnable = false) : s.reachA2 e = s.setEngine e { s.engine e with abort := 2 } :=
  (if_neg (by simp [hs, hr])).trans (if_neg (Bool.eq_false_iff.1 hw))

theorem disableSaveDone_idle {live : Nat} {parity : Option Parity} (hs : (s.engine e).state = .disabling)
    (ha : (s.engine e).abort = 1) (hr : (s.engine e).running = none) :
    s.disableSaveDone e live parity = s.reachA2 e := by
  unfold disableSaveDone
  dsimp only
  rw [if_neg (by simp [hs, ha]), hr]

theorem disableSaveDone_saves {live k : Nat} {parity : Option Parity} {t : Tile} (hs : (s.engine e).state = .disabling)
    (ha : (s.engine e).abort = 1) (hr : (s.engine e).running = some t) (hk : s.disableSlot e = some k) :
    s.disableSaveDone e live parity = (s.saveOrLose e t k live parity 0).reachA2 e := by
  unfold disableSaveDone
  dsimp only
  rw [if_neg (by simp [hs, ha]), hr, hk]

end

end State

/-- Settles O46: each event by the outcome of its function under the clause's condition. -/
theorem engineEvents : Obligations.EngineEvents := by
  unfold Obligations.EngineEvents
  intro s
  refine ⟨?deal, ?frame, ?clean, ?runA, ?save, ?restore, ?on, ?quarantined, ?idle, ?saved, ?off⟩
  case deal =>
    intro q n d t u hq hn ht hu
    exact congrArg Host.Outcome.next ((if_pos hq).trans (State.deal_next hn ht hu))
  case frame =>
    intro k n
    refine congrArg Host.Outcome.next ((if_neg (by omega)).trans ?_)
    rw [Nat.add_sub_cancel_left]
  case clean => exact fun e t hr ht => congrArg Host.Outcome.next (State.drain_clean hr ht)
  case runA => exact fun e t hr ht => congrArg Host.Outcome.next (State.drain_runA hr ht)
  case save => exact fun e live why t u k hr hw hk => congrArg Host.Outcome.next (State.pointSave_saves hr hw hk)
  case restore => exact fun e k t hr hs hd hm => congrArg Host.Outcome.next (State.restore_takes hr hs hd hm)
  case on => exact fun e hs hr hw => congrArg Host.Outcome.next (State.enableDone_on hs hr hw)
  case quarantined => exact fun e hs hr => congrArg Host.Outcome.next (State.enableDone_fails hs hr)
  case idle =>
    intro e live parity hs ha hr hw
    exact congrArg Host.Outcome.next ((State.disableSaveDone_idle hs ha hr).trans (State.reachA2_reached hs hr hw))
  case saved =>
    intro e live parity t k u hs ha hr hk hu hs' hr' hw'
    subst hu
    exact congrArg Host.Outcome.next ((State.disableSaveDone_saves hs ha hr hk).trans (State.reachA2_reached hs' hr' hw'))
  case off => exact fun e hs ha => congrArg Host.Outcome.next (if_neg (by simp [hs, ha]))

end Sys2Proof.Machine

/-! # Plomor frames that arrive (R226 to R248) -/

namespace Sys2Proof.Machine

open Sys2Proof

namespace State

section
variable {s t : State} {port kind : Nat} {f g : Frame}

/-- A frame that no cap and no earlier frame holds does what its kind does. -/
theorem land_handles (hc : ∀ c, s.frameClass f = some c → s.capHolds c = false) (hb : s.behindParked port f = false) :
    s.land port f = s.handle port f := by
  unfold land
  cases hk : s.frameClass f with
  | none => exact if_neg (Bool.eq_false_iff.1 hb)
  | some c => exact (if_neg (Bool.eq_false_iff.1 (hc c hk))).trans (if_neg (Bool.eq_false_iff.1 hb))

/-- A frame that lands passes every check of its arrival. -/
theorem arrive_of_lands (h : s.lands port f kind t g) : s.arrive port f kind = t.handle port g := by
  obtain ⟨hp, hk, hu, hroom, hhost, hcrc, hhops, ht, hg, hmine, hacc, hcap, hpark⟩ := h
  subst ht hg
  unfold arrive
  rw [if_neg (by simp only [hk, hu]; omega), if_neg (by simp [hhost])]
  dsimp only
  rw [if_neg (not_not_intro hcrc), if_neg (by omega), if_neg (by simp [hmine]), if_neg (by simp [hacc])]
  exact land_handles hcap hpark

/-- The frame as taken is of the kind of the frame that arrived. -/
theorem kind_of_lands (h : s.lands port f kind t g) : g.kind = kind := by
  obtain ⟨-, hk, -, -, -, -, -, -, hg, -⟩ := h
  rw [hg]
  exact hk

/-! ## The effect of each kind -/

theorem handle_writeP (h : f.kind = kWriteP) : s.handle port f = s.onWriteP f := by
  unfold handle
  rw [h]
  rfl

theorem handle_writeC (h : f.kind = kWriteC) : s.handle port f = s.onWriteC f := by
  unfold handle
  rw [h]
  rfl

theorem handle_read (h : f.kind = kRead) : s.handle port f = s.onRead f := by
  unfold handle
  rw [h]
  rfl

theorem handle_completion (h : f.kind = kCompletion) : s.handle port f = s.onCompletion f := by
  unfold handle
  rw [h]
  rfl

theorem handle_ack (h : f.kind = kAck) : s.handle port f = s.onAck f := by
  unfold handle
  rw [h]
  rfl

theorem handle_caravan (h : f.kind = kCaravan) : s.handle port f = s.onCaravan f := by
  unfold handle
  rw [h]
  rfl

theorem handle_credit (h : f.kind = kCredit) : s.handle port f = s.onCredit f := by
  unfold handle
  rw [h]
  rfl

theorem handle_signalRc (h : f.kind = kSignalRc) : s.handle port f = s.onSignalRc f := by
  unfold handle
  rw [h]
  rfl

theorem handle_message (h : f.kind = kMessage) : s.handle port f = s.onMessage f := by
  unfold handle
  rw [h]
  rfl

theorem handle_hello (h : f.kind = kHello) : s.handle port f = s.onHello port f := by
  unfold handle
  rw [h]
  rfl

theorem handle_assign (h : f.kind = kAssign) : s.handle port f = s.onAssign port f := by
  unfold handle
  rw [h]
  rfl

/-! ## Tags -/

theorem onCompletion_small {x : SmallTag} (h : NMap.get none s.lnk.small f.tag = some x) :
    s.onCompletion f = s.smallEnds f.tag x f.status f.payload := by
  unfold onCompletion
  rw [h]

theorem onCompletion_bulk {x : BulkTag} (hs : NMap.get none s.lnk.small f.tag = none)
    (hb : NMap.get none s.lnk.bulk f.tag = some x) : s.onCompletion f = s.bulkEnds f.tag x f.status f.payload := by
  unfold onCompletion
  rw [hs, hb]

theorem onAck_write {x : WriteTag} (h : NMap.get none s.lnk.writes f.tag = some x) :
    s.onAck f = (s.ackEnds f.tag x f.status).runSends := by
  unfold onAck
  rw [h]

end

end State

/-- Settles O47: a frame that lands is handled by its kind. -/
theorem linkFrameEvents : Obligations.LinkFrameEvents := by
  unfold Obligations.LinkFrameEvents
  intro s t port f g
  have lands {kind : Nat} {u : State} (h : s.lands port f kind t g) (hu : g.kind = kind → t.handle port g = u) :
      (Host.Outcome.next (s.arrive port f kind) : Out) = .next u :=
    congrArg Host.Outcome.next ((State.arrive_of_lands h).trans (hu (State.kind_of_lands h)))
  refine ⟨?writeP, ?writeC, ?read, ?small, ?bulk, ?ack, ?caravan, ?credit, ?word, ?bitmap, ?message, ?hello, ?assign⟩
  case writeP => exact fun h => lands h State.handle_writeP
  case writeC => exact fun h => lands h State.handle_writeC
  case read => exact fun h hl => lands h fun hk => (State.handle_read hk).trans (if_neg (by omega))
  case small => exact fun x h hx => lands h fun hk => (State.handle_completion hk).trans (State.onCompletion_small hx)
  case bulk => exact fun x h hs hx => lands h fun hk => (State.handle_completion hk).trans (State.onCompletion_bulk hs hx)
  case ack => exact fun x h hx => lands h fun hk => (State.handle_ack hk).trans (State.onAck_write hx)
  case caravan => exact fun h => lands h State.handle_caravan
  case credit => exact fun h => lands h State.handle_credit
  case word => exact fun h h1 h2 => lands h fun hk => (State.handle_signalRc hk).trans (if_pos ⟨h1, h2⟩)
  case bitmap => exact fun h ho => lands h fun hk => (State.handle_signalRc hk).trans (if_neg (by simp only; omega))
  case message => exact fun h => lands h State.handle_message
  case hello => exact fun h => lands h State.handle_hello
  case assign => exact fun h => lands h State.handle_assign

end Sys2Proof.Machine

/-! # Links, windows and tags (R222 to R250) -/

namespace Sys2Proof.Machine

open Sys2Proof

namespace State

section
variable {s : State}

/-! ## Training (Table MMS-2) -/

theorem linkTrained_refused {port width gen : Nat} (ok : Bool)
    (h : (width ≠ 1 ∧ width ≠ 2 ∧ width ≠ 4) ∨ gen = 0 ∨ 4 < gen) : s.linkTrained port width gen ok = s :=
  if_pos h

theorem linkTrained_quiet {port width gen : Nat} {t : State} (hw : width = 1 ∨ width = 2 ∨ width = 4)
    (hg : 1 ≤ gen ∧ gen ≤ 4) (ht : t = (if s.portState port = 1 then s else s.retrain port)) :
    s.linkTrained port width gen false = t.set 0x2C01 (2 + port) (t.portWidth port width * 256 + gen * 16 + 1) := by
  subst ht
  exact (if_neg (by omega)).trans (if_pos (.inl rfl))

/-- A training with HELLO makes the port carry traffic; a module with an ID tells its neighbours who is present again. -/
theorem linkTrained_carries {port width gen : Nat} {t u : State} (hw : width = 1 ∨ width = 2 ∨ width = 4)
    (hg : 1 ≤ gen ∧ gen ≤ 4) (ht : t = (if s.portState port = 1 then s else s.retrain port))
    (hu : u = t.set 0x2C01 (2 + port) (t.portWidth port width * 256 + gen * 16 + 2)) :
    s.linkTrained port width gen true = if u.nodeId = 0xFF then u else State.tellNeighbours (u.setPresent
      (nodeBits (u.getB 0x2C00 5) ||| (u.behind port).foldl (fun a n => if u.lnk.known.testBit n then a ||| 2 ^ n else a) 0))
      none := by
  have trained : s.linkTrained port width gen true = if !true ∨ u.nodeId = 0xFF then u else State.tellNeighbours (u.setPresent
      (nodeBits (u.getB 0x2C00 5) ||| (u.behind port).foldl (fun a n => if u.lnk.known.testBit n then a ||| 2 ^ n else a) 0))
      none := by
    subst ht hu
    exact if_neg (by omega)
  rw [trained]
  exact if_congr (by simp) rfl rfl

/-! ## Stores and reads through an outbound window (R236 to R239) -/

section
variable {addr a : Nat} {data : List Byte} {x : OutWin}

theorem postedStore_sends (h : s.windowAt addr data.length = some (x, a)) (hm : x.mode = 0) (hd : data ≠ [])
    (hn : x.node ≠ s.nodeId) (hp : s.nodePresent x.node = true) : s.postedStore addr data = s.sendFrame {
      dst := x.node, src := 0, kind := kWriteP, cls := x.cls, addr := a, payload := data } := by
  unfold postedStore
  rw [h]
  dsimp only
  rw [if_neg (by simp [hm, hd]), if_neg hn, if_neg (by simp [hp])]

theorem confirmedStore_sends {hart : Nat} (h : s.windowAt addr data.length = some (x, a)) (hm : x.mode = 1) (hd : data ≠ [])
    (hn : x.node ≠ s.nodeId) (hp : s.nodePresent x.node = true) :
    s.confirmedStore hart addr data = s.sendWrites x.node x.cls a data (.store hart a) := by
  unfold confirmedStore
  rw [h]
  dsimp only
  rw [if_neg (by simp [hm, hd]), if_neg hn, if_neg (by simp [hp])]

theorem smallRead_sends {r : Reader} {len tag : Nat} {t : State} (h1 : 1 ≤ len) (h2 : len ≤ 64)
    (h : s.windowAt addr len = some (x, a)) (hn : x.node ≠ s.nodeId) (hp : s.nodePresent x.node = true)
    (ht : s.smallTag { what := .reader r, node := x.node, time := s.now } = (some tag, t)) :
    s.smallRead r addr len = t.sendFrame {
      dst := x.node, src := 0, kind := kRead, cls := x.cls, tag := tag, addr := a, len := len } := by
  unfold smallRead
  rw [if_neg (by omega), h]
  dsimp only
  rw [if_neg hn, if_neg (by simp [hp]), ht]

end

/-! ## Completions that wait in a buffer (R240) -/

theorem discardStale_found {port k : Nat} {f : Frame} {b : List QFrame}
    (h : s.lnk.queued.find? (fun e => e.2.any (s.staleCompletion port e.1 f)) = some (k, b)) :
    s.discardStale port f = (s.setBuffer k (b.eraseP (s.staleCompletion port k f))).bump 0x2C08 4 := by
  unfold discardStale
  rw [h]

theorem discardStale_none {port : Nat} {f : Frame}
    (h : ∀ k b q, (k, b) ∈ s.lnk.queued → q ∈ b → s.staleCompletion port k f q = false) : s.discardStale port f = s := by
  have none_found : s.lnk.queued.find? (fun e => e.2.any (s.staleCompletion port e.1 f)) = none := by
    refine List.find?_eq_none.2 fun e he hany => ?_
    obtain ⟨q, hq, hs⟩ := List.any_eq_true.1 hany
    exact Bool.eq_false_iff.1 (h e.1 e.2 q he hq) hs
  unfold discardStale
  rw [none_found]

end

end State

/-! ## Time-outs of tags -/

section
variable {s : State} {tag : Nat}

/-- R238. -/
theorem exec_confirmedWriteTimeout {t : WriteTag} (h : NMap.get none s.lnk.writes tag = some t)
    (hl : t.time + 1000 * s.get 0x2C02 3 ≤ s.now) :
    exec (.confirmedWriteTimeout tag) s = .next (s.ackEnds tag t St.nodeUnreachable).runSends := by
  show execConfirmedWriteTimeout tag s = _
  unfold execConfirmedWriteTimeout
  rw [h]
  exact congrArg Host.Outcome.next (if_neg (Nat.not_lt.2 hl))

/-- R239. -/
theorem exec_readDiscardTimeout {t : SmallTag} (h : NMap.get none s.lnk.small tag = some t)
    (hl : t.time + 1000 * s.get 0x2C02 1 ≤ s.now) :
    exec (.readDiscardTimeout tag) s = .next ((s.smallFails tag t St.readDiscarded).bump 0x2C08 4) := by
  show execReadDiscardTimeout tag s = _
  unfold execReadDiscardTimeout
  rw [h]
  exact congrArg Host.Outcome.next (if_neg (Nat.not_lt.2 hl))

/-- R241. -/
theorem exec_bulkReadTimeout {t : BulkTag} (h : NMap.get none s.lnk.bulk tag = some t)
    (hl : t.time + 1000 * s.get 0x2C02 3 ≤ s.now) :
    exec (.bulkReadTimeout tag) s = .next (s.bulkFails t St.nodeUnreachable) := by
  show execBulkReadTimeout tag s = _
  unfold execBulkReadTimeout
  rw [h]
  exact congrArg Host.Outcome.next (if_neg (Nat.not_lt.2 hl))

end

/-- Settles O48: each event by the outcome of its function under the clause's condition. -/
theorem linkEvents : Obligations.LinkEvents := by
  unfold Obligations.LinkEvents
  intro s
  refine ⟨?refused, ?trained, ?hello, ?isDown, ?down, ?posted, ?confirmed, ?writeTimeout, ?smallRead, ?readTimeout, ?discarded,
    ?kept, ?bulkTimeout, ?signal, ?poll⟩
  case refused =>
    intro port width gen ok h
    exact congrArg Host.Outcome.next ((if_congr Iff.rfl (State.linkTrained_refused ok h) rfl).trans (ite_self s))
  case trained =>
    exact fun port width gen t hp hw hg ht => congrArg Host.Outcome.next ((if_pos hp).trans (State.linkTrained_quiet hw hg ht))
  case hello =>
    exact fun port width gen t u hp hw hg ht hu =>
      congrArg Host.Outcome.next ((if_pos hp).trans (State.linkTrained_carries hw hg ht hu))
  case isDown => exact fun port hp h => congrArg Host.Outcome.next ((if_pos hp).trans (if_pos h))
  case down => exact fun port hp _ => congrArg Host.Outcome.next (if_pos hp)
  case posted => exact fun addr data x a h hm hd hn hp => congrArg Host.Outcome.next (State.postedStore_sends h hm hd hn hp)
  case confirmed =>
    exact fun hart addr data x a h hm hd hn hp => congrArg Host.Outcome.next (State.confirmedStore_sends h hm hd hn hp)
  case writeTimeout => exact fun tag t h hl => exec_confirmedWriteTimeout h hl
  case smallRead =>
    exact fun r addr len x a tag t h1 h2 h hn hp ht => congrArg Host.Outcome.next (State.smallRead_sends h1 h2 h hn hp ht)
  case readTimeout => exact fun tag t h hl => exec_readDiscardTimeout h hl
  case discarded => exact fun port f k b h => congrArg Host.Outcome.next (State.discardStale_found h)
  case kept => exact fun port f h => congrArg Host.Outcome.next (State.discardStale_none h)
  case bulkTimeout => exact fun tag t h hl => exec_bulkReadTimeout h hl
  case signal => exact fun off v hv ho ha => congrArg Host.Outcome.next (State.signalWrite_sets hv ho ha)
  case poll => exact rfl

end Sys2Proof.Machine

/-! # Memory's events (R251 to R269) -/

namespace Sys2Proof.Machine

open Sys2Proof

/-- A read whose class is neither capped nor held by feedback delivers. -/
theorem exec_hbmRead {s t : State} {m : Requester} {addr len queued : Nat} {report : HbmReport}
    (ht : t = s.feedbackSignal (pcOf addr) queued) (hc : t.compat = true ∨ t.capped (t.classOf m) = false)
    (hf : t.mem.feedback.contains (pcOf addr) = false ∨ t.feedbackHolds (t.classOf m) = false) :
    exec (.hbmRead m addr len queued report) s = .next (t.deliver m addr len report) := by
  subst ht
  exact congrArg Host.Outcome.next (State.request_performs (r := ⟨m, false, addr, len, [], report, none⟩) hc hf)

/-- Settles O50: an unheld request is performed, a store granule by granule; a window and a sample are their functions. -/
theorem memoryEvents : Obligations.MemoryEvents := by
  unfold Obligations.MemoryEvents
  intro s
  refine ⟨?read, ?store, ?window, ?sample⟩
  case read => exact fun m addr len queued report t ht hc hf => exec_hbmRead ht hc hf
  case store =>
    exact fun m addr data hc hf hd hin hr =>
      (exec_partialGranuleWrite hc hf).trans (congrArg Host.Outcome.next (State.store_parts hd hin hr))
  case window =>
    intro starved
    refine ⟨_, _, ?_, rfl, rfl⟩
    exact rfl
  case sample =>
    intro c l hl
    subst hl
    exact ⟨_, rfl, fun h => if_pos h, fun h => if_neg h⟩

end Sys2Proof.Machine

/-! # Display, planner and acoustic events (R280 to R322) -/

namespace Sys2Proof.Machine

open Sys2Proof

namespace State

section
variable {s : State}

/-- Outputs other than DO0 carry no overlay. -/
theorem latchPoint_latches {o : Nat} (h1 : 1 ≤ o) (h4 : o < 4) (he : s.get (0x2880 + o) 1 ≠ 0) :
    s.latchPoint o = (List.range 4).foldl (fun t k => t.latchLayer o k) s := by
  unfold latchPoint
  rw [if_neg (not_or.2 ⟨by omega, he⟩), if_neg (by omega)]

/-! ## Plans (R300 to R309) -/

/-- A plan that fits into the free lanes is granted them, and its stop is checked. -/
theorem planGrant_grants {p : Plan} (hp : s.nextPlan = some p) (hl : p.lanes + s.lanesKept p.slice ≤ s.lanesFree.length)
    {r : Plan × Work} (hr : r = stopCheck (s.planWorld p).2 { p with
      held := s.lanesFree.take p.lanes, start := s.now, phase := 1, genSearch := worldGen (s.planWorld p).1
      nodes := [p.root ((s.lattice p.slice p.lattice).getD []) (worldDt (s.planWorld p).1)] } (s.planWorld p).1) :
    s.planGrant = r.2.s.setPlan { r.1 with status := r.2.st, detail := r.2.det } := by
  subst hr
  unfold planGrant
  rw [hp]
  exact if_neg (Nat.not_lt.2 hl)

/-- A choice of three is the first, or the choice of the other two. -/
theorem first_or_rest {c d : Prop} [Decidable c] [Decidable d] (x y z : Nat) :
    (if c then x else if decide d = true then y else z) = x
      ∨ (if c then x else if decide d = true then y else z) = if d then y else z := by
  by_cases hc : c
  · exact .inl (if_pos hc)
  · exact .inr ((if_neg hc).trans (if_congr decide_eq_true_iff rfl rfl))

section
variable {q n : Nat} {p : Plan} (hp : s.plan q n = some p)
include hp

theorem searchRound_open (h1 : p.phase = 1) (ht : s.now < p.windowEnd) {w : List Byte × Work}
    (hw : w = State.planWorld ((s.count 314 1).countFree 313) p) :
    s.searchRound q n = w.2.s.setPlan { p.round w.1
      ((s.lattice p.slice p.lattice).getD []) (s.tbytes p.scratch / 32) with status := w.2.st, detail := w.2.det } := by
  subst hw
  unfold searchRound
  rw [hp]
  exact if_neg (by omega)

theorem searchExpired_over (h1 : p.phase = 1) (ht : p.windowEnd ≤ s.now) :
    s.searchExpired q n = s.setPlan { p with phase := 2, timeLimited := true } := by
  unfold searchExpired
  rw [hp]
  exact if_pos ⟨h1, ht⟩

variable (h2 : p.phase = 2) {r : Option Final × Work} (hr : r = tryCandidates p (s.planWorld p).1
  (decide (p.start + 1000 * p.budgetUs < s.now + 25000)) (p.candidates.mapIdx fun r i => (r, i)) (s.planWorld p).2)
include h2 hr

/-- A candidate that holds is the plan's answer. -/
theorem finalPhase_finds {f : Final} (hf : r.1 = some f) :
    s.finalPhase q n = planEnd r.2 p f (if p.timeLimited then St.timeLimited else 0)
      ((if f.goal then 1 else 0) + (if 0 < f.rank then 32 else 0)) (worldGen (s.planWorld p).1) := by
  obtain ⟨o, w⟩ := r
  cases hf
  unfold finalPhase
  rw [hp]
  dsimp only
  rw [if_neg (by omega), ← hr]

/-- With no candidate the plan answers its stop. -/
theorem finalPhase_stops (hf : r.1 = none) :
    ∃ (x : Plan) (w : Work) (f : Final) (status flags : Nat),
      s.finalPhase q n = planEnd w x f status flags (worldGen (s.planWorld p).1)
      ∧ f.rank = 0xFF ∧ (status = St.collisionUnavoidable
        ∨ status = if (p.candidates.mapIdx fun r i => (r, i)) = [] then St.noFreePath else St.invalidated) := by
  obtain ⟨o, w⟩ := r
  cases hf
  unfold finalPhase
  rw [hp]
  dsimp only
  rw [if_neg (by omega), ← hr]
  exact ⟨_, _, _, _, _, rfl, rfl, first_or_rest _ _ _⟩

end

/-! ## Acoustic streams and inputs -/

section
variable {stream : Nat} (hs : stream < 16) (hi : s.acu.ignored.contains stream = false)
include hs hi

theorem aafSample_enters (hr : s.get 0x2A13 (stream + 1) ≠ 0) (ch : Nat) (late : Bool) :
    s.aafSample stream ch late = ((List.range 48).filter fun c =>
      decide (s.inputSrc c = 0x8000 + 16 * stream + ch)).foldl
        (fun t c => t.enterSample c ((if late then (0, s.bump 0x2A10 6) else s.fresh .data).1 % 4294967296))
        (if late then (0, s.bump 0x2A10 6) else s.fresh .data).2 :=
  if_neg (not_or.2 ⟨by omega, not_or.2 ⟨hr, Bool.eq_false_iff.1 hi⟩⟩)

theorem aafFault_ignores : s.aafFault stream =
    State.addRecord { s with acu := { s.acu with ignored := s.acu.ignored ++ [stream] } } St.acuStreamRate 0x07
      (0x10 + stream) :=
  if_neg (not_or.2 ⟨by omega, Bool.eq_false_iff.1 hi⟩)

end

theorem inputStuck_faults {ch : Nat} (hc : ch < 48) (hu : s.inputUsed ch = true) (hs : s.acu.stuck.contains ch = false)
    (hn : 4800 ≤ NMap.get 0 s.acu.same ch) {u : State} (h : u = State.addRecord { s with acu := { s.acu with
      stuck := s.acu.stuck ++ [ch], changed := NMap.set 0 s.acu.changed ch 0 } } St.acuInputFault 0x07 (0x80 + ch)
        (leBytes 1 ch)) :
    s.inputStuck ch = if u.ancRuns && (u.ancRefs.contains ch || u.ancErrs.contains ch) then u.beginFade 4 else u := by
  subst h
  exact if_neg (not_or.2 ⟨by omega, not_or.2 ⟨by simp [hu], not_or.2 ⟨Bool.eq_false_iff.1 hs, by omega⟩⟩⟩)

end

end State

/-- Settles O51: each event by the outcome of its function under the clause's condition. -/
theorem displayAndAcousticEvents : Obligations.DisplayAndAcousticEvents := by
  unfold Obligations.DisplayAndAcousticEvents
  intro s
  refine ⟨?late, ?done, ?halted, ?latch, ?latch0, ?scan, ?linkDown, ?linkUp, ?grant, ?round, ?expired, ?final, ?tdm, ?sampleLate,
    ?sample, ?rate, ?anc, ?voice, ?play, ?stuck, ?recovered, ?output⟩
  case late => exact fun r hh hl => congrArg Host.Outcome.next (if_pos (by simp [hh, hl]))
  case done => exact fun r hh => congrArg Host.Outcome.next (if_neg (Bool.eq_false_iff.1 hh))
  case halted =>
    intro r q n hh
    exact ⟨congrArg Host.Outcome.next (if_neg (by simp [hh])), congrArg Host.Outcome.next (if_pos hh),
      congrArg Host.Outcome.next (if_pos hh), congrArg Host.Outcome.next (if_pos hh), congrArg Host.Outcome.next (if_pos hh)⟩
  case latch => exact fun o h1 h4 he => congrArg Host.Outcome.next (State.latchPoint_latches h1 h4 he)
  case latch0 => exact fun he => congrArg Host.Outcome.next (if_neg (not_or.2 ⟨by decide, he⟩))
  case scan => exact fun o late ho he => rfl
  case linkDown =>
    exact fun o ho hl => congrArg Host.Outcome.next
      ((if_neg (by omega)).trans ((if_neg Bool.false_ne_true).trans (if_neg hl)))
  case linkUp => exact fun o ho => congrArg Host.Outcome.next ((if_neg (by omega)).trans (if_pos rfl))
  case grant =>
    intro p hh hp hl
    exact ⟨_, _, congrArg Host.Outcome.next ((if_neg (Bool.eq_false_iff.1 hh)).trans (State.planGrant_grants hp hl rfl)), rfl⟩
  case round =>
    intro q n p hh hp h1 ht
    exact ⟨_, rfl, congrArg Host.Outcome.next ((if_neg (Bool.eq_false_iff.1 hh)).trans (State.searchRound_open hp h1 ht rfl))⟩
  case expired => exact fun q n p hp h1 ht => congrArg Host.Outcome.next (State.searchExpired_over hp h1 ht)
  case final =>
    intro q n p r hh hp h2 hr
    have runs : exec (.finalPhase q n) s = .next (s.finalPhase q n) :=
      congrArg Host.Outcome.next (if_neg (Bool.eq_false_iff.1 hh))
    rw [runs]
    cases hf : r.1 with
    | some f =>
      exact ⟨p, r.2, f, _, _, congrArg Host.Outcome.next (State.finalPhase_finds hp h2 hr hf),
        fun g hg => by cases hg; exact ⟨rfl, rfl, rfl, rfl, rfl⟩, fun h => (nomatch h)⟩
    | none =>
      obtain ⟨x, w, f, status, flags, he, hstop⟩ := State.finalPhase_stops hp h2 hr hf
      exact ⟨x, w, f, status, flags, congrArg Host.Outcome.next he, fun g hg => (nomatch hg), fun _ => hstop⟩
  case tdm => exact fun samples => rfl
  case sampleLate => exact fun stream ch v hs hr hi => congrArg Host.Outcome.next (State.aafSample_enters hs hi hr ch true)
  case sample => exact fun stream ch v hs hr hi => congrArg Host.Outcome.next (State.aafSample_enters hs hi hr ch false)
  case rate => exact fun stream hs hi => congrArg Host.Outcome.next (State.aafFault_ignores hs hi)
  case anc => exact fun b _ _ _ => rfl
  case voice => exact fun k _ _ _ => rfl
  case play => exact fun k _ _ _ => rfl
  case stuck => exact fun ch hc hu hs hn => ⟨_, rfl, congrArg Host.Outcome.next (State.inputStuck_faults hc hu hs hn rfl)⟩
  case recovered => exact fun ch hs hn => congrArg Host.Outcome.next (if_pos ⟨hs, hn⟩)
  case output =>
    exact fun lane hl hr => congrArg Host.Outcome.next (if_neg (not_or.2 ⟨by omega, by simp [hr]⟩))

end Sys2Proof.Machine

/-! # Gateway events (R325 to R344, R453) -/

namespace Sys2Proof.Machine

open Sys2Proof

namespace State

section
variable {s : State}

/-! ## CAN channels (R326 to R329) -/

theorem busReceive_can {p : Nat} {f : BusFrame} (hp : p < 16) (ht : s.canTakes p f = true) :
    s.busReceive p f false = (s.bump (0x2B10 + p) 0x0B).routeFrame p false f := by
  unfold busReceive
  rw [if_pos hp]
  exact if_pos ht

section
variable {n : Nat} {f : BusFrame} (hl : s.canLive n = true) (hm : s.get (0x2B10 + n) 1 = 1) (hf : s.canFenced n = false)
  (hw : s.canWinner n = some f)
include hl hm hf hw

theorem canSent_good : s.canSent n true = State.emit (State.bump (s.setCan n { s.can n with
    tx := (s.can n).tx.erase f, txErr := (s.can n).txErr - 1
    st := if (s.can n).txErr - 1 < 128 ∧ (s.can n).rxErr < 128 then 1 else 2 }) (0x2B10 + n) 0x0C) (.bus n f) := by
  unfold canSent
  rw [if_neg (by simp [hl, hm, hf]), hw]
  rfl

/-- A failed transmission below bus-off. -/
theorem canSent_bad (he : (s.can n).txErr ≤ 247) : s.canSent n false = s.setCan n { s.can n with
    txErr := (s.can n).txErr + 8, st := if 127 < (s.can n).txErr + 8 then 2 else (s.can n).st } := by
  unfold canSent
  rw [if_neg (by simp [hl, hm, hf]), hw]
  exact (if_neg Bool.false_ne_true).trans (if_neg (by omega))

end

/-! ## LIN channels (R330) -/

theorem linSlot_due {n k pos id : Nat} {slots : List (List Byte)} {r : List Byte}
    (hs : slots = records 4 (s.getB (0x2B30 + n) 3)) (hk : k = slots.length) (hp : pos = (s.lin n).pos)
    (hr : slots[pos % k]? = some r) (hm : s.get (0x2B30 + n) 1 = 1) (hl : s.linState n = 1) (hi : id = field r 0 1 % 64) :
    s.linSlot n = State.linAnswer ((s.setLin n { s.lin n with pos := (pos + 1) % k }).emit (.linHeader n id)) n id := by
  subst hs hk hp hi
  unfold linSlot
  dsimp only
  rw [hr]
  exact if_pos ⟨hm, hl⟩

/-! ## Ethernet ports (R331) -/

theorem ethDown_falls {p : Nat} (hp : p < 20) (he : s.ethGet p 1 ≠ 0) (hl : s.ethGet p 5 ≠ 0) (result : Nat) :
    s.ethDown p result = ((s.set (0x2B40 + p) 5 0).addRecord St.ethLinkDown 0x0A p
      (leBytes 1 p ++ leBytes 4 result)).cableResult p result :=
  if_neg (not_or.2 ⟨by omega, not_or.2 ⟨he, hl⟩⟩)

theorem ethUp_rises {p : Nat} (hp : p < 20) (he : s.ethGet p 1 ≠ 0) (hl : s.ethGet p 5 ≠ 1) (sqi : Nat) (swapped : Bool) :
    s.ethUp p sqi swapped = if swapped then
      ((s.set (0x2B40 + p) 5 1).set (0x2B40 + p) 8 (min sqi 7)).harnessReversed 0x0A p 3 (2 * p + 1)
      else (s.set (0x2B40 + p) 5 1).set (0x2B40 + p) 8 (min sqi 7) :=
  if_neg (not_or.2 ⟨by omega, not_or.2 ⟨he, hl⟩⟩)

/-! ## The switch (R332 to R334) -/

theorem learn_getB (mac vid p x a : Nat) : (s.learn mac vid p).getB x a = s.getB x a := by
  unfold learn
  dsimp only
  split <;> rfl

/-- A frame at a switch without policing leaves by every port toward its address. -/
theorem switchIngress_unpoliced {p vid : Nat} {f : EthFrame} {t : State} (hp : p ≤ 21) (hu : s.portUp p = true)
    (h3 : s.getB 0x2B60 3 = []) (h4 : s.getB 0x2B60 4 = [])
    (hv : vid = (match f.vlan with | some v => if v = 0 then 1 else v | none => 1)) (ht : t = s.learn f.srcMac vid p) :
    s.switchIngress p f = ((maskBits 22 (t.portsToward f.dstMac vid &&& t.vlanMembers vid)).filter fun e =>
      decide (e ≠ p) && t.portUp e).foldl (fun u e => u.enqueueAt f vid e) t := by
  have unpoliced (v : Nat) :
      decide ((s.learn f.srcMac v p).getB 0x2B60 3 ≠ [] ∨ (s.learn f.srcMac v p).getB 0x2B60 4 ≠ []) = false := by
    rw [learn_getB, learn_getB]
    simp [h3, h4]
  subst hv ht
  unfold switchIngress
  rw [if_neg (by simp [hu]; omega)]
  dsimp only
  rw [unpoliced]
  rfl

/-- With no pending list the gates go on. -/
theorem gclCycle_goes_on {p : Nat} (hp : p ≤ 21) (hg : NMap.get none s.gtw.gclPend p = none) :
    s.gclCycle p = State.drainPort { s with time := { s.time with gateHold := NMap.set 0 s.time.gateHold p 0 } } p := by
  unfold gclCycle
  rw [if_neg (Nat.not_lt.2 hp)]
  dsimp only
  rw [hg]

/-- A pending list whose start has come operates. -/
theorem gclCycle_starts {p : Nat} {g : GateList} (hp : p ≤ 21) (hg : NMap.get none s.gtw.gclPend p = some g)
    (ht : g.base ≤ s.tb 0) : s.gclCycle p = State.drainPort (State.set { s with
      time := { s.time with gateHold := NMap.set 0 s.time.gateHold p 0 }
      gtw := { s.gtw with gcl := NMap.set none s.gtw.gcl p (some g)
                          gclPend := NMap.set none s.gtw.gclPend p none } } (0x2B80 + p) 5 2) p := by
  unfold gclCycle
  rw [if_neg (Nat.not_lt.2 hp)]
  dsimp only
  rw [hg]
  exact congrArg (fun t => State.drainPort t p) (if_pos ht)

/-! ## ACF streams (R337, R338) -/

theorem sendAvtpdu_sends {k : Nat} {r : List Byte} {msgs : List AcfMsg} {body pdu : List Byte} (hr : r = s.stream k)
    (hm : msgs = NMap.get [] s.gtw.building k) (hne : msgs ≠ []) (hb : body = msgs.flatMap State.acfBytes)
    (hp : pdu = [0x82] ++ beBytes 2 (0x8000 + body.length % 2048) ++
      beBytes 1 (NMap.get 0 s.gtw.seqTx k) ++ beBytes 8 (s.streamId k) ++ body) :
    s.sendAvtpdu k = State.switchIngress (State.emit { s with gtw := { s.gtw with
        building := NMap.set [] s.gtw.building k [], opened := NMap.set 0 s.gtw.opened k 0
        seqTx := NMap.set 0 s.gtw.seqTx k ((NMap.get 0 s.gtw.seqTx k + 1) % 256) } }
        (.avtpdu k (NMap.get 0 s.gtw.seqTx k) msgs)) 21
      { dstMac := beNat (slice r 8 6), srcMac := Config.engineMac, vlan := some (field r 14 2 % 4096)
        pcp := field r 14 2 / 8192, etherType := 0x22F0, len := pdu.length + 22, payload := pdu } := by
  subst hm
  unfold sendAvtpdu
  rw [if_neg hne]
  subst hr hb hp
  rfl

/-- A PDU with the sequence number that follows is no gap. -/
theorem avtpduReceive_in_sequence {sid k x : Nat} {msgs : List AcfMsg}
    (hk : ((List.range 64).find? fun j =>
      decide (sid ≠ 0 ∧ s.streamId j = sid ∧ field (s.stream j) 16 1 = 1)) = some k)
    (hx : NMap.get none s.gtw.seqRx k = some x) :
    s.avtpduReceive Config.engineMac sid ((x + 1) % 256) msgs =
      (msgs.filter fun m => decide (m.acfType = 1 ∨ m.acfType = 3)).foldl
        (fun t m => t.routeFrame (0x40 + k) (decide (m.acfType = 3)) m.frame)
        { s with gtw := { s.gtw with seqRx := NMap.set none s.gtw.seqRx k (some ((x + 1) % 256)) } } := by
  unfold avtpduReceive
  rw [if_neg (not_not_intro rfl), hk]
  dsimp only
  rw [hx, Nat.mod_mod]
  dsimp only
  rw [if_neg (by simp)]

/-! ## Input filters -/

theorem settleInput_active {line v : Nat} {t : State} (hl : line ≤ 9) (hv : v = s.get 0x2BA0 0x0B)
    (ht : t = s.set 0x2BA0 0x0B (v ||| 2 ^ line)) : s.settleInput line true =
      if t.sourceActive line then t else t.setPwr { t.pwr with stuck := t.pwr.stuck.filter (· ≠ line) } := by
  subst hv ht
  exact if_neg (by omega)

end

end State

/-- Settles O52: each event by the outcome of its function under the clause's condition. -/
theorem gatewayEvents : Obligations.GatewayEvents := by
  unfold Obligations.GatewayEvents
  intro s
  refine ⟨?rx, ?txGood, ?txBad, ?busOff, ?recovered, ?dominant, ?fault, ?retry, ?linSlot, ?linFault, ?linRecessive, ?ethDown,
    ?ethUp, ?ethSwapped, ?ingress, ?gclOn, ?gclStart, ?send, ?receive, ?fence, ?filter⟩
  case rx => exact fun p f hp ht => congrArg Host.Outcome.next (State.busReceive_can hp ht)
  case txGood => exact fun n f hl hm hf hw => congrArg Host.Outcome.next (State.canSent_good hl hm hf hw)
  case txBad => exact fun n f hl hm hf hw he => congrArg Host.Outcome.next (State.canSent_bad hl hm hf hw he)
  case busOff => exact fun n hl => congrArg Host.Outcome.next (if_pos hl)
  case recovered => exact fun n hs hr => congrArg Host.Outcome.next (if_pos ⟨hs, hr⟩)
  case dominant => exact fun n hl => congrArg Host.Outcome.next (if_pos hl)
  case fault => exact fun n cause hl h1 h4 => congrArg Host.Outcome.next ((if_pos ⟨h1, h4⟩).trans (if_pos hl))
  case retry => exact fun n hs => congrArg Host.Outcome.next (if_pos ⟨hs, rfl⟩)
  case linSlot =>
    exact fun n k pos id slots r hs hk hp hr hm hl hi =>
      congrArg Host.Outcome.next (State.linSlot_due hs hk hp hr hm hl hi)
  case linFault => exact fun n hn hs => congrArg Host.Outcome.next (if_pos ⟨hn, hs⟩)
  case linRecessive => exact fun n hn hs => congrArg Host.Outcome.next (if_pos ⟨hn, hs⟩)
  case ethDown => exact fun p result hp he hl => congrArg Host.Outcome.next (State.ethDown_falls hp he hl result)
  case ethUp => exact fun p sqi hp he hl => congrArg Host.Outcome.next (State.ethUp_rises hp he hl sqi false)
  case ethSwapped => exact fun p sqi hp he hl => congrArg Host.Outcome.next (State.ethUp_rises hp he hl sqi true)
  case ingress =>
    exact fun p vid f hp hu h3 h4 hv =>
      ⟨_, rfl, congrArg Host.Outcome.next (State.switchIngress_unpoliced hp hu h3 h4 hv rfl)⟩
  case gclOn => exact fun p hp hg => congrArg Host.Outcome.next (State.gclCycle_goes_on hp hg)
  case gclStart => exact fun p g hp hg ht => congrArg Host.Outcome.next (State.gclCycle_starts hp hg ht)
  case send =>
    intro k r msgs body pdu hr hm hne ht hb hp
    rw [hr] at ht
    exact congrArg Host.Outcome.next ((if_pos ht).trans (State.sendAvtpdu_sends hr hm hne hb hp))
  case receive =>
    exact fun sid k x msgs hk hx => congrArg Host.Outcome.next (State.avtpduReceive_in_sequence hk hx)
  case fence => exact fun hf h1 h3 => ⟨_, rfl, congrArg Host.Outcome.next (if_neg (by simp [hf]; omega))⟩
  case filter => exact fun line v t hl hv ht => congrArg Host.Outcome.next (State.settleInput_active hl hv ht)

end Sys2Proof.Machine

/-! # Hardware and time-base events (R348 to R354, R454 to R459) -/

namespace Sys2Proof.Machine

open Sys2Proof

namespace State

section
variable {s : State}

theorem goOpenLoad_notes {n : Nat} (hn : s.goOn n = true) (ho : s.hw.goOpen.contains n = false) :
    s.goOpenLoad n = State.addRecord { s with hw := { s.hw with goOpen := s.hw.goOpen ++ [n] } } St.goOpenLoad 0x18 (0x10 + n) :=
  if_pos (by rw [hn, ho]; rfl)

/-! ## Coolant (R457 to R459) -/

/-- With both sensors working the limit follows the lower reading. -/
theorem coolLimit_both {a b : Int} (ha : inRange a = true) (hb : inRange b = true) :
    s.coolLimit a b false = s.set 0x2150 5 (coolantLimit (min a b) (if s.hw.dirKnown then s.get 0x2150 3 else 300)
      (!s.hw.dirKnown || s.hw.dirReversed)) := by
  unfold coolLimit
  rw [ha, hb]
  cases s.hw.dirKnown <;> rfl

/-- A sample of two working sensors that agree: readings, limit, and the window. -/
theorem coolant_agreeing {a b : Int} (ha : inRange a = true) (hb : inRange b = true) (hd : ¬ (500 < a - b ∨ 500 < b - a))
    {t u v : State} (hv : v = (s.set 0x2150 1 (ofSigned 16 a)).set 0x2150 2 (ofSigned 16 b))
    (hu : u = v.set 0x2150 5 (coolantLimit (min a b) (if v.hw.dirKnown then v.get 0x2150 3 else 300)
      (!v.hw.dirKnown || v.hw.dirReversed)))
    (ht : t = { u with hw := { u.hw with
      cool := ({ ta := a, tb := b, power := u.get 0x2111 3 } :: u.hw.cool).take 50
      differ := 0, sensorSaid := u.hw.sensorSaid } }) : s.coolant a b = t.coolWindow := by
  rw [← coolLimit_both ha hb] at hu
  unfold coolant
  rw [ha, hb]
  subst hv hu ht
  simp only [hd, and_false, if_false, Nat.reduceLeDiff, decide_false, Bool.and_self, Bool.not_true, Bool.or_self,
    Bool.false_and, Bool.or_false, Bool.false_eq_true, if_true]

/-! ## The servo (R352, R353) -/

section
variable {n : Nat} {off : Int} {rate : Nat} {t : State} (hm : s.get (0x2210 + n) 1 = 1)
  (ht : t = s.set (0x2210 + n) 9 (ofSigned 64 off))
include hm ht

/-- With the step armed the base steps. -/
theorem servo_steps (ha : t.get (0x2210 + n) 0x0A = 1) : s.servo n off rate = (t.stepBase n
    ((((t.base n).value : Int) - off * 281474976710656) % (tbModulus : Int)).toNat).set (0x2210 + n) 8 1 := by
  subst ht
  exact (if_neg (not_not_intro hm)).trans (if_pos ha)

/-- Within a millisecond the increment is corrected, and the state is free. -/
theorem servo_corrects {lim : Nat} (ha : t.get (0x2210 + n) 0x0A ≠ 1)
    (hl : lim = rate * t.get (0x2210 + n) 7 / 1000000000) (h1 : -1000000 ≤ off) (h2 : off ≤ 1000000) {f g : Nat × State}
    (hf : f = t.fresh .choice) (hg : g = f.2.fresh .choice) :
    s.servo n off rate = (g.2.set (0x2210 + n) 4 ((rate : Int) + (((f.1 % (2 * lim + 1) : Nat) : Int) - (lim : Int))).toNat).set
      (0x2210 + n) 8 (if g.2.get (0x2210 + n) 8 = 2 then 2 else 1 + g.1 % 2) := by
  have small : decide (1000000 < off ∨ off < -1000000) = false := decide_eq_false (by omega)
  subst ht hl hf hg
  unfold servo
  rw [if_neg (not_not_intro hm)]
  dsimp only
  rw [if_neg ha, small]
  rfl

end

end

end State

/-- Settles O53: each event by the outcome of its function under the clause's condition. -/
theorem hardwareAndTimeEvents : Obligations.HardwareAndTimeEvents := by
  unfold Obligations.HardwareAndTimeEvents
  intro s
  refine ⟨?overload, ?openLoad, ?overcurrent, ?retry, ?camOpen, ?frame, ?coolant, ?snap, ?snapDenied, ?joint, ?steps,
    ?corrects, ?lost⟩
  case overload => exact fun n hn => congrArg Host.Outcome.next (if_pos hn)
  case openLoad => exact fun n hn ho => congrArg Host.Outcome.next (State.goOpenLoad_notes hn ho)
  case overcurrent => exact fun cam hc hs => congrArg Host.Outcome.next (if_pos ⟨hc, hs⟩)
  case retry => exact fun cam hc hs => congrArg Host.Outcome.next (if_pos ⟨hc, hs⟩)
  case camOpen => exact fun cam hc hs => congrArg Host.Outcome.next (if_pos ⟨hc, hs⟩)
  case frame => exact fun cam hc => ⟨_, rfl, congrArg Host.Outcome.next (if_neg (by simp [hc]))⟩
  case coolant =>
    exact fun a b ha hb hd => ⟨_, _, _, congrArg Host.Outcome.next (State.coolant_agreeing ha hb hd rfl rfl rfl), rfl, rfl, rfl⟩
  case snap => exact fun r base hr => congrArg Host.Outcome.next (if_neg (by rcases hr with h | h <;> simp [h]))
  case snapDenied => exact fun r hr => congrArg Host.Outcome.next (if_pos ⟨rfl, by simp [hr]⟩)
  case joint => exact fun r => rfl
  case steps => exact fun n off rate t hm ht ha => congrArg Host.Outcome.next (State.servo_steps hm ht ha)
  case corrects =>
    exact fun n off rate lim t hm ht ha hl h1 h2 =>
      ⟨_, _, _, rfl, rfl, congrArg Host.Outcome.next (State.servo_corrects hm ht ha hl h1 h2 rfl rfl), rfl⟩
  case lost => exact rfl

end Sys2Proof.Machine

/-! # Partition events (R358 to R372) -/

namespace Sys2Proof.Machine

open Sys2Proof

/-! ## Run B of an integer pair (R364) -/

/-- A step of the INT32 dot product, on the sums of runs A and B that agree modulo 2³² but for their sign. -/
theorem addWrap_neg_mod {a b : Int × Nat} (h : a.1 % 4294967296 = (-b.1) % 4294967296) (p : Int) :
    (addWrap a (-p, 0)).1 % 4294967296 = (-(addWrap b (p, 0)).1) % 4294967296 := by
  have ha := wrap32_mod (a.1 + -p)
  have hb := wrap32_mod (b.1 + p)
  show wrap32 (a.1 + -p) % 4294967296 = (-wrap32 (b.1 + p)) % 4294967296
  omega

/-- The sum over negated weights is the negated sum, modulo 2³². -/
theorem foldl_addWrap_neg (xs ys : List Num) {a b : Int × Nat} (h : a.1 % 4294967296 = (-b.1) % 4294967296) :
    ((List.zipWith (fun x y => x.toInt * y.toInt) xs (ys.map Num.neg)).foldl (fun a p => addWrap a (p, 0)) a).1 % 4294967296
      = (-((List.zipWith (fun x y => x.toInt * y.toInt) xs ys).foldl (fun a p => addWrap a (p, 0)) b).1) % 4294967296 := by
  induction xs generalizing ys a b with
  | nil => exact h
  | cons x xs ih =>
    cases ys with
    | nil => exact h
    | cons y ys =>
      refine ih ys ?_
      dsimp only
      rw [Num.toInt_neg, Int.mul_neg]
      exact addWrap_neg_mod h _

/-- A sum of INT32 products is an INT32 value. -/
theorem wrap32_foldl_addWrap (ps : List Int) {a : Int × Nat} (h : wrap32 a.1 = a.1) :
    wrap32 (ps.foldl (fun a p => addWrap a (p, 0)) a).1 = (ps.foldl (fun a p => addWrap a (p, 0)) a).1 := by
  induction ps generalizing a with
  | nil => exact h
  | cons p ps ih => exact ih (wrap32_wrap32 _)

/-- Negating the weights and then the sum gives run A's sum. -/
theorem intDot_neg (xs ys : List Num) : wrap32 (-(intDot xs (ys.map Num.neg)).1) = (intDot xs ys).1 := by
  have h := foldl_addWrap_neg xs ys (a := (0, 0)) (b := (0, 0)) rfl
  have wrapped : wrap32 (intDot xs ys).1 = (intDot xs ys).1 := wrap32_foldl_addWrap _ (by decide)
  rw [← wrapped]
  refine wrap32_of_mod ?_
  unfold intDot
  omega

section
variable {g : Gemm} (n sl i : Nat) (xs ys : List Num)

/-- For the integer class run B leaves run A's value; the flags of each run are its own. -/
theorem Gemm.partB_int (hg : g.int = true) :
    ∃ (p : Int) (f h : Nat), g.part n sl i xs ys = .int p f ∧ g.partB n sl i xs ys = .int p h := by
  unfold Gemm.partB Gemm.part
  simp only [hg, if_true, ← List.map_drop, ← List.map_take, intDot_neg]
  exact ⟨_, _, _, rfl, rfl⟩

theorem Gemm.partB_float (hg : g.int = false) : g.partB n sl i xs ys = g.part n sl i xs ys :=
  if_neg (Bool.eq_false_iff.1 hg)

end

namespace State

section
variable {s : State}

/-! ## Windows (R189, R190, R359) -/

section
variable {w : Nat} {r : Nat × Nat × Nat × Nat} (hr : s.windowRec w = some r)
include hr

theorem leadStart_due (hf : s.get 0x2320 1 ≠ 0) (hl : s.saf.layoutInForce = true) (hp : s.partActive r.2.2.2 = true)
    (hi : (s.winState w).phase = .idle) (hd : s.leadDue r = true) : s.leadStart w =
      ((maskEngines r.2.2.1).foldl (fun t e => t.clearEngine r.2.2.2 e)
        (s.setWin w { phase := .lead })).dealWaiting.serveAll := by
  unfold leadStart
  rw [hr]
  exact if_neg (by simp [hf, hl, hp, hi, hd])

theorem windowBegin_starts (hl : (s.winState w).phase = .lead) (ht : s.sinceStart r.1 < 1000 * r.2.1) :
    s.windowBegin w = s.setWin w { phase := .running, start := s.now - s.sinceStart r.1
                                   late := (maskEngines r.2.2.1).filter (s.foreignTo r.2.2.2) } := by
  unfold windowBegin
  rw [hr]
  exact if_neg (by simp [hl]; omega)

/-- A window that no engine joined late ends, with no tuning frame running. -/
theorem windowFinish_ends (hp : (s.winState w).phase = .running) (ht : (s.winState w).start + 1000 * r.2.1 ≤ s.now)
    (hl : (s.winState w).late = []) (hf : ((s.setWin w {}).tframe r.2.2.2).phase ≠ .running) :
    s.windowFinish w = (s.setWin w {}).dealWaiting.serveAll := by
  unfold windowFinish
  rw [hr]
  dsimp only
  rw [if_neg (by simp [hp]; omega), hl]
  exact congrArg (fun t => (State.dealWaiting t).serveAll) (if_neg fun h => hf h.1)

end

/-! ## Redundant pairs (R365, R366) -/

section
variable {e : Nat} {t : Tile}

theorem pairCompare_equal (hr : (s.engine e).running = some t) (ht : t.run = 2) (hp : s.pairPoison t = none) (a : Signature) :
    s.pairCompare e a a none = ((s.countDone e t).settleTicks e 0 t).endTile e := by
  unfold pairCompare
  rw [hr]
  dsimp only
  rw [if_neg (not_not_intro ht), hp]
  exact if_neg (by simp)

theorem pairCompare_differs (hr : (s.engine e).running = some t) (ht : t.run = 2) (hp : s.pairPoison t = none)
    {a b : Signature} (hab : a ≠ b) : s.pairCompare e a b none = (s.mismatch e t).reachA1 e := by
  unfold pairCompare
  rw [hr]
  dsimp only
  rw [if_neg (not_not_intro ht), hp]
  exact if_pos (by simp [hab])

/-- Run B met a parity failure in data that exists nowhere else. -/
theorem pairCompare_dirty {detail : Nat} {u : State} (hr : (s.engine e).running = some t) (ht : t.run = 2)
    (hu : u = (s.parityEvent e detail).loseCopy t detail) (hp : u.pairPoison t = none) (a b : Signature) :
    s.pairCompare e a b (some (.dirty detail)) = (u.mismatch e t).reachA1 e := by
  subst hu
  unfold pairCompare
  rw [hr]
  dsimp only
  rw [if_neg (not_not_intro ht), hp]
  rfl

theorem selftestDone_fails (hs : (s.engine e).selftest = some t) : s.selftestDone e false = s.quarantine e 2 := by
  unfold selftestDone
  rw [hs]
  rfl

theorem selftestDone_passes (hs : (s.engine e).selftest = some t) : s.selftestDone e true =
    State.endTile (if 2 ≤ t.mism then s.setEngine e { s.engine e with selftest := none }
      else if s.mayRun e { t with run := 1 } then
        State.stageTile (s.setEngine e { s.engine e with
          selftest := none, running := some { t with run := 1 } }) e { t with run := 1 }
      else s.setEngine e { s.engine e with
        selftest := none, queue := State.insertTile (s.engine e).queue { t with run := 1 } }) e := by
  unfold selftestDone
  rw [hs]
  rfl

end

/-! ## Tuning frames (R369 to R371) -/

section
variable {k w : Nat}

theorem tuningStart_runs (hp : s.partActive k = true) (hl : s.get (0x2330 + k) 1 ≠ 0) (hi : (s.tframe k).phase = .idle)
    (hw : w = s.get (0x2330 + k) 6) (hr : (s.winState w).phase = .running)
    (hn : s.get 0x2320 4 % max 1 (s.get (0x2330 + k) 0x0A) = 0)
    (ht : (s.winState w).start + 1000 * s.get (0x2330 + k) 7 ≤ s.now) : s.tuningStart k =
      ((s.setTframe k { phase := .running, pinned := (s.tframe k).pinned }).issueFrame k (s.tframe k).pinned).dealFrames k := by
  subst hw
  exact if_neg (by simp [hp, hl, hi, hr, hn]; omega)

/-- Engines that have not begun drop their tiles of the frame. -/
theorem tuningLatest_drops {own : Nat → List Tile} {late : List Nat} (hp : (s.tframe k).phase = .running)
    (hc : (s.tframe k).calib = false) (hw : w = s.get (0x2330 + k) 6) (hr : (s.winState w).phase = .running)
    (ht : (s.winState w).start + 1000 * s.get (0x2330 + k) 8 ≤ s.now)
    (ho : own = fun e => (s.engine e).queue.filter fun t => decide (t.tuning = k + 1))
    (hl : late = (List.range 16).filter fun e => !(s.tframe k).begun.contains e && decide (own e ≠ [])) (hne : late ≠ []) :
    s.tuningLatest k = State.serveAll (State.frameUnverified (late.foldl (fun u e =>
      (own e).foldl (fun v t =>
        let x := v.setEngine e { v.engine e with queue := (v.engine e).queue.erase t }
        match x.desc t.q t.n with
        | some d => x.setDesc t.q t.n { d with left := d.left - 1, undef := d.undef ++ [t.t] }
        | none => x) u) s) k) := by
  subst hw ho hl
  exact (if_neg (by simp [hp, hc, hr]; omega)).trans (if_neg hne)

/-- A frame of which every descriptor has completed is judged and ends. -/
theorem tuningDone_judged {q : Nat} {t u : State} (hp : (s.tframe k).phase = .running) (hq : q = frameQueue k)
    (hd : ∀ n d, (n, some d) ∈ (s.queue q).desc → d.phase = .done) (hc : (s.tframe k).calib = false)
    (hf : (s.tframe k).failed = false)
    (ht : t = (s.judgeFrame k).setTframe k { phase := .ended, pinned := (s.tframe k).pinned })
    (hu : u = { t with que := { t.que with queues := NMap.set {} t.que.queues q {} } }) :
    s.tuningDone k = u.reap.reapSeqs.serveAll := by
  subst hq ht hu
  unfold tuningDone
  dsimp only
  rw [if_neg, hc, hf]
  · rfl
  · rintro (h | h)
    · exact h hp
    · obtain ⟨⟨n, x⟩, he, hx⟩ := List.any_eq_true.1 h
      cases x with
      | none => exact Bool.false_ne_true hx
      | some d => exact (of_decide_eq_true hx) (hd n d he)

end

end

end State

/-- Settles O54: each event by the outcome of its function under the clause's condition, and run B by `intDot_neg`. -/
theorem partitionEvents : Obligations.PartitionEvents := by
  unfold Obligations.PartitionEvents
  intro s
  refine ⟨?boundary, ?lead, ?start, ?finish, ?equal, ?differs, ?dirty, ?fails, ?passes, ?tuning, ?latest, ?judged, ?runB⟩
  case boundary =>
    exact fun h1 h2 => ⟨_, _, _, congrArg Host.Outcome.next (if_neg (not_or.2 ⟨h1, h2⟩)), rfl, rfl, rfl⟩
  case lead => exact fun w r hr hf hl hp hi hd => congrArg Host.Outcome.next (State.leadStart_due hr hf hl hp hi hd)
  case start => exact fun w r hr hl ht => congrArg Host.Outcome.next (State.windowBegin_starts hr hl ht)
  case finish => exact fun w r hr hp ht hl hf => congrArg Host.Outcome.next (State.windowFinish_ends hr hp ht hl hf)
  case equal => exact fun e t a hr ht hp => congrArg Host.Outcome.next (State.pairCompare_equal hr ht hp a)
  case differs => exact fun e t a b hr ht hp hab => congrArg Host.Outcome.next (State.pairCompare_differs hr ht hp hab)
  case dirty =>
    exact fun e detail t a b u hr ht hu hp => congrArg Host.Outcome.next (State.pairCompare_dirty hr ht hu hp a b)
  case fails => exact fun e t hs => congrArg Host.Outcome.next (State.selftestDone_fails hs)
  case passes => exact fun e t hs => congrArg Host.Outcome.next (State.selftestDone_passes hs)
  case tuning =>
    exact fun k w hp hl hi hw hr hn ht => congrArg Host.Outcome.next (State.tuningStart_runs hp hl hi hw hr hn ht)
  case latest =>
    exact fun k w own late hp hc hw hr ht ho hl hne =>
      congrArg Host.Outcome.next (State.tuningLatest_drops hp hc hw hr ht ho hl hne)
  case judged =>
    exact fun k q t u hp hq hd hc hf ht hu => congrArg Host.Outcome.next (State.tuningDone_judged hp hq hd hc hf ht hu)
  case runB => exact fun g n sl i xs ys => ⟨Gemm.partB_int n sl i xs ys, Gemm.partB_float n sl i xs ys⟩

end Sys2Proof.Machine

/-! # Self-test and Rearguard events (R373 to R386) -/

namespace Sys2Proof.Machine

open Sys2Proof

namespace State

section
variable {s : State}

/-! ## Rotating self-tests (R373 to R376) -/

section
variable {u : TestUnit}

theorem sliceStart_starts (ht : s.tested u = true) (hr : (s.drone u).running = false) (hi : s.unitIdle u = true)
    (hf : s.sliceFits u = true) : s.sliceStart u =
      State.noteBusy (State.setDrone (State.leaveIdle (if u = .serai then s.emptyRegion else s)) u
        { s.drone u with running := true }) :=
  if_pos (by simp [ht, hr, hi, hf])

theorem checkpoint_abandons (hr : (s.drone u).running = true) (hw : s.leadBegun u = true ∨ s.partitionWaits u = true) :
    s.checkpoint u = ((s.setDrone u { s.drone u with running := false }).bump32 0x2340 5).unitTakes u :=
  if_pos (Bool.and_eq_true_iff.2 ⟨hr, Bool.or_eq_true_iff.2 hw⟩)

theorem sliceDone_passes {t : State} (hr : (s.drone u).running = true)
    (ht : t = s.setDrone u { s.drone u with running := false, ran := (s.drone u).ran + 1 }) :
    s.sliceDone u true = State.unitTakes (if unitSlices u ≤ (s.drone u).ran + 1 then t.passDone u else t) u := by
  subst ht
  unfold sliceDone
  dsimp only
  rw [if_neg (by simp [hr]), Bool.not_true, Bool.or_false]
  rfl

theorem sliceDone_fails {e : Nat} {w : List Byte} {t : State} (hr : (s.drone u).running = true)
    (hw : w = leBytes 2 (unitNo u) ++ leBytes 1 (s.drone u).ran) (he : e = if unitNo u < 16 then unitNo u else 0xFF)
    (ht : t = ((s.setDrone u { s.drone u with
      running := false, ran := (s.drone u).ran + 1, failed := true }).safetyRecord St.selftestFailed 0x0F 0xFF w 0xFF e).doubt
        St.selftestFailed 0xFF e w) :
    s.sliceDone u false = State.unitTakes (if unitSlices u ≤ (s.drone u).ran + 1 then t.passDone u else t) u := by
  subst ht hw he
  unfold sliceDone
  dsimp only
  rw [if_neg (by simp [hr]), Bool.not_false, Bool.or_true]
  rfl

/-- The interval is exceeded, and not yet twice. -/
theorem intervalExceeded_once {t : State} (ht : s.tested u = true) (he : (s.drone u).exceeded = false)
    (hl : (s.drone u).since + 1000000 * s.get 0x2340 2 < s.now)
    (h : t = (s.setDrone u { s.drone u with exceeded := true }).safetyRecord St.latentWindowExceeded 0x0F 0xFF
      (leBytes 2 (unitNo u)) 0xFF (if unitNo u < 16 then unitNo u else 0xFF))
    (hn : t.now ≤ (s.drone u).since + 2 * (1000000 * s.get 0x2340 2)) : s.intervalExceeded u = t := by
  have first : (s.drone u).since + 1000000 * s.get 0x2340 2 < s.now ∧ (!(s.drone u).exceeded) = true := ⟨hl, by simp [he]⟩
  subst h
  unfold intervalExceeded
  dsimp only
  rw [if_neg (by simp [ht]), if_pos first]
  exact if_neg fun h => Nat.not_lt.2 hn h.1

/-- Twice the interval is exceeded. -/
theorem intervalExceeded_twice (ht : s.tested u = true) (he : (s.drone u).exceeded = true)
    (hd : (s.drone u).doubled = false) (hl : (s.drone u).since + 2 * (1000000 * s.get 0x2340 2) < s.now) :
    s.intervalExceeded u = (s.setDrone u { s.drone u with doubled := true }).doubt
      St.latentWindowExceeded 0xFF (if unitNo u < 16 then unitNo u else 0xFF) (leBytes 2 (unitNo u)) := by
  have noFirst : ¬ ((s.drone u).since + 1000000 * s.get 0x2340 2 < s.now ∧ (!(s.drone u).exceeded) = true) := by simp [he]
  unfold intervalExceeded
  dsimp only
  rw [if_neg (by simp [ht]), if_neg noFirst]
  exact if_pos ⟨hl, by simp [hd]⟩

end

/-! ## Heartbeat and take-over (R378 to R382) -/

theorem loseBeat_loses {t : Nat} (hb : s.saf.lastBeat = some t) (hr : s.pwr.inReset = false) (hh : s.beatHeld = false)
    (hl : s.saf.beatLost = false) (ht : t + 1000000 * s.get 0x2350 7 < s.now) :
    s.loseBeat = State.doubt (State.safetyRecord { s with
      saf := { s.saf with beatLost := true }, rg := { s.rg with beatSince := none } } St.heartbeatLost 0x0F 0xFF [] 0xFF 0xFF)
        St.heartbeatLost := by
  unfold loseBeat
  rw [hb]
  exact if_neg (by simp [hr, hh, hl]; omega)

/-- In state 0 the first signal takes over, and the others are further doubts. -/
theorem rearguardTakeover_takes {c : Nat} {cs : List Nat} (h0 : s.rg.state = 0) (hr : s.rg.restarting = false)
    (hs : s.rg.signals = c :: cs) :
    s.rearguardTakeover c = cs.foldl State.furtherDoubt (State.takeOver { s with rg := { s.rg with signals := [] } } c) := by
  unfold rearguardTakeover actOnSignals
  rw [if_pos (by simp [h0, hr, hs]), if_neg (by simp [h0, hr]), hs]
  exact if_pos h0

theorem rearguardStart_reaches {copies : List (List Byte)} {v : Nat} {t : State} (h5 : s.rg.state = 5)
    (hv : s.verifyCopies 3 copies = some v) (ht : t = s.setRunning 3 v) (hr : t.rg.restarting = false)
    (ht5 : t.rg.state = 5) :
    s.rearguardStart copies = State.actOnSignals { t with rg := { t.rg with state := 0, restarting := false } } := by
  subst ht
  unfold rearguardStart
  rw [if_neg (by simp [h5]), hv]
  dsimp only
  rw [if_neg (Bool.eq_false_iff.1 hr), ht5]
  rfl

theorem rearguardStart_fails {copies : List (List Byte)} (h : s.rg.state = 5 ∨ s.rg.restarting = true)
    (hv : s.verifyCopies 3 copies = none) :
    s.rearguardStart copies = s.addRecord St.bootVerifyFailed 0x0E 0xFF (leBytes 1 3) := by
  unfold rearguardStart
  rw [if_neg (by rcases h with h | h <;> simp [h]), hv]

/-! ## The status frame (R381, R383) -/

/-- A frame is due that the last one does not forbid. -/
theorem statusFrame_sends {id st : Nat} {t u : State} (h0 : s.rg.state ≠ 0) (h5 : s.rg.state ≠ 5)
    (hr : s.rg.restarting = false) (hl : ∀ x, s.rg.lastFrame = some x → x + 100000000 ≤ s.rg.time)
    (hst : st = if s.rg.state = 2 ∧ s.rqProgress = 31 then 3 else s.rg.state) (hid : id = Config.fn 0x801 [] % 536870912)
    (ht : t = { s with rg := { s.rg with state := st } })
    (hu : u = (t.emit (.rearguard 0 id t.statusBytes)).emit (.rearguard 1 id t.statusBytes)) :
    s.statusFrame = { u with rg := { u.rg with counter := (u.rg.counter + 1) % 256, lastFrame := some u.rg.time } } := by
  subst hst hid ht hu
  unfold statusFrame
  refine if_neg (not_or.2 ⟨h0, not_or.2 ⟨h5, not_or.2 ⟨Bool.eq_false_iff.1 hr, ?_⟩⟩⟩)
  cases hx : s.rg.lastFrame with
  | none => simp
  | some x => simp [hl x hx]

end

end State

/-- Settles O55: each event by the outcome of its function under the clause's condition. -/
theorem selfTestAndRearguardEvents : Obligations.SelfTestAndRearguardEvents := by
  unfold Obligations.SelfTestAndRearguardEvents
  intro s
  refine ⟨?start, ?checkpoint, ?passes, ?fails, ?once, ?twice, ?claim, ?beat, ?lost, ?takeover, ?reset, ?powerUp, ?badImage,
    ?manoeuvre, ?status, ?lockstep⟩
  case start => exact fun u ht hr hi hf => congrArg Host.Outcome.next (State.sliceStart_starts ht hr hi hf)
  case checkpoint => exact fun u hr hw => congrArg Host.Outcome.next (State.checkpoint_abandons hr hw)
  case passes => exact fun u t hr ht => congrArg Host.Outcome.next (State.sliceDone_passes hr ht)
  case fails => exact fun u e w t hr hw he ht => congrArg Host.Outcome.next (State.sliceDone_fails hr hw he ht)
  case once => exact fun u t ht he hl h hn => congrArg Host.Outcome.next (State.intervalExceeded_once ht he hl h hn)
  case twice => exact fun u ht he hd hl => congrArg Host.Outcome.next (State.intervalExceeded_twice ht he hd hl)
  case claim => exact fun u ht hl => congrArg Host.Outcome.next (if_pos (by simp [ht, hl]))
  case beat =>
    intro i hi hh hf
    refine congrArg Host.Outcome.next (if_pos (Bool.and_eq_true_iff.2 ⟨hf, List.any_eq_true.2 ⟨i, List.mem_range.2 hi, ?_⟩⟩))
    rw [hh]
    rfl
  case lost => exact fun t hb hr hh hl ht => congrArg Host.Outcome.next (State.loseBeat_loses hb hr hh hl ht)
  case takeover => exact fun c cs h0 hr hs => congrArg Host.Outcome.next (State.rearguardTakeover_takes h0 hr hs)
  case reset => exact fun cause hs => congrArg Host.Outcome.next (if_neg (by simp [hs]))
  case powerUp =>
    exact fun a b v t h5 _ hv ht hr ht5 => congrArg Host.Outcome.next (State.rearguardStart_reaches h5 hv ht hr ht5)
  case badImage => exact fun a b h hv => congrArg Host.Outcome.next (State.rearguardStart_fails h hv)
  case manoeuvre => exact fun h1 hr => congrArg Host.Outcome.next (if_pos ⟨h1, by simp [hr]⟩)
  case status =>
    exact fun id st t u h0 h5 hr hl hst hid ht hu =>
      congrArg Host.Outcome.next (State.statusFrame_sends h0 h5 hr hl hst hid ht hu)
  case lockstep => exact fun h5 => congrArg Host.Outcome.next (if_neg h5)

end Sys2Proof.Machine

/-! # Security, hart and debug events (R392 to R408, R437 to R440) -/

namespace Sys2Proof.Machine

open Sys2Proof

namespace State

section
variable {s : State}

/-- The scrub's end zeroes the released range and lowers the watermark. -/
theorem scrubDone_releases {lo : Nat} (h : s.sec.target = some lo) : s.scrubDone =
    ((s.chargeRange .scrubber lo (s.sec.watermark - lo)).zeroMem lo (s.sec.watermark - lo)).raiseWatermark lo := by
  unfold scrubDone
  rw [h]

/-! ## Hart control (R439) -/

section
variable {h : Nat} (hh : isHart h = true) (hs : s.hartScope h = true)
include hh hs

theorem dmHalt_halts (h28 : h < 28) (hm : 24 ≤ h ∨ (s.hart h).mode ≠ .m ∨ s.sec.scope.testBit 3 = true) :
    s.dmHalt h = s.setHart h { s.hart h with halted := true, haltPending := false, resumeAck := false } := by
  have unheld : ¬ (h < 24 ∧ (s.hart h).mode = .m ∧ (!s.sec.scope.testBit 3) = true) := by
    rintro ⟨h24, hmode, hsec⟩
    rcases hm with h1 | h1 | h1
    · omega
    · exact h1 hmode
    · simp [h1] at hsec
  unfold dmHalt
  rw [if_neg (by simp [hh]), if_neg (by simp [hs])]
  exact (if_neg unheld).trans (if_neg (by omega))

/-- In M-mode without SECURE the halt is held. -/
theorem dmHalt_held (h24 : h < 24) (hm : (s.hart h).mode = .m) (hsec : s.sec.scope.testBit 3 = false) :
    s.dmHalt h = s.setHart h { s.hart h with haltPending := true } := by
  unfold dmHalt
  rw [if_neg (by simp [hh]), if_neg (by simp [hs])]
  exact if_pos ⟨h24, hm, by simp [hsec]⟩

section
variable (hx : (s.hart h).halted = true)
include hx

theorem dmResume_resumes : s.dmResume h =
    (s.resumeHart h).setHart h { (s.resumeHart h).hart h with resumeAck := true } := by
  unfold dmResume
  rw [if_neg (by simp [hh]), if_neg (by simp [hs]), if_pos hx]

theorem dmStep_steps (e : StepEffect) (hd : (csrGet (s.hart h) 0x7B0).getLsbD 2 = true) :
    s.dmStep h e = s.setHart h (csrPut { s.hart h with
      x := e.writesX.foldl (fun m w => if w.1 = 0 ∨ 31 < w.1 then m else NMap.set 0 m w.1 w.2) (s.hart h).x, pc := e.nextPc }
      0x7B0 ((csrGet (s.hart h) 0x7B0 &&& ~~~0x1C0#64) ||| 0x100)) := by
  unfold dmStep
  dsimp only
  rw [if_neg (by simp [hh]), if_neg (by simp [hs]), if_pos (Bool.and_eq_true_iff.2 ⟨hx, hd⟩)]

/-- An x register of a halted hart other than x0. -/
theorem accessRegister_x {r : Nat} (h0 : 0 < r) (h32 : r < 32) (write : Bool) (v : BitVec 64) :
    s.accessRegister h write (0x1000 + r) v =
      if write then (none, s.setHart h { s.hart h with x := NMap.set 0 (s.hart h).x r v })
      else (some (NMap.get 0 (s.hart h).x r), s) := by
  have nonzero : r ≠ 0 := by omega
  unfold accessRegister
  dsimp only
  rw [if_neg (by simp [hh, hs]), if_neg (by simp [hx]), if_neg (by omega), if_pos (by omega), Nat.add_sub_cancel_left,
    if_neg nonzero, if_neg nonzero]

end

end

/-! ## System bus (R440) -/

/-- An access inside HBM that the scopes and the window allow goes to the memory. -/
theorem systemBus_hbm {size a : Nat} (h0 : s.sec.scope ≠ 0) (ht : s.sbaCovered (s.get 0x2E02 1) = true)
    (hz : size = 1 ∨ size = 2 ∨ size = 4 ∨ size = 8) (ha : a % size = 0) (hc : ¬ (0x1003000000 ≤ a ∧ a < 0x1003010000))
    (hin : inHbm (a + size - 1) = true) (hr : s.refuses .debug a size = false) (write : Bool) (v : BitVec 64) :
    s.systemBus write size a v = if write then (none, s.request
        { m := .debug, write := true, addr := a, len := size, data := leBytes size v.toNat, report := .ok, pc := none })
      else (if (granulesOf a size).any (fun g => s.mem.poisoned.contains g) then none else some (leNat (s.readMem a size)),
        s.request { m := .debug, write := false, addr := a, len := size, data := [], report := .ok, pc := none }) := by
  unfold systemBus
  rw [if_neg (by simp [h0, ht]), if_neg (by rcases hz with rfl | rfl | rfl | rfl <;> decide), if_neg (not_not_intro ha),
    if_neg hc, if_neg (by simp [hin]), if_neg (Bool.eq_false_iff.1 hr)]

end

end State

/-! ## Timers (R402, R403) -/

/-- R402. -/
theorem exec_noticeTimeout {s : State} {t : Nat} (h : s.sec.noticeStart = some t) (hp : s.get 0x2D30 4 = 1)
    (ht : t + 1000000 * s.get 0x2D30 2 ≤ s.now) : exec .noticeTimeout s = .next (s.set 0x2D30 4 2) := by
  show execNoticeTimeout s = _
  unfold execNoticeTimeout
  rw [h]
  exact congrArg Host.Outcome.next (if_pos ⟨hp, ht⟩)

/-- R403. -/
theorem exec_secureWatchdog {s : State} {t : Nat} (h : s.sec.swdStart = some t) (hp : s.sec.swdPaused = none)
    (ht : t + 1000000 * s.get 0x2D20 1 ≤ s.now) : exec .secureWatchdog s = .next (State.resetMain { s with
      pwr := { s.pwr with bootRecords := s.pwr.bootRecords ++ [St.secureWatchdog] } } false) := by
  show execSecureWatchdog s = _
  unfold execSecureWatchdog
  rw [h]
  exact congrArg Host.Outcome.next (if_neg (by simp [hp]; omega))

/-- Settles O56: each event by the outcome of its function under the clause's condition. -/
theorem securityAndHartEvents : Obligations.SecurityAndHartEvents := by
  unfold Obligations.SecurityAndHartEvents
  intro s
  refine ⟨?scrub, ?menclave, ?trap, ?mret, ?notice, ?watchdog, ?lockout⟩
  case scrub => exact fun lo h => congrArg Host.Outcome.next (State.scrubDone_releases h)
  case menclave => exact fun h v hm => congrArg Host.Outcome.next (if_pos hm)
  case trap => exact fun h => rfl
  case mret =>
    intro h into y hh hm hi hy
    subst hy
    exact (exec_mret h into s).trans (congrArg Host.Outcome.next (State.mret_leaves hh hm hi))
  case notice => exact fun t h hp ht => exec_noticeTimeout h hp ht
  case watchdog => exact fun t h hp ht => exec_secureWatchdog h hp ht
  case lockout => exact fun hl ht => congrArg Host.Outcome.next (if_pos ⟨hl, ht⟩)

/-- Settles O57: each access by the outcome of its function under the clause's condition. -/
theorem debugEvents : Obligations.DebugEvents := by
  unfold Obligations.DebugEvents
  intro s
  refine ⟨rfl, rfl, rfl, ?bypass, ?noScope, ?dmiWrite, ?dmiRead, ?halt, ?held, ?resume, ?step, ?register, ?bus⟩
  case bypass => exact fun code h1 h2 h3 => congrArg Host.Outcome.next (if_neg (by simp [h1, h2, h3]))
  case noScope => exact fun w a v h0 => ⟨_, rfl, congrArg Host.Outcome.next (if_pos h0)⟩
  case dmiWrite => exact fun a v h0 => congrArg Host.Outcome.next (if_neg h0)
  case dmiRead => exact fun a v h0 => ⟨_, rfl, congrArg Host.Outcome.next (if_neg h0)⟩
  case halt => exact fun h hh hs h28 hm => congrArg Host.Outcome.next (State.dmHalt_halts hh hs h28 hm)
  case held => exact fun h hh hs h24 hm hsec => congrArg Host.Outcome.next (State.dmHalt_held hh hs h24 hm hsec)
  case resume => exact fun h hh hs hx => congrArg Host.Outcome.next (State.dmResume_resumes hh hs hx)
  case step =>
    intro h e x hx hh hs hd hb
    subst hx
    exact congrArg Host.Outcome.next (State.dmStep_steps hh hs hd e hb)
  case register =>
    intro h r v hh hs hx h0 h32
    exact ⟨congrArg Host.Outcome.next (congrArg Prod.snd (State.accessRegister_x hh hs hx h0 h32 true v)),
      congrArg (fun r : Option (BitVec 64) × State => Host.Outcome.next (r.2.emit (.readData (r.1.map BitVec.toNat))))
        (State.accessRegister_x hh hs hx h0 h32 false v)⟩
  case bus =>
    intro size a v h0 ht hz ha hc hin hr
    refine ⟨congrArg Host.Outcome.next (congrArg Prod.snd (State.systemBus_hbm h0 ht hz ha hc hin hr true v)), fun hp => ?_⟩
    have clean : (State.granulesOf a size).any (fun g => s.mem.poisoned.contains g) = false := by simp [hp]
    have read := State.systemBus_hbm h0 ht hz ha hc hin hr false v
    rw [clean] at read
    exact congrArg (fun r : Option Nat × State => Host.Outcome.next (r.2.emit (.readData r.1))) read

end Sys2Proof.Machine

/-! # Power states (R409 to R428) -/

namespace Sys2Proof.Machine

open Sys2Proof

namespace State

section
variable {s : State}

theorem leaveIdle_of_idle (h : s.pwrState = 1) : s.leaveIdle =
    ((s.set 0x2120 3 0).releaseIslands).setPwr { s.pwr with dwell := false, busyAt := s.now } :=
  if_pos h

/-! ## SLEEP (R411, R412) -/

theorem enterSleep_begins (he : s.pwr.entering = none) (hm : s.mayEnter 2 = true) {t : State}
    (ht : t = s.leaveIdle.noteStuck.stopCores.parkPhys) :
    s.enterSleep = t.setPwr { t.pwr with entering := some (2, 2) } := by
  unfold enterSleep
  rw [he]
  dsimp only
  rw [if_pos hm, ← ht]

theorem enterSleep_passes (he : s.pwr.entering = some (2, 2)) (hw : s.pwr.wake = none) :
    s.enterSleep = s.setPwr { s.pwr with entering := some (2, 3) } := by
  unfold enterSleep
  rw [he]
  exact if_neg (by simp [hw])

theorem enterSleep_completes {n : Nat} (he : s.pwr.entering = some (2, n)) (hn : n ≠ 2) :
    s.enterSleep = (((s.setPwr { s.pwr with entering := none }).gateIslands).setTarget 550).set 0x2120 3 2 := by
  unfold enterSleep
  rw [he]
  rcases n with _ | _ | _ | n
  · rfl
  · rfl
  · exact absurd rfl hn
  · rfl

theorem exitSleep_runs {t u v : State} (hs : s.pwrState = 2) (ht : t = s.noteWorkWake)
    (hu : u = t.setTarget (if t.govFixed then t.get 0x2110 5 else t.voltageFor t.ceiling))
    (hv : v = u.regulatorSettled.releaseIslands) :
    s.exitSleep = (v.setPwr { v.pwr with wake := none }).resumeCores.set 0x2120 3 0 := by
  subst ht hu hv
  exact if_neg (not_not_intro hs)

/-! ## DEEP SLEEP (R411, R413, R414) -/

theorem enterDeep_opens (he : s.pwr.entering = none) (hm : s.mayEnter 3 = true) : s.enterDeep = s.openNotice 3 := by
  unfold enterDeep
  rw [he]
  exact if_pos hm

theorem enterDeep_copies (he : s.pwr.entering = some (3, 1)) (hn : s.get 0x2D30 4 = 2) :
    s.enterDeep = s.stopCores.setPwr { s.stopCores.pwr with entering := some (3, 2), resumeCopy := true } := by
  unfold enterDeep
  rw [he]
  exact if_pos hn

theorem enterDeep_signals (he : s.pwr.entering = some (3, 2)) (hw : s.pwr.wake = none) :
    s.enterDeep = s.setPwr { s.pwr with entering := some (3, 3), controlled := true } := by
  unfold enterDeep
  rw [he]
  exact if_neg (by simp [hw])

theorem enterDeep_passes (he : s.pwr.entering = some (3, 3)) (hw : s.pwr.wake = none) :
    s.enterDeep = s.setPwr { s.pwr with entering := some (3, 4) } := by
  unfold enterDeep
  rw [he]
  exact if_neg (by simp [hw])

theorem enterDeep_completes (he : s.pwr.entering = some (3, 4)) {t : State}
    (ht : t = s.parkPhys.loseOnChip.loseHbm.set 0x2D30 4 0) :
    s.enterDeep = (t.gateIslands.setPwr { t.gateIslands.pwr with entering := none }).set 0x2120 3 3 := by
  subst ht
  unfold enterDeep
  rw [he]
  rfl

section
variable (hs : s.pwrState = 3) (hw : s.pwr.wake.isSome = true)
include hs hw

theorem exitDeep_resumes {t u : State} (ht : t = s.setTarget (if s.govFixed then s.get 0x2110 5 else s.voltageFor s.ceiling))
    (hu : u = t.regulatorSettled.releaseIslands) : s.exitDeep true =
      ((u.setPwr { u.pwr with wake := none, resumeCopy := false, controlled := false }).startHarts.setHart 0
        { mode := .hs }).resumeCores.set 0x2120 3 0 := by
  subst ht hu
  exact (if_neg (by simp [hs, Option.isSome_iff_ne_none.1 hw])).trans (if_pos rfl)

theorem exitDeep_restarts : s.exitDeep false =
    (s.setPwr { s.pwr with bootRecords := s.pwr.bootRecords ++ [St.deepRestoreFailed] }).resetMain true :=
  (if_neg (by simp [hs, Option.isSome_iff_ne_none.1 hw])).trans (if_neg Bool.false_ne_true)

end

/-! ## OFF (R411, R415) -/

theorem enterOff_opens (he : s.pwr.entering = none) (hm : s.mayEnter 4 = true) : s.enterOff = s.openNotice 4 := by
  unfold enterOff
  rw [he]
  exact if_pos hm

theorem enterOff_stops (he : s.pwr.entering = some (4, 1)) (hn : s.get 0x2D30 4 = 2) :
    s.enterOff = s.stopCores.setPwr { s.stopCores.pwr with entering := some (4, 2), controlled := true } := by
  unfold enterOff
  rw [he]
  exact if_pos hn

theorem enterOff_passes (he : s.pwr.entering = some (4, 2)) (hw : s.pwr.wake = none) :
    s.enterOff = s.setPwr { s.pwr with entering := some (4, 3) } := by
  unfold enterOff
  rw [he]
  exact if_neg (by simp [hw])

theorem enterOff_completes (he : s.pwr.entering = some (4, 3)) {t : State}
    (ht : t = ((List.range 4).foldl State.linkDown s).parkPhys.loseHbm.set 0x2D30 4 0) :
    s.enterOff = (t.setPwr { t.pwr with entering := none }).set 0x2120 3 4 := by
  subst ht
  unfold enterOff
  rw [he]
  rfl

theorem exitOff_starts (hs : s.pwrState = 4) (hw : s.pwr.wake.isSome = true) :
    s.exitOff = State.setB { s.resetMain true with time := {} } 0x2140 4 (State.lastWakeBytes 0 4 0 0) :=
  if_neg (by simp [hs, Option.isSome_iff_ne_none.1 hw])

/-! ## Wake sources (R420 to R425) -/

section
variable {src : Nat} (hsrc : src ≤ 38) (he : s.sourceEnabled src = true) (hw : wakesFrom src s.wakeState = true)
  (hk : s.pwr.stuck.contains src = false) (ha : src ≤ 9 → s.sourceActive src = true)
include hsrc he hw hk ha

/-- A source that is enabled, not stuck and at its level passes the first test of an edge. -/
theorem wakes : ¬ (38 < src ∨ (!s.sourceEnabled src) = true ∨ (!wakesFrom src s.wakeState) = true
    ∨ s.pwr.stuck.contains src = true ∨ (src ≤ 9 ∧ (!s.sourceActive src) = true)) := by
  rintro (h | h | h | h | ⟨h9, h⟩)
  · omega
  · simp [he] at h
  · simp [hw] at h
  · exact Bool.eq_false_iff.1 hk h
  · simp [ha h9] at h

theorem wakeEdge_accepted (edge : Nat) (hl : ∀ t, NMap.get none s.pwr.lastWake src = some t → t + 100000000 ≤ s.now) :
    s.wakeEdge src edge = s.acceptWake src edge := by
  refine (if_neg (wakes hsrc he hw hk ha)).trans (if_neg ?_)
  cases hx : NMap.get none s.pwr.lastWake src with
  | none => exact Bool.false_ne_true
  | some t => simp [hl t hx]

theorem wakeEdge_suppressed (edge : Nat) {t : Nat} (hl : NMap.get none s.pwr.lastWake src = some t) (hn : s.now < t + 100000000)
    {u : State} (hu : u = s.countSuppressed src) :
    s.wakeEdge src edge = u.setPwr { s.pwr with held := NMap.set none s.pwr.held src (some edge) } := by
  subst hu
  refine (if_neg (wakes hsrc he hw hk ha)).trans (if_pos ?_)
  rw [hl]
  exact decide_eq_true hn

end

/-- The 100 ms of a source end. -/
theorem suppressionEnd_ends {src edge t : Nat} {u : State} (hh : NMap.get none s.pwr.held src = some edge)
    (hl : NMap.get none s.pwr.lastWake src = some t) (ht : t + 100000000 ≤ s.now)
    (hu : u = s.setPwr { s.pwr with held := NMap.set none s.pwr.held src none }) :
    s.suppressionEnd src = if src ≤ 9 ∧ u.sourceActive src ∧ u.wakeState ≠ 0 ∧ wakesFrom src u.wakeState then
      u.acceptWake src edge else u := by
  subst hu
  unfold suppressionEnd
  rw [hh, hl]
  exact if_neg (by omega)

/-- The shut-down of a function that is neither a cluster nor a port, with no re-enable that waits. -/
theorem funcDone_ends {f : Nat} (h7 : 7 ≤ f) (hs : s.pwr.shutting.contains f = true)
    (hr : s.pwr.reenable.contains f = false) : s.funcDone f = (s.setPwr { s.pwr with
      shutting := s.pwr.shutting.filter (· ≠ f), reenable := s.pwr.reenable.filter (· ≠ f) }).setFunc f false false := by
  unfold funcDone
  dsimp only
  rw [if_neg (by rw [hs]; decide), if_neg (Bool.eq_false_iff.1 hr), if_neg (by omega), if_neg (by omega)]

/-! ## Work that arrives (R418) -/

theorem workArrives_idle (he : s.pwr.entering = none) (hp : s.pwrState = 1) : s.workArrives = s.leaveIdle :=
  (if_neg (by simp [inRun, hp])).trans (if_pos ⟨by rw [he]; rfl, hp⟩)

theorem workArrives_asleep (hr : s.inRun = false) (hp : s.pwrState ≠ 1) (hw : s.wakeState = 2) :
    s.workArrives = s.workWake :=
  (if_neg (Bool.eq_false_iff.1 hr)).trans ((if_neg fun h => hp h.2).trans (if_pos hw))

/-! ## The main-side start (R428) -/

theorem mainStart_starts {k : BootImages} {v : Nat} {r c t u : State} (hr : s.pwr.inReset = true) (hm : 400 < s.presentMv)
    (h1 : r = if s.gov.gated then s.releaseIslands else s)
    (h2 : c = if r.pwr.cold then (r.set 0x2002 2 (k.compatPin % 2)).set 0x2002 1 (k.compatPin % 2) else r)
    (hv : c.verifyCopies 1 k.kind1 = some v) (ht : t = c.loadComm.setRunning 1 v)
    (hu : u = State.testUnits.foldl State.droneEnter { t with
      sec := { t.sec with swdStart := some t.now }
      pwr := { t.pwr with inReset := false, cold := false, controlled := false, bootRecords := [], busyAt := t.now } }) :
    s.mainStart k = State.startHypervisor (c.pwr.bootRecords.foldl (fun r st =>
      r.addRecord st (if st = St.secureWatchdog then 0x0E else 0x1A) 0xFF) u) k := by
  unfold mainStart
  rw [if_neg (by simp [hr]; omega)]
  dsimp only
  rw [← h1, ← h2, hv]
  subst hu ht
  rfl

end

end State

/-- Settles O58: each event by the outcome of its function at its stage. -/
theorem powerEvents : Obligations.PowerEvents := by
  unfold Obligations.PowerEvents
  intro s
  refine ⟨?dwell, ?idle, ?idleExit, ?sleep1, ?sleep2, ?sleep3, ?sleepExit, ?deep0, ?deep1, ?deep2, ?deep3, ?deep4, ?deepExit,
    ?deepFails, ?off0, ?off1, ?off2, ?off3, ?offExit, ?edge, ?suppressed, ?timer, ?suppressionEnd, ?funcDone, ?inRun, ?atIdle,
    ?asleep, ?noStart, ?start⟩
  case dwell => exact fun hq ht => congrArg Host.Outcome.next (if_pos ⟨hq, ht⟩)
  case idle => exact fun hm => congrArg Host.Outcome.next (if_pos hm)
  case idleExit => exact fun hp => ⟨_, rfl, congrArg Host.Outcome.next (State.leaveIdle_of_idle hp)⟩
  case sleep1 => exact fun he hm => ⟨_, rfl, congrArg Host.Outcome.next (State.enterSleep_begins he hm rfl)⟩
  case sleep2 => exact fun he hw => congrArg Host.Outcome.next (State.enterSleep_passes he hw)
  case sleep3 => exact fun n he hn => congrArg Host.Outcome.next (State.enterSleep_completes he hn)
  case sleepExit => exact fun t u v hs ht hu hv => congrArg Host.Outcome.next (State.exitSleep_runs hs ht hu hv)
  case deep0 => exact fun he hm => congrArg Host.Outcome.next (State.enterDeep_opens he hm)
  case deep1 => exact fun he hn => congrArg Host.Outcome.next (State.enterDeep_copies he hn)
  case deep2 => exact fun he hw => congrArg Host.Outcome.next (State.enterDeep_signals he hw)
  case deep3 => exact fun he hw => congrArg Host.Outcome.next (State.enterDeep_passes he hw)
  case deep4 => exact fun he => ⟨_, rfl, congrArg Host.Outcome.next (State.enterDeep_completes he rfl)⟩
  case deepExit => exact fun t u hs hw ht hu => congrArg Host.Outcome.next (State.exitDeep_resumes hs hw ht hu)
  case deepFails => exact fun hs hw => congrArg Host.Outcome.next (State.exitDeep_restarts hs hw)
  case off0 => exact fun he hm => congrArg Host.Outcome.next (State.enterOff_opens he hm)
  case off1 => exact fun he hn => congrArg Host.Outcome.next (State.enterOff_stops he hn)
  case off2 => exact fun he hw => congrArg Host.Outcome.next (State.enterOff_passes he hw)
  case off3 => exact fun he => ⟨_, rfl, congrArg Host.Outcome.next (State.enterOff_completes he rfl)⟩
  case offExit => exact fun hs hw => congrArg Host.Outcome.next (State.exitOff_starts hs hw)
  case edge =>
    exact fun src edge hsrc he hw hk ha hl => congrArg Host.Outcome.next (State.wakeEdge_accepted hsrc he hw hk ha edge hl)
  case suppressed =>
    exact fun src edge t u hsrc he hw hk ha hl hn hu =>
      congrArg Host.Outcome.next (State.wakeEdge_suppressed hsrc he hw hk ha edge hl hn hu)
  case timer => exact fun h0 hn hd => congrArg Host.Outcome.next (if_neg (not_or.2 ⟨h0, not_or.2 ⟨Nat.not_lt.2 hn, hd⟩⟩))
  case suppressionEnd =>
    exact fun src edge t u hh hl ht hu => congrArg Host.Outcome.next (State.suppressionEnd_ends hh hl ht hu)
  case funcDone => exact fun f h7 hs hr => congrArg Host.Outcome.next (State.funcDone_ends h7 hs hr)
  case inRun => exact fun hr => if_pos hr
  case atIdle => exact fun he hp => State.workArrives_idle he hp
  case asleep => exact fun hr hp hw => State.workArrives_asleep hr hp hw
  case noStart => exact fun k h => congrArg Host.Outcome.next (if_pos (h.imp (fun h => by simp [h]) id))
  case start =>
    exact fun k v r c t u hr hm h1 h2 hv ht hu => congrArg Host.Outcome.next (State.mainStart_starts hr hm h1 h2 hv ht hu)

end Sys2Proof.Machine

/-! # Firmware and counter events (R429 to R445) -/

namespace Sys2Proof.Machine

open Sys2Proof

/-- The firmware's state as SKEOT_UPDATE answers it; 0 to go on. -/
def updateAnswer (st : Nat) : Int := if st = 1 ∨ st = 3 then sbiStarted else if st = 2 then 0 else sbiStopped

theorem exec_skeotUpdate (mode : HartMode) (addr len node : Nat) (s : State) :
    exec (.skeotUpdate mode addr len node) s
      = .next (s.skeot mode addr len node updateAnswer fun t => t.updateHere (t.readMem addr len)) := rfl

namespace State

section
variable {s : State}

/-! ## SBI calls (R430 to R434) -/

section
variable {node : Nat}

/-- An image in order is taken by this module itself. -/
theorem skeot_runs_here {addr len : Nat} {ret : Nat → Int} {run : State → State} (hn : s.nodeOk node = true)
    (hr : ret (s.fwOf node).1.1 = 0) (hh : (s.fwOf node).2.isHere node = true)
    (hi : (s.fwOf node).2.imageOk addr len = true) :
    s.skeot .hs addr len node ret run = (run (s.fwOf node).2).emit (.sbi 0 0) := by
  rw [skeot_starts hn hr hi, if_pos hh]

theorem skeotStatus_answers (hn : s.nodeOk node = true) : s.skeotStatus .hs node =
    (s.fwOf node).2.emit (.sbi 0 ((s.fwOf node).1.1 + 4294967296 * (s.fwOf node).1.2)) :=
  (if_neg (not_not_intro rfl)).trans (if_neg (by simp [hn]))

theorem moduleReset_here (hn : s.nodeOk node = true) (hh : s.isHere node = true) :
    s.moduleReset .hs node = (s.emit (.sbi 0 0)).resetMain false :=
  (if_neg (not_not_intro rfl)).trans ((if_neg (by simp [hn])).trans (if_pos hh))

end

/-! ## Start, update and faults (R431 to R436) -/

/-- The first start builds the tables. -/
theorem firmwareStart_first {t : State} (h1 : s.fw.state = 1) (hc : s.fw.coresRun = true) (ht : s.fw.tables = false)
    (h : t = s.setFw { s.fw with state := 2, abort := 0, paused := false, version := s.fw.nextVersion, tables := true }) :
    s.firmwareStart true = (((t.setRunning 4 t.fw.version).set 0x2005 1
      ((t.setRunning 4 t.fw.version).fw.version)).bump 0x2005 2).flushRecords.railSag := by
  subst h
  unfold firmwareStart
  rw [if_neg (by simp [h1, hc]), ht]
  simp only [Bool.false_and, Bool.or_false, Bool.false_eq_true, if_false]
  rfl

theorem pauseBegin_pauses (h3 : s.fw.state = 3) (hv : s.fw.verified = true) (hp : s.fw.paused = false) :
    s.pauseBegin = s.beat.setFw { s.beat.fw with
      paused := true, handoff := true, pauseBegan := s.beat.now, slot := 1 - s.beat.fw.slot } :=
  if_neg (by simp [h3, hv, hp])

section
variable {us : Nat} {t u : State} (h3 : s.fw.state = 3) (hp : s.fw.paused = true) (ht : t = s.skipPause)
include h3 hp ht

theorem handoffCheck_accepts {v : State} (hu : u = t.setFw { t.fw with
      state := 2, paused := false, handoff := false, verified := false, version := t.fw.nextVersion, abort := 0 })
    (hv : v = ((u.setRunning 4 u.fw.version).set 0x2005 1 (u.setRunning 4 u.fw.version).fw.version).bump 0x2005 3) :
    s.handoffCheck true us = ((v.set 0x2005 4 (min us 4294967295)).set 0x2005 5
      (max (v.get 0x2005 5) (min us 4294967295))).flushRecords.beat.railSag := by
  subst ht hu hv
  exact if_neg (by simp [h3, hp])

theorem handoffCheck_rejects (hu : u = t.setFw { t.fw with
      state := 2, paused := false, handoff := false, verified := false
      slot := 1 - t.fw.slot, abort := Ab.refusal St.fwHandoffRejected }) :
    s.handoffCheck false us = (((u.set 0x2005 4 (min us 4294967295)).set 0x2005 5
      (max (u.get 0x2005 5) (min us 4294967295))).flushRecords.addRecord St.fwHandoffRejected 0x1C 0xFF).beat.railSag := by
  subst ht hu
  exact if_neg (by simp [h3, hp])

end

/-- With no access held a fault is the cores' alone. -/
theorem faultAt_of_none_held (h : s.dic.held = []) (c : Bool) : s.faultAt c = s.fwFault := by
  unfold faultAt
  rw [h]

/-- A fault before any commit point is the cores' alone. -/
theorem faultAt_uncommitted : s.faultAt false = s.fwFault := by
  unfold faultAt
  cases s.dic.held with
  | nil => rfl
  | cons h rest => exact if_neg fun h => Bool.false_ne_true h.1

/-! ## Counters (R441 to R445) -/

theorem counterDump_due {t : State} (h1 : s.get 0x2F02 1 ≠ 0) (h3 : s.get 0x2F02 3 ≠ 0)
    (hd : s.ctr.lastDump + 1000 * s.get 0x2F02 3 ≤ s.now) (ht : t = { s with ctr := { s.ctr with lastDump := s.now } }) :
    s.counterDump = if State.ringFull (t.get 0x2F02 2) (t.get 0x2F02 4) (t.get 0x2F02 5) then t.bump 0x2F02 6
      else t.ringWrite 0x2F02 1 4 0 4096 (t.get 0x2F02 2) 1 t.dumpBytes := by
  subst ht
  exact if_neg (not_or.2 ⟨h1, not_or.2 ⟨h3, Nat.not_lt.2 hd⟩⟩)

/-- Outside OFF and a dark rail, with the main side out of reset, a tick reaches bases, engines and feedback. -/
theorem refTick_ticks {issue : List EngineTick} {t u : State} (hd : s.gov.dark = false) (h4 : s.get 0x2120 3 ≠ 4)
    (ht : t = State.tickBases { s with rg := { s.rg with time := s.rg.time + 1 } }) (hr : t.pwr.inReset = false)
    (hu : u = (List.range 16).foldl (fun x e => x.engineTick
      ((issue.find? fun k => decide (k.engine = e)).getD { engine := e, steps := 0, ceiling := false })) t) :
    s.refTick issue = (u.mem.feedback.foldl (fun x pc => x.count (272 + pc) 1) u).serveEgress.noteBusy := by
  subst hu
  unfold refTick
  refine (if_neg (not_or.2 ⟨Bool.eq_false_iff.1 hd, h4⟩)).trans ?_
  rw [← ht]
  exact if_neg (Bool.eq_false_iff.1 hr)

end

end State

/-- Settles O59: each call and event by the outcome of its function under the clause's condition. -/
theorem firmwareEvents : Obligations.FirmwareEvents := by
  unfold Obligations.FirmwareEvents
  intro s
  refine ⟨?load, ?update, ?denied, ?status, ?reset, ?start, ?pause, ?accepts, ?rejects, ?fault, ?uncommitted⟩
  case load =>
    intro addr len node hn h0 hh hi
    have answer : loadAnswer (s.fwOf node).1.1 = 0 := by rw [h0]; rfl
    rw [exec_skeotLoad, State.skeot_runs_here hn answer hh hi]
  case update =>
    intro addr len node hn h2 hh hi
    have answer : updateAnswer (s.fwOf node).1.1 = 0 := by rw [h2]; rfl
    rw [exec_skeotUpdate, State.skeot_runs_here hn answer hh hi]
  case denied =>
    exact fun mode addr len node hm => ⟨congrArg Host.Outcome.next (State.skeot_denied hm),
      congrArg Host.Outcome.next (State.skeot_denied hm), congrArg Host.Outcome.next (if_pos hm),
      congrArg Host.Outcome.next (if_pos hm)⟩
  case status => exact fun node hn => congrArg Host.Outcome.next (State.skeotStatus_answers hn)
  case reset => exact fun node hn hh => congrArg Host.Outcome.next (State.moduleReset_here hn hh)
  case start => exact fun t h1 hc ht h => congrArg Host.Outcome.next (State.firmwareStart_first h1 hc ht h)
  case pause => exact fun h3 hv hp => congrArg Host.Outcome.next (State.pauseBegin_pauses h3 hv hp)
  case accepts =>
    exact fun us t u v h3 hp ht hu hv => congrArg Host.Outcome.next (State.handoffCheck_accepts h3 hp ht hu hv)
  case rejects => exact fun us t u h3 hp ht hu => congrArg Host.Outcome.next (State.handoffCheck_rejects h3 hp ht hu)
  case fault => exact fun h c => congrArg Host.Outcome.next (State.faultAt_of_none_held h c)
  case uncommitted => exact congrArg Host.Outcome.next State.faultAt_uncommitted

/-- Settles O60: each event by the outcome of its function under the clause's condition. -/
theorem counterEvents : Obligations.CounterEvents := by
  unfold Obligations.CounterEvents
  intro s
  refine ⟨?snapshot, ?denied, ?dump, ?tick⟩
  case snapshot => exact fun r hr => congrArg Host.Outcome.next (if_pos hr)
  case denied => exact fun r hr => congrArg Host.Outcome.next (if_neg (Bool.eq_false_iff.1 hr))
  case dump => exact fun t h1 h3 hd ht => congrArg Host.Outcome.next (State.counterDump_due h1 h3 hd ht)
  case tick =>
    exact fun issue t hd h4 ht hr => ⟨_, rfl, congrArg Host.Outcome.next (State.refTick_ticks hd h4 ht hr rfl)⟩

end Sys2Proof.Machine
